-- ==== Sys2Proof/Word.lean ====
section
/-! DEFINITION. Word.lean: the word types of the register window and the plainest arithmetic the model uses on
counts (saturating and wrapping counters, ceiling division). -/

namespace Sys2Proof

/-- A register of the window: 32 bits (R9). -/
abbrev Word := BitVec 32

/-- One byte of a DRAM line, of the NOR or of a message. -/
abbrev Byte := BitVec 8

/-- A plain saturating counter of `w` bits (Table 00-3, "saturates at"). -/
def satInc (w n : Nat) : Nat := if n + 1 < 2 ^ w then n + 1 else 2 ^ w - 1

/-- A saturating counter of `w` bits raised by `k`. -/
def satAdd (w n k : Nat) : Nat := if n + k < 2 ^ w then n + k else 2 ^ w - 1

/-- `n / d` rounded up. -/
def ceilDiv (n d : Nat) : Nat := (n + d - 1) / d

end Sys2Proof
end

