-- ==== Sys2Proof/Syntax.lean ====
section
/-! DEFINITION. Syntax.lean: the commands of the block (one constructor of `Instr` per row of spec/opcode_table.json) and
the plain data they carry. A fact of the physical world that the manual does not compute (a sensor reading, whether a
signature verifies, what a die answers) is an operand of the command that reports it. -/

namespace Sys2Proof

/-- An access path to the register window (R455, R456): the sideband, or an NVMe controller. -/
inductive Path where
  | sideband
  | ctrl (cntlid : Nat)
deriving DecidableEq, Repr, Inhabited

/-- The zone states of Table 07-4. -/
inductive ZState where
  | none | empty | implOpen | explOpen | closed | full | readOnly | offline
deriving DecidableEq, Repr, Inhabited

/-- The configuration words of a Slice table entry (Table 05-12, words 0 to 10 and 64 to 127). -/
structure SliceCfg where
  mgmt : Bool := false
  listedAll : Bool := false
  vxOrigin : Bool := false
  latClass : Nat := 0
  origin : Nat := 0
  qQuota : Nat := 0
  ctrlQuota : Nat := 0
  wsqKib : Nat := 0
  rsqMib : Nat := 0
  mrqKib : Nat := 0
  zoneQuota : Nat := 0
  keyQuota : Nat := 0
  guarBw : Nat := 0
  ceilBw : Nat := 0
  guarKiops : Nat := 0
  ceilKiops : Nat := 0
  ceilInfl : Nat := 0
  cmdDepth : Nat := 0
  byteDepth : Nat := 0
  subnqn : Nat := 0          -- 256 bytes, byte 0 lowest (words 64 to 127)
deriving DecidableEq, Repr, Inhabited

/-- An Origin Table entry (Table 05-3). -/
structure OriginEntry where
  valid : Bool := false
  origin : Nat := 0
  nqn : Nat := 0             -- 256 bytes, byte 0 lowest
deriving DecidableEq, Repr, Inhabited

/-- The Voxbel block of Connect data (Table 02-8); `origin` is the whole word of bytes 780–783. -/
structure Voxbel where
  marker : Nat := 0
  minVer : Nat := 0
  maxVer : Nat := 0
  claims : Nat := 0
  origin : Nat := 0
deriving DecidableEq, Repr, Inhabited

/-- What a Fabrics Connect carries (R134, R481). -/
structure ConnectReq where
  hostnqn : Nat := 0
  subnqn : Nat := 0
  hostid : Nat := 0
  cntlid : Nat := 0
  qid : Nat := 0
  sqsize : Nat := 0
  katoMs : Nat := 0
  discovery : Bool := false   -- SUBNQN is the well-known discovery NQN (R71)
  vx : Voxbel := {}
deriving DecidableEq, Repr, Inhabited

/-- An ICReq PDU (R56, Table 02-5). -/
structure IcReq where
  malformed : Bool := false
  pfv : Nat := 0
  hpda : Nat := 0
  hdgst : Bool := false
  ddgst : Bool := false
  maxr2t : Nat := 0
deriving DecidableEq, Repr, Inhabited

/-- The first bytes of a TLS-capable TCP connection (R57, R58). -/
structure Hello where
  isTls : Bool := true
  identity : Nat := 0         -- PSK identity, byte 0 lowest
  binderOk : Bool := true     -- the PSK binder verifies
  pskKe : Bool := true        -- psk_ke offered
  pskDheKe : Bool := true     -- psk_dhe_ke offered
  aes128 : Bool := true       -- TLS_AES_128_GCM_SHA256 offered
  aes256 : Bool := true       -- TLS_AES_256_GCM_SHA384 offered
  x25519 : Bool := true       -- a share of group x25519 offered
  p384 : Bool := true         -- a share of group secp384r1 offered
deriving DecidableEq, Repr, Inhabited

/-- The kinds of data pointer (R99). -/
inductive Sgl where
  | none | transport | keyed | inCapsule | other
deriving DecidableEq, Repr, Inhabited

/-- The decoded data of Namespace Management create (Table 07-1 and the NVMe create data). -/
structure NsCreate where
  csi : Nat := 0
  nsze : Nat := 0
  ncap : Nat := 0
  flbas : Nat := 0
  pool : Nat := 0
  kpio : Bool := false
  owner : Nat := 0
  handles : List Nat := []
deriving DecidableEq, Repr, Inhabited

/-- A submission queue entry with what its data pointer describes. `data` is in-capsule data (byte 0 lowest); `words` is
the dword data of admin commands. -/
structure Sqe where
  opc : Nat := 0
  fctype : Nat := 0           -- Fabrics command type, when opc = 0x7F
  cid : Nat := 0
  fuse : Nat := 0
  nsid : Nat := 0
  sgl : Sgl := .none
  dlen : Nat := 0             -- bytes that the data pointer describes
  raddr : Nat := 0            -- host address of a keyed SGL (RDMA)
  rkey : Nat := 0             -- its remote key
  inval : Bool := false       -- it asks for remote invalidation of that key (Table 02-6)
  cetype : Nat := 0           -- Command Extension Type (R151)
  cev : Nat := 0              -- Command Extension Value
  cdw10 : Word := 0
  cdw11 : Word := 0
  cdw12 : Word := 0
  cdw13 : Word := 0
  cdw14 : Word := 0
  cdw15 : Word := 0
  data : Nat := 0
  words : List Word := []
  ranges : List (Nat × Nat) := []
  create : NsCreate := {}
deriving DecidableEq, Repr, Inhabited

/-- An H2CData PDU (Table 04-6). -/
structure H2CPdu where
  ttag : Nat := 0
  datao : Nat := 0
  datal : Nat := 0
  digestOk : Bool := true
  data : Nat := 0             -- DATAL bytes, byte 0 lowest
deriving DecidableEq, Repr, Inhabited

/-- A host RDMA WRITE of data to the Hopper window (R117, R118). -/
structure HopWrite where
  rkey : Nat := 0
  va : Nat := 0
  len : Nat := 0
  data : Nat := 0             -- len bytes, byte 0 lowest
deriving DecidableEq, Repr, Inhabited

/-- A word that an on-chip SRAM array gives with symbols in error (R442): 1 to 4 of them are corrected, more are not. -/
structure SramErr where
  array : Nat := 0            -- 0: Millrace, then in the order of R442
  sub : Nat := 0              -- sub-array
  row : Nat := 0              -- row of the sub-array, 0 to 511
  syms : Nat := 1
  blk : Nat := 0              -- block of the command or slot whose content the word holds
deriving DecidableEq, Repr, Inhabited

/-- The frames that bring what a host or a network peer sends. -/
structure RxFrame where
  ip : Nat := 0               -- longest frame without its Ethernet and VLAN headers, bytes (R47)
  hdr : Nat := 14             -- its Ethernet and VLAN headers, bytes
  dst : Option (Bool × Nat) := none  -- IP destination (IPv6?, address); none: the address that the link or connection has (R48)
  tag : Option Nat := none    -- PCP of its VLAN tag; none: untagged (R50)
  dscp : Nat := 0             -- DSCP of its IP header
  ce : Bool := false          -- it carries a CE mark (Table 02-6)
  xoff : Bool := false        -- the priority's receive buffer reaches its XOFF threshold (R51)
  sram : List SramErr := []
deriving DecidableEq, Repr, Inhabited

/-- An operand with the frame that brings it (R47, R48, R50). -/
structure Framed (α : Type) where
  val : α
  rx : RxFrame := {}
deriving DecidableEq, Repr, Inhabited

/-- A TCP acknowledgement (R482): messages stay outstanding; the number of messages that it covers; its frame. -/
structure TcpAck where
  rest : Bool := false
  n : Nat := 0
  rx : RxFrame := {}
deriving DecidableEq, Repr, Inhabited

/-- An RDMA acknowledgement (R123): the Draining slot; the number of messages that it covers; its frame. -/
structure RdmaAck where
  slot : Nat := 0
  n : Nat := 0
  rx : RxFrame := {}
deriving DecidableEq, Repr, Inhabited

/-- What a READ response brings (R114): its bytes, byte 0 lowest; its packets, 0: all that are left; its frame. -/
structure ReadData where
  data : Nat := 0
  pkts : Nat := 0
  rx : RxFrame := {}
deriving DecidableEq, Repr, Inhabited

/-- How a flush ends (R394, R404): its length, and whether it was complete when the energy ended. -/
structure FlushEnd where
  us : Nat := 0
  complete : Bool := true
deriving DecidableEq, Repr, Inhabited

/-- A slice whose queued read takes its slots, and the words with errors that its look-ups meet (R121, R442). -/
structure SliceLookups where
  slice : Nat := 0
  sram : List SramErr := []
deriving DecidableEq, Repr, Inhabited

/-- What DRAM training finds (R331): the failing devices by channel, and whether the topology is that of the image. -/
structure TrainFound where
  bad : List Nat := []
  topologyOk : Bool := true
deriving DecidableEq, Repr, Inhabited

/-- The NVMe RDMA private data of a CM REQ (R60). -/
structure CmPrivate where
  recfmt : Nat := 0
  qid : Nat := 0
  hrqsize : Nat := 0
  hsqsize : Nat := 0
  cntlid : Nat := 0
deriving DecidableEq, Repr, Inhabited

/-- What a CM REQ carries (R60): its port, private data and frame. -/
structure CmRequest where
  port : Nat := 0
  pd : CmPrivate := {}
  rx : RxFrame := {}
deriving DecidableEq, Repr, Inhabited

/-- A firmware command that the recovery monitor takes (R425, Table 15-8): its CDW10 and CDW11. -/
structure MonFw where
  cdw10 : Word := 0
  cdw11 : Word := 0
deriving DecidableEq, Repr, Inhabited

/-- A Register Window message (Table 17-2). -/
structure WindowReq where
  op : Nat := 1
  tag : Nat := 0
  count : Nat := 1            -- registers, 1 to 16
  addr : Nat := 0
  lenOk : Bool := true        -- the length agrees with the count
  data : List Word := []
deriving DecidableEq, Repr, Inhabited

/-- What the checks of R411 find on one signed object, and its header (Table 15-4). -/
structure SignedFacts where
  present : Bool := true
  marker : Nat := 0
  rsaHash : Nat := 0          -- SHA-384 of the RSA modulus that it carries
  slhHash : Nat := 0          -- SHA-384 of the SLH-DSA key that it carries
  rsaOk : Bool := false
  slhOk : Bool := false
  bodyOk : Bool := false
  version : Nat := 0
  svn : Nat := 0
  idlMinorMax : Nat := 0
  headerHash : Nat := 0
  bodyHash : Nat := 0
deriving DecidableEq, Repr, Inhabited

/-- One operation of a recipe set (Tables 10-7 and 10-8): header and states as (word 0, word 1). -/
structure RecipeOp where
  slot : Nat := 0
  present : Bool := true
  start : Nat := 0
  tExp : Nat := 0
  tMax : Nat := 0
  states : List (Nat × Nat) := []
deriving DecidableEq, Repr, Inhabited

/-- A recipe set (Table 10-5) with its operations. -/
structure RecipeSet where
  iface : Nat := 0
  rateMax : Nat := 3000
  idMatch : Nat := 0          -- six bytes, byte 0 lowest
  idMask : Nat := 0
  revMask : Nat := 0
  planes : Nat := 4
  bits : Nat := 4
  spare : Nat := 2048
  page : Nat := 16384
  rows : Nat := 384
  blocks : Nat := 8192
  bbmCol : Nat := 0
  bbmGood : Nat := 0
  tempOff : Int := 0
  tempGain : Int := 0
  ops : List RecipeOp := []
deriving DecidableEq, Repr, Inhabited

/-- A curve set (Table 11-5). `cells` are (FIRST, COUNT − 1); `entries`: the offsets of an entry as one number, byte i of it the signed
offset of read level i + 1; an entry beyond the list has the offsets 0. -/
structure CurveSet where
  peEdges : List Nat := []
  ageEdges : List Nat := []
  tempEdges : List Int := []
  tempDef : Nat := 0
  softN : Bool := false
  softDelta : Nat := 1
  hardLlr : Nat := 0
  llr : List Nat := []
  cells : List (Nat × Nat) := []
  entries : List Nat := []
deriving DecidableEq, Repr, Inhabited

/-- A power envelope (Table 14-4). -/
structure Envelope where
  vcoreMv : Nat := 750
  divFloor : Nat := 16
  dieCap : Nat := 1024
  pLimitW : Nat := 44
  wrGbps : Nat := 16
deriving DecidableEq, Repr, Inhabited

/-- The Idolob body (Table 15-9), as the sections give it. Profiles are sparse: (profile, word, value). -/
structure Image where
  recipes : List RecipeSet := []
  curves : List CurveSet := []
  profiles : List (Nat × Nat × Word) := []
  thermOn : Nat := 100
  thermOff : Nat := 95
  crews : List (Nat × Option Nat) := []   -- per crew: format 0 to 3, pool
  mpHome : Nat := 0
  sampleTicks : Nat := 30000
  envelopes : List Envelope := []
  envReq : Nat := 0
  huEn : Bool := true
  vmonTrip : Nat := 600
  flushDies : Nat := 256
  slices : List (Nat × SliceCfg) := []
  origins : List (Nat × OriginEntry) := []
  ptCfg : List Nat := []
  linkAddrs : List (Nat × List Word) := []  -- device link, words 0 to 10
  wpoolMib : Nat := 16
  rpoolMib : Nat := 4096
  rbaseMib : Nat := 0
  wclass : List Nat := [512, 128, 64, 32]  -- classes 0 to 3
  rclass : List Nat := [65536, 16384, 8192, 12288]
  nch : Nat := 4
  density32 : Bool := true
  ranks2 : Bool := false
  rate : Nat := 2
  grainExp : Nat := 4
  capGib : Nat := 128
  mapGib : Nat := 32
  spareSeat : Nat := 96
  convOp : Nat := 12
  mpPct : Nat := 32
  idleMbps : Nat := 1000
  logShells : Nat := 64
  logHoldUs : Nat := 2000
  relocMin : Nat := 2
  relocRes : Nat := 8
  refreshMin : Nat := 172800
  patrolH : Nat := 168
  dwellUs : Nat := 500
  codes : Nat := 0                          -- DC_CODE layout
  idleTimeoutS : Nat := 10
  divTarget : List Nat := []
  cnp : List Nat := []                      -- RoCE reaction parameters (Ports section), as the image gives them
  slotOff : List Nat := []
  slotLen : List Nat := []
deriving DecidableEq, Repr, Inhabited

/-- One Idolob copy as Bootstrap finds it (R423). -/
structure IdolobCopy where
  cert : SignedFacts := {}
  certUid : Nat := 0
  ownerRsa : Nat := 0
  ownerSlh : Nat := 0
  header : SignedFacts := {}
  gen : Nat := 0
  major : Nat := 2
  minor : Nat := 0
  sectionsOk : Bool := true     -- every CRC32C, every required section once, no unknown required TYPE
  image : Image := {}
deriving DecidableEq, Repr, Inhabited

/-- One die as the probe of Table 10-4 finds it. -/
structure DieFound where
  lane : Nat := 0
  die : Nat := 0
  ppOk : Bool := true
  id : Nat := 0                 -- six bytes, byte 0 lowest
  ppRev : Nat := 0
  bad : List Nat := []          -- factory-bad blocks
deriving DecidableEq, Repr, Inhabited

/-- What Discovery's probe and DRAM training find (R284, R331). -/
structure Probe where
  dies : List DieFound := []
  dramBad : List Nat := []      -- per channel: devices that failed training, as a bit mask
  topologyOk : Bool := true
deriving DecidableEq, Repr, Inhabited

/-- A unit that the scan of R277 cannot read: its seat's page of a row does not decode. -/
structure ScanBad where
  shell : Nat := 0
  row : Nat := 0
  seat : Nat := 0
deriving DecidableEq, Repr, Inhabited

/-- What the checks of R416 find on a submitted token. -/
structure TokenFacts where
  sig : SignedFacts := {}
  uid : Nat := 0
  nonce : Nat := 0
  arg : List Nat := []          -- 16 bytes
deriving DecidableEq, Repr, Inhabited

/-- The object in the firmware staging buffer (R426). -/
inductive FwObject where
  | none
  | firmware (f : SignedFacts) (len : Nat)
  | idolob (c : IdolobCopy) (len : Nat)
  | monitor (f : SignedFacts) (len : Nat)
deriving DecidableEq, Repr, Inhabited

/-- Where an SPDM message arrived (R429): each transport and each controller holds its own state. -/
inductive SpdmVia where
  | mctp
  | ctrl (cntlid : Nat)
deriving DecidableEq, Repr, Inhabited

/-- How one step of a codeword's decode ended (R317, R322). -/
inductive Decode where
  | ok (tier bits : Nat) (rejects : Nat) (misdirect : Bool)
  | fail (unsat : Nat) (rejects : Nat)
deriving DecidableEq, Repr, Inhabited

/-- A request handed to a DRAM channel's scheduler (R345). `line` is the channel line; `data` the bytes written from
`byte` on; none: a read. -/
structure DramReq where
  cls : Nat := 0
  line : Nat := 0
  byte : Nat := 0
  data : Option (List Byte) := none
deriving DecidableEq, Repr, Inhabited

/-- TAP instructions (R430). -/
inductive JtagInstr where
  | bypass | idcode | boundary | debug
deriving DecidableEq, Repr, Inhabited

/-- The commands, one constructor per row of spec/opcode_table.json; each docstring gives the row's rule and summary. -/
inductive Instr where
  /-- PORST_N_RELEASE (R369): Release of PORST_N restarts the Time Base at 0 and enters Bootstrap. -/
  | porstNRelease
  /-- PORST_N_ASSERT (R35): Assertion of PORST_N leads to Hold-up Flush or Bootstrap, depending on the mode. -/
  | porstNAssert
  /-- POWER_LOSS (R385): A qualified loss of PWRGD_IN or VMON, held for 1 µs, triggers Hold-up Flush or Off. -/
  | powerLoss
  /-- FLUSH_DONE (R394): The Hold-up Flush ends after the Logbook tail is programmed; flush domains go off and HOLDUP_EN falls. -/
  | flushDone (flush : FlushEnd)
  /-- POWER_GOOD_TIMER (R34): Power has been good for 10 ms after the flush; the device enters Bootstrap, or Thermal Rest if a trip is latched. -/
  | powerGoodTimer
  /-- HOLDUP_OK_RISE (R392): A rise of HOLDUP_OK while HOLDUP_EN is high starts the HU_ARM_MS count. -/
  | holdupOkRise
  /-- HOLDUP_ARM_TIMER (R392): HOLDUP_OK has held for HU_ARM_MS with the reservation in place; hold-up is armed and ACK_RULE becomes 1. -/
  | holdupArmTimer
  /-- HOLDUP_OK_FALL (R392): A fall of HOLDUP_OK, after the 1 µs filter, disarms hold-up. -/
  | holdupOkFall
  /-- THERMAL_TRIP (R404): Two comparators of one triplet read above 118 °C; the trip latches and Thermal Rest starts, with a flush where R405 gives one. -/
  | thermalTrip (cmp : Nat)
  /-- TRIP_FLUSH_DONE (R404): The trip flush ends; every domain goes off and SHDN_N falls. -/
  | tripFlushDone (flush : FlushEnd)
  /-- THERMAL_REST_EXIT_TIMER (R406): The exit conditions have held for 1 s; LATCH clears and Bootstrap follows. -/
  | thermalRestExitTimer
  /-- SENSOR_READING (R399): Every 100 µs the sensor grid is read; HOT and MEAN are formed from valid sensors. -/
  | sensorReading (temps : List Int)
  /-- COMPARATOR_DISAGREE_TIMER (R403): A trip comparator has disagreed with its triplet for 1 s; DISAGREE is set. -/
  | comparatorDisagreeTimer (triplet : Nat)
  /-- ENV_REQ_WRITE (R390): A write of ENV_REQ requests a new power envelope, posting VREQ_MV first when it rises. -/
  | envReqWrite (env : Nat)
  /-- EDGE_SENTINEL_FIRE (R362): A source's Sentinel fires after no edge for about 120 ns; the source stops being live. -/
  | edgeSentinelFire (src : Nat)
  /-- SOURCE_QUALIFIED (R362): A source has shown 64 edges since its Sentinel cleared and becomes live. -/
  | sourceQualified (src : Nat)
  /-- FREQ_CHECK (R363): After 65,536 edges of the selected source, each other source is checked against ±1,000 ppm. -/
  | freqCheck (ppb : List Int)
  /-- OLD_INPUT_RELEASE (R365): After 64 edges of the new source, the old input is released. -/
  | oldInputRelease
  /-- PLL_LOCKED (R365): Every PLL has locked to the new source; HOLDOVER clears and the switch completes. -/
  | pllLocked (step : Int)
  /-- PLL_LOCK_TIMEOUT (R366): A PLL has not locked within 100 µs; the new source is treated as stopped and HOLD_LONG is set. -/
  | pllLockTimeout
  /-- REVERT_TIMER (R368): A higher-ranked source has been live for REVERT_MS; a planned switch runs. -/
  | revertTimer
  /-- CK_SWITCH (R368): A write of SWITCH requests a planned switch to the best live source. -/
  | ckSwitch
  /-- CK_PRIO_WRITE (R368): A PRIO write takes effect at once; excluding the selected source causes an unplanned switch. -/
  | ckPrioWrite (hi : Bool) (value : Word)
  /-- BECALMED_FLUSH_DONE (R377): The Becalmed flush of host staging and the Logbook tail ends; the Pacer stops driving the lanes. -/
  | becalmedFlushDone (us : Nat)
  /-- PACER_CAL_START (R373): A period, CSI move or temperature move starts a Pacer calibration. -/
  | pacerCalStart
  /-- PACER_CAL_DONE (R373): After 16,384 ticks the transfers are counted, PACER_TPS is set and the Pacer stops. -/
  | pacerCalDone (n : Nat)
  /-- CSI_MEASURE (R359): Every 1 ms with a reference selected, CSI is measured and CSI_LOW is checked. -/
  | csiMeasure (csi : Nat)
  /-- SAMPLE_BOUNDARY (R159): SAMPLE_TICKS after the previous boundary, a Governor sample boundary falls. -/
  | sampleBoundary (powerMw : Nat) (vcoreMv : Nat)
  /-- GOV_PASS_END (R160): All outputs are applied in one handshake, GOV closure causes are updated and events are logged. -/
  | govPassEnd
  /-- WRITE_PAUSE_END (R171): The Millpond write pause of round(U0 × SAMPLE_TICKS) ticks ends, and held writes become eligible. -/
  | writePauseEnd
  /-- SLUICE_REFILL (R139): Every 1,024 ticks, command and byte tokens are added up to the bucket depths. -/
  | sluiceRefill
  /-- SLUICE_ADMIT (R140): An eligible head command is admitted and its tokens and in-flight units are charged. -/
  | sluiceAdmit (slice : Nat) (queue : Nat)
  /-- SLUICE_PIECE_CHARGE (R140): A further piece of a large Verify is charged once BYTE_TOK is positive. -/
  | sluicePieceCharge (cmd : Nat)
  /-- GV_PROFILE_COMMIT (R181): GV_PCMD commit checks a profile's shadow copy and marks it pending. -/
  | gvProfileCommit (path : Path)
  /-- GV_PROFILE_LOAD (R181): GV_PCMD load copies the live profile into the shadow copy. -/
  | gvProfileLoad (path : Path)
  /-- GV_MODE_REQ_WRITE (R177): A MODE_REQ write is stored for the next sample boundary. -/
  | gvModeReqWrite (path : Path) (req : Nat)
  /-- GV_MAN_U_WRITE (R177): A MAN_U write is stored and applies at the next sample boundary in Manual. -/
  | gvManUWrite (path : Path) (j : Nat) (value : Word)
  /-- SL_CREATE (R131): CREATE checks the shadow set and makes an Unused slice Active. -/
  | slCreate (path : Path)
  /-- SL_MODIFY (R144): MODIFY checks the shadow set and marks it pending for the next sample boundary. -/
  | slModify (path : Path)
  /-- SL_RESET (R147): RESET makes the slice Resetting, bumps its epoch, fences slots, and discards and closes its traffic. -/
  | slReset (path : Path)
  /-- RESET_FENCE_WAIT_END (R125): A reset waiting for Fenced slots proceeds once they have left Fenced. -/
  | resetFenceWaitEnd (slice : Nat)
  /-- TAGGED_OPS_ZERO (R147): The slice's tagged operations reach zero; quotas are released and the slice becomes Active or Unused. -/
  | taggedOpsZero (slice : Nat)
  /-- RESET_SLOW_TIMER (R147): Step 7 of a slice reset has exceeded 14 ms; RESET_SLOW is set. -/
  | resetSlowTimer (slice : Nat)
  /-- SL_DELETE (R131): DELETE of an Active slice with no namespace starts its teardown into Deleting. -/
  | slDelete (path : Path)
  /-- SL_LOAD (R144): LOAD copies a slice's live set into its shadow set. -/
  | slLoad (path : Path)
  /-- SL_HOLD_WRITE (R143): An SL_HOLD write sets or clears the MGR closure cause of slices. -/
  | slHoldWrite (n : Nat) (value : Word)
  /-- ORIGIN_COMMIT (R136): SL_OCMD commit applies the staging copy to an Origin Table entry after its checks. -/
  | originCommit (path : Path)
  /-- ORIGIN_INVALIDATE (R136): SL_OCMD invalidate marks an Origin Table entry invalid. -/
  | originInvalidate (path : Path)
  /-- PT_CFG_WRITE (R45): A PT_CFG write enables or disables a port or changes its breakout, media type or TLS and RoCE settings. -/
  | ptCfgWrite (port : Nat) (value : Word)
  /-- LINK_DISABLE (R66): Setting DISABLE takes a link down as planned, with RST, DREQ and mDNS goodbyes. -/
  | linkDisable (link : Nat)
  /-- LINK_RETRAIN (R49): A RETRAIN write restarts auto-negotiation and training on a link. -/
  | linkRetrain (link : Nat)
  /-- LINK_ADDRESS_COMMIT (R48): Word 11 of PT_ADATA commits a link address entry as a planned address change. -/
  | linkAddressCommit (path : Path) (port : Nat)
  /-- LINK_SIGNAL_DETECT (R49): A signal is detected on an enabled or Down link, and the link enters Training. -/
  | linkSignalDetect (link : Nat)
  /-- LINK_UP_TIMER (R49): Block lock and alignment have held for 1 ms after training; the link goes Up. -/
  | linkUpTimer (link : Nat)
  /-- LINK_LOSS (R66): Loss of alignment or a remote fault takes an Up link Down; its connections are held. -/
  | linkLoss (link : Nat)
  /-- ARP_REQUEST (R48): An ARP request for the link's own address is answered. -/
  | arpRequest (link : Nat) (ip : Framed Nat)
  /-- NEIGHBOR_SOLICITATION (R48): An IPv6 Neighbor Solicitation for an own address is answered. -/
  | neighborSolicitation (link : Nat) (ip : Framed Nat)
  /-- PFC_PAUSE_RX (R51): A received PFC pause stops transmission on priorities with PFC_EN set. -/
  | pfcPauseRx (link : Nat) (prio : Nat)
  /-- TCP_SYN (R53): A SYN opens a connection or is refused with RST when its pool is full. -/
  | tcpSyn (conn : Nat) (link : Nat) (dport : Framed Nat)
  /-- TCP_ACK_RX (R482): A TCP acknowledgement restarts give-up and frees acknowledged Draining slots. -/
  | tcpAckRx (conn : Nat) (slots : List Nat) (ack : TcpAck)
  /-- TCP_RST_RX (R67): A host RST closes the connection and deletes its queues. -/
  | tcpRstRx (conn : Framed Nat)
  /-- TCP_FIN_RX (R67): A host FIN closes the connection and deletes its queues. -/
  | tcpFinRx (conn : Framed Nat)
  /-- TCP_RTO_EXPIRY (R56): The retransmission timer expires; data is retransmitted with doubled timeout. -/
  | tcpRtoExpiry (conn : Nat)
  /-- TCP_GIVEUP_EXPIRY (R482): GIVEUP passes without an acknowledgement of outstanding data; the connection closes. -/
  | tcpGiveupExpiry (conn : Nat)
  /-- ICREQ (R56): An ICReq PDU is answered with ICResp, or with C2HTermReq and closure if malformed. -/
  | icreq (conn : Nat) (req : Framed IcReq)
  /-- CAPSULE_CMD (R83): A command capsule is parsed, bound and queued, with overrun and CID conflict checks. -/
  | capsuleCmd (conn : Nat) (sqe : Sqe) (rx : RxFrame := {})
  /-- H2CDATA (R115): An H2CData PDU is checked by TTAG and placed in its Granted slot. -/
  | h2cdata (conn : Nat) (pdu : H2CPdu) (rx : RxFrame := {})
  /-- H2CTERMREQ (R67): A host H2CTermReq ends the connection. -/
  | h2ctermreq (conn : Framed Nat)
  /-- TLS_CLIENT_HELLO (R57): A ClientHello starts a PSK-only TLS 1.3 handshake, or a non-TLS connection is refused under TLS_REQ. -/
  | tlsClientHello (conn : Nat) (hello : Framed Hello)
  /-- TLS_KEY_UPDATE (R57): A KeyUpdate message updates the connection's traffic keys. -/
  | tlsKeyUpdate (conn : Framed Nat)
  /-- CM_REQ (R60): An RDMA CM REQ sets up a queue pair or is rejected. -/
  | cmReq (conn : Nat) (link : Nat) (req : CmRequest)
  /-- CM_DREQ (R67): An RDMA DREQ closes the connection and deletes its queues. -/
  | cmDreq (conn : Framed Nat)
  /-- RDMA_SEND_CAPSULE (R60): A SEND carrying a capsule is taken into a posted receive buffer, or answered with RNR NAK. -/
  | rdmaSendCapsule (conn : Nat) (sqe : Sqe) (ce : Bool) (rx : RxFrame := {})
  /-- CNP_RX (R60): A received CNP lowers the queue pair's send rate. -/
  | cnpRx (conn : Framed Nat)
  /-- HOPPER_DATA_WRITE (R118): A host RDMA WRITE of data to the Hopper window lands in a Granted slot or is discarded. -/
  | hopperDataWrite (conn : Nat) (wr : HopWrite) (rx : RxFrame := {})
  /-- OWNER_WORD_WRITE (R118): A 4-byte owner-word WRITE is accepted and moves the slot to Filled, or is discarded. -/
  | ownerWordWrite (conn : Nat) (rkey : Nat) (va : Nat) (len : Nat) (value : Framed Word)
  /-- RDMA_READ_RESPONSE (R118): A READ response delivers write data into its slot, or is discarded as stale. -/
  | rdmaReadResponse (conn : Nat) (rid : Nat) (icrcOk : Bool) (resp : ReadData)
  /-- RDMA_ACK_RX (R123): An RDMA ACK frees the Draining slot of its WRITE. -/
  | rdmaAckRx (conn : Nat) (ack : RdmaAck)
  /-- RDMA_ACK_TIMEOUT (R66): The local ACK timeout expires; the request is retried or the queue pair fails. -/
  | rdmaAckTimeout (conn : Nat)
  /-- QUEUE_RELEASE (R97): The last outstanding command of a deleted queue ends; its context, quota and entries are released. -/
  | queueRelease (queue : Nat)
  /-- KEEP_ALIVE_EXPIRY (R68): The keep-alive timer expires and the admin connection closes. -/
  | keepAliveExpiry (cntlid : Nat)
  /-- MDNS_QUERY (R74): An mDNS query on a link is answered within 10 ms. -/
  | mdnsQuery (link : Framed Nat)
  /-- MDNS_ANNOUNCE_REPEAT (R74): The second mDNS announcement is sent 1 s after the first. -/
  | mdnsAnnounceRepeat (link : Nat)
  /-- PT_DISC_CTL_WRITE (R71): Clearing DISC_EN closes discovery connections, and clearing MDNS_EN sends goodbyes. -/
  | ptDiscCtlWrite (value : Word)
  /-- CONNECT_ADMIN (R134): An admin Connect negotiates Voxbel and binds the connection to a slice. -/
  | connectAdmin (conn : Nat) (cid : Nat) (req : Framed ConnectReq)
  /-- CONNECT_IO (R481): An I/O Connect is checked in order and creates an I/O queue. -/
  | connectIo (conn : Nat) (cid : Nat) (req : Framed ConnectReq)
  /-- DISCONNECT (R69): A Fabrics Disconnect closes the connection. -/
  | disconnect (cmd : Nat)
  /-- PROPERTY_GET (R98): Property Get returns a controller property. -/
  | propertyGet (cmd : Nat)
  /-- PROPERTY_SET (R98): Property Set writes a controller property. -/
  | propertySet (cmd : Nat)
  /-- AUTHENTICATION_SEND (R98): Authentication Send fails with Invalid Field in Command. -/
  | authenticationSend (cmd : Nat)
  /-- AUTHENTICATION_RECEIVE (R98): Authentication Receive fails with Invalid Field in Command. -/
  | authenticationReceive (cmd : Nat)
  /-- GET_LOG_PAGE (R98): Get Log Page returns a supported log page, including Slice Latency Summary by R480. -/
  | getLogPage (cmd : Nat)
  /-- IDENTIFY (R98): Identify returns the data structure that its CNS selects. -/
  | identify (cmd : Nat)
  /-- ABORT (R95): Abort completes with 'not aborted' and is counted. -/
  | abort (cmd : Nat)
  /-- SET_FEATURES (R98): Set Features stores a supported feature value or fails. -/
  | setFeatures (cmd : Nat)
  /-- GET_FEATURES (R98): Get Features returns a supported feature value. -/
  | getFeatures (cmd : Nat)
  /-- ASYNC_EVENT_REQUEST (R98): An Asynchronous Event Request is held outstanding, up to four per controller. -/
  | asyncEventRequest (cmd : Nat)
  /-- NS_CREATE (R184): Namespace Management create checks the create data and reserves shells and a key slot. -/
  | nsCreate (cmd : Nat)
  /-- NS_DELETE (R186): Namespace deletion releases the reservation, zones and keys; its shells join the erase queue. -/
  | nsDelete (cmd : Nat)
  /-- NS_ATTACHMENT (R98): Namespace Attachment attaches or detaches a namespace for controllers of its slice. -/
  | nsAttachment (cmd : Nat)
  /-- FIRMWARE_IMAGE_DOWNLOAD (R425): A firmware download piece is appended to the staging buffer. -/
  | firmwareImageDownload (cmd : Nat) (mon : Option MonFw := none)
  /-- FIRMWARE_COMMIT (R426): Firmware Commit verifies, writes and reads back an object, then acts by CA. -/
  | firmwareCommit (cmd : Nat) (obj : FwObject) (readBack : Bool := true) (mon : Option MonFw := none)
  /-- FW_ACTIVATION_RESET (R426): After a CA 3 completion has passed to the transport, the device changes to Bootstrap. -/
  | fwActivationReset
  /-- KEEP_ALIVE (R68): Keep Alive restarts the controller's keep-alive timer. -/
  | keepAlive (cmd : Nat)
  /-- DIRECTIVE_SEND (R98): Directive Send for the Identify or Data Placement directive. -/
  | directiveSend (cmd : Nat)
  /-- DIRECTIVE_RECEIVE (R98): Directive Receive for the Identify or Data Placement directive. -/
  | directiveReceive (cmd : Nat)
  /-- FORMAT_NVM (R186): Format NVM empties zones or clears maps, with key replacement or erase by SES. -/
  | formatNvm (cmd : Nat)
  /-- SECURITY_SEND (R98): Security Send carries a TCG or SPDM request. -/
  | securitySend (cmd : Nat)
  /-- SECURITY_RECEIVE (R98): Security Receive returns a TCG or SPDM response. -/
  | securityReceive (cmd : Nat)
  /-- SANITIZE_BLOCK_ERASE (R433): Sanitize Block Erase records progress and erases every programmed shell. -/
  | sanitizeBlockErase (cmd : Nat)
  /-- SANITIZE_CRYPTO_ERASE (R433): Sanitize Crypto Erase replaces every key and empties every namespace. -/
  | sanitizeCryptoErase (cmd : Nat)
  /-- SANITIZE_EXIT_FAILURE (R433): Sanitize Exit Failure Mode ends failure mode after a failed sanitize with AUSE 1. -/
  | sanitizeExitFailure (cmd : Nat)
  /-- SET_REGISTER (R104): Set Register writes 1 to 64 registers in ascending order. -/
  | setRegister (cmd : Nat)
  /-- GET_REGISTER (R104): Get Register reads 1 to 64 registers in ascending order. -/
  | getRegister (cmd : Nat)
  /-- GET_EVENT_LOG (R103): Get Event Log returns up to 128 Event Log entries by ring index. -/
  | getEventLog (cmd : Nat)
  /-- FLUSH (R92): Flush completes successfully without any media operation. -/
  | flush (cmd : Nat)
  /-- WRITE (R20): A dispatched Write is checked against the zone or map and requests its write slots. -/
  | write (cmd : Nat)
  /-- READ (R24): A dispatched Read resolves its blocks, takes its read slots and starts its media reads. -/
  | read (cmd : Nat) (sram : List SramErr := [])
  /-- WRITE_ZEROES (R100): Write Zeroes unmaps the range, or programs zero blocks at the write pointer. -/
  | writeZeroes (cmd : Nat)
  /-- DATASET_MANAGEMENT (R213): Dataset Management Deallocate clears map entries and records them in the Logbook. -/
  | datasetManagement (cmd : Nat)
  /-- VERIFY (R100): Verify reads and decodes the range without transfer. -/
  | verify (cmd : Nat)
  /-- ZONE_OPEN (R207): Zone Open makes zones Explicitly Opened and stores a lifetime hint. -/
  | zoneOpen (cmd : Nat)
  /-- ZONE_CLOSE (R190): Zone Close makes opened zones Closed, or Empty at ZSLBA. -/
  | zoneClose (cmd : Nat)
  /-- ZONE_FINISH (R201): Zone Finish makes a zone Full and pads its partial row. -/
  | zoneFinish (cmd : Nat)
  /-- ZONE_RESET (R202): Zone Reset is dispatched and waits for earlier writes to the zone. -/
  | zoneReset (cmd : Nat)
  /-- ZONE_RESET_EFFECT (R202): The reset takes effect: the zone becomes Empty, staged data is discarded and the shell is queued for erase. -/
  | zoneResetEffect (cmd : Nat)
  /-- ZONE_OFFLINE (R204): Zone Offline makes a Read Only zone Offline and releases its shell. -/
  | zoneOffline (cmd : Nat)
  /-- ZONE_SET_DESC_EXT (R205): Set Zone Descriptor Extension fails with Invalid Field in Command. -/
  | zoneSetDescExt (cmd : Nat)
  /-- REPORT_ZONES (R205): Report Zones returns the zone descriptors that its filter selects. -/
  | reportZones (cmd : Nat)
  /-- EXTENDED_REPORT_ZONES (R205): Extended Report Zones returns the same descriptors as Report Zones. -/
  | extendedReportZones (cmd : Nat)
  /-- ZONE_APPEND (R193): Zone Append writes at the zone's write pointer and returns the LBA it found. -/
  | zoneAppend (cmd : Nat)
  /-- KPIO_INJECT_KEY (R432): A Key Per I/O method injects a key under a tag, or reports insufficient space. -/
  | kpioInjectKey (cntlid : Nat) (nsid : Nat) (tag : Nat) (key : Nat)
  /-- KPIO_CLEAR_KEY (R432): A Key Per I/O method clears the key of a tag. -/
  | kpioClearKey (cntlid : Nat) (nsid : Nat) (tag : Nat)
  /-- TCG_LEVEL0_DISCOVERY (R432): Level 0 Discovery reports the Key Per I/O SSC. -/
  | tcgLevel0Discovery (cntlid : Nat)
  /-- SPDM_GET_VERSION (R429): SPDM GET_VERSION returns the supported version. -/
  | spdmGetVersion (via : SpdmVia)
  /-- SPDM_GET_CAPABILITIES (R429): SPDM GET_CAPABILITIES returns the responder's capabilities. -/
  | spdmGetCapabilities (via : SpdmVia)
  /-- SPDM_NEGOTIATE_ALGORITHMS (R429): SPDM NEGOTIATE_ALGORITHMS selects RSA-PSS-3072 and SHA-384. -/
  | spdmNegotiateAlgorithms (via : SpdmVia) (asym : Nat) (hash : Nat)
  /-- SPDM_GET_DIGESTS (R429): SPDM GET_DIGESTS returns the certificate chain digests. -/
  | spdmGetDigests (via : SpdmVia)
  /-- SPDM_GET_CERTIFICATE (R429): SPDM GET_CERTIFICATE returns the RSA identity chain of slot 0. -/
  | spdmGetCertificate (via : SpdmVia) (slot : Nat)
  /-- SPDM_CHALLENGE (R429): SPDM CHALLENGE returns a signed challenge response. -/
  | spdmChallenge (via : SpdmVia) (slot : Nat) (nonce : Nat)
  /-- SPDM_GET_MEASUREMENTS (R429): SPDM GET_MEASUREMENTS returns the measurements of Table 15-12. -/
  | spdmGetMeasurements (via : SpdmVia) (index : Nat) (sign : Bool) (nonce : Nat)
  /-- SPDM_CHUNK_SEND (R429): SPDM CHUNK_SEND receives one chunk of a large request. -/
  | spdmChunkSend (via : SpdmVia) (seq : Nat) (last : Bool) (data : List Nat)
  /-- SPDM_CHUNK_GET (R429): SPDM CHUNK_GET returns one chunk of a large response. -/
  | spdmChunkGet (via : SpdmVia) (seq : Nat)
  /-- SPDM_VENDOR_SLH_CHAIN (R429): Vendor sub-command 1 returns the SLH-DSA identity chain. -/
  | spdmVendorSlhChain (via : SpdmVia)
  /-- SPDM_VENDOR_SLH_SIGNATURE (R429): Vendor sub-command 2 returns the SLH-DSA signature over the last signed message. -/
  | spdmVendorSlhSignature (via : SpdmVia)
  /-- SLOT_GRANT (R120): A waiting write-slot request is granted and its R2T, Slot Grant or RDMA READ is sent. -/
  | slotGrant (slice : Nat)
  /-- READ_SLOTS_TAKE (R121): A read takes all of its slots in one step and enters Loading. -/
  | readSlotsTake (take : SliceLookups)
  /-- READ_RESERVE_TIMER (R128): A read has been at the head of its queue for 100 µs, and the pool reserves freed slots for it. -/
  | readReserveTimer (slice : Nat)
  /-- STAGING_ADMIT (R137): A Filled slot waiting for host-staging room proceeds to encryption. -/
  | stagingAdmit (slot : Nat)
  /-- AES_STAGED (R112): The AES engine has placed the slot's last block in host staging; the slot enters Clearing. -/
  | aesStaged (slot : Nat) (sram : List SramErr := [])
  /-- SLOT_CLEARED (R112): A Clearing slot has been zeroed and returns to Free. -/
  | slotCleared (slot : Nat)
  /-- READ_MERGE_DONE (R112): Every block of a read slot is merged and the slot enters Sending. -/
  | readMergeDone (slot : Nat)
  /-- SLOT_SENT (R112): A slot's last byte passes to the transport and the slot enters Draining. -/
  | slotSent (slot : Nat) (poison : List Nat := [])
  /-- SPILL_DWELL_TIMER (R198): No block has entered a partial row for the dwell time; the row spills to the Millpond. -/
  | spillDwellTimer (zone : Nat)
  /-- SPILL_HOLD_MAX_TIMER (R198): A partial row's first block is HOLD_MAX old; the row spills. -/
  | spillHoldMaxTimer (zone : Nat)
  /-- PROGRAM_START (R230): The Cox starts a row program within the busy budget, the active-die budget and the Stroke Plan. -/
  | programStart (crew : Nat) (seat : Nat)
  /-- ERASE_START (R250): The Cox starts the erase of a shell in Awaiting erase, oldest release first. -/
  | eraseStart (crew : Nat) (seat : Nat)
  /-- BUS_GRANT (R281): The lane arbiter grants the bus to one Seat Sequencer for one bus state. -/
  | busGrant (lane : Nat) (die : Nat) (strobe : Bool) (data : Nat)
  /-- STROKE_SLOT_OPEN (R299): The lane's Stroke slot opens and a waiting stroke-gated command is issued. -/
  | strokeSlotOpen (lane : Nat)
  /-- RECIPE_WAIT_EXPIRY (R289): A recipe's WAIT state expires and the recipe moves to its next state. -/
  | recipeWaitExpiry (lane : Nat) (die : Nat)
  /-- POLL_INTERVAL (R289): A POLL interval expires; the status is read, or ALT is taken once T_MAX has passed. -/
  | pollInterval (lane : Nat) (die : Nat) (status : Option Byte)
  /-- RECIPE_END (R290): A recipe reaches END and the Seat Sequencer reports its result to the Cox. -/
  | recipeEnd (lane : Nat) (die : Nat)
  /-- LOG_HOLD_TIMER (R272): The oldest tail record has waited LOG_HOLD_US and the tail is programmed. -/
  | logHoldTimer
  /-- RELOC_JOB_START (R265): A queued relocation job starts within RELOC_MAX and takes a destination. -/
  | relocJobStart
  /-- TALLY_SEGMENT_START (R274): The Tally writer captures the next segment at TALLY_MBPS. -/
  | tallySegmentStart
  /-- LEDGER_CLOCK_MINUTE (R246): A minute of powered time advances the Ledger clock. -/
  | ledgerClockMinute
  /-- LEDGER_CLOCK_RECORD (R246): Every 64 minutes, a CLOCK record is written. -/
  | ledgerClockRecord
  /-- PATROL_READ (R326): Firmware issues a patrol read of one page of a shell row. -/
  | patrolRead (shell : Nat) (row : Nat) (seat : Nat) (page : Nat)
  /-- CODEWORD_DECODED (R317): A decoder tile ends a codeword decode and either delivers it or moves on through the recovery steps. -/
  | codewordDecoded (lane : Nat) (cw : Nat) (res : Decode)
  /-- PARITY_REBUILD_DONE (R222): The parity engine delivers a rebuilt codeword. -/
  | parityRebuildDone (cw : Nat)
  /-- SELFTEST_START (R327): A write of START to DC_ST_CTL starts a decoder self-test in Trial, or is refused. -/
  | selftestStart (lane : Nat)
  /-- SELFTEST_DONE (R327): A decoder self-test ends with FAILS and SIG set; `fails` codewords fail by a defect of the tile alone, and
  `defect` is its number (0: none). -/
  | selftestDone (lane : Nat) (fails : Nat) (defect : Nat)
  /-- EASY_INTERVAL_END (R303): A seat's Easy interval ends and its next recipe may start. -/
  | easyIntervalEnd (lane : Nat) (die : Nat)
  /-- DIV_STEP (R302): Every 1,024 ticks, DIV_CUR moves one step toward its goal. -/
  | divStep (lane : Nat)
  /-- TEMP_READ_TIMER (R304): Every TEMP_MS, a lane reads the temperature of one die. -/
  | tempReadTimer (lane : Nat) (raw : Int)
  /-- RETRAIN_AGE_TIMER (R305): 3,600 s have passed since the last training, and an automatic retrain is requested. -/
  | retrainAgeTimer (lane : Nat)
  /-- RETRAIN_RECHECK_TIMER (R305): A refused automatic retrain is checked again after 1 s. -/
  | retrainRecheckTimer (lane : Nat)
  /-- LN_RETRAIN (R305): A RETRAIN write requests a lane retrain, checked against R235. -/
  | lnRetrain (lane : Nat)
  /-- RETRAIN_TRAINING_DONE (R306): The retrain's training ends, calibration is applied and the Cox resumes. -/
  | retrainTrainingDone (lane : Nat) (failed : Nat) (cal : List Word)
  /-- LANE_RECOVERY_DONE (R308): A lane fault recovery attempt ends in success, another attempt or lane failure. -/
  | laneRecoveryDone (lane : Nat) (ok : Bool)
  /-- SH_FORCE_WRITE (R235): A write of EN to SH_FORCE forces a seat unavailable, or is refused. -/
  | shForceWrite (value : Word)
  /-- BUSY_BUDGET_WRITE (R230): A write of BUSY_BUDGET sets a crew's budget to 1 or 2. -/
  | busyBudgetWrite (crew : Nat) (value : Nat)
  /-- DRAM_REFRESH (R347): A channel issues same-bank refresh at the rate required. -/
  | dramRefresh (ch : Nat)
  /-- DRAM_MR4_POLL (R347): Every 1 ms, MR4 is read to set the refresh rate. -/
  | dramMr4Poll (ch : Nat) (doubled : Bool)
  /-- DRAM_RETRAIN_WINDOW (R348): Every RT_PERIOD_MS, a channel opens a retrain window for ZQ and DQS updates. -/
  | dramRetrainWindow (ch : Nat)
  /-- DRAM_RETRAIN_WINDOW_END (R348): The retrain window ends and the channel accepts requests again. -/
  | dramRetrainWindowEnd (ch : Nat) (ns : Nat)
  /-- DRAM_AGE_PROMOTE (R345): A request waiting past its class AGE limit is promoted. -/
  | dramAgePromote (ch : Nat)
  /-- DRAM_REQUEST_ISSUE (R345): The scheduler issues the next request of a channel. -/
  | dramRequestIssue (ch : Nat) (req : DramReq)
  /-- DRAM_READ_COMPLETE (R336): A DRAM line read is checked for poison and decoded, with correction or poison. -/
  | dramReadComplete (ch : Nat) (flip : Nat := 0)
  /-- DR_MARK (R338): A write of MARK marks a DRAM device, or is refused. -/
  | drMark (ch : Nat) (dev : Nat)
  /-- DR_CLEAR (R338): A write of CLEAR clears the channel's mark. -/
  | drClear (ch : Nat)
  /-- REMAP_INSTALL (R350): A remap entry is installed by copying the covered lines into the store. -/
  | remapInstall (path : Path) (ch : Nat)
  /-- REMAP_REMOVE (R350): A remap entry is removed after its lines are copied back. -/
  | remapRemove (path : Path) (ch : Nat)
  /-- SCRUB_START (R351): START begins a range scrub over SCR_START and SCR_LEN. -/
  | scrubStart
  /-- SCRUB_STOP (R351): STOP ends the running scrub with a partial summary. -/
  | scrubStop
  /-- SCRUB_LINE (R351): The scrub reads its next line at class 3 within SCR_MBPS. -/
  | scrubLine (flip : Nat := 0)
  /-- DRAM_PATROL_STEP (R352): The idle-cycle patrol fills or scrubs its next region on an idle channel. -/
  | dramPatrolStep
  /-- TRAINING_RUN (R355): DR_TRN_CTL START runs a pattern over the comparators. -/
  | trainingRun (ch : Nat) (errors : List Nat)
  /-- TRAIN_RETRY_TIMER (R331): After failed DRAM training, the training is retried every 10 s. -/
  | trainRetryTimer (found : TrainFound)
  /-- LB_RAW_READ (R356): The line buffer reads a line as stored. -/
  | lbRawRead
  /-- LB_RAW_WRITE (R356): The line buffer writes all 160 bytes as given. -/
  | lbRawWrite
  /-- LB_DATA_ONLY_WRITE (R356): The line buffer writes data bytes only. -/
  | lbDataOnlyWrite
  /-- LB_CHECK_ONLY_WRITE (R356): The line buffer writes check bytes only. -/
  | lbCheckOnlyWrite
  /-- LB_POISON_WRITE (R356): The line buffer writes a line with poison by R342. -/
  | lbPoisonWrite
  /-- LB_CORRECTED_READ (R356): The line buffer reads a line with decoding and correction. -/
  | lbCorrectedRead
  /-- LOCKSTEP_MISMATCH (R444): A lockstep mismatch stops a control processor. -/
  | lockstepMismatch (cp : Nat)
  /-- WATCHDOG_EXPIRY (R444): A processor's heartbeat is 1 ms overdue and it is stopped. -/
  | watchdogExpiry (cp : Nat)
  /-- TAKEOVER_DONE (R445): A stopped processor's work has moved to the others. -/
  | takeoverDone
  /-- BOOT_REF_WAIT_TIMER (R19): Each 1 s that Bootstrap waits for REFA or REFB, a reference-wait event is logged. -/
  | bootRefWaitTimer
  /-- BOOT_REFERENCE_READY (R418): REFA or REFB is live, the lane PLL locks and Bootstrap reads the NOR. -/
  | bootReferenceReady (norOk : Bool)
  /-- BOOT_IMAGE_VERIFIED (R418): Firmware image verification ends; Bootstrap continues, falls back, or enters Trial or Sealed. -/
  | bootImageVerified (a : SignedFacts) (b : SignedFacts) (monitor : SignedFacts)
  /-- BOOT_IDOLOB_ACCEPTED (R423): An Idolob copy is accepted and Discovery begins, or Sealed follows. -/
  | bootIdolobAccepted (c0 : IdolobCopy) (c1 : IdolobCopy) (probe : Probe)
  /-- SECOND_IMAGE_VERIFY (R419): After Discovery begins, the other firmware image is verified. -/
  | secondImageVerify (other : SignedFacts)
  /-- DISCOVERY_DONE (R276): Discovery's load ends, and the mode changes to Service, Sanitize or Rebuild. -/
  | discoveryDone
  /-- REBUILD_DONE (R276): Replay, scan and spare check end, and Rebuild moves to Service, Sanitize or Read-Only. -/
  | rebuildDone (bad : List ScanBad)
  /-- FEATHERED_IDLE_TIMEOUT (R39): The idle timeout expires and Feathered is entered when its conditions hold. -/
  | featheredIdleTimeout
  /-- FEATHERED_REQUEST (R39): A manager request enters Feathered, or completes with 'not entered'. -/
  | featheredRequest
  /-- TRIAL_REQUEST (R44): An authenticated sideband Trial request in Bootstrap enters Trial. -/
  | trialRequest
  /-- TRIAL_EXIT_REQUEST (R44): A Trial exit request enters Bootstrap. -/
  | trialExitRequest
  /-- MONITOR_RESTART_REQUEST (R420): A recovery monitor restart request enters Bootstrap from Sealed. -/
  | monitorRestartRequest
  /-- TOKEN_PROVISION (R416): A PROVISION token blows the key hashes and DEV_SECRET and generates the identity keys. -/
  | tokenProvision (tok : TokenFacts)
  /-- TOKEN_DEPLOY (R416): A DEPLOY token moves the lifecycle to Deployed. -/
  | tokenDeploy (tok : TokenFacts)
  /-- TOKEN_RETURN (R416): A RETURN token moves the lifecycle to Returned and zeroises every key slot. -/
  | tokenReturn (tok : TokenFacts)
  /-- TOKEN_REVOKE (R416): A REVOKE token moves the lifecycle to Revoked and seals the device. -/
  | tokenRevoke (tok : TokenFacts)
  /-- TOKEN_TRIAL (R416): A TRIAL token sets TRIAL_PEND. -/
  | tokenTrial (tok : TokenFacts)
  /-- TOKEN_DEBUG_UNLOCK (R430): A DEBUG_UNLOCK token zeroises the keys, blocks key derivation and opens debug. -/
  | tokenDebugUnlock (tok : TokenFacts)
  /-- TOKEN_FUSE_SET (R416): A FUSE_SET token blows format, JTAG, lock, address or rollback fuses. -/
  | tokenFuseSet (tok : TokenFacts)
  /-- NOR_READ (R421): BT_NCMD reads 4 KiB of NOR in Sealed or Trial. -/
  | norRead
  /-- NOR_PROGRAM (R421): BT_NCMD programs 4 KiB of NOR, refused on the fetch bank. -/
  | norProgram
  /-- NOR_ERASE (R421): BT_NCMD erases 64 KiB of NOR, refused on the fetch bank. -/
  | norErase
  /-- NOR_OP_DONE (R422): A NOR program or erase ends, and waiting fetches continue. -/
  | norOpDone (ok : Bool)
  /-- PSK_COMMIT (R431): BT_PSKCMD commits a PSK staging copy after its checks. -/
  | pskCommit (path : Path)
  /-- PSK_INVALIDATE (R431): BT_PSKCMD invalidates a PSK entry. -/
  | pskInvalidate (path : Path)
  /-- RNG_HEALTH_FAIL (R437): A continuous health test fails; output is discarded and a reseed starts. -/
  | rngHealthFail
  /-- RNG_RESEED_DONE (R437): A reseed ends and the generator is ready again. -/
  | rngReseedDone
  /-- REGISTER_WINDOW_READ (R453): A sideband Register Window read request reads 1 to 16 registers. -/
  | registerWindowRead (req : WindowReq)
  /-- REGISTER_WINDOW_WRITE (R453): A sideband Register Window write request writes 1 to 16 registers. -/
  | registerWindowWrite (req : WindowReq)
  /-- ALERT_RESPONSE (R459): An SMBus Alert Response Address read is answered with the sideband address. -/
  | alertResponse
  /-- I3C_ENTDAA (R472): ENTDAA assigns the controller's I3C dynamic address. -/
  | i3cEntdaa (addr : Nat)
  /-- I3C_SETDASA (R472): SETDASA assigns the dynamic address from the static address. -/
  | i3cSetdasa (stat : Nat) (addr : Nat)
  /-- REG_WRITE (R10): A write to a register with no row of its own stores, clears or sets its fields by access code. -/
  | regWrite (path : Path) (addr : Nat) (width : Nat) (value : Word)
  /-- PWRGD_IN_RISE (R406): PWRGD_IN rises after the supplies are restored, and a Thermal Rest that has met its exit conditions enters Bootstrap. -/
  | pwrgdInRise
  /-- EDGE_SENTINEL_CLEAR (R362): A fired Edge Sentinel clears at the next edge of its input, and the 64-edge count toward liveness begins. -/
  | edgeSentinelClear (src : Nat)
  /-- TLS_CLIENT_FINISHED (R57): The host's Finished message completes the PSK TLS 1.3 handshake, or a failed handshake closes the connection and sets TLS_FAIL. -/
  | tlsClientFinished (conn : Nat) (ok : Framed Bool)
  /-- PFC_PAUSE_EXPIRY (R51): The pause time of a received PFC pause runs out, and transmission on that priority resumes. -/
  | pfcPauseExpiry (link : Nat) (prio : Nat)
  /-- MANAGER_CONTROLLER_RESET (R34): A manager controller reset moves the device from Service or Read-Only to Bootstrap (trigger 0x10). -/
  | managerControllerReset
  /-- NVME_MI_MESSAGE (R98): An NVMe-MI message arrives over MCTP on the sideband and is served there. -/
  | nvmeMiMessage (tag : Nat) (opc : Nat) (data : List Nat)
  /-- HOST_RDMA_READ_OR_ATOMIC (R117): A host RDMA READ or atomic aimed at the Hopper window is answered with a Remote Access Error NAK, and the queue pair fails. -/
  | hostRdmaReadOrAtomic (conn : Nat) (va : Framed Nat)
  /-- DRAM_ALERT_N (R462): A DRAM channel's Dn_ALERT_N input is asserted by its devices. -/
  | dramAlertN (ch : Nat)
  /-- JTAG_INSTRUCTION (R430): An instruction shifted into the TAP over TCK and TMS is answered as JTAG_MODE and DEBUG_OPEN allow (BYPASS, IDCODE, boundary scan or debug). -/
  | jtagInstruction (instr : JtagInstr)
deriving DecidableEq, Repr, Inhabited

end Sys2Proof
end

