-- ==== Sys2Proof/Decode.lean ====
section
/-! DEFINITION. Decode.lean: the command that a word spells by the bits of spec/opcode_table.json. No row of the table gives bits: the
commands are events and register accesses of the block, which no word encodes. -/

namespace Sys2Proof

/-- The command of a table word: none. -/
def decodeTableWord (_nbits _w : Nat) : Option Instr := none

end Sys2Proof
end

