-- ==== Sys2Proof/Config.lean ====
section
/-! DEFINITION. Config.lean: the FREE VALUES (opaque constants without a body: nothing can be proved of their value)
and the constants that the manual fixes for the part. Each free value is named in the assumption log. -/

namespace Sys2Proof.Config

/-- FREE VALUE (notes/assumptions/2): the k-th 256-bit output of the random generator (R437). DESIGN CHOICE. -/
opaque random : Nat → Nat

/-- FREE VALUE (notes/assumptions/3): what a decryption under a key other than the one a block was encrypted with
yields, and the content of a poisoned, undefined or lost block (R21, R87, R356). DESIGN CHOICE. -/
opaque garbage : Nat → Nat

/-- FREE VALUE (notes/assumptions/3): the k-th byte that the manual leaves undefined (R356: the test window before its
first raw write). DESIGN CHOICE. -/
opaque freeByte : Nat → Byte

/-- FREE VALUE (notes/assumptions/4): the hash and signature outputs of SPDM and TLS, of which the manual gives the
algorithm only (SHA-384, RSA-PSS, SLH-DSA). DESIGN CHOICE. -/
opaque digest : Nat → Nat

/-- FREE VALUE (notes/assumptions/33): the k-th constant of the part that the manual does not state (property CAP, IDCODE, Identify
fields). DESIGN CHOICE. -/
opaque unstated : Nat → Nat

/-- FREE VALUE (notes/assumptions/9): RUN_MAX of R298, to which the manual gives no number. DESIGN CHOICE. -/
opaque runMax : Nat

/-- FREE VALUE (notes/assumptions/73): the ciphertext of a block, by its key, namespace, LBA and plaintext: AES-XTS (R150), of which
the manual gives the name only. DESIGN CHOICE. -/
opaque cipher : List Nat → Nat

/-- FREE VALUE (notes/assumptions/73): the check bytes of code CODE over the information bytes of a codeword (R314), whose parity-check
matrices the manual does not give. DESIGN CHOICE. -/
opaque ldpcCheck : Nat → Nat → Nat

/-- FREE VALUE (notes/assumptions/73): content that the model holds as state and not as bytes: that of a Tally segment or of a 4 KiB
unit of one (R274), by what it names. DESIGN CHOICE. -/
opaque content : List Nat → Nat

/-- FREE VALUES (notes/assumptions/78): the codewords that a self-test does not decode to its data, and its signature, by CODE, TIER,
ERRORS, SEED and COUNT (R327): the manual gives neither the generator nor the codes. DESIGN CHOICE. -/
opaque selftestFails : List Nat → Nat
opaque selftestSig : List Nat → Nat

/-- FREE VALUE (notes/assumptions/70): the highest transfer rate, MT/s, that the data interface of code IFACE specifies (R470): it
stands in the ONFI and JESD230 specifications, which the manual does not restate. DESIGN CHOICE. -/
opaque ifaceRateMax : Nat → Nat

/-- FREE VALUE (notes/assumptions/71): the send rate that the reaction parameters of an image take a rate to at a CNP (R60), of which
the manual gives neither layout nor meaning. DESIGN CHOICE. -/
opaque cnpRate : List Nat → Nat → Nat

/-- Ticks in 1 s, 1 ms, 1 µs of the Time Base (R6: 1.5 GHz lane clock). -/
def ticksPerS : Nat := 1500000000
def ticksPerMs : Nat := 1500000
def ticksPerUs : Nat := 1500
/-- One Stroke (R6). -/
def stroke : Nat := 2048

end Sys2Proof.Config
end

