-- ==== Sys2Proof/Machine/RegMap.lean ====
section
/-! DEFINITION. RegMap.lean: the registers of the window as the register tables of the spec give them (name, offset,
instances, and per field its bits, access code of Table 00-3, reset value and legal values). A field whose reset comes
from the Idolob image, the Logbook, the fuses or training stands at 0 until that source is read (notes/assumptions/6). -/

namespace Sys2Proof.R

/-- The access codes of Table 00-3 (R10). -/
inductive Acc where
  | ro | rw | wo | w1c | w1s | rwf | ros
deriving DecidableEq, Repr

/-- A register: its window address, the instances of its block (lane, channel, port) and its own index (offset + s2 × k);
`banked` marks the index registers of Table 17-3 (R456). -/
structure Reg where
  addr : Nat
  n1 : Nat
  s1 : Nat
  n2 : Nat
  s2 : Nat
  banked : Bool
deriving DecidableEq, Repr

/-- A field: its register, low bit, width, access code, reset value and, for an enumerated or bounded field, the values
that are not reserved (inclusive ranges; none: every value). -/
structure Fld where
  reg : Reg
  lo : Nat
  w : Nat
  acc : Acc
  reset : Nat
  legal : List (Nat × Nat)
deriving DecidableEq, Repr

/-- The window address of instance i, index k of a register. -/
def Reg.at (r : Reg) (i k : Nat) : Nat := r.addr + i * r.s1 + k * r.s2

/-- The instance and index that a window address selects in a register. -/
def Reg.locate (r : Reg) (a : Nat) : Option (Nat × Nat) :=
  if a < r.addr then none
  else
    let d := a - r.addr
    let i := if r.s1 = 0 then 0 else d / r.s1
    let d := if r.s1 = 0 then d else d % r.s1
    let k := if r.s2 = 0 then 0 else d / r.s2
    let d := if r.s2 = 0 then d else d % r.s2
    if d = 0 ∧ i < r.n1 ∧ k < r.n2 then some (i, k) else none

/-- The key under which the register file holds a field. -/
def Fld.key (f : Fld) (i k : Nat) : Nat := f.reg.at i k * 32 + f.lo

/-- The value is not a reserved encoding of the field (R13). -/
def Fld.ok (f : Fld) (v : Nat) : Bool := f.legal.isEmpty || f.legal.any fun (a, b) => a ≤ v ∧ v ≤ b

/-- PT_CFG — Port configuration (offset 0x80000; spec/02_fabric_ports.md). -/
def PT_CFG : Reg := ⟨0x80000, 2, 65536, 1, 0, false⟩
def PT_CFG_ENABLE : Fld := ⟨PT_CFG, 0, 1, .rw, 0, []⟩
def PT_CFG_BREAKOUT : Fld := ⟨PT_CFG, 1, 2, .rw, 0, [(0, 2)]⟩
def PT_CFG_MEDIA_TYPE : Fld := ⟨PT_CFG, 3, 2, .rw, 0, [(0, 2)]⟩
def PT_CFG_TLS_REQ : Fld := ⟨PT_CFG, 5, 1, .rw, 0, []⟩
def PT_CFG_TLS_DHE_REQ : Fld := ⟨PT_CFG, 6, 1, .rw, 0, []⟩
def PT_CFG_ROCE_EN : Fld := ⟨PT_CFG, 7, 1, .rw, 1, []⟩
/-- PT_LINK_STS — Link status, link k (offset 0x80010; spec/02_fabric_ports.md). -/
def PT_LINK_STS : Reg := ⟨0x80010, 2, 65536, 4, 4, false⟩
def PT_LINK_STS_LSTATE : Fld := ⟨PT_LINK_STS, 0, 3, .ro, 0, []⟩
def PT_LINK_STS_SPEED : Fld := ⟨PT_LINK_STS, 3, 2, .ro, 0, []⟩
def PT_LINK_STS_DOWN_COUNT : Fld := ⟨PT_LINK_STS, 16, 16, .ros, 0, []⟩
/-- PT_LINK_CTL — Link control, link k (offset 0x80020; spec/02_fabric_ports.md). -/
def PT_LINK_CTL : Reg := ⟨0x80020, 2, 65536, 4, 4, false⟩
def PT_LINK_CTL_DISABLE : Fld := ⟨PT_LINK_CTL, 0, 1, .rw, 0, []⟩
def PT_LINK_CTL_RETRAIN : Fld := ⟨PT_LINK_CTL, 1, 1, .wo, 0, []⟩
def PT_LINK_CTL_MTU : Fld := ⟨PT_LINK_CTL, 16, 14, .rw, 0x5DC, [(1500, 9000)]⟩
/-- PT_AIDX — Link address table index (offset 0x80030; spec/02_fabric_ports.md). -/
def PT_AIDX : Reg := ⟨0x80030, 2, 65536, 1, 0, true⟩
def PT_AIDX_WORD : Fld := ⟨PT_AIDX, 0, 4, .rw, 0, []⟩
def PT_AIDX_LINK : Fld := ⟨PT_AIDX, 4, 2, .rw, 0, []⟩
/-- PT_ADATA — Link address table data (offset 0x80034; spec/02_fabric_ports.md). -/
def PT_ADATA : Reg := ⟨0x80034, 2, 65536, 1, 0, false⟩
def PT_ADATA_DATA : Fld := ⟨PT_ADATA, 0, 32, .rw, 0, []⟩
/-- PT_PRIO_MAP — Priority to traffic class (offset 0x80040; spec/02_fabric_ports.md). -/
def PT_PRIO_MAP : Reg := ⟨0x80040, 2, 65536, 1, 0, false⟩
def PT_PRIO_MAP_TC_0 : Fld := ⟨PT_PRIO_MAP, 0, 4, .rw, 0, [(0, 3)]⟩
def PT_PRIO_MAP_TC_1 : Fld := ⟨PT_PRIO_MAP, 4, 4, .rw, 0, [(0, 3)]⟩
def PT_PRIO_MAP_TC_2 : Fld := ⟨PT_PRIO_MAP, 8, 4, .rw, 0, [(0, 3)]⟩
def PT_PRIO_MAP_TC_3 : Fld := ⟨PT_PRIO_MAP, 12, 4, .rw, 1, [(0, 3)]⟩
def PT_PRIO_MAP_TC_4 : Fld := ⟨PT_PRIO_MAP, 16, 4, .rw, 0, [(0, 3)]⟩
def PT_PRIO_MAP_TC_5 : Fld := ⟨PT_PRIO_MAP, 20, 4, .rw, 0, [(0, 3)]⟩
def PT_PRIO_MAP_TC_6 : Fld := ⟨PT_PRIO_MAP, 24, 4, .rw, 2, [(0, 3)]⟩
def PT_PRIO_MAP_TC_7 : Fld := ⟨PT_PRIO_MAP, 28, 4, .rw, 3, [(0, 3)]⟩
/-- PT_TX_PRIO — Transmit priority per class (offset 0x80044; spec/02_fabric_ports.md). -/
def PT_TX_PRIO : Reg := ⟨0x80044, 2, 65536, 1, 0, false⟩
def PT_TX_PRIO_PRIO_TC0 : Fld := ⟨PT_TX_PRIO, 0, 3, .rw, 0, []⟩
def PT_TX_PRIO_PRIO_TC1 : Fld := ⟨PT_TX_PRIO, 4, 3, .rw, 3, []⟩
def PT_TX_PRIO_PRIO_TC2 : Fld := ⟨PT_TX_PRIO, 8, 3, .rw, 6, []⟩
def PT_TX_PRIO_PRIO_TC3 : Fld := ⟨PT_TX_PRIO, 12, 3, .rw, 7, []⟩
/-- PT_TC_CFG — Flow control and ETS (offset 0x80048; spec/02_fabric_ports.md). -/
def PT_TC_CFG : Reg := ⟨0x80048, 2, 65536, 1, 0, false⟩
def PT_TC_CFG_PFC_EN : Fld := ⟨PT_TC_CFG, 0, 8, .rw, 8, []⟩
def PT_TC_CFG_W_TC0 : Fld := ⟨PT_TC_CFG, 8, 7, .rw, 0x32, [(0, 100)]⟩
def PT_TC_CFG_W_TC1 : Fld := ⟨PT_TC_CFG, 16, 7, .rw, 0x32, [(0, 100)]⟩
/-- PT_TRANS_CFG — Transport timers (offset 0x80050; spec/02_fabric_ports.md). -/
def PT_TRANS_CFG : Reg := ⟨0x80050, 2, 65536, 1, 0, false⟩
def PT_TRANS_CFG_GIVEUP : Fld := ⟨PT_TRANS_CFG, 0, 6, .rw, 0xA, [(1, 60)]⟩
def PT_TRANS_CFG_RTO_MIN : Fld := ⟨PT_TRANS_CFG, 8, 4, .rw, 2, [(1, 15)]⟩
def PT_TRANS_CFG_PMTU : Fld := ⟨PT_TRANS_CFG, 12, 2, .rw, 2, [(0, 2)]⟩
def PT_TRANS_CFG_RETRY_CNT : Fld := ⟨PT_TRANS_CFG, 15, 3, .rw, 7, []⟩
def PT_TRANS_CFG_ACK_TO : Fld := ⟨PT_TRANS_CFG, 18, 5, .rw, 0xE, []⟩
/-- PT_CONN_CNT — Connection counts (offset 0x80060; spec/02_fabric_ports.md). -/
def PT_CONN_CNT : Reg := ⟨0x80060, 2, 65536, 1, 0, false⟩
def PT_CONN_CNT_IO_CONN : Fld := ⟨PT_CONN_CNT, 0, 15, .ros, 0, []⟩
def PT_CONN_CNT_ADMIN_CONN : Fld := ⟨PT_CONN_CNT, 16, 13, .ros, 0, []⟩
/-- PT_BP_STS — Backpressure status (offset 0x80064; spec/02_fabric_ports.md). -/
def PT_BP_STS : Reg := ⟨0x80064, 2, 65536, 1, 0, false⟩
def PT_BP_STS_BP_CONN : Fld := ⟨PT_BP_STS, 0, 15, .ros, 0, []⟩
def PT_BP_STS_RNR_COUNT : Fld := ⟨PT_BP_STS, 16, 16, .ros, 0, []⟩
/-- PT_VX_CTL — Voxbel control (offset 0x80070; spec/02_fabric_ports.md). -/
def PT_VX_CTL : Reg := ⟨0x80070, 1, 0, 1, 0, false⟩
def PT_VX_CTL_DEV_MAX_VER : Fld := ⟨PT_VX_CTL, 0, 8, .ro, 0x13, []⟩
def PT_VX_CTL_FEAT_MASK : Fld := ⟨PT_VX_CTL, 8, 4, .rw, 0xF, []⟩
/-- PT_DISC_CTL — Discovery control (offset 0x80074; spec/02_fabric_ports.md). -/
def PT_DISC_CTL : Reg := ⟨0x80074, 1, 0, 1, 0, false⟩
def PT_DISC_CTL_DISC_EN : Fld := ⟨PT_DISC_CTL, 0, 1, .rw, 1, []⟩
def PT_DISC_CTL_MDNS_EN : Fld := ⟨PT_DISC_CTL, 1, 1, .rw, 1, []⟩
def PT_DISC_CTL_LOG_GEN : Fld := ⟨PT_DISC_CTL, 16, 16, .ro, 0, []⟩
/-- PT_EVT — Port events (offset 0x80078; spec/02_fabric_ports.md). -/
def PT_EVT : Reg := ⟨0x80078, 2, 65536, 1, 0, false⟩
def PT_EVT_LINK_UP_0 : Fld := ⟨PT_EVT, 0, 1, .w1c, 0, []⟩
def PT_EVT_LINK_UP_1 : Fld := ⟨PT_EVT, 1, 1, .w1c, 0, []⟩
def PT_EVT_LINK_UP_2 : Fld := ⟨PT_EVT, 2, 1, .w1c, 0, []⟩
def PT_EVT_LINK_UP_3 : Fld := ⟨PT_EVT, 3, 1, .w1c, 0, []⟩
def PT_EVT_LINK_DOWN_0 : Fld := ⟨PT_EVT, 4, 1, .w1c, 0, []⟩
def PT_EVT_LINK_DOWN_1 : Fld := ⟨PT_EVT, 5, 1, .w1c, 0, []⟩
def PT_EVT_LINK_DOWN_2 : Fld := ⟨PT_EVT, 6, 1, .w1c, 0, []⟩
def PT_EVT_LINK_DOWN_3 : Fld := ⟨PT_EVT, 7, 1, .w1c, 0, []⟩
def PT_EVT_CONN_LIMIT : Fld := ⟨PT_EVT, 8, 1, .w1c, 0, []⟩
def PT_EVT_TLS_FAIL : Fld := ⟨PT_EVT, 9, 1, .w1c, 0, []⟩
def PT_EVT_VX_REJECT : Fld := ⟨PT_EVT, 10, 1, .w1c, 0, []⟩
/-- RC_CFG — Race configuration (offset 0xC0000; spec/03_commands_queues.md). -/
def RC_CFG : Reg := ⟨0xC0000, 1, 0, 1, 0, false⟩
def RC_CFG_IOQ_MQES : Fld := ⟨RC_CFG, 0, 8, .rw, 0xFF, [(15, 255)]⟩
def RC_CFG_AERL : Fld := ⟨RC_CFG, 16, 8, .ro, 3, []⟩
/-- RC_CMDTAB_IO — I/O command entries in use (offset 0xC0004; spec/03_commands_queues.md). -/
def RC_CMDTAB_IO : Reg := ⟨0xC0004, 1, 0, 1, 0, false⟩
def RC_CMDTAB_IO_IO_USED : Fld := ⟨RC_CMDTAB_IO, 0, 18, .ros, 0, []⟩
/-- RC_CMDTAB_ADM — Admin command entries in use (offset 0xC0008; spec/03_commands_queues.md). -/
def RC_CMDTAB_ADM : Reg := ⟨0xC0008, 1, 0, 1, 0, false⟩
def RC_CMDTAB_ADM_ADM_USED : Fld := ⟨RC_CMDTAB_ADM, 0, 17, .ros, 0, []⟩
/-- RC_CMDTAB_THR — Command table thresholds (offset 0xC000C; spec/03_commands_queues.md). -/
def RC_CMDTAB_THR : Reg := ⟨0xC000C, 1, 0, 1, 0, false⟩
def RC_CMDTAB_THR_XOFF_K : Fld := ⟨RC_CMDTAB_THR, 0, 8, .rw, 0xB8, []⟩
def RC_CMDTAB_THR_XON_K : Fld := ⟨RC_CMDTAB_THR, 8, 8, .rw, 0xB0, []⟩
/-- RC_HR_BUF — Headrace buffer occupancy, port p (offset 0xC0010; spec/03_commands_queues.md). -/
def RC_HR_BUF : Reg := ⟨0xC0010, 1, 0, 2, 4, false⟩
def RC_HR_BUF_IO_KIB : Fld := ⟨RC_HR_BUF, 0, 12, .ros, 0, []⟩
def RC_HR_BUF_ADM_KIB : Fld := ⟨RC_HR_BUF, 16, 10, .ros, 0, []⟩
/-- RC_CBP_STS — Congestion backpressure status (offset 0xC0018; spec/03_commands_queues.md). -/
def RC_CBP_STS : Reg := ⟨0xC0018, 1, 0, 1, 0, false⟩
def RC_CBP_STS_CMDTAB_BP : Fld := ⟨RC_CBP_STS, 0, 1, .ro, 0, []⟩
def RC_CBP_STS_HRBUF_BP : Fld := ⟨RC_CBP_STS, 1, 2, .ro, 0, []⟩
def RC_CBP_STS_BP_STARTS : Fld := ⟨RC_CBP_STS, 16, 16, .ros, 0, []⟩
/-- RC_QIDX — Queue context index (offset 0xC0020; spec/03_commands_queues.md). -/
def RC_QIDX : Reg := ⟨0xC0020, 1, 0, 1, 0, true⟩
def RC_QIDX_QUEUE : Fld := ⟨RC_QIDX, 0, 14, .rw, 0, []⟩
def RC_QIDX_ADMIN : Fld := ⟨RC_QIDX, 14, 1, .rw, 0, []⟩
def RC_QIDX_WORD : Fld := ⟨RC_QIDX, 16, 3, .rw, 0, []⟩
/-- RC_QDATA — Queue context data (offset 0xC0024; spec/03_commands_queues.md). -/
def RC_QDATA : Reg := ⟨0xC0024, 1, 0, 1, 0, false⟩
def RC_QDATA_DATA : Fld := ⟨RC_QDATA, 0, 32, .ros, 0, []⟩
/-- RC_ERRCNT — Capsule error counts (offset 0xC0030; spec/03_commands_queues.md). -/
def RC_ERRCNT : Reg := ⟨0xC0030, 1, 0, 1, 0, false⟩
def RC_ERRCNT_SQ_OVERRUNS : Fld := ⟨RC_ERRCNT, 0, 16, .ros, 0, []⟩
def RC_ERRCNT_CID_CONFLICTS : Fld := ⟨RC_ERRCNT, 16, 16, .ros, 0, []⟩
/-- RC_CANCEL — Cancellation counts (offset 0xC0034; spec/03_commands_queues.md). -/
def RC_CANCEL : Reg := ⟨0xC0034, 1, 0, 1, 0, false⟩
def RC_CANCEL_ABORT_CMDS : Fld := ⟨RC_CANCEL, 0, 16, .ros, 0, []⟩
def RC_CANCEL_DISCARDED : Fld := ⟨RC_CANCEL, 16, 16, .ros, 0, []⟩
/-- RC_EVT — Race events (offset 0xC0040; spec/03_commands_queues.md). -/
def RC_EVT : Reg := ⟨0xC0040, 1, 0, 1, 0, false⟩
def RC_EVT_CMDTAB_BP : Fld := ⟨RC_EVT, 0, 1, .w1c, 0, []⟩
def RC_EVT_HRBUF_BP : Fld := ⟨RC_EVT, 1, 1, .w1c, 0, []⟩
def RC_EVT_SQ_OVERRUN : Fld := ⟨RC_EVT, 2, 1, .w1c, 0, []⟩
def RC_EVT_CID_CONFLICT : Fld := ⟨RC_EVT, 3, 1, .w1c, 0, []⟩
def RC_EVT_ACK_RULE_CHG : Fld := ⟨RC_EVT, 4, 1, .w1c, 0, []⟩
/-- RC_ACK_STS — Acknowledgement rule status (offset 0xC0044; spec/03_commands_queues.md). -/
def RC_ACK_STS : Reg := ⟨0xC0044, 1, 0, 1, 0, false⟩
def RC_ACK_STS_ACK_RULE : Fld := ⟨RC_ACK_STS, 0, 1, .ro, 0, []⟩
def RC_ACK_STS_RULE_CHANGES : Fld := ⟨RC_ACK_STS, 16, 16, .ros, 0, []⟩
/-- HP_CFG — Hopper configuration (offset 0xD0000; spec/04_hopper.md). -/
def HP_CFG : Reg := ⟨0xD0000, 1, 0, 1, 0, false⟩
def HP_CFG_WGRANT_MAX : Fld := ⟨HP_CFG, 0, 5, .rw, 8, [(1, 16)]⟩
def HP_CFG_FALLBACK : Fld := ⟨HP_CFG, 5, 1, .rw, 1, []⟩
/-- HP_POOL — Pool sizes (offset 0xD0004; spec/04_hopper.md). -/
def HP_POOL : Reg := ⟨0xD0004, 1, 0, 1, 0, false⟩
def HP_POOL_WPOOL_MIB : Fld := ⟨HP_POOL, 0, 6, .ro, 0, []⟩
def HP_POOL_RPOOL_MIB : Fld := ⟨HP_POOL, 16, 15, .ro, 0, []⟩
/-- HP_RBASE — Read pool base (offset 0xD0008; spec/04_hopper.md). -/
def HP_RBASE : Reg := ⟨0xD0008, 1, 0, 1, 0, false⟩
def HP_RBASE_BASE_MIB : Fld := ⟨HP_RBASE, 0, 18, .ro, 0, []⟩
/-- HP_WCLASS — Write class c (offset 0xD0010; spec/04_hopper.md). -/
def HP_WCLASS : Reg := ⟨0xD0010, 1, 0, 4, 4, false⟩
def HP_WCLASS_COUNT : Fld := ⟨HP_WCLASS, 0, 14, .ro, 0, []⟩
def HP_WCLASS_FREE : Fld := ⟨HP_WCLASS, 16, 14, .ros, 0, []⟩
/-- HP_RCLASS — Read class c count (offset 0xD0020; spec/04_hopper.md). -/
def HP_RCLASS : Reg := ⟨0xD0020, 1, 0, 4, 4, false⟩
def HP_RCLASS_COUNT : Fld := ⟨HP_RCLASS, 0, 17, .ro, 0, []⟩
/-- HP_RFREE — Read class c free (offset 0xD0030; spec/04_hopper.md). -/
def HP_RFREE : Reg := ⟨0xD0030, 1, 0, 4, 4, false⟩
def HP_RFREE_FREE : Fld := ⟨HP_RFREE, 0, 17, .ros, 0, []⟩
/-- HP_DIDX — Descriptor index (offset 0xD0040; spec/04_hopper.md). -/
def HP_DIDX : Reg := ⟨0xD0040, 1, 0, 1, 0, true⟩
def HP_DIDX_SLOT : Fld := ⟨HP_DIDX, 0, 17, .rw, 0, []⟩
def HP_DIDX_WORD : Fld := ⟨HP_DIDX, 18, 2, .rw, 0, []⟩
/-- HP_DDATA — Descriptor data (offset 0xD0044; spec/04_hopper.md). -/
def HP_DDATA : Reg := ⟨0xD0044, 1, 0, 1, 0, false⟩
def HP_DDATA_DATA : Fld := ⟨HP_DDATA, 0, 32, .ros, 0, []⟩
/-- HP_CNT — Discard and NAK counts (offset 0xD0050; spec/04_hopper.md). -/
def HP_CNT : Reg := ⟨0xD0050, 1, 0, 1, 0, false⟩
def HP_CNT_STALE_DISC : Fld := ⟨HP_CNT, 0, 16, .ros, 0, []⟩
def HP_CNT_ACCESS_NAKS : Fld := ⟨HP_CNT, 16, 16, .ros, 0, []⟩
/-- HP_WAIT — Waiting slices (offset 0xD0054; spec/04_hopper.md). -/
def HP_WAIT : Reg := ⟨0xD0054, 1, 0, 1, 0, false⟩
def HP_WAIT_W_SLICES : Fld := ⟨HP_WAIT, 0, 13, .ros, 0, []⟩
def HP_WAIT_R_SLICES : Fld := ⟨HP_WAIT, 16, 13, .ros, 0, []⟩
/-- HP_EVT — Hopper events (offset 0xD0060; spec/04_hopper.md). -/
def HP_EVT : Reg := ⟨0xD0060, 1, 0, 1, 0, false⟩
def HP_EVT_WPOOL_EMPTY : Fld := ⟨HP_EVT, 0, 1, .w1c, 0, []⟩
def HP_EVT_RPOOL_EMPTY : Fld := ⟨HP_EVT, 1, 1, .w1c, 0, []⟩
def HP_EVT_STALE : Fld := ⟨HP_EVT, 2, 1, .w1c, 0, []⟩
def HP_EVT_ACCESS_NAK : Fld := ⟨HP_EVT, 3, 1, .w1c, 0, []⟩
def HP_EVT_BAD_TTAG : Fld := ⟨HP_EVT, 4, 1, .w1c, 0, []⟩
def HP_EVT_EPOCH_HOLD : Fld := ⟨HP_EVT, 5, 1, .w1c, 0, []⟩
def HP_EVT_READ_RESERVE : Fld := ⟨HP_EVT, 6, 1, .w1c, 0, []⟩
/-- SL_TIDX — Slice table index (offset 0xE0000; spec/05_slices.md). -/
def SL_TIDX : Reg := ⟨0xE0000, 1, 0, 1, 0, true⟩
def SL_TIDX_SLICE : Fld := ⟨SL_TIDX, 0, 12, .rw, 0, []⟩
def SL_TIDX_WORD : Fld := ⟨SL_TIDX, 16, 7, .rw, 0, []⟩
def SL_TIDX_VIEW : Fld := ⟨SL_TIDX, 24, 1, .rw, 0, []⟩
/-- SL_TDATA — Slice table data (offset 0xE0004; spec/05_slices.md). -/
def SL_TDATA : Reg := ⟨0xE0004, 1, 0, 1, 0, false⟩
def SL_TDATA_DATA : Fld := ⟨SL_TDATA, 0, 32, .rw, 0, []⟩
/-- SL_TCMD — Slice command (offset 0xE0008; spec/05_slices.md). -/
def SL_TCMD : Reg := ⟨0xE0008, 1, 0, 1, 0, false⟩
def SL_TCMD_CMD : Fld := ⟨SL_TCMD, 0, 3, .wo, 0, []⟩
def SL_TCMD_BUSY : Fld := ⟨SL_TCMD, 4, 1, .ro, 0, []⟩
def SL_TCMD_RESULT : Fld := ⟨SL_TCMD, 8, 3, .ro, 0, []⟩
/-- SL_OIDX — Origin Table index (offset 0xE0010; spec/05_slices.md). -/
def SL_OIDX : Reg := ⟨0xE0010, 1, 0, 1, 0, true⟩
def SL_OIDX_ENTRY : Fld := ⟨SL_OIDX, 0, 16, .rw, 0, []⟩
def SL_OIDX_WORD : Fld := ⟨SL_OIDX, 16, 7, .rw, 0, []⟩
/-- SL_ODATA — Origin Table data (offset 0xE0014; spec/05_slices.md). -/
def SL_ODATA : Reg := ⟨0xE0014, 1, 0, 1, 0, false⟩
def SL_ODATA_DATA : Fld := ⟨SL_ODATA, 0, 32, .rw, 0, []⟩
/-- SL_OCMD — Origin Table command (offset 0xE0018; spec/05_slices.md). -/
def SL_OCMD : Reg := ⟨0xE0018, 1, 0, 1, 0, false⟩
def SL_OCMD_CMD : Fld := ⟨SL_OCMD, 0, 2, .wo, 0, []⟩
def SL_OCMD_RESULT : Fld := ⟨SL_OCMD, 4, 3, .ro, 0, []⟩
/-- SL_STS — Slice totals (offset 0xE0020; spec/05_slices.md). -/
def SL_STS : Reg := ⟨0xE0020, 1, 0, 1, 0, false⟩
def SL_STS_ACTIVE : Fld := ⟨SL_STS, 0, 13, .ros, 0, []⟩
def SL_STS_RESETTING : Fld := ⟨SL_STS, 16, 13, .ros, 0, []⟩
/-- SL_DEVQ — Enforced quota sums (offset 0xE0024; spec/05_slices.md). -/
def SL_DEVQ : Reg := ⟨0xE0024, 1, 0, 1, 0, false⟩
def SL_DEVQ_ZONE_SUM : Fld := ⟨SL_DEVQ, 0, 13, .ros, 0, []⟩
def SL_DEVQ_KEY_SUM : Fld := ⟨SL_DEVQ, 16, 14, .ros, 0, []⟩
/-- SL_HOLD — Manager hold, slices 32 × n to 32 × n + 31 (offset 0xE0400; spec/05_slices.md). -/
def SL_HOLD : Reg := ⟨0xE0400, 1, 0, 128, 4, false⟩
def SL_HOLD_HOLD : Fld := ⟨SL_HOLD, 0, 32, .rw, 0, []⟩
/-- SL_EVT — Slice events (offset 0xE0040; spec/05_slices.md). -/
def SL_EVT : Reg := ⟨0xE0040, 1, 0, 1, 0, false⟩
def SL_EVT_RESET_DONE : Fld := ⟨SL_EVT, 0, 1, .w1c, 0, []⟩
def SL_EVT_RESET_SLOW : Fld := ⟨SL_EVT, 1, 1, .w1c, 0, []⟩
def SL_EVT_BIND_FAIL : Fld := ⟨SL_EVT, 2, 1, .w1c, 0, []⟩
def SL_EVT_KEY_MISMATCH : Fld := ⟨SL_EVT, 3, 1, .w1c, 0, []⟩
def SL_EVT_CMD_REFUSED : Fld := ⟨SL_EVT, 4, 1, .w1c, 0, []⟩
/-- GV_CFG — Governor configuration (offset 0x100000; spec/06_governor.md). -/
def GV_CFG : Reg := ⟨0x100000, 1, 0, 1, 0, false⟩
def GV_CFG_SAMPLE_TICKS : Fld := ⟨GV_CFG, 0, 18, .rw, 0, [(15000, 240000)]⟩
/-- GV_STS — Governor status (offset 0x100004; spec/06_governor.md). -/
def GV_STS : Reg := ⟨0x100004, 1, 0, 1, 0, false⟩
def GV_STS_RUN : Fld := ⟨GV_STS, 0, 1, .ro, 0, []⟩
def GV_STS_OVERRUNS : Fld := ⟨GV_STS, 16, 16, .ros, 0, []⟩
/-- GV_PASS — Pass time (offset 0x100008; spec/06_governor.md). -/
def GV_PASS : Reg := ⟨0x100008, 1, 0, 1, 0, false⟩
def GV_PASS_LAST_PASS : Fld := ⟨GV_PASS, 0, 16, .ros, 0, []⟩
def GV_PASS_MAX_PASS : Fld := ⟨GV_PASS, 16, 16, .ros, 0, []⟩
/-- GV_SAMPLE_LO — Pass count, low (offset 0x10000C; spec/06_governor.md). -/
def GV_SAMPLE_LO : Reg := ⟨0x10000C, 1, 0, 1, 0, false⟩
def GV_SAMPLE_LO_COUNT_LO : Fld := ⟨GV_SAMPLE_LO, 0, 32, .ros, 0, []⟩
/-- GV_SAMPLE_HI — Pass count, high (offset 0x100010; spec/06_governor.md). -/
def GV_SAMPLE_HI : Reg := ⟨0x100010, 1, 0, 1, 0, false⟩
def GV_SAMPLE_HI_COUNT_HI : Fld := ⟨GV_SAMPLE_HI, 0, 32, .ros, 0, []⟩
/-- GV_PIDX — Profile index (offset 0x100020; spec/06_governor.md). -/
def GV_PIDX : Reg := ⟨0x100020, 1, 0, 1, 0, true⟩
def GV_PIDX_PROFILE : Fld := ⟨GV_PIDX, 0, 5, .rw, 0, []⟩
def GV_PIDX_WORD : Fld := ⟨GV_PIDX, 8, 8, .rw, 0, []⟩
def GV_PIDX_VIEW : Fld := ⟨GV_PIDX, 16, 1, .rw, 0, []⟩
/-- GV_PDATA — Profile data (offset 0x100024; spec/06_governor.md). -/
def GV_PDATA : Reg := ⟨0x100024, 1, 0, 1, 0, false⟩
def GV_PDATA_DATA : Fld := ⟨GV_PDATA, 0, 32, .rw, 0, []⟩
/-- GV_PCMD — Profile command (offset 0x100028; spec/06_governor.md). -/
def GV_PCMD : Reg := ⟨0x100028, 1, 0, 1, 0, false⟩
def GV_PCMD_CMD : Fld := ⟨GV_PCMD, 0, 2, .wo, 0, []⟩
def GV_PCMD_PENDING : Fld := ⟨GV_PCMD, 4, 1, .ro, 0, []⟩
def GV_PCMD_RESULT : Fld := ⟨GV_PCMD, 8, 3, .ro, 0, []⟩
/-- GV_LIDX — Loop index (offset 0x100030; spec/06_governor.md). -/
def GV_LIDX : Reg := ⟨0x100030, 1, 0, 1, 0, true⟩
def GV_LIDX_LOOP : Fld := ⟨GV_LIDX, 0, 13, .rw, 0, []⟩
def GV_LIDX_WORD : Fld := ⟨GV_LIDX, 16, 6, .rw, 0, []⟩
/-- GV_LDATA — Loop data (offset 0x100034; spec/06_governor.md). -/
def GV_LDATA : Reg := ⟨0x100034, 1, 0, 1, 0, false⟩
def GV_LDATA_DATA : Fld := ⟨GV_LDATA, 0, 32, .rw, 0, []⟩
/-- GV_HIDX — Histogram index (offset 0x100040; spec/06_governor.md). -/
def GV_HIDX : Reg := ⟨0x100040, 1, 0, 1, 0, true⟩
def GV_HIDX_SLICE : Fld := ⟨GV_HIDX, 0, 12, .rw, 0, []⟩
def GV_HIDX_DIR : Fld := ⟨GV_HIDX, 12, 1, .rw, 0, []⟩
def GV_HIDX_BUCKET : Fld := ⟨GV_HIDX, 16, 6, .rw, 0, []⟩
/-- GV_HDATA — Histogram data (offset 0x100044; spec/06_governor.md). -/
def GV_HDATA : Reg := ⟨0x100044, 1, 0, 1, 0, false⟩
def GV_HDATA_COUNT : Fld := ⟨GV_HDATA, 0, 32, .ros, 0, []⟩
/-- GV_MAN — Loops in Manual (offset 0x100048; spec/06_governor.md). -/
def GV_MAN : Reg := ⟨0x100048, 1, 0, 1, 0, false⟩
def GV_MAN_MANUAL : Fld := ⟨GV_MAN, 0, 13, .ros, 0, []⟩
def GV_MAN_FELL_BACK : Fld := ⟨GV_MAN, 16, 13, .ros, 0, []⟩
/-- GV_EVT — Governor events (offset 0x100050; spec/06_governor.md). -/
def GV_EVT : Reg := ⟨0x100050, 1, 0, 1, 0, false⟩
def GV_EVT_FALLBACK : Fld := ⟨GV_EVT, 0, 1, .w1c, 0, []⟩
def GV_EVT_RETURN_AUTO : Fld := ⟨GV_EVT, 1, 1, .w1c, 0, []⟩
def GV_EVT_SAT : Fld := ⟨GV_EVT, 2, 1, .w1c, 0, []⟩
def GV_EVT_OVERRUN : Fld := ⟨GV_EVT, 3, 1, .w1c, 0, []⟩
def GV_EVT_PROFILE_APPLIED : Fld := ⟨GV_EVT, 4, 1, .w1c, 0, []⟩
def GV_EVT_PRESET_CLEAR : Fld := ⟨GV_EVT, 5, 1, .w1c, 0, []⟩
/-- MD_ZCFG — Zone configuration (offset 0x140800; spec/07_zones.md). -/
def MD_ZCFG : Reg := ⟨0x140800, 1, 0, 1, 0, false⟩
def MD_ZCFG_DWELL_US : Fld := ⟨MD_ZCFG, 0, 17, .rw, 0, [(50, 100000)]⟩
def MD_ZCFG_LONG_MULT : Fld := ⟨MD_ZCFG, 20, 4, .rw, 8, [(1, 15)]⟩
def MD_ZCFG_HOLD_MAX : Fld := ⟨MD_ZCFG, 24, 8, .rw, 0x14, [(1, 255)]⟩
/-- MD_ZDL — Deadline hint floor (offset 0x140804; spec/07_zones.md). -/
def MD_ZDL : Reg := ⟨0x140804, 1, 0, 1, 0, false⟩
def MD_ZDL_DL_MIN_US : Fld := ⟨MD_ZDL, 0, 16, .rw, 0x32, []⟩
/-- MD_ZIDX — Zone Table index (offset 0x140810; spec/07_zones.md). -/
def MD_ZIDX : Reg := ⟨0x140810, 1, 0, 1, 0, true⟩
def MD_ZIDX_ENTRY : Fld := ⟨MD_ZIDX, 0, 19, .rw, 0, []⟩
def MD_ZIDX_WORD : Fld := ⟨MD_ZIDX, 20, 3, .rw, 0, []⟩
/-- MD_ZDATA — Zone Table data (offset 0x140814; spec/07_zones.md). -/
def MD_ZDATA : Reg := ⟨0x140814, 1, 0, 1, 0, false⟩
def MD_ZDATA_DATA : Fld := ⟨MD_ZDATA, 0, 32, .ros, 0, []⟩
/-- MD_ZSTS — Zone totals (offset 0x140818; spec/07_zones.md). -/
def MD_ZSTS : Reg := ⟨0x140818, 1, 0, 1, 0, false⟩
def MD_ZSTS_ACTIVE : Fld := ⟨MD_ZSTS, 0, 13, .ros, 0, []⟩
def MD_ZSTS_PARTIAL : Fld := ⟨MD_ZSTS, 16, 13, .ros, 0, []⟩
/-- MD_CONV — Conventional capacity (offset 0x14081C; spec/07_zones.md). -/
def MD_CONV : Reg := ⟨0x14081C, 1, 0, 1, 0, false⟩
def MD_CONV_CONV_GIB : Fld := ⟨MD_CONV, 0, 15, .ros, 0, []⟩
def MD_CONV_CONV_OP : Fld := ⟨MD_CONV, 16, 5, .ro, 0, []⟩
/-- MD_POOL_LO — Pool p crews 0–31 (offset 0x140820; spec/07_zones.md). -/
def MD_POOL_LO : Reg := ⟨0x140820, 1, 0, 8, 8, false⟩
def MD_POOL_LO_CREWS_LO : Fld := ⟨MD_POOL_LO, 0, 32, .ro, 0, []⟩
/-- MD_POOL_HI — Pool p crews 32–63 (offset 0x140824; spec/07_zones.md). -/
def MD_POOL_HI : Reg := ⟨0x140824, 1, 0, 8, 8, false⟩
def MD_POOL_HI_CREWS_HI : Fld := ⟨MD_POOL_HI, 0, 32, .ro, 0, []⟩
/-- MD_POOLFMT — Pool formats (offset 0x140860; spec/07_zones.md). -/
def MD_POOLFMT : Reg := ⟨0x140860, 1, 0, 1, 0, false⟩
def MD_POOLFMT_FMT_0 : Fld := ⟨MD_POOLFMT, 0, 2, .ro, 0, []⟩
def MD_POOLFMT_FMT_1 : Fld := ⟨MD_POOLFMT, 2, 2, .ro, 0, []⟩
def MD_POOLFMT_FMT_2 : Fld := ⟨MD_POOLFMT, 4, 2, .ro, 0, []⟩
def MD_POOLFMT_FMT_3 : Fld := ⟨MD_POOLFMT, 6, 2, .ro, 0, []⟩
def MD_POOLFMT_FMT_4 : Fld := ⟨MD_POOLFMT, 8, 2, .ro, 0, []⟩
def MD_POOLFMT_FMT_5 : Fld := ⟨MD_POOLFMT, 10, 2, .ro, 0, []⟩
def MD_POOLFMT_FMT_6 : Fld := ⟨MD_POOLFMT, 12, 2, .ro, 0, []⟩
def MD_POOLFMT_FMT_7 : Fld := ⟨MD_POOLFMT, 14, 2, .ro, 0, []⟩
/-- MD_POOLFREE — Pool p unreserved shells (offset 0x140880; spec/07_zones.md). -/
def MD_POOLFREE : Reg := ⟨0x140880, 1, 0, 8, 4, false⟩
def MD_POOLFREE_FREE_SHELLS : Fld := ⟨MD_POOLFREE, 0, 19, .ros, 0, []⟩
/-- MD_ZEVT — Zone events (offset 0x1408C0; spec/07_zones.md). -/
def MD_ZEVT : Reg := ⟨0x1408C0, 1, 0, 1, 0, false⟩
def MD_ZEVT_ZONE_RO : Fld := ⟨MD_ZEVT, 0, 1, .w1c, 0, []⟩
def MD_ZEVT_NS_NOSPACE : Fld := ⟨MD_ZEVT, 1, 1, .w1c, 0, []⟩
def MD_ZEVT_PID_INVALID : Fld := ⟨MD_ZEVT, 2, 1, .w1c, 0, []⟩
def MD_ZEVT_HOLD_SPILL : Fld := ⟨MD_ZEVT, 3, 1, .w1c, 0, []⟩
/-- SH_CFG — Shell configuration (offset 0x120000; spec/08_shells_readaround.md). -/
def SH_CFG : Reg := ⟨0x120000, 1, 0, 1, 0, false⟩
def SH_CFG_RA_BUSY_EN : Fld := ⟨SH_CFG, 0, 1, .rw, 1, []⟩
def SH_CFG_MM_BUDGET_US : Fld := ⟨SH_CFG, 8, 16, .rw, 0x1388, [(100, 65535)]⟩
/-- SH_FMTPERM — Permitted formats (offset 0x120004; spec/08_shells_readaround.md). -/
def SH_FMTPERM : Reg := ⟨0x120004, 1, 0, 1, 0, false⟩
def SH_FMTPERM_SPRINT : Fld := ⟨SH_FMTPERM, 0, 1, .ro, 0, []⟩
def SH_FMTPERM_CRUISE : Fld := ⟨SH_FMTPERM, 1, 1, .ro, 0, []⟩
def SH_FMTPERM_HAUL : Fld := ⟨SH_FMTPERM, 2, 1, .ro, 0, []⟩
/-- SH_FORCE — Forced read-around (offset 0x120010; spec/08_shells_readaround.md). -/
def SH_FORCE : Reg := ⟨0x120010, 1, 0, 1, 0, false⟩
def SH_FORCE_CREW : Fld := ⟨SH_FORCE, 0, 6, .rw, 0, []⟩
def SH_FORCE_SEAT : Fld := ⟨SH_FORCE, 8, 5, .rw, 0, []⟩
def SH_FORCE_EN : Fld := ⟨SH_FORCE, 16, 1, .rw, 0, []⟩
def SH_FORCE_ACTIVE : Fld := ⟨SH_FORCE, 17, 1, .ro, 0, []⟩
/-- SH_CIDX — Crew statistics index (offset 0x120020; spec/08_shells_readaround.md). -/
def SH_CIDX : Reg := ⟨0x120020, 1, 0, 1, 0, true⟩
def SH_CIDX_CREW : Fld := ⟨SH_CIDX, 0, 6, .rw, 0, []⟩
def SH_CIDX_WORD : Fld := ⟨SH_CIDX, 8, 4, .rw, 0, []⟩
/-- SH_CDATA — Crew statistics data (offset 0x120024; spec/08_shells_readaround.md). -/
def SH_CDATA : Reg := ⟨0x120024, 1, 0, 1, 0, false⟩
def SH_CDATA_DATA : Fld := ⟨SH_CDATA, 0, 32, .ros, 0, []⟩
/-- SH_PE_STS — Parity engine status (offset 0x120030; spec/08_shells_readaround.md). -/
def SH_PE_STS : Reg := ⟨0x120030, 1, 0, 1, 0, false⟩
def SH_PE_STS_PE_BUSY : Fld := ⟨SH_PE_STS, 0, 8, .ros, 0, []⟩
def SH_PE_STS_RECON_ACTIVE : Fld := ⟨SH_PE_STS, 16, 16, .ros, 0, []⟩
/-- SH_CREW — Crew c state (offset 0x120100; spec/08_shells_readaround.md). -/
def SH_CREW : Reg := ⟨0x120100, 1, 0, 64, 4, false⟩
def SH_CREW_FORMAT : Fld := ⟨SH_CREW, 0, 2, .ro, 0, []⟩
def SH_CREW_STATE : Fld := ⟨SH_CREW, 2, 3, .ro, 0, []⟩
def SH_CREW_BUSY_BUDGET : Fld := ⟨SH_CREW, 8, 2, .rw, 1, []⟩
def SH_CREW_EFF_BUDGET : Fld := ⟨SH_CREW, 10, 2, .ro, 0, []⟩
def SH_CREW_POOL : Fld := ⟨SH_CREW, 16, 3, .ro, 0, []⟩
def SH_CREW_IN_POOL : Fld := ⟨SH_CREW, 19, 1, .ro, 0, []⟩
/-- SH_FAILMAP — Crew c failed seats (offset 0x120200; spec/08_shells_readaround.md). -/
def SH_FAILMAP : Reg := ⟨0x120200, 1, 0, 64, 4, false⟩
def SH_FAILMAP_FAILED : Fld := ⟨SH_FAILMAP, 0, 32, .ro, 0, []⟩
/-- SH_BUSYMAP — Crew c busy seats (offset 0x120300; spec/08_shells_readaround.md). -/
def SH_BUSYMAP : Reg := ⟨0x120300, 1, 0, 64, 4, false⟩
def SH_BUSYMAP_BUSY : Fld := ⟨SH_BUSYMAP, 0, 32, .ros, 0, []⟩
/-- SH_EVT — Shell events (offset 0x120040; spec/08_shells_readaround.md). -/
def SH_EVT : Reg := ⟨0x120040, 1, 0, 1, 0, false⟩
def SH_EVT_SEAT_FAILED : Fld := ⟨SH_EVT, 0, 1, .w1c, 0, []⟩
def SH_EVT_CREW_DEGRADED : Fld := ⟨SH_EVT, 1, 1, .w1c, 0, []⟩
def SH_EVT_CREW_RETIRED : Fld := ⟨SH_EVT, 2, 1, .w1c, 0, []⟩
def SH_EVT_SHELL_SHORT : Fld := ⟨SH_EVT, 3, 1, .w1c, 0, []⟩
def SH_EVT_RA_WAIT : Fld := ⟨SH_EVT, 4, 1, .w1c, 0, []⟩
def SH_EVT_RA_UNRECOV : Fld := ⟨SH_EVT, 5, 1, .w1c, 0, []⟩
def SH_EVT_CREW_EXCLUDED : Fld := ⟨SH_EVT, 6, 1, .w1c, 0, []⟩
def SH_EVT_FMT_KEEP : Fld := ⟨SH_EVT, 7, 1, .w1c, 0, []⟩
def SH_EVT_FORCE_REFUSED : Fld := ⟨SH_EVT, 8, 1, .w1c, 0, []⟩
/-- MD_LIDX — Ledger index (offset 0x140000; spec/09_media_management.md). -/
def MD_LIDX : Reg := ⟨0x140000, 1, 0, 1, 0, true⟩
def MD_LIDX_ENTRY : Fld := ⟨MD_LIDX, 0, 24, .rw, 0, []⟩
def MD_LIDX_WORD : Fld := ⟨MD_LIDX, 24, 2, .rw, 0, []⟩
/-- MD_LDATA — Ledger data (offset 0x140004; spec/09_media_management.md). -/
def MD_LDATA : Reg := ⟨0x140004, 1, 0, 1, 0, false⟩
def MD_LDATA_DATA : Fld := ⟨MD_LDATA, 0, 32, .ros, 0, []⟩
/-- MD_SIDX — Shell Table index (offset 0x140008; spec/09_media_management.md). -/
def MD_SIDX : Reg := ⟨0x140008, 1, 0, 1, 0, true⟩
def MD_SIDX_SHELL : Fld := ⟨MD_SIDX, 0, 19, .rw, 0, []⟩
def MD_SIDX_WORD : Fld := ⟨MD_SIDX, 20, 2, .rw, 0, []⟩
/-- MD_SDATA — Shell Table data (offset 0x14000C; spec/09_media_management.md). -/
def MD_SDATA : Reg := ⟨0x14000C, 1, 0, 1, 0, false⟩
def MD_SDATA_DATA : Fld := ⟨MD_SDATA, 0, 32, .ros, 0, []⟩
/-- MD_MP_TARGET — Millpond target (offset 0x140010; spec/09_media_management.md). -/
def MD_MP_TARGET : Reg := ⟨0x140010, 1, 0, 1, 0, false⟩
def MD_MP_TARGET_TARGET_MIB : Fld := ⟨MD_MP_TARGET, 0, 25, .ros, 0, []⟩
/-- MD_MP_HELD — Millpond held (offset 0x140014; spec/09_media_management.md). -/
def MD_MP_HELD : Reg := ⟨0x140014, 1, 0, 1, 0, false⟩
def MD_MP_HELD_HELD_MIB : Fld := ⟨MD_MP_HELD, 0, 25, .ros, 0, []⟩
/-- MD_MP_WEIR — Weir level (offset 0x140018; spec/09_media_management.md). -/
def MD_MP_WEIR : Reg := ⟨0x140018, 1, 0, 1, 0, false⟩
def MD_MP_WEIR_WEIR_MIB : Fld := ⟨MD_MP_WEIR, 0, 25, .ros, 0, []⟩
/-- MD_MP_STS — Millpond status (offset 0x14001C; spec/09_media_management.md). -/
def MD_MP_STS : Reg := ⟨0x14001C, 1, 0, 1, 0, false⟩
def MD_MP_STS_SHELLS : Fld := ⟨MD_MP_STS, 0, 16, .ros, 0, []⟩
def MD_MP_STS_IDLE : Fld := ⟨MD_MP_STS, 16, 1, .ro, 0, []⟩
def MD_MP_STS_BG_DRAIN : Fld := ⟨MD_MP_STS, 17, 1, .ro, 0, []⟩
def MD_MP_STS_FG_DRAIN : Fld := ⟨MD_MP_STS, 18, 1, .ro, 0, []⟩
/-- MD_FILL — Fill (offset 0x140020; spec/09_media_management.md). -/
def MD_FILL : Reg := ⟨0x140020, 1, 0, 1, 0, false⟩
def MD_FILL_FILL : Fld := ⟨MD_FILL, 0, 17, .ros, 0, []⟩
/-- MD_MP_CFG — Millpond configuration (offset 0x140024; spec/09_media_management.md). -/
def MD_MP_CFG : Reg := ⟨0x140024, 1, 0, 1, 0, false⟩
def MD_MP_CFG_WEIR_PCT : Fld := ⟨MD_MP_CFG, 0, 6, .rw, 0xA, [(1, 50)]⟩
def MD_MP_CFG_MP_PCT : Fld := ⟨MD_MP_CFG, 8, 7, .ro, 0, []⟩
def MD_MP_CFG_IDLE_MBPS : Fld := ⟨MD_MP_CFG, 16, 16, .rw, 0, [(1, 65535)]⟩
/-- MD_GC_CFG — Reclamation and wear (offset 0x140028; spec/09_media_management.md). -/
def MD_GC_CFG : Reg := ⟨0x140028, 1, 0, 1, 0, false⟩
def MD_GC_CFG_GC_START : Fld := ⟨MD_GC_CFG, 0, 6, .rw, 3, []⟩
def MD_GC_CFG_GC_STOP : Fld := ⟨MD_GC_CFG, 8, 7, .rw, 6, []⟩
def MD_GC_CFG_WEAR_GAP : Fld := ⟨MD_GC_CFG, 16, 12, .rw, 0x96, [(16, 4095)]⟩
/-- MD_RELOC — Relocation (offset 0x14002C; spec/09_media_management.md). -/
def MD_RELOC : Reg := ⟨0x14002C, 1, 0, 1, 0, false⟩
def MD_RELOC_RELOC_MAX : Fld := ⟨MD_RELOC, 0, 6, .rw, 0x10, [(1, 32)]⟩
def MD_RELOC_ACTIVE : Fld := ⟨MD_RELOC, 8, 6, .ros, 0, []⟩
def MD_RELOC_QUEUED : Fld := ⟨MD_RELOC, 16, 16, .ros, 0, []⟩
/-- MD_LOG_STS — Logbook status (offset 0x140030; spec/09_media_management.md). -/
def MD_LOG_STS : Reg := ⟨0x140030, 1, 0, 1, 0, false⟩
def MD_LOG_STS_LOG_SHELLS : Fld := ⟨MD_LOG_STS, 0, 9, .ro, 0, []⟩
def MD_LOG_STS_LOG_FREE : Fld := ⟨MD_LOG_STS, 9, 9, .ros, 0, []⟩
def MD_LOG_STS_STALL : Fld := ⟨MD_LOG_STS, 18, 1, .ro, 0, []⟩
/-- MD_LOG_SEQ_LO — Logbook sequence, low (offset 0x140034; spec/09_media_management.md). -/
def MD_LOG_SEQ_LO : Reg := ⟨0x140034, 1, 0, 1, 0, false⟩
def MD_LOG_SEQ_LO_SEQ_LO : Fld := ⟨MD_LOG_SEQ_LO, 0, 32, .ros, 0, []⟩
/-- MD_LOG_SEQ_HI — Logbook sequence, high (offset 0x140038; spec/09_media_management.md). -/
def MD_LOG_SEQ_HI : Reg := ⟨0x140038, 1, 0, 1, 0, false⟩
def MD_LOG_SEQ_HI_SEQ_HI : Fld := ⟨MD_LOG_SEQ_HI, 0, 32, .ros, 0, []⟩
/-- MD_TALLY — Tally (offset 0x14003C; spec/09_media_management.md). -/
def MD_TALLY : Reg := ⟨0x14003C, 1, 0, 1, 0, false⟩
def MD_TALLY_TALLY_MBPS : Fld := ⟨MD_TALLY, 0, 13, .rw, 0x190, [(50, 4000)]⟩
def MD_TALLY_LAP_S : Fld := ⟨MD_TALLY, 16, 16, .ros, 0, []⟩
/-- MD_REBUILD — Load progress (offset 0x140040; spec/09_media_management.md). -/
def MD_REBUILD : Reg := ⟨0x140040, 1, 0, 1, 0, false⟩
def MD_REBUILD_STEP : Fld := ⟨MD_REBUILD, 0, 4, .ro, 0, []⟩
def MD_REBUILD_UNCLEAN : Fld := ⟨MD_REBUILD, 4, 1, .ro, 0, []⟩
def MD_REBUILD_ELAPSED_MS : Fld := ⟨MD_REBUILD, 16, 16, .ros, 0, []⟩
/-- MD_CLOCK — Ledger clock (offset 0x140044; spec/09_media_management.md). -/
def MD_CLOCK : Reg := ⟨0x140044, 1, 0, 1, 0, false⟩
def MD_CLOCK_MINUTES : Fld := ⟨MD_CLOCK, 0, 32, .ros, 0, []⟩
/-- MD_RO_STS — Spare check status (offset 0x140048; spec/09_media_management.md). -/
def MD_RO_STS : Reg := ⟨0x140048, 1, 0, 1, 0, false⟩
def MD_RO_STS_POOL_SHORT : Fld := ⟨MD_RO_STS, 0, 8, .ro, 0, []⟩
def MD_RO_STS_LOG_SHORT : Fld := ⟨MD_RO_STS, 8, 1, .ro, 0, []⟩
/-- MD_SPARE — Crew c spares (offset 0x140100; spec/09_media_management.md). -/
def MD_SPARE : Reg := ⟨0x140100, 1, 0, 64, 4, false⟩
def MD_SPARE_SHELLS : Fld := ⟨MD_SPARE, 0, 13, .ro, 0, []⟩
def MD_SPARE_MIN_SPARE : Fld := ⟨MD_SPARE, 16, 10, .ros, 0, []⟩
/-- MD_SRET — Crew c retired shells (offset 0x140200; spec/09_media_management.md). -/
def MD_SRET : Reg := ⟨0x140200, 1, 0, 64, 4, false⟩
def MD_SRET_RETIRED : Fld := ⟨MD_SRET, 0, 13, .ros, 0, []⟩
/-- MD_EVT — Media events (offset 0x140050; spec/09_media_management.md). -/
def MD_EVT : Reg := ⟨0x140050, 1, 0, 1, 0, false⟩
def MD_EVT_BLOCK_BAD : Fld := ⟨MD_EVT, 0, 1, .w1c, 0, []⟩
def MD_EVT_SHELL_RETIRED : Fld := ⟨MD_EVT, 1, 1, .w1c, 0, []⟩
def MD_EVT_READ_ONLY : Fld := ⟨MD_EVT, 2, 1, .w1c, 0, []⟩
def MD_EVT_FG_DRAIN : Fld := ⟨MD_EVT, 3, 1, .w1c, 0, []⟩
def MD_EVT_LOG_STALL : Fld := ⟨MD_EVT, 4, 1, .w1c, 0, []⟩
def MD_EVT_RELOC_ABANDON : Fld := ⟨MD_EVT, 5, 1, .w1c, 0, []⟩
def MD_EVT_ORPHANS : Fld := ⟨MD_EVT, 6, 1, .w1c, 0, []⟩
def MD_EVT_TORN : Fld := ⟨MD_EVT, 7, 1, .w1c, 0, []⟩
def MD_EVT_POOL_LOW : Fld := ⟨MD_EVT, 8, 1, .w1c, 0, []⟩
def MD_EVT_TALLY_FALLBACK : Fld := ⟨MD_EVT, 9, 1, .w1c, 0, []⟩
/-- LN_CFG — Lane configuration (offset 0x200000; spec/10_lanes_dies.md). -/
def LN_CFG : Reg := ⟨0x200000, 32, 65536, 1, 0, false⟩
def LN_CFG_DIV_TARGET : Fld := ⟨LN_CFG, 0, 8, .rw, 0, [(16, 128)]⟩
def LN_CFG_AUTO_RT : Fld := ⟨LN_CFG, 8, 1, .rw, 1, []⟩
def LN_CFG_RT_DELTA : Fld := ⟨LN_CFG, 16, 5, .rw, 0x14, [(5, 31)]⟩
def LN_CFG_TEMP_MS : Fld := ⟨LN_CFG, 24, 8, .rw, 1, [(1, 100)]⟩
/-- LN_CTL — Lane control (offset 0x200004; spec/10_lanes_dies.md). -/
def LN_CTL : Reg := ⟨0x200004, 32, 65536, 1, 0, false⟩
def LN_CTL_RETRAIN : Fld := ⟨LN_CTL, 0, 1, .wo, 0, []⟩
/-- LN_STS — Lane status (offset 0x200008; spec/10_lanes_dies.md). -/
def LN_STS : Reg := ⟨0x200008, 32, 65536, 1, 0, false⟩
def LN_STS_IFACE : Fld := ⟨LN_STS, 0, 2, .ro, 0, []⟩
def LN_STS_LSTATE : Fld := ⟨LN_STS, 2, 3, .ro, 0, []⟩
def LN_STS_PACER : Fld := ⟨LN_STS, 5, 1, .ro, 0, []⟩
def LN_STS_LOCKED : Fld := ⟨LN_STS, 6, 1, .ro, 0, []⟩
def LN_STS_DIV_CUR : Fld := ⟨LN_STS, 8, 8, .ro, 0x80, []⟩
def LN_STS_DIV_MIN : Fld := ⟨LN_STS, 16, 8, .ro, 0x10, []⟩
/-- LN_STROKE — Stroke Plan slot (offset 0x20000C; spec/10_lanes_dies.md). -/
def LN_STROKE : Reg := ⟨0x20000C, 32, 65536, 1, 0, false⟩
def LN_STROKE_SLOT_OFF : Fld := ⟨LN_STROKE, 0, 11, .ro, 0, []⟩
def LN_STROKE_SLOT_LEN : Fld := ⟨LN_STROKE, 16, 12, .ro, 0, []⟩
/-- LN_EASY — Easy interval (offset 0x200010; spec/10_lanes_dies.md). -/
def LN_EASY : Reg := ⟨0x200010, 32, 65536, 1, 0, false⟩
def LN_EASY_EASY : Fld := ⟨LN_EASY, 0, 20, .ro, 0, []⟩
/-- LN_RT_STS — Retrain status (offset 0x200014; spec/10_lanes_dies.md). -/
def LN_RT_STS : Reg := ⟨0x200014, 32, 65536, 1, 0, false⟩
def LN_RT_STS_RESULT : Fld := ⟨LN_RT_STS, 0, 2, .ro, 0, []⟩
def LN_RT_STS_PENDING : Fld := ⟨LN_RT_STS, 2, 1, .ro, 0, []⟩
def LN_RT_STS_ACTIVE : Fld := ⟨LN_RT_STS, 3, 1, .ro, 0, []⟩
def LN_RT_STS_DURATION_US : Fld := ⟨LN_RT_STS, 16, 16, .ros, 0, []⟩
/-- LN_RT_CNT — Retrain counts (offset 0x200018; spec/10_lanes_dies.md). -/
def LN_RT_CNT : Reg := ⟨0x200018, 32, 65536, 1, 0, false⟩
def LN_RT_CNT_RETRAINS : Fld := ⟨LN_RT_CNT, 0, 16, .ros, 0, []⟩
def LN_RT_CNT_REFUSALS : Fld := ⟨LN_RT_CNT, 16, 16, .ros, 0, []⟩
/-- LN_DIDX — Die index (offset 0x200020; spec/10_lanes_dies.md). -/
def LN_DIDX : Reg := ⟨0x200020, 32, 65536, 1, 0, true⟩
def LN_DIDX_DIE : Fld := ⟨LN_DIDX, 0, 6, .rw, 0, []⟩
def LN_DIDX_WORD : Fld := ⟨LN_DIDX, 8, 3, .rw, 0, []⟩
/-- LN_DDATA — Die data (offset 0x200024; spec/10_lanes_dies.md). -/
def LN_DDATA : Reg := ⟨0x200024, 32, 65536, 1, 0, false⟩
def LN_DDATA_DATA : Fld := ⟨LN_DDATA, 0, 32, .ros, 0, []⟩
/-- LN_CIDX — Calibration index (offset 0x200028; spec/10_lanes_dies.md). -/
def LN_CIDX : Reg := ⟨0x200028, 32, 65536, 1, 0, true⟩
def LN_CIDX_TARGET : Fld := ⟨LN_CIDX, 0, 3, .rw, 0, []⟩
def LN_CIDX_WORD : Fld := ⟨LN_CIDX, 8, 4, .rw, 0, []⟩
/-- LN_CDATA — Calibration data (offset 0x20002C; spec/10_lanes_dies.md). -/
def LN_CDATA : Reg := ⟨0x20002C, 32, 65536, 1, 0, false⟩
def LN_CDATA_DATA : Fld := ⟨LN_CDATA, 0, 32, .ros, 0, []⟩
/-- LN_OPS — Recipe count (offset 0x200030; spec/10_lanes_dies.md). -/
def LN_OPS : Reg := ⟨0x200030, 32, 65536, 1, 0, false⟩
def LN_OPS_RECIPES : Fld := ⟨LN_OPS, 0, 32, .ros, 0, []⟩
/-- LN_FAULTS — Fault counts (offset 0x200034; spec/10_lanes_dies.md). -/
def LN_FAULTS : Reg := ⟨0x200034, 32, 65536, 1, 0, false⟩
def LN_FAULTS_NORESP : Fld := ⟨LN_FAULTS, 0, 16, .ros, 0, []⟩
def LN_FAULTS_ORDER_FAULTS : Fld := ⟨LN_FAULTS, 16, 16, .ros, 0, []⟩
/-- LN_EVT — Lane events (offset 0x200040; spec/10_lanes_dies.md). -/
def LN_EVT : Reg := ⟨0x200040, 32, 65536, 1, 0, false⟩
def LN_EVT_DIE_NORESP : Fld := ⟨LN_EVT, 0, 1, .w1c, 0, []⟩
def LN_EVT_DIE_FAILED : Fld := ⟨LN_EVT, 1, 1, .w1c, 0, []⟩
def LN_EVT_UNMATCHED : Fld := ⟨LN_EVT, 2, 1, .w1c, 0, []⟩
def LN_EVT_ORDER_FAULT : Fld := ⟨LN_EVT, 3, 1, .w1c, 0, []⟩
def LN_EVT_RT_DONE : Fld := ⟨LN_EVT, 4, 1, .w1c, 0, []⟩
def LN_EVT_RT_PARTIAL : Fld := ⟨LN_EVT, 5, 1, .w1c, 0, []⟩
def LN_EVT_RT_REFUSED : Fld := ⟨LN_EVT, 6, 1, .w1c, 0, []⟩
def LN_EVT_LANE_FAULT : Fld := ⟨LN_EVT, 7, 1, .w1c, 0, []⟩
def LN_EVT_LANE_RECOVERED : Fld := ⟨LN_EVT, 8, 1, .w1c, 0, []⟩
/-- DC_CFG — Decoder configuration (offset 0x400000; spec/11_ldpc_read_recovery.md). -/
def DC_CFG : Reg := ⟨0x400000, 32, 8192, 1, 0, false⟩
def DC_CFG_SOFT_EN : Fld := ⟨DC_CFG, 0, 1, .rw, 1, []⟩
def DC_CFG_REFRESH_STEP : Fld := ⟨DC_CFG, 4, 4, .rw, 2, []⟩
def DC_CFG_REFRESH_SOFT : Fld := ⟨DC_CFG, 8, 1, .rw, 1, []⟩
def DC_CFG_REFRESH_BITS : Fld := ⟨DC_CFG, 16, 10, .rw, 0x78, []⟩
/-- DC_CODE — Code assignment (offset 0x400004; spec/11_ldpc_read_recovery.md). -/
def DC_CODE : Reg := ⟨0x400004, 32, 8192, 1, 0, false⟩
def DC_CODE_CODE_SLC : Fld := ⟨DC_CODE, 0, 2, .ro, 0, []⟩
def DC_CODE_CODE_QB0 : Fld := ⟨DC_CODE, 2, 2, .ro, 0, []⟩
def DC_CODE_CODE_QB1 : Fld := ⟨DC_CODE, 4, 2, .ro, 0, []⟩
def DC_CODE_CODE_QB2 : Fld := ⟨DC_CODE, 6, 2, .ro, 0, []⟩
def DC_CODE_CODE_QB3 : Fld := ⟨DC_CODE, 8, 2, .ro, 0, []⟩
/-- DC_STS — Tile status (offset 0x400008; spec/11_ldpc_read_recovery.md). -/
def DC_STS : Reg := ⟨0x400008, 32, 8192, 1, 0, false⟩
def DC_STS_QDEPTH : Fld := ⟨DC_STS, 0, 10, .ros, 0, []⟩
def DC_STS_IN_RECOVERY : Fld := ⟨DC_STS, 16, 8, .ros, 0, []⟩
/-- DC_CNT_T1 — Decodes by tier (offset 0x400010; spec/11_ldpc_read_recovery.md). -/
def DC_CNT_T1 : Reg := ⟨0x400010, 32, 8192, 1, 0, false⟩
def DC_CNT_T1_COUNT : Fld := ⟨DC_CNT_T1, 0, 32, .ros, 0, []⟩
/-- DC_CNT_T2 — Decodes by tier (offset 0x400014; spec/11_ldpc_read_recovery.md). -/
def DC_CNT_T2 : Reg := ⟨0x400014, 32, 8192, 1, 0, false⟩
def DC_CNT_T2_COUNT : Fld := ⟨DC_CNT_T2, 0, 32, .ros, 0, []⟩
/-- DC_CNT_T3 — Decodes by tier (offset 0x400018; spec/11_ldpc_read_recovery.md). -/
def DC_CNT_T3 : Reg := ⟨0x400018, 32, 8192, 1, 0, false⟩
def DC_CNT_T3_COUNT : Fld := ⟨DC_CNT_T3, 0, 32, .ros, 0, []⟩
/-- DC_CNT_RETRY — Retry reads (offset 0x40001C; spec/11_ldpc_read_recovery.md). -/
def DC_CNT_RETRY : Reg := ⟨0x40001C, 32, 8192, 1, 0, false⟩
def DC_CNT_RETRY_COUNT : Fld := ⟨DC_CNT_RETRY, 0, 32, .ros, 0, []⟩
/-- DC_CNT_FAIL — Failures (offset 0x400020; spec/11_ldpc_read_recovery.md). -/
def DC_CNT_FAIL : Reg := ⟨0x400020, 32, 8192, 1, 0, false⟩
def DC_CNT_FAIL_UNCORR : Fld := ⟨DC_CNT_FAIL, 0, 16, .ros, 0, []⟩
def DC_CNT_FAIL_MISDIRECT : Fld := ⟨DC_CNT_FAIL, 16, 16, .ros, 0, []⟩
/-- DC_CNT_CRC — CRC rejections (offset 0x400024; spec/11_ldpc_read_recovery.md). -/
def DC_CNT_CRC : Reg := ⟨0x400024, 32, 8192, 1, 0, false⟩
def DC_CNT_CRC_CRC_REJECTS : Fld := ⟨DC_CNT_CRC, 0, 16, .ros, 0, []⟩
/-- DC_BITS_LO — Corrected bits, low (offset 0x400028; spec/11_ldpc_read_recovery.md). -/
def DC_BITS_LO : Reg := ⟨0x400028, 32, 8192, 1, 0, false⟩
def DC_BITS_LO_BITS_LO : Fld := ⟨DC_BITS_LO, 0, 32, .ros, 0, []⟩
/-- DC_BITS_HI — Corrected bits, high (offset 0x40002C; spec/11_ldpc_read_recovery.md). -/
def DC_BITS_HI : Reg := ⟨0x40002C, 32, 8192, 1, 0, false⟩
def DC_BITS_HI_BITS_HI : Fld := ⟨DC_BITS_HI, 0, 32, .ros, 0, []⟩
/-- DC_PATROL — Patrol status (offset 0x400040; spec/11_ldpc_read_recovery.md). -/
def DC_PATROL : Reg := ⟨0x400040, 32, 8192, 1, 0, false⟩
def DC_PATROL_LAP_H : Fld := ⟨DC_PATROL, 0, 16, .ros, 0, []⟩
def DC_PATROL_MARKED : Fld := ⟨DC_PATROL, 16, 16, .ros, 0, []⟩
/-- DC_ST_CTL — Self-test control (offset 0x400050; spec/11_ldpc_read_recovery.md). -/
def DC_ST_CTL : Reg := ⟨0x400050, 32, 8192, 1, 0, false⟩
def DC_ST_CTL_START : Fld := ⟨DC_ST_CTL, 0, 1, .wo, 0, []⟩
def DC_ST_CTL_TIER : Fld := ⟨DC_ST_CTL, 1, 2, .rw, 1, [(1, 3)]⟩
def DC_ST_CTL_CODE : Fld := ⟨DC_ST_CTL, 3, 2, .rw, 0, []⟩
def DC_ST_CTL_ERRORS : Fld := ⟨DC_ST_CTL, 8, 8, .rw, 0, []⟩
def DC_ST_CTL_COUNT : Fld := ⟨DC_ST_CTL, 16, 16, .rw, 1, [(1, 65535)]⟩
/-- DC_ST_STS — Self-test status (offset 0x400054; spec/11_ldpc_read_recovery.md). -/
def DC_ST_STS : Reg := ⟨0x400054, 32, 8192, 1, 0, false⟩
def DC_ST_STS_RESULT : Fld := ⟨DC_ST_STS, 0, 2, .ro, 0, []⟩
def DC_ST_STS_ACTIVE : Fld := ⟨DC_ST_STS, 2, 1, .ro, 0, []⟩
def DC_ST_STS_FAILS : Fld := ⟨DC_ST_STS, 16, 16, .ros, 0, []⟩
/-- DC_ST_SEED — Self-test seed (offset 0x400058; spec/11_ldpc_read_recovery.md). -/
def DC_ST_SEED : Reg := ⟨0x400058, 32, 8192, 1, 0, false⟩
def DC_ST_SEED_SEED : Fld := ⟨DC_ST_SEED, 0, 32, .rw, 1, [(1, 4294967295)]⟩
/-- DC_ST_SIG — Self-test signature (offset 0x40005C; spec/11_ldpc_read_recovery.md). -/
def DC_ST_SIG : Reg := ⟨0x40005C, 32, 8192, 1, 0, false⟩
def DC_ST_SIG_SIG : Fld := ⟨DC_ST_SIG, 0, 32, .ro, 0, []⟩
/-- DC_EVT — Decoder events (offset 0x400060; spec/11_ldpc_read_recovery.md). -/
def DC_EVT : Reg := ⟨0x400060, 32, 8192, 1, 0, false⟩
def DC_EVT_UNCORR : Fld := ⟨DC_EVT, 0, 1, .w1c, 0, []⟩
def DC_EVT_CRC_REJECT : Fld := ⟨DC_EVT, 1, 1, .w1c, 0, []⟩
def DC_EVT_SOFT_USED : Fld := ⟨DC_EVT, 2, 1, .w1c, 0, []⟩
def DC_EVT_MISDIRECT : Fld := ⟨DC_EVT, 3, 1, .w1c, 0, []⟩
def DC_EVT_ST_DONE : Fld := ⟨DC_EVT, 4, 1, .w1c, 0, []⟩
def DC_EVT_ST_REFUSED : Fld := ⟨DC_EVT, 5, 1, .w1c, 0, []⟩
def DC_EVT_CODE_KEEP : Fld := ⟨DC_EVT, 6, 1, .w1c, 0, []⟩
/-- DR_GCFG — Global configuration (offset 0x480000; spec/12_dram.md). -/
def DR_GCFG : Reg := ⟨0x480000, 1, 0, 1, 0, false⟩
def DR_GCFG_WIDTH : Fld := ⟨DR_GCFG, 0, 2, .ro, 0, []⟩
def DR_GCFG_GRAIN_EXP : Fld := ⟨DR_GCFG, 4, 4, .ro, 0, []⟩
def DR_GCFG_DENSITY : Fld := ⟨DR_GCFG, 8, 1, .ro, 0, []⟩
def DR_GCFG_RANKS : Fld := ⟨DR_GCFG, 9, 1, .ro, 0, []⟩
def DR_GCFG_RATE : Fld := ⟨DR_GCFG, 10, 2, .ro, 0, []⟩
def DR_GCFG_CAP_GIB : Fld := ⟨DR_GCFG, 16, 8, .ro, 0, []⟩
/-- DR_VRCNT — Valid regions (offset 0x480004; spec/12_dram.md). -/
def DR_VRCNT : Reg := ⟨0x480004, 1, 0, 1, 0, false⟩
def DR_VRCNT_VALID_REGIONS : Fld := ⟨DR_VRCNT, 0, 26, .ros, 0, []⟩
/-- DR_RTCFG — Retrain windows (offset 0x480008; spec/12_dram.md). -/
def DR_RTCFG : Reg := ⟨0x480008, 1, 0, 1, 0, false⟩
def DR_RTCFG_RT_PERIOD_MS : Fld := ⟨DR_RTCFG, 0, 10, .rw, 0x20, [(1, 1000)]⟩
def DR_RTCFG_RT_EN : Fld := ⟨DR_RTCFG, 16, 1, .rw, 1, []⟩
/-- DR_STS — Channel status (offset 0x480010; spec/12_dram.md). -/
def DR_STS : Reg := ⟨0x480010, 4, 65536, 1, 0, false⟩
def DR_STS_CSTATE : Fld := ⟨DR_STS, 0, 3, .ro, 0, []⟩
def DR_STS_MARK_VALID : Fld := ⟨DR_STS, 3, 1, .ro, 0, []⟩
def DR_STS_MARK_DEV : Fld := ⟨DR_STS, 4, 4, .ro, 0, []⟩
def DR_STS_RT_LAST_NS : Fld := ⟨DR_STS, 16, 16, .ros, 0, []⟩
/-- DR_AGE — Age limits (offset 0x480014; spec/12_dram.md). -/
def DR_AGE : Reg := ⟨0x480014, 4, 65536, 1, 0, false⟩
def DR_AGE_AGE_0 : Fld := ⟨DR_AGE, 0, 8, .rw, 0x14, [(1, 255)]⟩
def DR_AGE_AGE_1 : Fld := ⟨DR_AGE, 8, 8, .rw, 0x14, [(1, 255)]⟩
def DR_AGE_AGE_2 : Fld := ⟨DR_AGE, 16, 8, .rw, 0x14, [(1, 255)]⟩
def DR_AGE_AGE_3 : Fld := ⟨DR_AGE, 24, 8, .rw, 0x14, [(1, 255)]⟩
/-- DR_ECC — Error counts (offset 0x480018; spec/12_dram.md). -/
def DR_ECC : Reg := ⟨0x480018, 4, 65536, 1, 0, false⟩
def DR_ECC_CORRECTED : Fld := ⟨DR_ECC, 0, 16, .ros, 0, []⟩
def DR_ECC_UNCORR : Fld := ⟨DR_ECC, 16, 16, .ros, 0, []⟩
/-- DR_DEVCE — Device counts, devices 2k and 2k + 1 (offset 0x480020; spec/12_dram.md). -/
def DR_DEVCE : Reg := ⟨0x480020, 4, 65536, 5, 4, false⟩
def DR_DEVCE_CE_EVEN : Fld := ⟨DR_DEVCE, 0, 16, .ros, 0, []⟩
def DR_DEVCE_CE_ODD : Fld := ⟨DR_DEVCE, 16, 16, .ros, 0, []⟩
/-- DR_MARK — Device marking (offset 0x480034; spec/12_dram.md). -/
def DR_MARK : Reg := ⟨0x480034, 4, 65536, 1, 0, false⟩
def DR_MARK_DEV : Fld := ⟨DR_MARK, 0, 4, .rw, 0, [(0, 9)]⟩
def DR_MARK_MARK : Fld := ⟨DR_MARK, 4, 1, .wo, 0, []⟩
def DR_MARK_CLEAR : Fld := ⟨DR_MARK, 5, 1, .wo, 0, []⟩
def DR_MARK_MARK_THR : Fld := ⟨DR_MARK, 16, 16, .rw, 0x40, []⟩
/-- DR_RMIDX — Remap index (offset 0x480040; spec/12_dram.md). -/
def DR_RMIDX : Reg := ⟨0x480040, 4, 65536, 1, 0, true⟩
def DR_RMIDX_ENTRY : Fld := ⟨DR_RMIDX, 0, 4, .rw, 0, []⟩
def DR_RMIDX_WORD : Fld := ⟨DR_RMIDX, 4, 1, .rw, 0, []⟩
/-- DR_RMDATA — Remap data (offset 0x480044; spec/12_dram.md). -/
def DR_RMDATA : Reg := ⟨0x480044, 4, 65536, 1, 0, false⟩
def DR_RMDATA_DATA : Fld := ⟨DR_RMDATA, 0, 32, .rw, 0, []⟩
/-- DR_RMCMD — Remap command (offset 0x480048; spec/12_dram.md). -/
def DR_RMCMD : Reg := ⟨0x480048, 4, 65536, 1, 0, false⟩
def DR_RMCMD_CMD : Fld := ⟨DR_RMCMD, 0, 2, .wo, 0, []⟩
def DR_RMCMD_RESULT : Fld := ⟨DR_RMCMD, 4, 2, .ro, 0, []⟩
/-- DR_SCR_START — Scrub start (offset 0x480050; spec/12_dram.md). -/
def DR_SCR_START : Reg := ⟨0x480050, 1, 0, 1, 0, false⟩
def DR_SCR_START_SCR_START : Fld := ⟨DR_SCR_START, 0, 25, .rw, 0, []⟩
/-- DR_SCR_LEN — Scrub length (offset 0x480054; spec/12_dram.md). -/
def DR_SCR_LEN : Reg := ⟨0x480054, 1, 0, 1, 0, false⟩
def DR_SCR_LEN_SCR_LEN : Fld := ⟨DR_SCR_LEN, 0, 26, .rw, 0, [(1, 33554432)]⟩
/-- DR_SCR_CTL — Scrub control (offset 0x480058; spec/12_dram.md). -/
def DR_SCR_CTL : Reg := ⟨0x480058, 1, 0, 1, 0, false⟩
def DR_SCR_CTL_START : Fld := ⟨DR_SCR_CTL, 0, 1, .wo, 0, []⟩
def DR_SCR_CTL_STOP : Fld := ⟨DR_SCR_CTL, 1, 1, .wo, 0, []⟩
def DR_SCR_CTL_ACTIVE : Fld := ⟨DR_SCR_CTL, 2, 1, .ro, 0, []⟩
def DR_SCR_CTL_PAUSED : Fld := ⟨DR_SCR_CTL, 3, 1, .ro, 0, []⟩
def DR_SCR_CTL_SCR_MBPS : Fld := ⟨DR_SCR_CTL, 16, 16, .rw, 0x3E8, [(100, 25600)]⟩
/-- DR_SCR_SUM0 — Scrub summary (offset 0x48005C; spec/12_dram.md). -/
def DR_SCR_SUM0 : Reg := ⟨0x48005C, 1, 0, 1, 0, false⟩
def DR_SCR_SUM0_CORRECTED : Fld := ⟨DR_SCR_SUM0, 0, 16, .ros, 0, []⟩
def DR_SCR_SUM0_UNCORR : Fld := ⟨DR_SCR_SUM0, 16, 16, .ros, 0, []⟩
/-- DR_SCR_SUM1 — Scrub summary (offset 0x480060; spec/12_dram.md). -/
def DR_SCR_SUM1 : Reg := ⟨0x480060, 1, 0, 1, 0, false⟩
def DR_SCR_SUM1_CANDIDATES : Fld := ⟨DR_SCR_SUM1, 0, 8, .ros, 0, []⟩
def DR_SCR_SUM1_POISONED : Fld := ⟨DR_SCR_SUM1, 8, 8, .ros, 0, []⟩
def DR_SCR_SUM1_SKIPPED_K : Fld := ⟨DR_SCR_SUM1, 16, 16, .ros, 0, []⟩
/-- DR_SCR_FAIL_LO — First failing address (offset 0x480064; spec/12_dram.md). -/
def DR_SCR_FAIL_LO : Reg := ⟨0x480064, 1, 0, 1, 0, false⟩
def DR_SCR_FAIL_LO_FAIL_LO : Fld := ⟨DR_SCR_FAIL_LO, 0, 32, .ros, 0xFFFFFFFF, []⟩
/-- DR_SCR_FAIL_HI — First failing address (offset 0x480068; spec/12_dram.md). -/
def DR_SCR_FAIL_HI : Reg := ⟨0x480068, 1, 0, 1, 0, false⟩
def DR_SCR_FAIL_HI_FAIL_HI : Fld := ⟨DR_SCR_FAIL_HI, 0, 32, .ros, 0xFFFFFFFF, []⟩
/-- DR_PATROL — Patrol laps (offset 0x48006C; spec/12_dram.md). -/
def DR_PATROL : Reg := ⟨0x48006C, 1, 0, 1, 0, false⟩
def DR_PATROL_LAP_MS : Fld := ⟨DR_PATROL, 0, 24, .ros, 0, []⟩
def DR_PATROL_LAPS : Fld := ⟨DR_PATROL, 24, 8, .ros, 0, []⟩
/-- DR_TRN_CTL — Training run (offset 0x480070; spec/12_dram.md). -/
def DR_TRN_CTL : Reg := ⟨0x480070, 4, 65536, 1, 0, false⟩
def DR_TRN_CTL_START : Fld := ⟨DR_TRN_CTL, 0, 1, .wo, 0, []⟩
def DR_TRN_CTL_PATTERN : Fld := ⟨DR_TRN_CTL, 1, 2, .rw, 0, [(0, 2)]⟩
def DR_TRN_CTL_DIR : Fld := ⟨DR_TRN_CTL, 3, 1, .rw, 0, []⟩
def DR_TRN_CTL_ACTIVE : Fld := ⟨DR_TRN_CTL, 4, 1, .ro, 0, []⟩
def DR_TRN_CTL_BURSTS : Fld := ⟨DR_TRN_CTL, 16, 16, .rw, 0, []⟩
/-- DR_TRN_WORD — Pattern word (offset 0x480074; spec/12_dram.md). -/
def DR_TRN_WORD : Reg := ⟨0x480074, 4, 65536, 1, 0, false⟩
def DR_TRN_WORD_WORD : Fld := ⟨DR_TRN_WORD, 0, 32, .rw, 0, []⟩
/-- DR_TRN_EIDX — Comparator errors (offset 0x480078; spec/12_dram.md). -/
def DR_TRN_EIDX : Reg := ⟨0x480078, 4, 65536, 1, 0, true⟩
def DR_TRN_EIDX_DQ : Fld := ⟨DR_TRN_EIDX, 0, 7, .rw, 0, []⟩
/-- DR_TRN_EDATA — Comparator errors (offset 0x48007C; spec/12_dram.md). -/
def DR_TRN_EDATA : Reg := ⟨0x48007C, 4, 65536, 1, 0, false⟩
def DR_TRN_EDATA_ERRORS : Fld := ⟨DR_TRN_EDATA, 0, 32, .ros, 0, []⟩
/-- DR_CIDX — Delay and reference words (offset 0x480080; spec/12_dram.md). -/
def DR_CIDX : Reg := ⟨0x480080, 4, 65536, 1, 0, true⟩
def DR_CIDX_DQ : Fld := ⟨DR_CIDX, 0, 7, .rw, 0, []⟩
/-- DR_CDATA — Delay and reference words (offset 0x480084; spec/12_dram.md). -/
def DR_CDATA : Reg := ⟨0x480084, 4, 65536, 1, 0, false⟩
def DR_CDATA_DATA : Fld := ⟨DR_CDATA, 0, 32, .rw, 0, []⟩
/-- DR_LB_ADDR — Line buffer address (offset 0x480090; spec/12_dram.md). -/
def DR_LB_ADDR : Reg := ⟨0x480090, 1, 0, 1, 0, false⟩
def DR_LB_ADDR_LINE : Fld := ⟨DR_LB_ADDR, 0, 30, .rw, 0, []⟩
/-- DR_LB_IDX — Line buffer (offset 0x480094; spec/12_dram.md). -/
def DR_LB_IDX : Reg := ⟨0x480094, 1, 0, 1, 0, true⟩
def DR_LB_IDX_WORD : Fld := ⟨DR_LB_IDX, 0, 6, .rw, 0, []⟩
/-- DR_LB_DATA — Line buffer (offset 0x480098; spec/12_dram.md). -/
def DR_LB_DATA : Reg := ⟨0x480098, 1, 0, 1, 0, false⟩
def DR_LB_DATA_DATA : Fld := ⟨DR_LB_DATA, 0, 32, .rw, 0, []⟩
/-- DR_LB_CMD — Line buffer command (offset 0x48009C; spec/12_dram.md). -/
def DR_LB_CMD : Reg := ⟨0x48009C, 1, 0, 1, 0, false⟩
def DR_LB_CMD_CMD : Fld := ⟨DR_LB_CMD, 0, 3, .wo, 0, []⟩
def DR_LB_CMD_RESULT : Fld := ⟨DR_LB_CMD, 4, 2, .ro, 0, []⟩
/-- DR_EVT — DRAM events (offset 0x4800A0; spec/12_dram.md). -/
def DR_EVT : Reg := ⟨0x4800A0, 4, 65536, 1, 0, false⟩
def DR_EVT_CORRECTED : Fld := ⟨DR_EVT, 0, 1, .w1c, 0, []⟩
def DR_EVT_UNCORR : Fld := ⟨DR_EVT, 1, 1, .w1c, 0, []⟩
def DR_EVT_POISON_USED : Fld := ⟨DR_EVT, 2, 1, .w1c, 0, []⟩
def DR_EVT_POISON_RMW : Fld := ⟨DR_EVT, 3, 1, .w1c, 0, []⟩
def DR_EVT_DEV_MARKED : Fld := ⟨DR_EVT, 4, 1, .w1c, 0, []⟩
def DR_EVT_MARK_REFUSED : Fld := ⟨DR_EVT, 5, 1, .w1c, 0, []⟩
def DR_EVT_TRAIN_FAIL : Fld := ⟨DR_EVT, 6, 1, .w1c, 0, []⟩
def DR_EVT_REMAP_FULL : Fld := ⟨DR_EVT, 7, 1, .w1c, 0, []⟩
def DR_EVT_SCRUB_DONE : Fld := ⟨DR_EVT, 8, 1, .w1c, 0, []⟩
def DR_EVT_CANDIDATE : Fld := ⟨DR_EVT, 9, 1, .w1c, 0, []⟩
/-- CK_SEL — Selection status (offset 0x30000; spec/13_clocks_timing.md). -/
def CK_SEL : Reg := ⟨0x30000, 1, 0, 1, 0, false⟩
def CK_SEL_SELECTED : Fld := ⟨CK_SEL, 0, 4, .ro, 0xF, []⟩
def CK_SEL_HOLDOVER : Fld := ⟨CK_SEL, 4, 1, .ro, 0, []⟩
def CK_SEL_TB_PACER : Fld := ⟨CK_SEL, 5, 1, .ro, 0, []⟩
def CK_SEL_LOCK_LANE : Fld := ⟨CK_SEL, 6, 1, .ro, 0, []⟩
def CK_SEL_LOCK_DRAM : Fld := ⟨CK_SEL, 7, 1, .ro, 0, []⟩
def CK_SEL_LOCK_SERDES : Fld := ⟨CK_SEL, 8, 2, .ro, 0, []⟩
/-- CK_LIVE — Source status (offset 0x30004; spec/13_clocks_timing.md). -/
def CK_LIVE : Reg := ⟨0x30004, 1, 0, 1, 0, false⟩
def CK_LIVE_LIVE : Fld := ⟨CK_LIVE, 0, 10, .ro, 0, []⟩
def CK_LIVE_FIRED : Fld := ⟨CK_LIVE, 16, 10, .ro, 0, []⟩
/-- CK_PRIO0 — Priorities, sources 0 to 7 (offset 0x30008; spec/13_clocks_timing.md). -/
def CK_PRIO0 : Reg := ⟨0x30008, 1, 0, 1, 0, false⟩
def CK_PRIO0_PRIO_0 : Fld := ⟨CK_PRIO0, 0, 4, .rw, 0, []⟩
def CK_PRIO0_PRIO_1 : Fld := ⟨CK_PRIO0, 4, 4, .rw, 1, []⟩
def CK_PRIO0_PRIO_2 : Fld := ⟨CK_PRIO0, 8, 4, .rw, 2, []⟩
def CK_PRIO0_PRIO_3 : Fld := ⟨CK_PRIO0, 12, 4, .rw, 3, []⟩
def CK_PRIO0_PRIO_4 : Fld := ⟨CK_PRIO0, 16, 4, .rw, 4, []⟩
def CK_PRIO0_PRIO_5 : Fld := ⟨CK_PRIO0, 20, 4, .rw, 5, []⟩
def CK_PRIO0_PRIO_6 : Fld := ⟨CK_PRIO0, 24, 4, .rw, 6, []⟩
def CK_PRIO0_PRIO_7 : Fld := ⟨CK_PRIO0, 28, 4, .rw, 7, []⟩
/-- CK_PRIO1 — Priorities, sources 8 and 9 (offset 0x3000C; spec/13_clocks_timing.md). -/
def CK_PRIO1 : Reg := ⟨0x3000C, 1, 0, 1, 0, false⟩
def CK_PRIO1_PRIO_8 : Fld := ⟨CK_PRIO1, 0, 4, .rw, 8, []⟩
def CK_PRIO1_PRIO_9 : Fld := ⟨CK_PRIO1, 4, 4, .rw, 9, []⟩
/-- CK_CFG — Clock configuration (offset 0x30010; spec/13_clocks_timing.md). -/
def CK_CFG : Reg := ⟨0x30010, 1, 0, 1, 0, false⟩
def CK_CFG_REVERT : Fld := ⟨CK_CFG, 0, 1, .rw, 1, []⟩
def CK_CFG_REVERT_MS : Fld := ⟨CK_CFG, 4, 12, .rw, 0x3E8, [(1, 4095)]⟩
def CK_CFG_PACER_GUARD : Fld := ⟨CK_CFG, 16, 6, .rw, 8, [(4, 32)]⟩
def CK_CFG_PACER_CAL_S : Fld := ⟨CK_CFG, 24, 8, .rw, 1, [(1, 255)]⟩
/-- CK_CTL — Clock control (offset 0x30014; spec/13_clocks_timing.md). -/
def CK_CTL : Reg := ⟨0x30014, 1, 0, 1, 0, false⟩
def CK_CTL_SWITCH : Fld := ⟨CK_CTL, 0, 1, .wo, 0, []⟩
/-- CK_FREQ — Frequency check (offset 0x30018; spec/13_clocks_timing.md). -/
def CK_FREQ : Reg := ⟨0x30018, 1, 0, 1, 0, false⟩
def CK_FREQ_FREQ_BAD : Fld := ⟨CK_FREQ, 0, 10, .ro, 0, []⟩
/-- CK_TB_LO — Time Base, low (offset 0x30020; spec/13_clocks_timing.md). -/
def CK_TB_LO : Reg := ⟨0x30020, 1, 0, 1, 0, false⟩
def CK_TB_LO_TB_LO : Fld := ⟨CK_TB_LO, 0, 32, .ros, 0, []⟩
/-- CK_TB_HI — Time Base, high (offset 0x30024; spec/13_clocks_timing.md). -/
def CK_TB_HI : Reg := ⟨0x30024, 1, 0, 1, 0, false⟩
def CK_TB_HI_TB_HI : Fld := ⟨CK_TB_HI, 0, 32, .ros, 0, []⟩
/-- CK_STEP — Phase steps (offset 0x30028; spec/13_clocks_timing.md). -/
def CK_STEP : Reg := ⟨0x30028, 1, 0, 1, 0, false⟩
def CK_STEP_LAST_STEP : Fld := ⟨CK_STEP, 0, 5, .ro, 0, []⟩
def CK_STEP_SWITCHES : Fld := ⟨CK_STEP, 16, 16, .ros, 0, []⟩
/-- CK_HOLD — Holdover (offset 0x3002C; spec/13_clocks_timing.md). -/
def CK_HOLD : Reg := ⟨0x3002C, 1, 0, 1, 0, false⟩
def CK_HOLD_LAST_HOLD : Fld := ⟨CK_HOLD, 0, 16, .ros, 0, []⟩
def CK_HOLD_MAX_HOLD : Fld := ⟨CK_HOLD, 16, 16, .ros, 0, []⟩
/-- CK_CSI — Core Speed Index (offset 0x30030; spec/13_clocks_timing.md). -/
def CK_CSI : Reg := ⟨0x30030, 1, 0, 1, 0, false⟩
def CK_CSI_CSI : Fld := ⟨CK_CSI, 0, 12, .ros, 0x400, []⟩
def CK_CSI_CSI_STALE : Fld := ⟨CK_CSI, 12, 1, .ro, 1, []⟩
def CK_CSI_CSI_WARN : Fld := ⟨CK_CSI, 16, 12, .rw, 0x370, [(1, 4095)]⟩
/-- CK_PACER — Pacer status (offset 0x30034; spec/13_clocks_timing.md). -/
def CK_PACER : Reg := ⟨0x30034, 1, 0, 1, 0, false⟩
def CK_PACER_PACER_TPS : Fld := ⟨CK_PACER, 0, 16, .ros, 0x2E0, []⟩
def CK_PACER_CALIBRATED : Fld := ⟨CK_PACER, 16, 1, .ro, 0, []⟩
def CK_PACER_RUNNING : Fld := ⟨CK_PACER, 17, 1, .ro, 0, []⟩
def CK_PACER_LANES : Fld := ⟨CK_PACER, 18, 1, .ro, 0, []⟩
/-- CK_PACER_SPAN — Pacer span (offset 0x30038; spec/13_clocks_timing.md). -/
def CK_PACER_SPAN : Reg := ⟨0x30038, 1, 0, 1, 0, false⟩
def CK_PACER_SPAN_PACER_SPAN : Fld := ⟨CK_PACER_SPAN, 0, 32, .ros, 0, []⟩
/-- CK_EVT — Clock events (offset 0x30040; spec/13_clocks_timing.md). -/
def CK_EVT : Reg := ⟨0x30040, 1, 0, 1, 0, false⟩
def CK_EVT_REF_LOST : Fld := ⟨CK_EVT, 0, 1, .w1c, 0, []⟩
def CK_EVT_SWITCHED : Fld := ⟨CK_EVT, 1, 1, .w1c, 0, []⟩
def CK_EVT_HOLD_LONG : Fld := ⟨CK_EVT, 2, 1, .w1c, 0, []⟩
def CK_EVT_NO_REF : Fld := ⟨CK_EVT, 3, 1, .w1c, 0, []⟩
def CK_EVT_REF_BACK : Fld := ⟨CK_EVT, 4, 1, .w1c, 0, []⟩
def CK_EVT_FREQ_BAD : Fld := ⟨CK_EVT, 5, 1, .w1c, 0, []⟩
def CK_EVT_CSI_LOW : Fld := ⟨CK_EVT, 6, 1, .w1c, 0, []⟩
def CK_EVT_REF_WAIT : Fld := ⟨CK_EVT, 7, 1, .w1c, 0, []⟩
/-- TH_SNS — Sensor i (offset 0x40000; spec/14_power_thermal.md). -/
def TH_SNS : Reg := ⟨0x40000, 1, 0, 24, 4, false⟩
def TH_SNS_TEMP : Fld := ⟨TH_SNS, 0, 16, .ros, 0, []⟩
def TH_SNS_SUSPECT : Fld := ⟨TH_SNS, 16, 1, .ro, 0, []⟩
def TH_SNS_NOVALUE : Fld := ⟨TH_SNS, 17, 1, .ro, 0, []⟩
def TH_SNS_DEV_RUN : Fld := ⟨TH_SNS, 24, 8, .ros, 0, []⟩
/-- TH_SUM — Summary (offset 0x40080; spec/14_power_thermal.md). -/
def TH_SUM : Reg := ⟨0x40080, 1, 0, 1, 0, false⟩
def TH_SUM_HOT : Fld := ⟨TH_SUM, 0, 16, .ros, 0, []⟩
def TH_SUM_MEAN : Fld := ⟨TH_SUM, 16, 16, .ros, 0, []⟩
/-- TH_CFG — Thermal configuration (offset 0x40084; spec/14_power_thermal.md). -/
def TH_CFG : Reg := ⟨0x40084, 1, 0, 1, 0, false⟩
def TH_CFG_THERM_ON : Fld := ⟨TH_CFG, 0, 8, .rw, 0x64, []⟩
def TH_CFG_THERM_OFF : Fld := ⟨TH_CFG, 8, 8, .rw, 0x5F, []⟩
/-- TH_TRIP — Trip status (offset 0x40088; spec/14_power_thermal.md). -/
def TH_TRIP : Reg := ⟨0x40088, 1, 0, 1, 0, false⟩
def TH_TRIP_DISAGREE : Fld := ⟨TH_TRIP, 0, 8, .ro, 0, []⟩
def TH_TRIP_FIRED : Fld := ⟨TH_TRIP, 8, 8, .ro, 0, []⟩
def TH_TRIP_LATCH : Fld := ⟨TH_TRIP, 16, 1, .ro, 0, []⟩
/-- TH_REST — Thermal Rest progress (offset 0x4008C; spec/14_power_thermal.md). -/
def TH_REST : Reg := ⟨0x4008C, 1, 0, 1, 0, false⟩
def TH_REST_COOL_MS : Fld := ⟨TH_REST, 0, 11, .ros, 0, []⟩
def TH_REST_REST_S : Fld := ⟨TH_REST, 16, 16, .ros, 0, []⟩
/-- TH_EVT — Thermal events (offset 0x40090; spec/14_power_thermal.md). -/
def TH_EVT : Reg := ⟨0x40090, 1, 0, 1, 0, false⟩
def TH_EVT_SUSPECT : Fld := ⟨TH_EVT, 0, 1, .w1c, 0, []⟩
def TH_EVT_DISAGREE : Fld := ⟨TH_EVT, 1, 1, .w1c, 0, []⟩
def TH_EVT_THERM_LOW : Fld := ⟨TH_EVT, 2, 1, .w1c, 0, []⟩
def TH_EVT_OVER_TEMP : Fld := ⟨TH_EVT, 3, 1, .w1c, 0, []⟩
def TH_EVT_TRIP : Fld := ⟨TH_EVT, 4, 1, .w1c, 0, []⟩
def TH_EVT_REST_END : Fld := ⟨TH_EVT, 5, 1, .w1c, 0, []⟩
/-- PW_STS — Power status (offset 0x50000; spec/14_power_thermal.md). -/
def PW_STS : Reg := ⟨0x50000, 1, 0, 1, 0, false⟩
def PW_STS_HOLDUP_OK : Fld := ⟨PW_STS, 0, 1, .ro, 0, []⟩
def PW_STS_HOLDUP_EN : Fld := ⟨PW_STS, 1, 1, .ro, 0, []⟩
def PW_STS_ARMED : Fld := ⟨PW_STS, 2, 1, .ro, 0, []⟩
def PW_STS_HU_EXPOSED : Fld := ⟨PW_STS, 3, 1, .ro, 0, []⟩
def PW_STS_PWRGD : Fld := ⟨PW_STS, 4, 1, .ro, 0, []⟩
def PW_STS_VMON_LOW : Fld := ⟨PW_STS, 5, 1, .ro, 0, []⟩
def PW_STS_RESERVED_OK : Fld := ⟨PW_STS, 6, 1, .ro, 0, []⟩
/-- PW_HU_CFG — Hold-up configuration (offset 0x50004; spec/14_power_thermal.md). -/
def PW_HU_CFG : Reg := ⟨0x50004, 1, 0, 1, 0, false⟩
def PW_HU_CFG_HU_EN : Fld := ⟨PW_HU_CFG, 0, 1, .rw, 0, []⟩
def PW_HU_CFG_HU_ARM_MS : Fld := ⟨PW_HU_CFG, 8, 8, .rw, 0xA, [(1, 255)]⟩
def PW_HU_CFG_VMON_TRIP : Fld := ⟨PW_HU_CFG, 16, 10, .rw, 0, [(400, 950)]⟩
/-- PW_MON — Voltage monitor (offset 0x50008; spec/14_power_thermal.md). -/
def PW_MON : Reg := ⟨0x50008, 1, 0, 1, 0, false⟩
def PW_MON_VMON_MV : Fld := ⟨PW_MON, 0, 12, .ros, 0, []⟩
def PW_MON_VCORE_MV : Fld := ⟨PW_MON, 16, 12, .ros, 0, []⟩
/-- PW_ENV — Envelope (offset 0x5000C; spec/14_power_thermal.md). -/
def PW_ENV : Reg := ⟨0x5000C, 1, 0, 1, 0, false⟩
def PW_ENV_ENV_REQ : Fld := ⟨PW_ENV, 0, 2, .rw, 0, []⟩
def PW_ENV_ENV_ACTIVE : Fld := ⟨PW_ENV, 4, 2, .ro, 0, []⟩
def PW_ENV_PENDING : Fld := ⟨PW_ENV, 6, 1, .ro, 0, []⟩
def PW_ENV_VREQ_MV : Fld := ⟨PW_ENV, 16, 12, .ro, 0x2EE, []⟩
/-- PW_EST — Controller power (offset 0x50010; spec/14_power_thermal.md). -/
def PW_EST : Reg := ⟨0x50010, 1, 0, 1, 0, false⟩
def PW_EST_P_EST : Fld := ⟨PW_EST, 0, 16, .ros, 0, []⟩
def PW_EST_P_PEAK : Fld := ⟨PW_EST, 16, 16, .ros, 0, []⟩
/-- PW_DIE — Active dies (offset 0x50014; spec/14_power_thermal.md). -/
def PW_DIE : Reg := ⟨0x50014, 1, 0, 1, 0, false⟩
def PW_DIE_DIE_BUDGET : Fld := ⟨PW_DIE, 0, 12, .ro, 0x20, []⟩
def PW_DIE_DIE_ACTIVE : Fld := ⟨PW_DIE, 16, 12, .ros, 0, []⟩
/-- PW_DOM — Domains 32 × k to 32 × k + 31 (offset 0x50020; spec/14_power_thermal.md). -/
def PW_DOM : Reg := ⟨0x50020, 1, 0, 3, 4, false⟩
def PW_DOM_ON : Fld := ⟨PW_DOM, 0, 32, .ro, 0, []⟩
/-- PW_RET — Domains in Retain, 32 × k to 32 × k + 31 (offset 0x50030; spec/14_power_thermal.md). -/
def PW_RET : Reg := ⟨0x50030, 1, 0, 3, 4, false⟩
def PW_RET_RETAIN : Fld := ⟨PW_RET, 0, 32, .ro, 0, []⟩
/-- PW_FLUSH — Last flush (offset 0x5003C; spec/14_power_thermal.md). -/
def PW_FLUSH : Reg := ⟨0x5003C, 1, 0, 1, 0, false⟩
def PW_FLUSH_LAST_US : Fld := ⟨PW_FLUSH, 0, 16, .ro, 0, []⟩
def PW_FLUSH_KIND : Fld := ⟨PW_FLUSH, 16, 2, .ro, 0, []⟩
def PW_FLUSH_ON_PACER : Fld := ⟨PW_FLUSH, 18, 1, .ro, 0, []⟩
/-- PW_EVT — Power events (offset 0x50040; spec/14_power_thermal.md). -/
def PW_EVT : Reg := ⟨0x50040, 1, 0, 1, 0, false⟩
def PW_EVT_ARMED : Fld := ⟨PW_EVT, 0, 1, .w1c, 0, []⟩
def PW_EVT_DISARMED : Fld := ⟨PW_EVT, 1, 1, .w1c, 0, []⟩
def PW_EVT_ENV_APPLIED : Fld := ⟨PW_EVT, 2, 1, .w1c, 0, []⟩
def PW_EVT_VREQ_CHG : Fld := ⟨PW_EVT, 3, 1, .w1c, 0, []⟩
def PW_EVT_FLUSH_OVER : Fld := ⟨PW_EVT, 4, 1, .w1c, 0, []⟩
/-- FU_LIFE — Lifecycle (offset 0x10000; spec/15_boot_config_security.md). -/
def FU_LIFE : Reg := ⟨0x10000, 1, 0, 1, 0, false⟩
def FU_LIFE_STATE : Fld := ⟨FU_LIFE, 0, 3, .ro, 0, []⟩
def FU_LIFE_TRIAL_PEND : Fld := ⟨FU_LIFE, 3, 1, .ro, 0, []⟩
def FU_LIFE_RAW : Fld := ⟨FU_LIFE, 4, 4, .ro, 0, []⟩
/-- FU_ROLLBACK — Rollback counter (offset 0x10004; spec/15_boot_config_security.md). -/
def FU_ROLLBACK : Reg := ⟨0x10004, 1, 0, 1, 0, false⟩
def FU_ROLLBACK_COUNT : Fld := ⟨FU_ROLLBACK, 0, 8, .ro, 0, []⟩
/-- FU_LOCK — Locks (offset 0x10008; spec/15_boot_config_security.md). -/
def FU_LOCK : Reg := ⟨0x10008, 1, 0, 1, 0, false⟩
def FU_LOCK_DEBUG_LOCK : Fld := ⟨FU_LOCK, 0, 1, .ro, 0, []⟩
def FU_LOCK_JTAG_MODE : Fld := ⟨FU_LOCK, 1, 2, .ro, 0, []⟩
def FU_LOCK_SBADDR_LOCK : Fld := ⟨FU_LOCK, 3, 1, .ro, 0, []⟩
def FU_LOCK_FMT_FORBID : Fld := ⟨FU_LOCK, 4, 3, .ro, 0, []⟩
def FU_LOCK_DEBUG_OPEN : Fld := ⟨FU_LOCK, 8, 1, .ro, 0, []⟩
/-- FU_SBADDR — Sideband address (offset 0x1000C; spec/15_boot_config_security.md). -/
def FU_SBADDR : Reg := ⟨0x1000C, 1, 0, 1, 0, false⟩
def FU_SBADDR_SB_ADDR : Fld := ⟨FU_SBADDR, 0, 7, .rwf, 0x1D, []⟩
/-- FU_UID_LO — Serial (offset 0x10010; spec/15_boot_config_security.md). -/
def FU_UID_LO : Reg := ⟨0x10010, 1, 0, 1, 0, false⟩
def FU_UID_LO_UID_LO : Fld := ⟨FU_UID_LO, 0, 32, .ro, 0, []⟩
/-- FU_UID_HI — Serial (offset 0x10014; spec/15_boot_config_security.md). -/
def FU_UID_HI : Reg := ⟨0x10014, 1, 0, 1, 0, false⟩
def FU_UID_HI_UID_HI : Fld := ⟨FU_UID_HI, 0, 32, .ro, 0, []⟩
/-- FU_KHASH — Key hash word w (offset 0x10040; spec/15_boot_config_security.md). -/
def FU_KHASH : Reg := ⟨0x10040, 1, 0, 24, 4, false⟩
def FU_KHASH_HASH : Fld := ⟨FU_KHASH, 0, 32, .ro, 0, []⟩
/-- BT_STS — Boot status (offset 0x20000; spec/15_boot_config_security.md). -/
def BT_STS : Reg := ⟨0x20000, 1, 0, 1, 0, false⟩
def BT_STS_BANK_BOOTED : Fld := ⟨BT_STS, 0, 1, .ro, 0, []⟩
def BT_STS_PREFER : Fld := ⟨BT_STS, 1, 1, .ro, 0, []⟩
def BT_STS_FALLBACK : Fld := ⟨BT_STS, 2, 1, .ro, 0, []⟩
def BT_STS_IDL_BANK : Fld := ⟨BT_STS, 3, 1, .ro, 0, []⟩
def BT_STS_FETCH_ACTIVE : Fld := ⟨BT_STS, 4, 1, .ro, 0, []⟩
def BT_STS_FETCH_BANK : Fld := ⟨BT_STS, 5, 1, .ro, 0, []⟩
def BT_STS_SEAL_CAUSE : Fld := ⟨BT_STS, 8, 4, .ro, 0, []⟩
def BT_STS_STEP : Fld := ⟨BT_STS, 12, 4, .ro, 0, []⟩
/-- BT_VER — Versions (offset 0x20004; spec/15_boot_config_security.md). -/
def BT_VER : Reg := ⟨0x20004, 1, 0, 1, 0, false⟩
def BT_VER_FW_SVN : Fld := ⟨BT_VER, 0, 8, .ro, 0, []⟩
def BT_VER_IDL_MINOR_MAX : Fld := ⟨BT_VER, 8, 8, .ro, 0, []⟩
def BT_VER_IDL_MINOR : Fld := ⟨BT_VER, 16, 8, .ro, 0, []⟩
def BT_VER_IDL_MAJOR : Fld := ⟨BT_VER, 24, 4, .ro, 0, []⟩
/-- BT_FWVER — Firmware version, bank b (offset 0x20008; spec/15_boot_config_security.md). -/
def BT_FWVER : Reg := ⟨0x20008, 1, 0, 2, 4, false⟩
def BT_FWVER_VERSION : Fld := ⟨BT_FWVER, 0, 32, .ro, 0, []⟩
/-- BT_CFG — Boot configuration (offset 0x20010; spec/15_boot_config_security.md). -/
def BT_CFG : Reg := ⟨0x20010, 1, 0, 1, 0, false⟩
def BT_CFG_RB_AUTO : Fld := ⟨BT_CFG, 0, 1, .rw, 1, []⟩
/-- BT_NONCE — Nonce word w (offset 0x20020; spec/15_boot_config_security.md). -/
def BT_NONCE : Reg := ⟨0x20020, 1, 0, 8, 4, false⟩
def BT_NONCE_NONCE : Fld := ⟨BT_NONCE, 0, 32, .ros, 0, []⟩
/-- BT_TIDX — Token buffer (offset 0x20040; spec/15_boot_config_security.md). -/
def BT_TIDX : Reg := ⟨0x20040, 1, 0, 1, 0, true⟩
def BT_TIDX_WORD : Fld := ⟨BT_TIDX, 0, 13, .rw, 0, []⟩
/-- BT_TDATA — Token buffer (offset 0x20044; spec/15_boot_config_security.md). -/
def BT_TDATA : Reg := ⟨0x20044, 1, 0, 1, 0, false⟩
def BT_TDATA_DATA : Fld := ⟨BT_TDATA, 0, 32, .rw, 0, []⟩
/-- BT_TCMD — Token command (offset 0x20048; spec/15_boot_config_security.md). -/
def BT_TCMD : Reg := ⟨0x20048, 1, 0, 1, 0, false⟩
def BT_TCMD_CMD : Fld := ⟨BT_TCMD, 0, 1, .wo, 0, []⟩
def BT_TCMD_BUSY : Fld := ⟨BT_TCMD, 1, 1, .ro, 0, []⟩
def BT_TCMD_RESULT : Fld := ⟨BT_TCMD, 4, 3, .ro, 0, []⟩
/-- BT_NADDR — NOR address (offset 0x20050; spec/15_boot_config_security.md). -/
def BT_NADDR : Reg := ⟨0x20050, 1, 0, 1, 0, false⟩
def BT_NADDR_ADDR : Fld := ⟨BT_NADDR, 0, 26, .rw, 0, []⟩
/-- BT_NIDX — NOR buffer (offset 0x20054; spec/15_boot_config_security.md). -/
def BT_NIDX : Reg := ⟨0x20054, 1, 0, 1, 0, true⟩
def BT_NIDX_WORD : Fld := ⟨BT_NIDX, 0, 10, .rw, 0, []⟩
/-- BT_NDATA — NOR buffer (offset 0x20058; spec/15_boot_config_security.md). -/
def BT_NDATA : Reg := ⟨0x20058, 1, 0, 1, 0, false⟩
def BT_NDATA_DATA : Fld := ⟨BT_NDATA, 0, 32, .rw, 0, []⟩
/-- BT_NCMD — NOR command (offset 0x2005C; spec/15_boot_config_security.md). -/
def BT_NCMD : Reg := ⟨0x2005C, 1, 0, 1, 0, false⟩
def BT_NCMD_CMD : Fld := ⟨BT_NCMD, 0, 2, .wo, 0, []⟩
def BT_NCMD_BUSY : Fld := ⟨BT_NCMD, 2, 1, .ro, 0, []⟩
def BT_NCMD_RESULT : Fld := ⟨BT_NCMD, 4, 3, .ro, 0, []⟩
/-- BT_PSKIDX — PSK table (offset 0x20060; spec/15_boot_config_security.md). -/
def BT_PSKIDX : Reg := ⟨0x20060, 1, 0, 1, 0, true⟩
def BT_PSKIDX_ENTRY : Fld := ⟨BT_PSKIDX, 0, 12, .rw, 0, []⟩
def BT_PSKIDX_WORD : Fld := ⟨BT_PSKIDX, 16, 6, .rw, 0, []⟩
/-- BT_PSKDATA — PSK table (offset 0x20064; spec/15_boot_config_security.md). -/
def BT_PSKDATA : Reg := ⟨0x20064, 1, 0, 1, 0, false⟩
def BT_PSKDATA_DATA : Fld := ⟨BT_PSKDATA, 0, 32, .rw, 0, []⟩
/-- BT_PSKCMD — PSK command (offset 0x20068; spec/15_boot_config_security.md). -/
def BT_PSKCMD : Reg := ⟨0x20068, 1, 0, 1, 0, false⟩
def BT_PSKCMD_CMD : Fld := ⟨BT_PSKCMD, 0, 2, .wo, 0, []⟩
def BT_PSKCMD_RESULT : Fld := ⟨BT_PSKCMD, 4, 2, .ro, 0, []⟩
/-- BT_SAN — Sanitize status (offset 0x20070; spec/15_boot_config_security.md). -/
def BT_SAN : Reg := ⟨0x20070, 1, 0, 1, 0, false⟩
def BT_SAN_SSTAT : Fld := ⟨BT_SAN, 0, 2, .ro, 0, []⟩
def BT_SAN_ACTION : Fld := ⟨BT_SAN, 2, 3, .ro, 0, []⟩
def BT_SAN_AUSE : Fld := ⟨BT_SAN, 5, 1, .ro, 0, []⟩
def BT_SAN_SPROG : Fld := ⟨BT_SAN, 16, 16, .ros, 0, []⟩
/-- BT_EVT — Boot and security events (offset 0x20080; spec/15_boot_config_security.md). -/
def BT_EVT : Reg := ⟨0x20080, 1, 0, 1, 0, false⟩
def BT_EVT_IMAGE_FAIL : Fld := ⟨BT_EVT, 0, 1, .w1c, 0, []⟩
def BT_EVT_FALLBACK : Fld := ⟨BT_EVT, 1, 1, .w1c, 0, []⟩
def BT_EVT_IDL_FAIL : Fld := ⟨BT_EVT, 2, 1, .w1c, 0, []⟩
def BT_EVT_SEALED : Fld := ⟨BT_EVT, 3, 1, .w1c, 0, []⟩
def BT_EVT_TOKEN_OK : Fld := ⟨BT_EVT, 4, 1, .w1c, 0, []⟩
def BT_EVT_TOKEN_REFUSED : Fld := ⟨BT_EVT, 5, 1, .w1c, 0, []⟩
def BT_EVT_FETCH_BANK : Fld := ⟨BT_EVT, 6, 1, .w1c, 0, []⟩
def BT_EVT_FW_COMMIT : Fld := ⟨BT_EVT, 7, 1, .w1c, 0, []⟩
def BT_EVT_RB_RAISED : Fld := ⟨BT_EVT, 8, 1, .w1c, 0, []⟩
def BT_EVT_SANITIZE_DONE : Fld := ⟨BT_EVT, 9, 1, .w1c, 0, []⟩
def BT_EVT_SANITIZE_FAIL : Fld := ⟨BT_EVT, 10, 1, .w1c, 0, []⟩
def BT_EVT_DEBUG_OPEN : Fld := ⟨BT_EVT, 11, 1, .w1c, 0, []⟩
/-- CR_ENG — Engine groups (offset 0x500000; spec/15_boot_config_security.md). -/
def CR_ENG : Reg := ⟨0x500000, 1, 0, 1, 0, false⟩
def CR_ENG_ON : Fld := ⟨CR_ENG, 0, 4, .ro, 0, []⟩
def CR_ENG_LOAD : Fld := ⟨CR_ENG, 16, 8, .ros, 0, []⟩
/-- CR_KEYS — Key slots (offset 0x500004; spec/15_boot_config_security.md). -/
def CR_KEYS : Reg := ⟨0x500004, 1, 0, 1, 0, false⟩
def CR_KEYS_USED : Fld := ⟨CR_KEYS, 0, 14, .ros, 0, []⟩
def CR_KEYS_NS_KEYS : Fld := ⟨CR_KEYS, 16, 14, .ros, 0, []⟩
/-- CR_RNG — Random generator (offset 0x500008; spec/15_boot_config_security.md). -/
def CR_RNG : Reg := ⟨0x500008, 1, 0, 1, 0, false⟩
def CR_RNG_READY : Fld := ⟨CR_RNG, 0, 1, .ro, 0, []⟩
def CR_RNG_TEST_FAIL : Fld := ⟨CR_RNG, 1, 1, .ro, 0, []⟩
def CR_RNG_RESEEDS : Fld := ⟨CR_RNG, 16, 16, .ros, 0, []⟩
/-- CR_BLK_LO — Blocks processed (offset 0x500010; spec/15_boot_config_security.md). -/
def CR_BLK_LO : Reg := ⟨0x500010, 1, 0, 1, 0, false⟩
def CR_BLK_LO_BLK_LO : Fld := ⟨CR_BLK_LO, 0, 32, .ros, 0, []⟩
/-- CR_BLK_HI — Blocks processed (offset 0x500014; spec/15_boot_config_security.md). -/
def CR_BLK_HI : Reg := ⟨0x500014, 1, 0, 1, 0, false⟩
def CR_BLK_HI_BLK_HI : Fld := ⟨CR_BLK_HI, 0, 32, .ros, 0, []⟩
/-- CR_KSIDX — Key slot index (offset 0x500020; spec/15_boot_config_security.md). -/
def CR_KSIDX : Reg := ⟨0x500020, 1, 0, 1, 0, true⟩
def CR_KSIDX_SLOT : Fld := ⟨CR_KSIDX, 0, 13, .rw, 0, []⟩
def CR_KSIDX_WORD : Fld := ⟨CR_KSIDX, 16, 1, .rw, 0, []⟩
/-- CR_KSDATA — Key slot descriptor (offset 0x500024; spec/15_boot_config_security.md). -/
def CR_KSDATA : Reg := ⟨0x500024, 1, 0, 1, 0, false⟩
def CR_KSDATA_DATA : Fld := ⟨CR_KSDATA, 0, 32, .ros, 0, []⟩
/-- GL_SRAM_STS — On-chip SRAM status (offset 0x100; spec/16_single_faults.md). -/
def GL_SRAM_STS : Reg := ⟨0x100, 1, 0, 1, 0, false⟩
def GL_SRAM_STS_CORRECTED : Fld := ⟨GL_SRAM_STS, 0, 16, .ros, 0, []⟩
def GL_SRAM_STS_SPARES_USED : Fld := ⟨GL_SRAM_STS, 16, 8, .ros, 0, []⟩
def GL_SRAM_STS_SPARES_MIN : Fld := ⟨GL_SRAM_STS, 24, 4, .ro, 8, []⟩
/-- GL_CP_STS — Control processors (offset 0x104; spec/16_single_faults.md). -/
def GL_CP_STS : Reg := ⟨0x104, 1, 0, 1, 0, false⟩
def GL_CP_STS_CP_OK : Fld := ⟨GL_CP_STS, 0, 12, .ro, 0xFFF, []⟩
def GL_CP_STS_LAST_CP : Fld := ⟨GL_CP_STS, 12, 4, .ro, 0, []⟩
def GL_CP_STS_TAKEOVERS : Fld := ⟨GL_CP_STS, 16, 8, .ros, 0, []⟩
def GL_CP_STS_CAUSE : Fld := ⟨GL_CP_STS, 24, 1, .ro, 0, []⟩
/-- GL_FLT_EVT — Fault events (offset 0x108; spec/16_single_faults.md). -/
def GL_FLT_EVT : Reg := ⟨0x108, 1, 0, 1, 0, false⟩
def GL_FLT_EVT_SRAM_CORR : Fld := ⟨GL_FLT_EVT, 0, 1, .w1c, 0, []⟩
def GL_FLT_EVT_SRAM_SPARE : Fld := ⟨GL_FLT_EVT, 1, 1, .w1c, 0, []⟩
def GL_FLT_EVT_SRAM_NOSPARE : Fld := ⟨GL_FLT_EVT, 2, 1, .w1c, 0, []⟩
def GL_FLT_EVT_SRAM_UNCORR : Fld := ⟨GL_FLT_EVT, 3, 1, .w1c, 0, []⟩
def GL_FLT_EVT_CP_FAULT : Fld := ⟨GL_FLT_EVT, 4, 1, .w1c, 0, []⟩
def GL_FLT_EVT_CP_MOVED : Fld := ⟨GL_FLT_EVT, 5, 1, .w1c, 0, []⟩
/-- GL_ID — Identity (offset 0x0; spec/17_register_map.md). -/
def GL_ID : Reg := ⟨0x0, 1, 0, 1, 0, false⟩
def GL_ID_PART : Fld := ⟨GL_ID, 0, 16, .ro, 0x1024, []⟩
def GL_ID_STEP_NUM : Fld := ⟨GL_ID, 16, 4, .ro, 0, []⟩
def GL_ID_STEP_LETTER : Fld := ⟨GL_ID, 20, 4, .ro, 1, []⟩
def GL_ID_FAMILY : Fld := ⟨GL_ID, 24, 8, .ro, 0x51, []⟩
/-- GL_MODE — Mode (offset 0x8; spec/17_register_map.md). -/
def GL_MODE : Reg := ⟨0x8, 1, 0, 1, 0, false⟩
def GL_MODE_MODE : Fld := ⟨GL_MODE, 0, 4, .ro, 1, []⟩
def GL_MODE_PREV : Fld := ⟨GL_MODE, 4, 4, .ro, 0, []⟩
def GL_MODE_TRIGGER : Fld := ⟨GL_MODE, 8, 8, .ro, 1, []⟩
def GL_MODE_CHANGES : Fld := ⟨GL_MODE, 16, 16, .ros, 0, []⟩
/-- GL_EVT — Global events (offset 0x10; spec/17_register_map.md). -/
def GL_EVT : Reg := ⟨0x10, 1, 0, 1, 0, false⟩
def GL_EVT_MODE_CHG : Fld := ⟨GL_EVT, 0, 1, .w1c, 0, []⟩
def GL_EVT_ACCESS_FAULT : Fld := ⟨GL_EVT, 1, 1, .w1c, 0, []⟩
def GL_EVT_INVALID_ENC : Fld := ⟨GL_EVT, 2, 1, .w1c, 0, []⟩
def GL_EVT_LOG_WRAP : Fld := ⟨GL_EVT, 3, 1, .w1c, 0, []⟩
def GL_EVT_TRIG_IGNORED : Fld := ⟨GL_EVT, 4, 1, .w1c, 0, []⟩
/-- GL_EVT_SUM — Event summary (offset 0x14; spec/17_register_map.md). -/
def GL_EVT_SUM : Reg := ⟨0x14, 1, 0, 1, 0, false⟩
def GL_EVT_SUM_SRC : Fld := ⟨GL_EVT_SUM, 0, 18, .ro, 0, []⟩
/-- GL_EVT_EN — Alert enables (offset 0x18; spec/17_register_map.md). -/
def GL_EVT_EN : Reg := ⟨0x18, 1, 0, 1, 0, false⟩
def GL_EVT_EN_EN : Fld := ⟨GL_EVT_EN, 0, 18, .rw, 0x3FFFF, []⟩
/-- GL_LANE_SUM — Per-lane summaries (offset 0x1C; spec/17_register_map.md). -/
def GL_LANE_SUM : Reg := ⟨0x1C, 1, 0, 1, 0, false⟩
def GL_LANE_SUM_LANE : Fld := ⟨GL_LANE_SUM, 0, 32, .ro, 0, []⟩
/-- GL_DEC_SUM — Per-lane summaries (offset 0x20; spec/17_register_map.md). -/
def GL_DEC_SUM : Reg := ⟨0x20, 1, 0, 1, 0, false⟩
def GL_DEC_SUM_LANE : Fld := ⟨GL_DEC_SUM, 0, 32, .ro, 0, []⟩
/-- GL_UNIT_SUM — Other instance summaries (offset 0x24; spec/17_register_map.md). -/
def GL_UNIT_SUM : Reg := ⟨0x24, 1, 0, 1, 0, false⟩
def GL_UNIT_SUM_DRAM : Fld := ⟨GL_UNIT_SUM, 0, 4, .ro, 0, []⟩
def GL_UNIT_SUM_PORT : Fld := ⟨GL_UNIT_SUM, 4, 2, .ro, 0, []⟩
/-- GL_ELHEAD — Event Log head (offset 0x30; spec/17_register_map.md). -/
def GL_ELHEAD : Reg := ⟨0x30, 1, 0, 1, 0, false⟩
def GL_ELHEAD_NEXT : Fld := ⟨GL_ELHEAD, 0, 12, .ros, 0, []⟩
def GL_ELHEAD_WRAPS : Fld := ⟨GL_ELHEAD, 16, 16, .ros, 0, []⟩
/-- GL_ELSEQ — Event sequence (offset 0x34; spec/17_register_map.md). -/
def GL_ELSEQ : Reg := ⟨0x34, 1, 0, 1, 0, false⟩
def GL_ELSEQ_SEQ : Fld := ⟨GL_ELSEQ, 0, 32, .ros, 0, []⟩
/-- GL_ELIDX — Event Log port (offset 0x38; spec/17_register_map.md). -/
def GL_ELIDX : Reg := ⟨0x38, 1, 0, 1, 0, true⟩
def GL_ELIDX_ENTRY : Fld := ⟨GL_ELIDX, 0, 12, .rw, 0, []⟩
def GL_ELIDX_WORD : Fld := ⟨GL_ELIDX, 12, 3, .rw, 0, []⟩
/-- GL_ELDATA — Event Log port (offset 0x3C; spec/17_register_map.md). -/
def GL_ELDATA : Reg := ⟨0x3C, 1, 0, 1, 0, false⟩
def GL_ELDATA_DATA : Fld := ⟨GL_ELDATA, 0, 32, .ros, 0, []⟩
/-- GL_ACC — Access counts (offset 0x40; spec/17_register_map.md). -/
def GL_ACC : Reg := ⟨0x40, 1, 0, 1, 0, false⟩
def GL_ACC_ACCESS_FAULTS : Fld := ⟨GL_ACC, 0, 16, .ros, 0, []⟩
def GL_ACC_INVALID_ENCS : Fld := ⟨GL_ACC, 16, 16, .ros, 0, []⟩
/-- GL_SB_STS — Sideband status (offset 0x44; spec/17_register_map.md). -/
def GL_SB_STS : Reg := ⟨0x44, 1, 0, 1, 0, false⟩
def GL_SB_STS_BUS : Fld := ⟨GL_SB_STS, 0, 1, .ro, 0, []⟩
def GL_SB_STS_ALERTS : Fld := ⟨GL_SB_STS, 8, 8, .ros, 0, []⟩
def GL_SB_STS_WINDOW_REQS : Fld := ⟨GL_SB_STS, 16, 16, .ros, 0, []⟩

/-- The fields of the PT registers, in the order of their tables. -/
def fieldsPT_0 : List Fld :=
  [PT_CFG_ENABLE, PT_CFG_BREAKOUT, PT_CFG_MEDIA_TYPE, PT_CFG_TLS_REQ, PT_CFG_TLS_DHE_REQ, PT_CFG_ROCE_EN,
   PT_LINK_STS_LSTATE, PT_LINK_STS_SPEED, PT_LINK_STS_DOWN_COUNT, PT_LINK_CTL_DISABLE, PT_LINK_CTL_RETRAIN,
   PT_LINK_CTL_MTU, PT_AIDX_WORD, PT_AIDX_LINK, PT_ADATA_DATA, PT_PRIO_MAP_TC_0, PT_PRIO_MAP_TC_1, PT_PRIO_MAP_TC_2,
   PT_PRIO_MAP_TC_3, PT_PRIO_MAP_TC_4, PT_PRIO_MAP_TC_5, PT_PRIO_MAP_TC_6, PT_PRIO_MAP_TC_7, PT_TX_PRIO_PRIO_TC0,
   PT_TX_PRIO_PRIO_TC1, PT_TX_PRIO_PRIO_TC2, PT_TX_PRIO_PRIO_TC3, PT_TC_CFG_PFC_EN, PT_TC_CFG_W_TC0, PT_TC_CFG_W_TC1,
   PT_TRANS_CFG_GIVEUP, PT_TRANS_CFG_RTO_MIN, PT_TRANS_CFG_PMTU, PT_TRANS_CFG_RETRY_CNT, PT_TRANS_CFG_ACK_TO,
   PT_CONN_CNT_IO_CONN, PT_CONN_CNT_ADMIN_CONN, PT_BP_STS_BP_CONN, PT_BP_STS_RNR_COUNT, PT_VX_CTL_DEV_MAX_VER]
def fieldsPT_1 : List Fld :=
  [PT_VX_CTL_FEAT_MASK, PT_DISC_CTL_DISC_EN, PT_DISC_CTL_MDNS_EN, PT_DISC_CTL_LOG_GEN, PT_EVT_LINK_UP_0,
   PT_EVT_LINK_UP_1, PT_EVT_LINK_UP_2, PT_EVT_LINK_UP_3, PT_EVT_LINK_DOWN_0, PT_EVT_LINK_DOWN_1, PT_EVT_LINK_DOWN_2,
   PT_EVT_LINK_DOWN_3, PT_EVT_CONN_LIMIT, PT_EVT_TLS_FAIL, PT_EVT_VX_REJECT]
def fieldsPT : List Fld := fieldsPT_0 ++ fieldsPT_1
/-- The fields of the RC registers, in the order of their tables. -/
def fieldsRC : List Fld :=
  [RC_CFG_IOQ_MQES, RC_CFG_AERL, RC_CMDTAB_IO_IO_USED, RC_CMDTAB_ADM_ADM_USED, RC_CMDTAB_THR_XOFF_K,
   RC_CMDTAB_THR_XON_K, RC_HR_BUF_IO_KIB, RC_HR_BUF_ADM_KIB, RC_CBP_STS_CMDTAB_BP, RC_CBP_STS_HRBUF_BP,
   RC_CBP_STS_BP_STARTS, RC_QIDX_QUEUE, RC_QIDX_ADMIN, RC_QIDX_WORD, RC_QDATA_DATA, RC_ERRCNT_SQ_OVERRUNS,
   RC_ERRCNT_CID_CONFLICTS, RC_CANCEL_ABORT_CMDS, RC_CANCEL_DISCARDED, RC_EVT_CMDTAB_BP, RC_EVT_HRBUF_BP,
   RC_EVT_SQ_OVERRUN, RC_EVT_CID_CONFLICT, RC_EVT_ACK_RULE_CHG, RC_ACK_STS_ACK_RULE, RC_ACK_STS_RULE_CHANGES]
/-- The fields of the HP registers, in the order of their tables. -/
def fieldsHP : List Fld :=
  [HP_CFG_WGRANT_MAX, HP_CFG_FALLBACK, HP_POOL_WPOOL_MIB, HP_POOL_RPOOL_MIB, HP_RBASE_BASE_MIB, HP_WCLASS_COUNT,
   HP_WCLASS_FREE, HP_RCLASS_COUNT, HP_RFREE_FREE, HP_DIDX_SLOT, HP_DIDX_WORD, HP_DDATA_DATA, HP_CNT_STALE_DISC,
   HP_CNT_ACCESS_NAKS, HP_WAIT_W_SLICES, HP_WAIT_R_SLICES, HP_EVT_WPOOL_EMPTY, HP_EVT_RPOOL_EMPTY, HP_EVT_STALE,
   HP_EVT_ACCESS_NAK, HP_EVT_BAD_TTAG, HP_EVT_EPOCH_HOLD, HP_EVT_READ_RESERVE]
/-- The fields of the SL registers, in the order of their tables. -/
def fieldsSL : List Fld :=
  [SL_TIDX_SLICE, SL_TIDX_WORD, SL_TIDX_VIEW, SL_TDATA_DATA, SL_TCMD_CMD, SL_TCMD_BUSY, SL_TCMD_RESULT,
   SL_OIDX_ENTRY, SL_OIDX_WORD, SL_ODATA_DATA, SL_OCMD_CMD, SL_OCMD_RESULT, SL_STS_ACTIVE, SL_STS_RESETTING,
   SL_DEVQ_ZONE_SUM, SL_DEVQ_KEY_SUM, SL_HOLD_HOLD, SL_EVT_RESET_DONE, SL_EVT_RESET_SLOW, SL_EVT_BIND_FAIL,
   SL_EVT_KEY_MISMATCH, SL_EVT_CMD_REFUSED]
/-- The fields of the GV registers, in the order of their tables. -/
def fieldsGV : List Fld :=
  [GV_CFG_SAMPLE_TICKS, GV_STS_RUN, GV_STS_OVERRUNS, GV_PASS_LAST_PASS, GV_PASS_MAX_PASS, GV_SAMPLE_LO_COUNT_LO,
   GV_SAMPLE_HI_COUNT_HI, GV_PIDX_PROFILE, GV_PIDX_WORD, GV_PIDX_VIEW, GV_PDATA_DATA, GV_PCMD_CMD, GV_PCMD_PENDING,
   GV_PCMD_RESULT, GV_LIDX_LOOP, GV_LIDX_WORD, GV_LDATA_DATA, GV_HIDX_SLICE, GV_HIDX_DIR, GV_HIDX_BUCKET,
   GV_HDATA_COUNT, GV_MAN_MANUAL, GV_MAN_FELL_BACK, GV_EVT_FALLBACK, GV_EVT_RETURN_AUTO, GV_EVT_SAT, GV_EVT_OVERRUN,
   GV_EVT_PROFILE_APPLIED, GV_EVT_PRESET_CLEAR]
/-- The fields of the MD registers, in the order of their tables. -/
def fieldsMD_0 : List Fld :=
  [MD_ZCFG_DWELL_US, MD_ZCFG_LONG_MULT, MD_ZCFG_HOLD_MAX, MD_ZDL_DL_MIN_US, MD_ZIDX_ENTRY, MD_ZIDX_WORD,
   MD_ZDATA_DATA, MD_ZSTS_ACTIVE, MD_ZSTS_PARTIAL, MD_CONV_CONV_GIB, MD_CONV_CONV_OP, MD_POOL_LO_CREWS_LO,
   MD_POOL_HI_CREWS_HI, MD_POOLFMT_FMT_0, MD_POOLFMT_FMT_1, MD_POOLFMT_FMT_2, MD_POOLFMT_FMT_3, MD_POOLFMT_FMT_4,
   MD_POOLFMT_FMT_5, MD_POOLFMT_FMT_6, MD_POOLFMT_FMT_7, MD_POOLFREE_FREE_SHELLS, MD_ZEVT_ZONE_RO,
   MD_ZEVT_NS_NOSPACE, MD_ZEVT_PID_INVALID, MD_ZEVT_HOLD_SPILL, MD_LIDX_ENTRY, MD_LIDX_WORD, MD_LDATA_DATA,
   MD_SIDX_SHELL, MD_SIDX_WORD, MD_SDATA_DATA, MD_MP_TARGET_TARGET_MIB, MD_MP_HELD_HELD_MIB, MD_MP_WEIR_WEIR_MIB,
   MD_MP_STS_SHELLS, MD_MP_STS_IDLE, MD_MP_STS_BG_DRAIN, MD_MP_STS_FG_DRAIN, MD_FILL_FILL]
def fieldsMD_1 : List Fld :=
  [MD_MP_CFG_WEIR_PCT, MD_MP_CFG_MP_PCT, MD_MP_CFG_IDLE_MBPS, MD_GC_CFG_GC_START, MD_GC_CFG_GC_STOP,
   MD_GC_CFG_WEAR_GAP, MD_RELOC_RELOC_MAX, MD_RELOC_ACTIVE, MD_RELOC_QUEUED, MD_LOG_STS_LOG_SHELLS,
   MD_LOG_STS_LOG_FREE, MD_LOG_STS_STALL, MD_LOG_SEQ_LO_SEQ_LO, MD_LOG_SEQ_HI_SEQ_HI, MD_TALLY_TALLY_MBPS,
   MD_TALLY_LAP_S, MD_REBUILD_STEP, MD_REBUILD_UNCLEAN, MD_REBUILD_ELAPSED_MS, MD_CLOCK_MINUTES,
   MD_RO_STS_POOL_SHORT, MD_RO_STS_LOG_SHORT, MD_SPARE_SHELLS, MD_SPARE_MIN_SPARE, MD_SRET_RETIRED, MD_EVT_BLOCK_BAD,
   MD_EVT_SHELL_RETIRED, MD_EVT_READ_ONLY, MD_EVT_FG_DRAIN, MD_EVT_LOG_STALL, MD_EVT_RELOC_ABANDON, MD_EVT_ORPHANS,
   MD_EVT_TORN, MD_EVT_POOL_LOW, MD_EVT_TALLY_FALLBACK]
def fieldsMD : List Fld := fieldsMD_0 ++ fieldsMD_1
/-- The fields of the SH registers, in the order of their tables. -/
def fieldsSH : List Fld :=
  [SH_CFG_RA_BUSY_EN, SH_CFG_MM_BUDGET_US, SH_FMTPERM_SPRINT, SH_FMTPERM_CRUISE, SH_FMTPERM_HAUL, SH_FORCE_CREW,
   SH_FORCE_SEAT, SH_FORCE_EN, SH_FORCE_ACTIVE, SH_CIDX_CREW, SH_CIDX_WORD, SH_CDATA_DATA, SH_PE_STS_PE_BUSY,
   SH_PE_STS_RECON_ACTIVE, SH_CREW_FORMAT, SH_CREW_STATE, SH_CREW_BUSY_BUDGET, SH_CREW_EFF_BUDGET, SH_CREW_POOL,
   SH_CREW_IN_POOL, SH_FAILMAP_FAILED, SH_BUSYMAP_BUSY, SH_EVT_SEAT_FAILED, SH_EVT_CREW_DEGRADED,
   SH_EVT_CREW_RETIRED, SH_EVT_SHELL_SHORT, SH_EVT_RA_WAIT, SH_EVT_RA_UNRECOV, SH_EVT_CREW_EXCLUDED, SH_EVT_FMT_KEEP,
   SH_EVT_FORCE_REFUSED]
/-- The fields of the LN registers, in the order of their tables. -/
def fieldsLN : List Fld :=
  [LN_CFG_DIV_TARGET, LN_CFG_AUTO_RT, LN_CFG_RT_DELTA, LN_CFG_TEMP_MS, LN_CTL_RETRAIN, LN_STS_IFACE, LN_STS_LSTATE,
   LN_STS_PACER, LN_STS_LOCKED, LN_STS_DIV_CUR, LN_STS_DIV_MIN, LN_STROKE_SLOT_OFF, LN_STROKE_SLOT_LEN, LN_EASY_EASY,
   LN_RT_STS_RESULT, LN_RT_STS_PENDING, LN_RT_STS_ACTIVE, LN_RT_STS_DURATION_US, LN_RT_CNT_RETRAINS,
   LN_RT_CNT_REFUSALS, LN_DIDX_DIE, LN_DIDX_WORD, LN_DDATA_DATA, LN_CIDX_TARGET, LN_CIDX_WORD, LN_CDATA_DATA,
   LN_OPS_RECIPES, LN_FAULTS_NORESP, LN_FAULTS_ORDER_FAULTS, LN_EVT_DIE_NORESP, LN_EVT_DIE_FAILED, LN_EVT_UNMATCHED,
   LN_EVT_ORDER_FAULT, LN_EVT_RT_DONE, LN_EVT_RT_PARTIAL, LN_EVT_RT_REFUSED, LN_EVT_LANE_FAULT, LN_EVT_LANE_RECOVERED]
/-- The fields of the DC registers, in the order of their tables. -/
def fieldsDC : List Fld :=
  [DC_CFG_SOFT_EN, DC_CFG_REFRESH_STEP, DC_CFG_REFRESH_SOFT, DC_CFG_REFRESH_BITS, DC_CODE_CODE_SLC, DC_CODE_CODE_QB0,
   DC_CODE_CODE_QB1, DC_CODE_CODE_QB2, DC_CODE_CODE_QB3, DC_STS_QDEPTH, DC_STS_IN_RECOVERY, DC_CNT_T1_COUNT,
   DC_CNT_T2_COUNT, DC_CNT_T3_COUNT, DC_CNT_RETRY_COUNT, DC_CNT_FAIL_UNCORR, DC_CNT_FAIL_MISDIRECT,
   DC_CNT_CRC_CRC_REJECTS, DC_BITS_LO_BITS_LO, DC_BITS_HI_BITS_HI, DC_PATROL_LAP_H, DC_PATROL_MARKED,
   DC_ST_CTL_START, DC_ST_CTL_TIER, DC_ST_CTL_CODE, DC_ST_CTL_ERRORS, DC_ST_CTL_COUNT, DC_ST_STS_RESULT,
   DC_ST_STS_ACTIVE, DC_ST_STS_FAILS, DC_ST_SEED_SEED, DC_ST_SIG_SIG, DC_EVT_UNCORR, DC_EVT_CRC_REJECT,
   DC_EVT_SOFT_USED, DC_EVT_MISDIRECT, DC_EVT_ST_DONE, DC_EVT_ST_REFUSED, DC_EVT_CODE_KEEP]
/-- The fields of the DR registers, in the order of their tables. -/
def fieldsDR_0 : List Fld :=
  [DR_GCFG_WIDTH, DR_GCFG_GRAIN_EXP, DR_GCFG_DENSITY, DR_GCFG_RANKS, DR_GCFG_RATE, DR_GCFG_CAP_GIB,
   DR_VRCNT_VALID_REGIONS, DR_RTCFG_RT_PERIOD_MS, DR_RTCFG_RT_EN, DR_STS_CSTATE, DR_STS_MARK_VALID, DR_STS_MARK_DEV,
   DR_STS_RT_LAST_NS, DR_AGE_AGE_0, DR_AGE_AGE_1, DR_AGE_AGE_2, DR_AGE_AGE_3, DR_ECC_CORRECTED, DR_ECC_UNCORR,
   DR_DEVCE_CE_EVEN, DR_DEVCE_CE_ODD, DR_MARK_DEV, DR_MARK_MARK, DR_MARK_CLEAR, DR_MARK_MARK_THR, DR_RMIDX_ENTRY,
   DR_RMIDX_WORD, DR_RMDATA_DATA, DR_RMCMD_CMD, DR_RMCMD_RESULT, DR_SCR_START_SCR_START, DR_SCR_LEN_SCR_LEN,
   DR_SCR_CTL_START, DR_SCR_CTL_STOP, DR_SCR_CTL_ACTIVE, DR_SCR_CTL_PAUSED, DR_SCR_CTL_SCR_MBPS,
   DR_SCR_SUM0_CORRECTED, DR_SCR_SUM0_UNCORR, DR_SCR_SUM1_CANDIDATES]
def fieldsDR_1 : List Fld :=
  [DR_SCR_SUM1_POISONED, DR_SCR_SUM1_SKIPPED_K, DR_SCR_FAIL_LO_FAIL_LO, DR_SCR_FAIL_HI_FAIL_HI, DR_PATROL_LAP_MS,
   DR_PATROL_LAPS, DR_TRN_CTL_START, DR_TRN_CTL_PATTERN, DR_TRN_CTL_DIR, DR_TRN_CTL_ACTIVE, DR_TRN_CTL_BURSTS,
   DR_TRN_WORD_WORD, DR_TRN_EIDX_DQ, DR_TRN_EDATA_ERRORS, DR_CIDX_DQ, DR_CDATA_DATA, DR_LB_ADDR_LINE, DR_LB_IDX_WORD,
   DR_LB_DATA_DATA, DR_LB_CMD_CMD, DR_LB_CMD_RESULT, DR_EVT_CORRECTED, DR_EVT_UNCORR, DR_EVT_POISON_USED,
   DR_EVT_POISON_RMW, DR_EVT_DEV_MARKED, DR_EVT_MARK_REFUSED, DR_EVT_TRAIN_FAIL, DR_EVT_REMAP_FULL,
   DR_EVT_SCRUB_DONE, DR_EVT_CANDIDATE]
def fieldsDR : List Fld := fieldsDR_0 ++ fieldsDR_1
/-- The fields of the CK registers, in the order of their tables. -/
def fieldsCK_0 : List Fld :=
  [CK_SEL_SELECTED, CK_SEL_HOLDOVER, CK_SEL_TB_PACER, CK_SEL_LOCK_LANE, CK_SEL_LOCK_DRAM, CK_SEL_LOCK_SERDES,
   CK_LIVE_LIVE, CK_LIVE_FIRED, CK_PRIO0_PRIO_0, CK_PRIO0_PRIO_1, CK_PRIO0_PRIO_2, CK_PRIO0_PRIO_3, CK_PRIO0_PRIO_4,
   CK_PRIO0_PRIO_5, CK_PRIO0_PRIO_6, CK_PRIO0_PRIO_7, CK_PRIO1_PRIO_8, CK_PRIO1_PRIO_9, CK_CFG_REVERT,
   CK_CFG_REVERT_MS, CK_CFG_PACER_GUARD, CK_CFG_PACER_CAL_S, CK_CTL_SWITCH, CK_FREQ_FREQ_BAD, CK_TB_LO_TB_LO,
   CK_TB_HI_TB_HI, CK_STEP_LAST_STEP, CK_STEP_SWITCHES, CK_HOLD_LAST_HOLD, CK_HOLD_MAX_HOLD, CK_CSI_CSI,
   CK_CSI_CSI_STALE, CK_CSI_CSI_WARN, CK_PACER_PACER_TPS, CK_PACER_CALIBRATED, CK_PACER_RUNNING, CK_PACER_LANES,
   CK_PACER_SPAN_PACER_SPAN, CK_EVT_REF_LOST, CK_EVT_SWITCHED]
def fieldsCK_1 : List Fld :=
  [CK_EVT_HOLD_LONG, CK_EVT_NO_REF, CK_EVT_REF_BACK, CK_EVT_FREQ_BAD, CK_EVT_CSI_LOW, CK_EVT_REF_WAIT]
def fieldsCK : List Fld := fieldsCK_0 ++ fieldsCK_1
/-- The fields of the TH registers, in the order of their tables. -/
def fieldsTH : List Fld :=
  [TH_SNS_TEMP, TH_SNS_SUSPECT, TH_SNS_NOVALUE, TH_SNS_DEV_RUN, TH_SUM_HOT, TH_SUM_MEAN, TH_CFG_THERM_ON,
   TH_CFG_THERM_OFF, TH_TRIP_DISAGREE, TH_TRIP_FIRED, TH_TRIP_LATCH, TH_REST_COOL_MS, TH_REST_REST_S, TH_EVT_SUSPECT,
   TH_EVT_DISAGREE, TH_EVT_THERM_LOW, TH_EVT_OVER_TEMP, TH_EVT_TRIP, TH_EVT_REST_END]
/-- The fields of the PW registers, in the order of their tables. -/
def fieldsPW : List Fld :=
  [PW_STS_HOLDUP_OK, PW_STS_HOLDUP_EN, PW_STS_ARMED, PW_STS_HU_EXPOSED, PW_STS_PWRGD, PW_STS_VMON_LOW,
   PW_STS_RESERVED_OK, PW_HU_CFG_HU_EN, PW_HU_CFG_HU_ARM_MS, PW_HU_CFG_VMON_TRIP, PW_MON_VMON_MV, PW_MON_VCORE_MV,
   PW_ENV_ENV_REQ, PW_ENV_ENV_ACTIVE, PW_ENV_PENDING, PW_ENV_VREQ_MV, PW_EST_P_EST, PW_EST_P_PEAK, PW_DIE_DIE_BUDGET,
   PW_DIE_DIE_ACTIVE, PW_DOM_ON, PW_RET_RETAIN, PW_FLUSH_LAST_US, PW_FLUSH_KIND, PW_FLUSH_ON_PACER, PW_EVT_ARMED,
   PW_EVT_DISARMED, PW_EVT_ENV_APPLIED, PW_EVT_VREQ_CHG, PW_EVT_FLUSH_OVER]
/-- The fields of the FU registers, in the order of their tables. -/
def fieldsFU : List Fld :=
  [FU_LIFE_STATE, FU_LIFE_TRIAL_PEND, FU_LIFE_RAW, FU_ROLLBACK_COUNT, FU_LOCK_DEBUG_LOCK, FU_LOCK_JTAG_MODE,
   FU_LOCK_SBADDR_LOCK, FU_LOCK_FMT_FORBID, FU_LOCK_DEBUG_OPEN, FU_SBADDR_SB_ADDR, FU_UID_LO_UID_LO,
   FU_UID_HI_UID_HI, FU_KHASH_HASH]
/-- The fields of the BT registers, in the order of their tables. -/
def fieldsBT_0 : List Fld :=
  [BT_STS_BANK_BOOTED, BT_STS_PREFER, BT_STS_FALLBACK, BT_STS_IDL_BANK, BT_STS_FETCH_ACTIVE, BT_STS_FETCH_BANK,
   BT_STS_SEAL_CAUSE, BT_STS_STEP, BT_VER_FW_SVN, BT_VER_IDL_MINOR_MAX, BT_VER_IDL_MINOR, BT_VER_IDL_MAJOR,
   BT_FWVER_VERSION, BT_CFG_RB_AUTO, BT_NONCE_NONCE, BT_TIDX_WORD, BT_TDATA_DATA, BT_TCMD_CMD, BT_TCMD_BUSY,
   BT_TCMD_RESULT, BT_NADDR_ADDR, BT_NIDX_WORD, BT_NDATA_DATA, BT_NCMD_CMD, BT_NCMD_BUSY, BT_NCMD_RESULT,
   BT_PSKIDX_ENTRY, BT_PSKIDX_WORD, BT_PSKDATA_DATA, BT_PSKCMD_CMD, BT_PSKCMD_RESULT, BT_SAN_SSTAT, BT_SAN_ACTION,
   BT_SAN_AUSE, BT_SAN_SPROG, BT_EVT_IMAGE_FAIL, BT_EVT_FALLBACK, BT_EVT_IDL_FAIL, BT_EVT_SEALED, BT_EVT_TOKEN_OK]
def fieldsBT_1 : List Fld :=
  [BT_EVT_TOKEN_REFUSED, BT_EVT_FETCH_BANK, BT_EVT_FW_COMMIT, BT_EVT_RB_RAISED, BT_EVT_SANITIZE_DONE,
   BT_EVT_SANITIZE_FAIL, BT_EVT_DEBUG_OPEN]
def fieldsBT : List Fld := fieldsBT_0 ++ fieldsBT_1
/-- The fields of the CR registers, in the order of their tables. -/
def fieldsCR : List Fld :=
  [CR_ENG_ON, CR_ENG_LOAD, CR_KEYS_USED, CR_KEYS_NS_KEYS, CR_RNG_READY, CR_RNG_TEST_FAIL, CR_RNG_RESEEDS,
   CR_BLK_LO_BLK_LO, CR_BLK_HI_BLK_HI, CR_KSIDX_SLOT, CR_KSIDX_WORD, CR_KSDATA_DATA]
/-- The fields of the GL registers, in the order of their tables. -/
def fieldsGL_0 : List Fld :=
  [GL_SRAM_STS_CORRECTED, GL_SRAM_STS_SPARES_USED, GL_SRAM_STS_SPARES_MIN, GL_CP_STS_CP_OK, GL_CP_STS_LAST_CP,
   GL_CP_STS_TAKEOVERS, GL_CP_STS_CAUSE, GL_FLT_EVT_SRAM_CORR, GL_FLT_EVT_SRAM_SPARE, GL_FLT_EVT_SRAM_NOSPARE,
   GL_FLT_EVT_SRAM_UNCORR, GL_FLT_EVT_CP_FAULT, GL_FLT_EVT_CP_MOVED, GL_ID_PART, GL_ID_STEP_NUM, GL_ID_STEP_LETTER,
   GL_ID_FAMILY, GL_MODE_MODE, GL_MODE_PREV, GL_MODE_TRIGGER, GL_MODE_CHANGES, GL_EVT_MODE_CHG, GL_EVT_ACCESS_FAULT,
   GL_EVT_INVALID_ENC, GL_EVT_LOG_WRAP, GL_EVT_TRIG_IGNORED, GL_EVT_SUM_SRC, GL_EVT_EN_EN, GL_LANE_SUM_LANE,
   GL_DEC_SUM_LANE, GL_UNIT_SUM_DRAM, GL_UNIT_SUM_PORT, GL_ELHEAD_NEXT, GL_ELHEAD_WRAPS, GL_ELSEQ_SEQ,
   GL_ELIDX_ENTRY, GL_ELIDX_WORD, GL_ELDATA_DATA, GL_ACC_ACCESS_FAULTS, GL_ACC_INVALID_ENCS]
def fieldsGL_1 : List Fld :=
  [GL_SB_STS_BUS, GL_SB_STS_ALERTS, GL_SB_STS_WINDOW_REQS]
def fieldsGL : List Fld := fieldsGL_0 ++ fieldsGL_1

/-- The fields of the block that a window address lies in (Table 17-1). -/
def fieldsOfBlock (a : Nat) : List Fld :=
  if 0x0 ≤ a ∧ a < 0x1000 then fieldsGL
  else if 0x10000 ≤ a ∧ a < 0x10100 then fieldsFU
  else if 0x20000 ≤ a ∧ a < 0x20100 then fieldsBT
  else if 0x30000 ≤ a ∧ a < 0x30100 then fieldsCK
  else if 0x40000 ≤ a ∧ a < 0x40100 then fieldsTH
  else if 0x50000 ≤ a ∧ a < 0x50100 then fieldsPW
  else if 0x80000 ≤ a ∧ a < 0xA0000 then fieldsPT
  else if 0xC0000 ≤ a ∧ a < 0xC0100 then fieldsRC
  else if 0xD0000 ≤ a ∧ a < 0xD0100 then fieldsHP
  else if 0xE0000 ≤ a ∧ a < 0xE0600 then fieldsSL
  else if 0x100000 ≤ a ∧ a < 0x100100 then fieldsGV
  else if 0x120000 ≤ a ∧ a < 0x120400 then fieldsSH
  else if 0x140000 ≤ a ∧ a < 0x140900 then fieldsMD
  else if 0x200000 ≤ a ∧ a < 0x400000 then fieldsLN
  else if 0x400000 ≤ a ∧ a < 0x440000 then fieldsDC
  else if 0x480000 ≤ a ∧ a < 0x4C0000 then fieldsDR
  else if 0x500000 ≤ a ∧ a < 0x500100 then fieldsCR
  else []

end Sys2Proof.R
end

