-- ==== Sys2Proof/Machine/State.lean ====
section
/-! DEFINITION. State.lean: the state of the block as plain data, all of it (registers by field, Event Log, clocks, power,
boot and security, ports and connections, queues and commands, Hopper, slices, Governor, zones, crews, media, lanes, DRAM),
the queue of waiting commands, State.reset, and the faults and refusals. Every field's docstring names its rule. -/

namespace Sys2Proof.Machine

/-- A sparse table: (key, value) pairs with strictly rising keys, no value equal to what an unlisted key reads as. -/
abbrev Tab (α : Type) := List (Nat × α)

/-- The modes of Table 01-7 (R32), and `off`: no power (Table 01-8, "Off"). -/
inductive Mode where
  | off | bootstrap | discovery | rebuild | service | readOnly | feathered | becalmed | holdupFlush | thermalRest
  | sanitize | trial | sealed
deriving DecidableEq, Repr

/-- An event occurrence of this handshake, before it enters the Event Log (R461). -/
structure Ev where
  code : Nat := 0
  mode : Nat := 0
  p0 : Nat := 0
  p1 : Nat := 0
  p2 : Nat := 0
  p3 : Nat := 0
deriving DecidableEq, Repr, Inhabited

/-- An Event Log entry (Table 17-4). -/
structure LogEntry where
  tb : Nat := 0
  code : Nat := 0
  sev : Nat := 0
  mode : Nat := 0
  seq : Nat := 0
  p0 : Nat := 0
  p1 : Nat := 0
  p2 : Nat := 0
  p3 : Nat := 0
deriving DecidableEq, Repr, Inhabited

/-- The kinds of message that the block sends. -/
inductive MK where
  | completion | c2hData | r2t | slotGrant | rdmaRead | rdmaWrite | tcpSynAck | tcpRst | tcpFin | tcpData | tcpWindow
  | dreq | cmRep | cmRej | rnrNak | accessNak | cnp | credit | icResp | c2hTermReq | arpReply | neighborAdv | pfcPause
  | mdnsAnnounce | mdnsAnswer | mdnsGoodbye | tlsServerHello | tlsAlert | tlsKeyUpdate | windowResp | spdmResp | miResp
  | alertResp | ibi | i3cAck | jtagOut | aen | rdmaAck | adminData | fmEnter | tcgResp | monResp
deriving DecidableEq, Repr, Inhabited

/-- How a frame of a device link is marked (R50): its link, traffic class and priority, which its DSCP carries, and, where the link
is tagged, its PCP. -/
structure TxMark where
  link : Nat := 0
  tc : Nat := 0
  prio : Nat := 0
  tagged : Bool := false
deriving DecidableEq, Repr, Inhabited

/-- A message that the block sent: its kind, the connection, link or path concerned, what it carries, and how its frames are
marked. -/
structure Msg where
  kind : MK := .completion
  dst : Nat := 0
  args : List Nat := []
  data : List Nat := []
  tx : Option TxMark := none
deriving DecidableEq, Repr, Inhabited

/-- Mode, messages, alerts and the free-value counter. -/
structure Ctl where
  /-- Operating mode (R32, 01). -/
  mode : Mode := .bootstrap
  /-- GL_MODE.PREV: mode before the last change (R32, 17). -/
  prev : Nat := 0
  /-- GL_MODE.TRIGGER (Table 17-6). -/
  trigger : Nat := 1
  /-- GL_MODE.CHANGES, 16 bits, saturating (17). -/
  changes : Nat := 0
  /-- Mode held before Becalmed (Table 01-8). -/
  becalmedFrom : Mode := .service
  /-- Mode left for Hold-up Flush or the trip flush (R33, R405). -/
  flushFrom : Mode := .service
  /-- Event occurrences of the running handshake (R461); empty between commands. -/
  evq : List Ev := []
  /-- SB_ALERT_N asserted (R459). -/
  sbAlert : Bool := false
  /-- When each rate-limited event last made an entry: Governor sample number + 1 (R478, R382, R450 …). -/
  rate : Tab Nat := []
  /-- Messages sent, newest first. -/
  out : List Msg := []
  /-- Messages that a received pause of their priority holds, oldest first (R51). -/
  held : List Msg := []
  /-- THE MODEL'S OWN: the counter that free values are drawn with (notes/assumptions/1). -/
  freeCtr : Nat := 1
deriving DecidableEq, Repr, Inhabited

/-- The Event Log (R460): ring entries by index, and SEQ. -/
structure EventLog where
  /-- Entries by ring index, SEQ mod 4,096 (R460, 17). -/
  ring : Tab LogEntry := []
  /-- SEQ that the next entry takes (R460). -/
  seq : Nat := 0
deriving DecidableEq, Repr, Inhabited

/-- What a reference switch in progress is (R365, R367, R364, R380). -/
inductive SwKind where
  | unplanned | planned | select | resume
deriving DecidableEq, Repr, Inhabited

/-- A switch in progress (Table 13-2). -/
structure Switch where
  kind : SwKind := .unplanned
  /-- Time Base at step 1, from which the holdover is measured (R366). -/
  start : Nat := 0
  /-- Step 3 done: the old input is released. -/
  released : Bool := false
  /-- The source selected before (R382). -/
  old : Nat := 15
deriving DecidableEq, Repr, Inhabited

/-- References, Time Base and Pacer (13). -/
structure Clk where
  /-- Time Base, 64 bits (R369). -/
  tb : Nat := 0
  /-- Fraction of a tick carried between Pacer transfers, units of 2^-14 (R371). -/
  frac : Nat := 0
  /-- The Time Base holds its value: Thermal Rest after step 4 of Table 14-9 (R381). -/
  held : Bool := false
  /-- Ticks that a negative phase step still holds the count for (R370). -/
  stepHold : Nat := 0
  /-- Bit s: source s has shown 64 edges since its Sentinel last cleared (R362). -/
  qual : Nat := 0
  /-- Bit s: source s passed its last frequency check since it was last fired or eligible (R362, R363). -/
  freqOk : Nat := 0
  /-- Switch in progress (Table 13-2). -/
  sw : Option Switch := none
  /-- Step 7 of Table 13-4 reached (R379). -/
  becDone : Bool := false
  /-- Becalmed resume waits for the calibration of step 6 of Table 13-5. -/
  resuming : Bool := false
  /-- Work that needs DRAM is stopped for lack of a reference (R38, R381). -/
  stopped : Bool := false
  /-- Pacer calibration running (R373). -/
  calActive : Bool := false
  /-- CSI and hottest sensor at the last calibration (R373). -/
  calCsi : Nat := 1024
  calHot : Int := 0
  /-- Upper words latched by a read of a lower word (R11), per path and register. -/
  latch : Tab Nat := []
deriving DecidableEq, Repr, Inhabited

/-- Power, hold-up and thermal facts that no register field holds (14). -/
structure Pwr where
  /-- THERM_N pin driven low by HOT (R402). -/
  thermLow : Bool := false
  /-- SHDN_N driven low (R404). -/
  shdn : Bool := false
  /-- Hold-up Flush or trip flush has reached its end (Tables 14-6, 14-9). -/
  flushEnded : Bool := false
  /-- The Pacer drove the lanes during the flush (PW_FLUSH.ON_PACER). -/
  flushOnPacer : Bool := false
  /-- Supply was lost during the flush or rest (R35, R405). -/
  supplyLost : Bool := false
  /-- This Thermal Rest runs a flush and writes a CLOSE record (R405). -/
  tripFlush : Bool := false
  /-- The exit conditions of R406 have held for 1 s; only PWRGD_IN is awaited. -/
  restMet : Bool := false
  /-- Each trip comparator above its threshold: bit 3 × triplet + comparator (R403). -/
  cmp : Nat := 0
  /-- SEQ that must be on flash before HU_EXPOSED clears (R393). -/
  huSeq : Nat := 0
  /-- The flush reservation (R392): SLC rows named in SRAM, as (shell, first row, rows). -/
  resv : List (Nat × Nat × Nat) := []
  /-- PORST_N is asserted (R35). -/
  porst : Bool := false
  /-- Consecutive readings, of 100 µs, that met R406, and readings of this Thermal Rest (TH_REST). -/
  coolReads : Nat := 0
  restReads : Nat := 0
  /-- Sensor reading periods since Bootstrap began, up to 32 (R400). -/
  readings : Nat := 0
  /-- Envelopes 0 to 3 of the image (R388). -/
  env : List Envelope := []
  /-- FLUSH_DIES of the image (R397). -/
  flushDies : Nat := 256
  /-- DIV_FLOOR and DIE_CAP in force (R390). -/
  divFloor : Nat := 16
  dieCap : Nat := 1024
deriving DecidableEq, Repr, Inhabited

/-- The fuse array (Table 15-1). -/
structure Fuses where
  /-- LIFECYCLE, 4 bits (R409). DESIGN CHOICE 0b0011 at reset (notes/assumptions/7). -/
  lifecycle : Nat := 0b0011
  /-- KEYHASH_RSA, 384 bits. -/
  khRsa : Nat := 0
  /-- KEYHASH_SLH, 384 bits. -/
  khSlh : Nat := 0
  /-- ROLLBACK, 128 bits, raw (COUNT is the number of the highest blown bit plus 1). -/
  rollback : Nat := 0
  /-- DEBUG_LOCK. -/
  debugLock : Bool := false
  /-- JTAG_MODE, 2 bits. -/
  jtag : Nat := 0
  /-- FMT_FORBID, 3 bits. -/
  fmtForbid : Nat := 0
  /-- SB_ADDR, 7 bits; 0 unprogrammed. -/
  sbAddr : Nat := 0
  /-- SBADDR_LOCK. -/
  sbLock : Bool := false
  /-- UID, 64 bits. -/
  uid : Nat := 0
  /-- DEV_SECRET, 256 bits, readable by no interface (R408). -/
  devSecret : Nat := 0
deriving DecidableEq, Repr, Inhabited

/-- A PSK table entry (R431). -/
structure Psk where
  valid : Bool := false
  hash : Nat := 0
  /-- Identity, 192 bytes, byte 0 lowest. -/
  identity : Nat := 0
  key : Nat := 0
deriving DecidableEq, Repr, Inhabited

/-- One SPDM responder state: per transport and per controller (R429). -/
structure Spdm where
  /-- 0: none; 1: version; 2: capabilities; 3: algorithms negotiated. -/
  phase : Nat := 0
  /-- A signed response was the last response (vendor sub-command 2). -/
  signed : Bool := false
  /-- The digest that it covered. -/
  covered : Nat := 0
  /-- CHUNK_SEND: the next sequence number and the bytes received. -/
  chunkSeq : Nat := 0
  chunkIn : List Nat := []
  /-- Response left for CHUNK_GET. -/
  chunkOut : List Nat := []
deriving DecidableEq, Repr, Inhabited

/-- Bootstrap, NOR, tokens, attestation (15). -/
structure Boot where
  /-- Fuse array (R408). -/
  fuses : Fuses := {}
  /-- TRIAL_PEND latch (R417). -/
  trialPend : Bool := false
  /-- DEBUG_OPEN (R430). -/
  debugOpen : Bool := false
  /-- Key derivation blocked until PORST_N (R430). -/
  deriveBlocked : Bool := false
  /-- NOR content by word address; an unlisted word reads 0xFFFF_FFFF (R413; notes/assumptions/8). -/
  nor : Tab Nat := []
  /-- NOR ranges written whole or erased, newest first, as (first word, words, k): a signed object's bytes are a FREE VALUE,
  number k − 1 (notes/assumptions/3), and k = 0 an erased range. A word that `nor` lists stands over them. -/
  norObj : List (Nat × Nat × Nat) := []
  /-- NOR buffer, 1,024 words (BT_NDATA). -/
  norBuf : Tab Nat := []
  /-- NOR command running: (command, address); 1 read, 2 program, 3 erase (R421, R422). -/
  norOp : Option (Nat × Nat) := none
  /-- Token buffer, 4,292 words (BT_TDATA). -/
  tokBuf : Tab Nat := []
  /-- Current nonce (R416): the generator output, by number, that it was drawn as (notes/assumptions/2). -/
  nonce : Nat := 0
  /-- The recovery monitor verified and runs (R420). -/
  monitor : Bool := false
  /-- A REVOKE token was accepted in Bootstrap after step 2 (R416). -/
  revokePend : Bool := false
  /-- THE MODEL'S OWN: what was last found of the recovery monitor in the NOR (notes/assumptions/21). -/
  monFacts : SignedFacts := {}
  /-- Both firmware images verified at the last Bootstrap: their SVNs (R428). -/
  svns : Option (Nat × Nat) := none
  /-- The other image is still to be verified (R419). -/
  otherPending : Bool := false
  /-- Bit b: the image in bank b verified at the last Bootstrap or at a commit since (R426, CA 2). -/
  imgOk : Nat := 0
  /-- Measurements 2 to 6, 8 and 9 by index (Table 15-12). -/
  meas : Tab Nat := []
  /-- Identity key pairs in the NOR's identity blocks: a free value, 0 before PROVISION (R415). -/
  identity : Nat := 0
  /-- PSK staging copy, by word (R457). -/
  pskStage : Tab Nat := []
  /-- SPDM states: 0 sideband, CNTLID + 1 a controller (R429). -/
  spdm : Tab Spdm := []
  /-- Firmware staging buffer: bytes downloaded (R425). -/
  fwLen : Nat := 0
  /-- A CA 3 completion has been posted; the change to Bootstrap follows (R426). -/
  fwReset : Bool := false
  /-- I3C dynamic address (R472); none: SMBus or unassigned. -/
  i3cAddr : Option Nat := none
  /-- TAP instruction register (R430). -/
  tap : Nat := 0
  /-- TRAIN_RETRY armed: DRAM training failed (R331). -/
  trainFail : Bool := false
  /-- Discovery's load ended: clean start (R33). -/
  clean : Bool := true
  /-- The Idolob image in use (R423). -/
  image : Image := {}
deriving DecidableEq, Repr, Inhabited

/-! ### Ports, connections, controllers, queues, commands (02, 03) -/

/-- What a device link holds beside its registers (R48, R51, R74). -/
structure Link where
  /-- Link address entry, words 0 to 10, in force (PT_ADATA). -/
  addr : List Nat := []
  /-- Link address staging words. -/
  stage : Tab Nat := []
  /-- Bit p: transmission on priority p is paused by a received PFC pause (R51). -/
  paused : Nat := 0
  /-- Services are announced by mDNS, and which (R74): 0 TCP, 1 RoCE. -/
  announced : Bool := false
  services : List Nat := []
  /-- The second announcement is due (R74). -/
  annRepeat : Bool := false
  /-- The link's error counter: frames dropped because they exceed the MTU (R47). -/
  drops : Nat := 0
deriving DecidableEq, Repr, Inhabited

/-- What a connection carries (R53). -/
inductive ConnKind where
  | unbound | io | admin | disc
deriving DecidableEq, Repr, Inhabited

/-- What the transport needs to read a slot again for a retransmission (R123): the slot, the key, and the namespace and first LBA of
its data. -/
structure SlotTx where
  slot : Nat := 0
  key : Nat := 0
  ns : Nat := 0
  lba : Nat := 0
deriving DecidableEq, Repr, Inhabited

/-- A message sent on a connection and not yet acknowledged (R482); slot data is read again from its slot (R123). -/
structure Unacked where
  kind : MK := .completion
  args : List Nat := []
  data : List Nat := []
  slot : Option SlotTx := none
deriving DecidableEq, Repr, Inhabited

/-- A transport connection: a TCP connection or an RDMA queue pair (R53 to R69). -/
structure Conn where
  alive : Bool := false
  /-- It has closed, and what still arrives on it is judged against the slots (R118, R126). -/
  gone : Bool := false
  rdma : Bool := false
  kind : ConnKind := .unbound
  /-- Device link L. -/
  link : Nat := 0
  /-- TCP port or CM service port named. -/
  dport : Nat := 0
  /-- TLS: 0 none, 1 handshake running, 2 established (R57). -/
  tls : Nat := 0
  /-- KeyUpdates taken (R57). -/
  tlsGen : Nat := 0
  /-- ICReq answered (R56). -/
  icDone : Bool := false
  hdgst : Bool := false
  ddgst : Bool := false
  maxr2t : Nat := 0
  /-- A Connect has completed successfully. -/
  connected : Bool := false
  cntlid : Nat := 0
  qid : Nat := 0
  /-- Key of the queue context (I/O contexts from 0, admin from 0x1_0000). -/
  queue : Nat := 0
  slice : Nat := 0
  /-- Set up for: 0 not known before its Connect, 1 an I/O queue, 2 an admin queue (R53, the private data of a CM REQ). -/
  want : Nat := 0
  /-- It runs over IPv6. -/
  v6 : Bool := false
  /-- TLS: the cipher suite (0 AES-128, 1 AES-256) and the group (0 none, 1 x25519, 2 secp384r1) agreed (R57). -/
  suite : Nat := 0
  group : Nat := 0
  /-- Messages sent and not yet acknowledged, oldest first (R482). -/
  sent : List Unacked := []
  /-- Retransmission timeout in ms, doubling to 2 s (R56). -/
  rtoMs : Nat := 0
  /-- RDMA retries used (R66). -/
  retries : Nat := 0
  /-- CNPs taken: steps of rate reduction (R60), and the send rate that they leave, Mb/s (RDMA). -/
  cnps : Nat := 0
  rate : Nat := 0
  /-- Path MTU, bytes (RDMA, Table 02-6). -/
  pmtu : Nat := 4096
  /-- Receive window last advertised, bytes (TCP, Table 02-5). -/
  window : Nat := 0
  /-- Receive buffers posted and not consumed (R60, RDMA). -/
  bufs : Nat := 0
  /-- Backpressure in force (R61, R85). -/
  bp : Bool := false
  /-- Number of the next RDMA READ, and the outstanding ones: (request, slot) (R118). -/
  nextRid : Nat := 0
  reads : List (Nat × Nat) := []
  /-- Bytes of the oldest READ's response that have arrived (R114). -/
  got : Nat := 0
  /-- Timers fixed at set-up (PT_TRANS_CFG). -/
  giveup : Nat := 10
  retryCnt : Nat := 7
  rtoMin : Nat := 2
deriving DecidableEq, Repr, Inhabited

/-- An Error Information entry, reduced to what the manual fixes (R98). -/
structure ErrEntry where
  cid : Nat := 0
  status : Nat := 0
  loc : Nat := 0
deriving DecidableEq, Repr, Inhabited

/-- An NVMe controller context (R80, R68, R98). -/
structure Ctrl where
  alive : Bool := false
  /-- The discovery controller (R71). -/
  disc : Bool := false
  slice : Nat := 0
  hostnqn : Nat := 0
  hostid : Nat := 0
  subnqn : Nat := 0
  vx : Voxbel := {}
  /-- Agreed Voxbel version, 0 without (R76, R78). -/
  vxVer : Nat := 0
  /-- Features on (Table 02-9). -/
  vxFeat : Nat := 0
  rdma : Bool := false
  adminConn : Nat := 0
  /-- Keep-alive timeout in ms (R68). -/
  katoMs : Nat := 0
  /-- Feature values set, by FID (Table 03-4); thresholds 0x0400 + THSEL. -/
  feats : Tab Nat := []
  /-- Timestamp: value set and Time Base then. -/
  tsVal : Nat := 0
  tsTb : Nat := 0
  /-- Outstanding Asynchronous Event Requests (command-table entries), oldest first. -/
  aers : List Nat := []
  /-- Asynchronous events waiting for a request: (type, info, log page). -/
  aevs : List (Nat × Nat × Nat) := []
  /-- A Discovery log change is pending for this host (R73). -/
  discChange : Bool := false
  /-- Its notice has been sent. -/
  discSent : Bool := false
  errs : List ErrEntry := []
  errCount : Nat := 0
  /-- Changed Namespace List. -/
  changedNs : List Nat := []
  /-- Namespaces attached to this controller, by internal index + 1 (Table 03-3). -/
  attached : List Nat := []
  /-- Controller Configuration and Status properties. -/
  cc : Nat := 0
  /-- Composite temperature alarm in force (R401). -/
  tempAlarm : Bool := false
  /-- Security Receive response left by a Security Send. -/
  secResp : List Nat := []
deriving DecidableEq, Repr, Inhabited

/-- A queue context (RC_QDATA). I/O contexts are keyed from 0, admin contexts from 0x1_0000. -/
structure Queue where
  valid : Bool := false
  cntlid : Nat := 0
  rdma : Bool := false
  link : Nat := 0
  conn : Nat := 0
  slice : Nat := 0
  qid : Nat := 0
  sqsize : Nat := 0
  sqhd : Nat := 0
  /-- Completions posted, 32 bits, wraps. -/
  posted : Nat := 0
  /-- Deleted, with commands still finishing (R97). -/
  deleting : Bool := false
  /-- Commands parsed and not yet dispatched, in arrival order (R86). -/
  waiting : List Nat := []
deriving DecidableEq, Repr, Inhabited

/-- Where a block of a read comes from (Table 01-4). -/
inductive RdSrc where
  | zero | staging | media | done | failed
deriving DecidableEq, Repr, Inhabited

/-- A ciphertext block as staging, slots and shells hold it: the key it was encrypted with, its tweak, and its plaintext. -/
structure Blk where
  /-- Encrypted under this key value; 0: no content. -/
  key : Nat := 0
  ns : Nat := 0
  lba : Nat := 0
  plain : Nat := 0
  /-- 4 KiB units, and the placement handle it was written with (R210). -/
  units : Nat := 1
  handle : Nat := 0
deriving DecidableEq, Repr, Inhabited

/-- Where a block stands: nowhere, so that it yields zeros; a staged copy; a copy lost from staging; flash (R93, R203, R213). -/
inductive Place where
  | zero
  | staged (b : Blk)
  | lost
  | media (shell row unit : Nat) (slc : Bool)
deriving DecidableEq, Repr, Inhabited

/-- The life of a command-table entry (R81, R86). -/
inductive CmdPhase where
  | waiting     -- in its queue, not dispatched
  | dispatched  -- admitted, its own step not yet run
  | running     -- its step has run; data or media work goes on
  | durable     -- a write whose completion waits for durability (R22)
deriving DecidableEq, Repr, Inhabited

/-- A command-table entry (R81). -/
structure Cmd where
  alive : Bool := false
  queue : Nat := 0
  conn : Nat := 0
  cntlid : Nat := 0
  slice : Nat := 0
  epoch : Nat := 0
  sqe : Sqe := {}
  phase : CmdPhase := .waiting
  /-- Finishes without a completion: its queue was deleted (R96). -/
  mute : Bool := false
  /-- Time Base when parsed and when dispatched. -/
  tArr : Nat := 0
  tDisp : Nat := 0
  /-- In-flight units charged (R140). -/
  units : Nat := 0
  /-- Units of a large Verify still to be charged (R140). -/
  unitsLeft : Nat := 0
  /-- Bytes of Headrace buffer held, and on which port (R84). -/
  hb : Nat := 0
  port : Nat := 0
  /-- The namespace's internal index, first LBA and number of blocks, once dispatched. -/
  ns : Nat := 0
  lba : Nat := 0
  nlb : Nat := 0
  /-- Data blocks cut into slots so far; the next slot starts here (R108, R120). -/
  cut : Nat := 0
  /-- A slot request waits in the slice's queue (R127). -/
  want : Bool := false
  /-- Blocks placed in host staging. -/
  staged : Nat := 0
  /-- Reads: source of each block (Table 01-4), and units of a block still to be decoded. -/
  src : List RdSrc := []
  left : Tab Nat := []
  /-- Reads: where each block stood when the read resolved it (R26, R28). -/
  place : Tab Place := []
  /-- Status to post: SCT × 256 + SC. -/
  status : Nat := 0
  /-- Dword 0, and dword 1, of the completion. -/
  dw0 : Nat := 0
  /-- The Logbook record that the completion waits for (R22). -/
  needSeq : Nat := 0
  /-- Deadline of a read, ticks (R209, R237). -/
  deadline : Nat := 0
  /-- The head of a read queue for 100 µs (R128). -/
  aged : Bool := false
  agedAt : Nat := 0
  /-- Zone Reset that waits to take effect: the zones that it acts on (R202). A Format NVM or a namespace deletion that waits:
  2^20 + each namespace (R186). -/
  zs : List Nat := []
  /-- Order of dispatch (R86, R194). -/
  ord : Nat := 0
deriving DecidableEq, Repr, Inhabited

/-! ### Hopper (04) -/

/-- The states of a slot (Table 04-3). -/
inductive SlotState where
  | free | granted | filled | loading | sending | draining | fenced | clearing
deriving DecidableEq, Repr, Inhabited

/-- A Hopper slot: its descriptor (Table 04-3) and its content. -/
structure Slot where
  state : SlotState := .free
  epoch : Nat := 0
  slice : Nat := 0
  length : Nat := 0
  cmd : Nat := 0
  offset : Nat := 0
  /-- Connection that the slot was granted to. -/
  conn : Nat := 0
  /-- Bytes that have arrived, as (from, to) ranges within the slot (R114). -/
  arrived : List (Nat × Nat) := []
  /-- Write direction: the bytes placed, byte 0 lowest. -/
  content : Nat := 0
  /-- Read direction: the ciphertext merged, by block of the slot. -/
  blks : Tab Blk := []
  /-- Blocks merged (Table 04-4). -/
  merged : Nat := 0
  /-- Write direction: the whole slot waits for host-staging room (R137). -/
  waitRoom : Bool := false
  /-- Fenced: an operation of the AES engine or the transport on it had started and has not ended (R146). -/
  op : Bool := false
  /-- Its connection has closed, and transmit reads of it end when DRAM next serves requests (Table 04-4, R18). -/
  closing : Bool := false
deriving DecidableEq, Repr, Inhabited

/-- Waiting requests and service order of the slot pools (R127, R128). -/
structure Hop where
  slots : Tab Slot := []
  /-- Waiting write requests, per slice: commands in order. -/
  wq : Tab (List Nat) := []
  /-- Waiting reads, per slice. -/
  rq : Tab (List Nat) := []
  /-- Slice last served, per pool (R128). -/
  lastW : Nat := 0
  lastR : Nat := 0
  /-- Order number of the next dispatch (R86). -/
  nextOrd : Nat := 0
  /-- The read for which freed slots are reserved, and the order number of the next head read to wait 100 µs (R128). -/
  reserve : Option Nat := none
  nextAge : Nat := 1
deriving DecidableEq, Repr, Inhabited

/-! ### Slices (05) -/

/-- What a slice holds beside its configuration (Table 05-12, status words). -/
structure Slice where
  /-- 0 Unused, 1 Active, 2 Resetting, 3 Deleting (Table 05-1). -/
  st : Nat := 0
  epoch : Nat := 0
  /-- Hopper key (R117). -/
  hkey : Nat := 0
  /-- Token buckets, signed, 16 fraction bits (R139). -/
  cmdTok : Int := 0
  byteTok : Int := 0
  /-- Increments in force, Q8.16 (R139). -/
  cmdInc : Nat := 0
  byteInc : Nat := 0
  /-- CLOSE_CAUSE bits GOV (1) and RESET (4); MGR and DEV stand in SL_HOLD and in Gov (Table 05-6). -/
  cause : Nat := 0
  /-- A MODIFY waiting for the sample boundary (R144), and whether it was accepted with the running sample. -/
  pend : Option SliceCfg := none
  resets : Nat := 0
  /-- Queue last admitted from (R140). -/
  rr : Nat := 0
  /-- The reset waits for Fenced slots (R125). -/
  fenceWait : Bool := false
  /-- Backpressure applied to its connections (R61). -/
  bp : Bool := false
  /-- Ticks spent Closed, and the Time Base + 1 since when; 0: not Closed (R480). -/
  closedSince : Nat := 0
  closedTicks : Nat := 0
deriving DecidableEq, Repr, Inhabited

/-- Key slots (R150, R436). -/
structure KeySlot where
  valid : Bool := false
  /-- Injected key (Key Per I/O). -/
  inj : Bool := false
  slice : Nat := 0
  ns : Nat := 0
  tag : Nat := 0
  /-- The key, readable by no interface. -/
  key : Nat := 0
deriving DecidableEq, Repr, Inhabited

/-! ### Namespaces, zones and the page map (07) -/

/-- A namespace (R184 to R186). Keyed by internal index + 1. -/
structure Ns where
  alive : Bool := false
  nsid : Nat := 0
  zoned : Bool := false
  /-- LBA format 1: 16 KiB blocks. -/
  big : Bool := false
  nsze : Nat := 0
  pool : Nat := 0
  owner : Nat := 0
  kpio : Bool := false
  /-- Placement identifiers of a conventional namespace, by handle (R210). -/
  handles : List Nat := []
  /-- Shells reserved (R185). -/
  resv : Nat := 0
  /-- First Zone Table entry of a zoned namespace. -/
  zbase : Nat := 0
  /-- The namespace key (R150), as recorded wrapped. -/
  key : Nat := 0
deriving DecidableEq, Repr, Inhabited

/-- A Zone Table entry (Table 07-9). -/
structure Zone where
  zs : ZState := .none
  life : Nat := 0
  spilled : Bool := false
  padded : Bool := false
  ns : Nat := 0
  shell : Nat := 0
  shellValid : Bool := false
  wp : Nat := 0
  /-- ROWS_QLC. -/
  rows : Nat := 0
  zoneNo : Nat := 0
  /-- DURABLE: end of the leading run programmed. -/
  durable : Nat := 0
deriving DecidableEq, Repr, Inhabited

/-- A page-map entry (Table 07-7). -/
structure MapEnt where
  unit : Nat := 0
  shell : Nat := 0
  epoch : Nat := 0
  mapped : Bool := false
  slc : Bool := false
deriving DecidableEq, Repr, Inhabited

/-! ### Shells, crews, the Ledger and the Logbook (08, 09) -/

/-- A Shell Table entry (Table 09-2) of a shell below SHELLS; SSTATE 1 Erased is what an unlisted one reads as. -/
structure Shell where
  /-- SSTATE (Table 09-3): 1 Erased, 2 Open, 3 Full, 4 Awaiting erase, 5 Retired. -/
  st : Nat := 1
  slc : Bool := false
  short : Bool := false
  refresh : Bool := false
  torn : Bool := false
  reloc : Bool := false
  kind : Nat := 0
  owner : Nat := 0
  lost : Nat := 0
  rows : Nat := 0
  /-- Erases completed of the blocks bound since formatting (R250). -/
  erases : Nat := 0
  /-- Ledger clock at the first program after the last erase (AGE). -/
  age : Nat := 0
  /-- SEQ of the record that released it (R250). -/
  relSeq : Nat := 0
  /-- The conventional namespace in whose reserve it stands while it awaits its erase (R262, R264). -/
  res : Nat := 0
  /-- Seats already erased, while an erase runs. -/
  erased : Nat := 0
deriving DecidableEq, Repr, Inhabited

/-- A Ledger entry that differs from the one first formatting gave it (Table 09-1). -/
structure Ledger where
  /-- 0: as formatted. -/
  set : Bool := false
  pblk : Nat := 0
  bstate : Nat := 0
  grown : Bool := false
  factory : Bool := false
  /-- ERASE_COUNT relative to the shell's erases. -/
  ec : Int := 0
deriving DecidableEq, Repr, Inhabited

/-- A crew's record (R223 to R227, R244). -/
structure Crew where
  /-- 0 none, 1 Sprint, 2 Cruise, 3 Haul. -/
  format : Nat := 0
  /-- Table 08-3. -/
  st : Nat := 0
  pool : Nat := 0
  inPool : Bool := false
  shells : Nat := 0
  /-- SH_FAILMAP. -/
  failed : Nat := 0
  /-- Factory-bad blocks, by seat. -/
  bad : Tab (List Nat) := []
deriving DecidableEq, Repr, Inhabited

/-- The kinds of Logbook record (Table 09-10). -/
inductive RecKind where
  | zone | map | shell | ledger | spill | reloc | commit | crew | ns | config | tally | clock | mode | close | pad
deriving DecidableEq, Repr, Inhabited

/-- A record of the Logbook tail or of a Logbook row (R271): the header of Table 09-9 and the body of Table 09-10. -/
structure Rec where
  seq : Nat := 0
  kind : RecKind := .zone
  /-- The object that the record is about. -/
  obj : Nat := 0
  /-- Body length, bytes (Table 09-10). -/
  len : Nat := 0
  /-- The body, in words of 32 bits; of a PAD record none. -/
  body : List Nat := []
  /-- CRC32C over header bytes 0 to 11 and the body. -/
  crc : Nat := 0
deriving DecidableEq, Repr, Inhabited

/-- A spilled part: where units of a stream's row stand in the Millpond (R198, SPILL record). -/
structure Spill where
  /-- Zone Table entry, or 2^20 + namespace × 64 + handle. -/
  stream : Nat := 0
  row : Nat := 0
  unit : Nat := 0
  count : Nat := 0
  shell : Nat := 0
  mrow : Nat := 0
  /-- First unit in the Millpond row. -/
  munit : Nat := 0
  /-- Zero-pad units of R201, never live (R245). -/
  pad : Bool := false
deriving DecidableEq, Repr, Inhabited

/-- What the Logbook and the Tally record, and a start restores (R132, R225, R271, R274). -/
structure Persist where
  /-- Configuration words of the slices not Unused (R132), by slice. -/
  slices : Tab SliceCfg := []
  /-- Recorded sets that still wait for their sample boundary (R132, R144), by slice. -/
  slNext : Tab SliceCfg := []
  /-- Slices that exist (Active), by slice. -/
  slUsed : Tab Bool := []
  /-- Hopper keys of the slices that exist (R117). -/
  hkeys : Tab Nat := []
  origins : Tab OriginEntry := []
  /-- Governor profile words: profile × 256 + word. -/
  profiles : Tab Nat := []
  psk : Tab Psk := []
  ns : Tab Ns := []
  /-- Next Unused NSID is the lowest free one. -/
  zones : Tab Zone := []
  map : Tab MapEnt := []
  shells : Tab Shell := []
  ledger : Tab Ledger := []
  crews : Tab Crew := []
  spills : List Spill := []
  /-- Logbook and anchor shells, in ring order (R270). -/
  logShells : List Nat := []
  anchors : List Nat := []
  tallyShells : List Nat := []
  /-- Newest captured SEQ per segment + 1 (R275). -/
  tally : Tab Nat := []
  /-- Tally shell + 1 that holds the newest copy, per segment + 1. -/
  tallyAt : Tab Nat := []
  /-- Ledger clock, minutes, and its value in the newest CLOCK record (R246). -/
  clock : Nat := 0
  clockRec : Nat := 0
  /-- The Logbook shell opened last, + 1 (R270), and the sequence number of the newest anchor update. -/
  logPos : Nat := 0
  anchorSeq : Nat := 0
  /-- Code assignment DC_CODE (R316). -/
  codes : Nat := 0
  /-- DRAM marks per channel: device + 1 (R338), and remap entries channel × 16 + entry (R350). -/
  marks : Tab Nat := []
  remaps : Tab Nat := []
  /-- MODE record: sanitize status 0 to 3 (4: failed, and failure mode ended), action, AUSE (Table 15-13). -/
  san : Nat := 0
  sanAct : Nat := 0
  sanAuse : Bool := false
  /-- A Trial session is recorded (R44). -/
  trialSession : Bool := false
  /-- Read-Only entry recorded. -/
  roEntry : Bool := false
  /-- The device has been formatted at a first Discovery. -/
  formatted : Bool := false
  /-- Wrap-key class of the recorded keys: 0 Owner, 1 Returned (R410). -/
  wrapClass : Nat := 0
  /-- The last record is a CLOSE record (R33). -/
  closed : Bool := false
  /-- The flush that wrote the newest CLOSE record (PW_FLUSH). -/
  flushUs : Nat := 0
  flushKind : Nat := 0
  flushPacer : Bool := false
  /-- Triplets that fired at a trip whose flush wrote the Logbook (R407). -/
  tripFired : Nat := 0
  /-- Relocation jobs that run: job → (order, source, destination + 1) (RELOC records). -/
  jobs : Tab (Nat × Nat × Nat) := []
  /-- Flexible Data Placement enabled, by endurance group (R210). -/
  fdp : Tab Bool := []
  /-- SEQ of the last record of the newest Logbook row on flash (Table 09-11, step 2). -/
  endSeq : Nat := 0
deriving DecidableEq, Repr, Inhabited

/-- One programmed row of a shell (R217 to R220). -/
structure FRow where
  /-- Seats whose units are programmed, bit per seat. -/
  done : Nat := 0
  /-- Content by 4 KiB unit of the row's data: a logical block stands at its first unit. -/
  blks : Tab Blk := []
  /-- Owner and SEQ of the row's page metadata (R277). -/
  owner : Nat := 0
  seq : Nat := 0
  slc : Bool := false
  /-- The code assignment that its pages were encoded by (R315). -/
  codes : Nat := 0
  /-- A Logbook row's records (R272). -/
  recs : List Rec := []
  /-- An anchor row: its sequence number, the list of Logbook shells and the CRC32C (R270). -/
  anchor : Option (Nat × List Nat × Nat) := none
  /-- The parity units by seat: P, Q and the local parities (R220). -/
  parity : List (Nat × Nat) := []
  /-- EPOCH of the page metadata of each unit of a conventional namespace (Table 11-2). -/
  epochs : List (Nat × Nat) := []
deriving DecidableEq, Repr, Inhabited

/-- A block in host staging (R21): its place, its writer and whether reads see it (R93). -/
structure StBlk where
  /-- Zone Table entry, or 2^20 + namespace × 64 + handle. -/
  stream : Nat := 0
  row : Nat := 0
  /-- First 4 KiB unit in the row's data, and units. -/
  unit : Nat := 0
  units : Nat := 1
  blk : Blk := {}
  slice : Nat := 0
  cmd : Nat := 0
  vis : Bool := false
  tIn : Nat := 0
  /-- 0: gathering; else the number of the row job that holds it. -/
  job : Nat := 0
  /-- A newer content of the block is mapped, or it was unmapped since (R213, R214). -/
  sup : Bool := false
  /-- Its content was lost to an uncorrectable SRAM word (R443, R448). -/
  lost : Bool := false
deriving DecidableEq, Repr, Inhabited

/-- What a row job programs (Table 08-4). -/
inductive JobKind where
  | log | spill | direct | fold | millCopy | reloc | tally | anchor
deriving DecidableEq, Repr, Inhabited

/-- A row to be programmed, seat by seat (R230, R233). -/
structure Job where
  id : Nat := 0
  kind : JobKind := .direct
  /-- Shell + 1; 0: the stream's shell, not yet assigned (R208). -/
  shell : Nat := 0
  row : Nat := 0
  slc : Bool := false
  /-- Stream whose blocks it holds, and the source shell and row of a fold or relocation. -/
  stream : Nat := 0
  srow : Nat := 0
  src : Nat := 0
  reloc : Nat := 0
  blks : Tab Blk := []
  /-- Units of the row's data in use; the rest is zero blocks or PAD. -/
  units : Nat := 0
  /-- Seats still to program, running, done. -/
  todo : Nat := 0
  running : Nat := 0
  done : Nat := 0
  /-- A Logbook row: its records, and the last SEQ that it holds. -/
  recs : List Rec := []
  lastSeq : Nat := 0
  /-- An anchor row: its sequence number, the list of Logbook shells and the CRC32C (R270). -/
  anchor : Option (Nat × List Nat × Nat) := none
  /-- SEQ and the code assignment of its pages, and its parity units by seat, from when its first program starts (R218, R220, R315). -/
  pseq : Nat := 0
  codes : Nat := 0
  parity : List (Nat × Nat) := []
  /-- EPOCH of each unit's page metadata, from then on (Table 11-2). -/
  epochs : List (Nat × Nat) := []
  /-- Map entries as they stood when their units were copied (R214). -/
  orig : Tab MapEnt := []
  /-- Units of a fold or relocation row still to be read (R27); the row programs at 0. -/
  need : Nat := 0
  /-- Logbook rows: what a start loads once the row is on flash. -/
  snap : Persist := {}
  /-- Tally rows: segment + 1 whose copy ends with this row. -/
  seg : Nat := 0
  /-- Millpond copies (R261): the spilled parts that the row takes, in order. -/
  parts : List Spill := []
deriving DecidableEq, Repr, Inhabited

/-- A relocation job (R265 to R269). -/
structure Reloc where
  alive : Bool := false
  /-- Order of Table 09-6. -/
  order : Nat := 0
  src : Nat := 0
  /-- Destination shell + 1 of a whole-shell job; the others use the destination of the handle. -/
  dst : Nat := 0
  /-- OWNER word of the source when the job started. -/
  owner : Nat := 0
  started : Bool := false
  /-- Rows whose jobs have been made, and rows programmed. -/
  made : Nat := 0
  rows : Nat := 0
deriving DecidableEq, Repr, Inhabited

/-- Media management's own state (09). -/
structure Media where
  /-- Flash content: shell × 1,024 + row. -/
  flash : Tab FRow := []
  /-- Host staging in order of arrival (R21). -/
  stage : List StBlk := []
  /-- Row jobs, oldest first. -/
  jobs : List Job := []
  nextJob : Nat := 1
  /-- Relocation jobs by number. -/
  relocs : Tab Reloc := []
  nextReloc : Nat := 1
  /-- Next SEQ (R271). -/
  seq : Nat := 1
  /-- Last SEQ on flash. -/
  seqFlash : Nat := 0
  /-- Records in the tail (R272), oldest first. -/
  tail : List Rec := []
  /-- Change list of the Becalmed flush is pending (R378). -/
  changes : Bool := false
  /-- Handles' open rows: the next free unit of each stream's row: stream → row × 2^20 + unit. -/
  fill : Tab Nat := []
  /-- Open shell of each handle: stream → shell + 1; the destination of reclamation: stream + 2^30. -/
  hshell : Tab Nat := []
  /-- Last SEQ in each Logbook shell (R273). -/
  logLast : Tab Nat := []
  /-- Crew statistics (Table 08-6): crew × 16 + word. -/
  stats : Tab Nat := []
  /-- Media bytes that the Sluices admitted, by sample: (ticks, bytes), newest first, over the last 5 ms (R260). -/
  admitted : List (Nat × Nat) := []
  /-- Conventional namespaces that collect garbage: below GC_START, and until GC_STOP (R262). -/
  gc : Tab Bool := []
  /-- Millpond sequence number of the next Millpond shell. -/
  nextMill : Nat := 1
  /-- Blocks whose staged copy is lost (R448): ns × 2^48 + lba. -/
  lostBlk : Tab Bool := []
  /-- Changed Zone Lists: namespace → zone numbers; a notice is out per controller × 4,096 + namespace (R204). -/
  czl : Tab (List Nat) := []
  cznOut : Tab Bool := []
  /-- FDP events (R210), newest first: (type, namespace + 8,192 × endurance group, handle). -/
  fdpEv : List (Nat × Nat × Nat) := []
  /-- Sanitize in progress: shells erased and to erase (R433). -/
  sanTotal : Nat := 0
  sanDone : Nat := 0
  sanStep : Nat := 0
  /-- Discovery found the start unclean. -/
  unclean : Bool := false
  /-- Time Base at which the last load began (MD_REBUILD.ELAPSED_MS). -/
  loadStart : Nat := 0
  /-- Time Base from which the Tally writer may take its next segment, at TALLY_MBPS (R274). -/
  tallyFree : Nat := 0
  /-- Minutes since the last CLOCK record (R246). -/
  clockMin : Nat := 0
  /-- Formats with SES 1 waiting for erases: commands (R186). -/
  fmtWait : List (Nat × List Nat) := []
  /-- Time Base + 1 at which the running Tally cycle began (MD_TALLY.LAP_S). -/
  tallyStart : Nat := 0
  /-- Next Tally segment. -/
  tseg : Nat := 0
  /-- Write pause of the Millpond loop: held until WRITE_PAUSE_END (R171). -/
  pause : Bool := false
deriving DecidableEq, Repr, Inhabited

/-! ### The Governor (06) -/

/-- A loop table entry (Table 06-10). Q8.24 values are the integers of their 32-bit words. -/
structure Loop where
  /-- 0 Off, 1 Manual, 2 Auto, 3 Standby (Table 06-2). -/
  mode : Nat := 0
  /-- MODE_REQ (R177). -/
  req : Nat := 0
  fallback : Bool := false
  sat : Bool := false
  plausible : Bool := false
  masked : Nat := 0
  badRun : Nat := 0
  goodRun : Nat := 0
  fallbacks : Nat := 0
  man0 : Int := 0
  man1 : Int := 0
  /-- MAN_U was written since the previous sample boundary (R177). -/
  manW : Bool := false
  /-- x̂, corrected estimate: six elements. -/
  x : List Int := []
  /-- x̂p, prediction. -/
  xp : List Int := []
  z0 : Int := 0
  z1 : Int := 0
  u0 : Int := 0
  u1 : Int := 0
  upl0 : Int := 0
  upl1 : Int := 0
  /-- Last valid normalised measurements, and residuals of the last sample. -/
  y : List Int := []
  rho : List Int := []
  /-- EST_RD_P9999, EST_RD_P99, EST_WR_P9999, EST_WR_P99 (R164). -/
  est : List Nat := []
  /-- EST_VALID of Table 06-11. -/
  estValid : Nat := 0
  outA : Nat := 0
  outB : Nat := 0
  outC : Nat := 0
  /-- DEADLINE_MISS (R169), and as the last pass found it (R480). -/
  miss : Nat := 0
  missPass : Nat := 0
  /-- Samples of warm-up left (R174). -/
  warm : Nat := 0
  /-- The integrator presets at the next pass with u_hold (R178). -/
  preset : Bool := false
  hold0 : Int := 0
  hold1 : Int := 0
  /-- SINCE of Table 06-11. -/
  since : Nat := 0
  /-- PASS_TB of Table 06-11. -/
  passTb : Nat := 0
deriving DecidableEq, Repr, Inhabited

/-- What a running pass applies at its step 7 (Table 06-3). -/
structure PassOut where
  /-- Loops computed in the pass, with their new entries. -/
  loops : List (Nat × Loop) := []
  /-- Per slice: BYTE_INC and CMD_INC of the share pass, Q8.16. -/
  grants : List (Nat × Nat × Nat) := []
  /-- Events of the pass: (bit of GV_EVT, loop or profile, measurement). -/
  evs : List (Nat × Nat × Nat) := []
  /-- Time Base at step 1. -/
  start : Nat := 0
deriving DecidableEq, Repr, Inhabited

/-- The Governor's own state (06). -/
structure Gov where
  /-- Passes since Bootstrap, 64 bits (GV_SAMPLE). -/
  samples : Nat := 0
  /-- DEV of every CLOSE_CAUSE (Table 05-6). -/
  dev : Bool := false
  /-- The loops (R155): slice loops, 4,096 thermal, 4,097 Millpond. -/
  loops : Tab Loop := []
  /-- Decayed histogram counts, Q24.8: slice × 128 + 64 × (write) + bucket (R163). -/
  hist : Tab Nat := []
  /-- Completions of the running sample, per bucket (R163). -/
  histNew : Tab Nat := []
  /-- The pass that runs (R160). -/
  pass : Option PassOut := none
  /-- Shadow copies of the profiles: profile × 256 + word (R181). -/
  shadow : Tab Nat := []
  /-- Committed copies that wait for the boundary, and which profiles wait. -/
  commit : Tab Nat := []
  committed : Tab Bool := []
  /-- Media 4 KiB units completed in the running sample, per slice (Table 06-1, m3). -/
  units : Tab Nat := []
  /-- Units admitted, host write units admitted, and fold units completed, in the running sample. -/
  admUnits : Nat := 0
  wrUnits : Nat := 0
  foldUnits : Nat := 0
  /-- The write pause of R171 holds writes until WRITE_PAUSE_END. -/
  pause : Bool := false
  /-- SAMPLE_TICKS of the running sample (R159), and boundaries skipped in it (R161). -/
  ticks : Nat := 30000
  skipped : Nat := 0
  /-- Foreground drain rate, MB/s (R171). -/
  drain : Nat := 0
  /-- The first boundary after Discovery has been taken (R157). -/
  first : Bool := false
deriving DecidableEq, Repr, Inhabited

/-! ### Lanes, dies, recipes (10) and codewords (08, 11) -/

/-- What a recipe that runs on a seat serves. -/
inductive RunFor where
  | program (job : Nat)
  | erase (shell : Nat)
  | page (shell row page : Nat)
  | setRetry (entry : Nat)
  | soft (shell row page : Nat)
  | reset
deriving DecidableEq, Repr, Inhabited

/-- A recipe in progress (R289, R290). -/
structure Run where
  slot : Nat := 0
  serves : RunFor := .reset
  /-- Current state. -/
  pc : Nat := 0
  u : Nat := 0
  tStart : Nat := 0
  /-- Time Base since which it wants the bus. -/
  tWait : Nat := 0
  /-- Last status byte read. -/
  status : Nat := 0
  /-- Result register of GETB. -/
  result : Nat := 0
  /-- The state at pc: 0 wants the bus, 1 WAIT runs, 2 POLL interval runs, 3 END reached, 4 held by a lane fault. -/
  phase : Nat := 0
  /-- At END: 0 OK, 1 program fail, 2 erase fail, 3 no response. -/
  res : Nat := 0
  /-- Failure handling (R294): the operation that ended with no response. -/
  failed : Option RunFor := none
deriving DecidableEq, Repr, Inhabited

/-- A die as the lane holds it (Table 10-14), and its Seat Sequencer. -/
structure Die where
  present : Bool := false
  matched : Bool := false
  failed : Bool := false
  set : Nat := 0
  id : Nat := 0
  ppRev : Nat := 0
  /-- Last reading, 1/16 °C, the Time Base and the Governor sample then; none: never read. -/
  temp : Int := 0
  tempTb : Nat := 0
  tempSample : Option Nat := none
  timeouts : Nat := 0
  /-- The retry entry that the die holds, + 1, and its offsets (R321). -/
  entry : Nat := 0
  offsets : Nat := 0
  /-- The recipe that runs. -/
  run : Option Run := none
  /-- An Easy interval runs (R303). -/
  easy : Bool := false
  /-- Run Read: the next page in the die's page order + 1, and pages read (R297, R298). -/
  runNext : Nat := 0
  runPages : Nat := 0
deriving DecidableEq, Repr, Inhabited

/-- What a lane holds beside its registers (10). -/
structure Lane where
  /-- Recipe sets of the lane's store are those of the image. Stroke in which the last gated command was issued + 1. -/
  stroke : Nat := 0
  /-- A positive phase step fell in this Stroke + 1 (R301). -/
  stepStroke : Nat := 0
  /-- Bus grants in a row without strobe, and the dies concerned (R308). -/
  noStrobe : Nat := 0
  noDies : List Nat := []
  /-- Recovery attempts made (R308). -/
  attempts : Nat := 0
  /-- A retrain waits for idle seats (step 2), and its start. -/
  rtWait : Bool := false
  rtStart : Nat := 0
  /-- Mean die temperature, 1/16 °C, at the last training, or where no die had a reading then, the first one since (R305). -/
  rtTemp : Option Int := none
  /-- Next die of the temperature round (R304). -/
  tempNext : Nat := 0
  /-- Calibration words + 1: target × 16 + word; one not listed is what the last probe or recovery found, and their number. -/
  cal : Tab Nat := []
  trained : Nat := 0
  /-- Patrol: pages read in the running lap, (shell × 1,024 + row) × 16 + page, and the Ledger clock at its start (R326). -/
  patrolled : Tab Bool := []
  /-- CODE, TIER, ERRORS, SEED and COUNT of the tile's self-test in progress (R327). -/
  selftest : List Nat := []
  lapStart : Nat := 0
deriving DecidableEq, Repr, Inhabited

/-- Who needs a codeword. -/
inductive CwFor where
  /-- Unit k of block b of a read or Verify command. -/
  | cmd (cmd block unit : Nat)
  /-- A source of the rebuild of another codeword. -/
  | source (cw : Nat)
  /-- A fold or relocation job: the unit of its row. -/
  | job (job unit : Nat)
  | patrol
deriving DecidableEq, Repr, Inhabited

/-- A codeword read in progress (R236 to R242, R322). -/
structure Cw where
  alive : Bool := false
  purpose : CwFor := .patrol
  crew : Nat := 0
  seat : Nat := 0
  shell : Nat := 0
  row : Nat := 0
  slc : Bool := false
  /-- Unit of the seat: 0 to 63 (QLC) or 0 to 15 (SLC). -/
  unit : Nat := 0
  /-- 0 queued on its seat, 1 its page is being read, 2 in the tile, 3 waits for its sources, 4 in the parity engine,
  5 waits for a unit of its row, 6 being decided (R236). -/
  phase : Nat := 0
  /-- The cell of R320 has been selected. -/
  cell : Bool := false
  /-- Step of R322; 16 is the soft read. -/
  step : Nat := 0
  /-- FIRST and COUNT of the cell in use (R320). -/
  first : Nat := 0
  count : Nat := 1
  /-- Step with the fewest unsatisfied checks, and how many. -/
  best : Nat := 0
  bestUnsat : Nat := 0
  /-- Sources of a rebuild still to come, and seats that gave one. -/
  need : List Nat := []
  got : List Nat := []
  /-- The path is a local one. -/
  loc : Bool := false
  /-- Sources with a failed attempt (R240). -/
  lost : List Nat := []
  deadline : Nat := 0
  queued : Nat := 0
  /-- It has waited for a busy seat (R234); it has been counted in BUSY_WAITS, in RA_WAITS (R236, R239). -/
  waited : Bool := false
  choseWait : Bool := false
  noPath : Bool := false
  /-- The unavailable seats of its row at the last decision, bit per seat (R236). -/
  un : Nat := 0
deriving DecidableEq, Repr, Inhabited

/-- Lanes, dies and codewords. -/
structure Flash where
  lanes : Tab Lane := []
  /-- lane × 64 + die. -/
  dies : Tab Die := []
  cws : Tab Cw := []
  nextCw : Nat := 0
deriving DecidableEq, Repr, Inhabited

/-! ### DRAM (12) -/

/-- A read that a channel has issued and not yet checked (R336). -/
structure DrRead where
  line : Nat := 0
  cls : Nat := 0
  /-- The 160 bytes as the devices gave them, byte 0 lowest. -/
  raw : Nat := 0
  /-- A write to the line has reached the channel since (R337). -/
  wr : Bool := false
deriving DecidableEq, Repr, Inhabited

/-- A request that waits at a channel's scheduler (R345). -/
structure DrWait where
  req : DramReq := {}
  promoted : Bool := false
  tIn : Nat := 0
  /-- A corrective write-back of R337. -/
  back : Bool := false
deriving DecidableEq, Repr, Inhabited

/-- A channel's own state (12). -/
structure Channel where
  /-- Devices hold: line → 160 bytes as one number + 1, byte 0 lowest; 0: never written since power-up. -/
  lines : Tab Nat := []
  /-- Remap entries 0 to 15: 0 free, else word 0 + word 1 × 2^32, with VALID. -/
  remap : Tab Nat := []
  /-- The remap store: line → 160 bytes + 1. -/
  store : Tab Nat := []
  /-- Remap staging words: entry × 2 + word. -/
  rmStage : Tab Nat := []
  /-- Requests waiting at the scheduler, oldest first (R345). -/
  queue : List DrWait := []
  /-- Reads issued, oldest first. -/
  reads : List DrRead := []
  /-- Refresh rate doubled (R347), and refreshes issued. -/
  doubled : Bool := false
  refreshes : Nat := 0
  /-- ALERT_N assertions seen (R462). -/
  alerts : Nat := 0
  /-- Comparator error counts (R355). -/
  trnErr : Tab Nat := []
  /-- Delay and reference words written since the last training or retrain window, + 1, per DQ; and how many of those
  there were: what they leave in a word that is not written is a FREE VALUE (notes/assumptions/3). -/
  delays : Tab Nat := []
  trained : Nat := 0
  /-- Rows with corrections on unmarked devices in the running scrub: row key → lines. -/
  scrRows : Tab Nat := []
deriving DecidableEq, Repr, Inhabited

/-- A line-buffer or remap command that waits until its channel accepts requests (R348, R375). -/
structure DrHeld where
  ch : Nat
  /-- 1 to 6: the CMD of DR_LB_CMD; 7 and 8: the CMD 1 and 2 of DR_RMCMD. -/
  code : Nat
  /-- The line of the channel, or the remap entry. -/
  place : Nat
  /-- The buffer, or the staging copy, as the command found it. -/
  data : Nat
deriving DecidableEq, Repr, Inhabited

/-- DRAM outside the channels. -/
structure Dram where
  chans : Tab Channel := []
  /-- Valid-region bits (R339): regions set. -/
  valid : Tab Bool := []
  /-- Line buffer, 40 words. -/
  lb : Tab Nat := []
  /-- Commands that wait for their channel, oldest first (R375). -/
  held : List DrHeld := []
  /-- Scrub: next line of the running scrub (region × 32 + line) and its end region. -/
  scrPos : Nat := 0
  scrEnd : Nat := 0
  /-- Exact skipped regions of the running scrub. -/
  scrSkip : Nat := 0
  /-- Patrol: next region, and the Time Base at the start of its lap. -/
  patPos : Nat := 0
  patStart : Nat := 0
  /-- THE MODEL'S OWN: power-ups of the DRAM, which the FREE VALUE of a line never written depends on (notes/assumptions/3). -/
  power : Nat := 0
deriving DecidableEq, Repr, Inhabited

/-! ### Control processors (16) -/

/-- Control processors and on-chip SRAM (R442 to R445). -/
structure Cpus where
  /-- Bit p: processor p is stopped (CP_OK is its complement). -/
  stopped : Nat := 0
  /-- Stops whose takeover is not yet done. -/
  pending : Nat := 0
  /-- SRAM rows: reads with a corrected symbol since Bootstrap, by array, sub-array and row (R443). -/
  sramHits : Tab Nat := []
  /-- SRAM sub-arrays: spare rows in use, by array and sub-array (R443). -/
  sramSpares : Tab Nat := []
deriving DecidableEq, Repr, Inhabited

/-- The faults of the block. -/
inductive Fault where
  /-- Raised by no command of this model; kept so that the type is inhabited. Safe. -/
  | none
deriving DecidableEq, Repr

/-- The refusals of the block. -/
inductive Refusal where
  /-- Raised by an arm of `exec` whose command has no meaning yet. Safe. -/
  | notModelled (mnemonic : String)
deriving DecidableEq, Repr

/-- The state of the block. -/
structure State where
  /-- Commands waiting, first in first out. -/
  pending : List Instr := []
  /-- Register fields that no other component holds, by field key; an unlisted field reads its reset value. -/
  fields : Tab Nat := []
  /-- Banked index registers (Table 17-3), by bank and field key. -/
  idx : Tab Nat := []
  ctl : Ctl := {}
  log : EventLog := {}
  clk : Clk := {}
  pwr : Pwr := {}
  boot : Boot := {}
  gov : Gov := {}
  /-- Device links by L (R45). -/
  links : Tab Link := []
  /-- Connections (R53). -/
  conns : Tab Conn := []
  /-- NVMe controllers by CNTLID. -/
  ctrls : Tab Ctrl := []
  /-- Queue contexts (R80). -/
  queues : Tab Queue := []
  /-- The command table (R81). -/
  cmds : Tab Cmd := []
  hop : Hop := {}
  /-- Slices by ID (05). -/
  slices : Tab Slice := []
  /-- Shadow sets of the slices (R144). -/
  shadow : Tab SliceCfg := []
  /-- Origin Table staging copy, by word (R457). -/
  originStage : Tab Nat := []
  /-- Key slots (R150). -/
  keys : Tab KeySlot := []
  /-- Logbook-recorded state, as the running device holds it. -/
  per : Persist := {}
  /-- The same as flash holds it: what a start loads. -/
  disk : Persist := {}
  media : Media := {}
  flash : Flash := {}
  dram : Dram := {}
  cpus : Cpus := {}
deriving DecidableEq, Repr

/-- The machine right after the release of PORST_N at power-on (R369). -/
def State.reset : State := {}

end Sys2Proof.Machine
end

