-- ==== Sys2Proof/Machine/Ops.lean ====
section
/-! DEFINITION. Ops.lean: the named operations that every meaning goes through: sparse tables, register fields, events and
the Event Log, messages, free values, and the change of mode by Table 01-8. -/

namespace Sys2Proof.Machine

/-! ### Sparse tables -/

/-- The value under key k; `d` is what an unlisted key reads as. -/
def Tab.getD {α : Type} (t : Tab α) (d : α) (k : Nat) : α :=
  match t with
  | [] => d
  | (j, v) :: r => if j = k then v else Tab.getD r d k

/-- An entry placed before the first one with a higher key. -/
def Tab.place {α : Type} (t : Tab α) (k : Nat) (v : α) : Tab α :=
  match t with
  | [] => [(k, v)]
  | (j, w) :: r => if k < j then (k, v) :: (j, w) :: r else (j, w) :: Tab.place r k v

/-- The table with k reading v, in canonical form; an entry equal to what an unlisted key reads as is not listed. -/
def Tab.setD {α : Type} [DecidableEq α] (t : Tab α) (d : α) (k : Nat) (v : α) : Tab α :=
  let u := t.filter fun e => e.1 != k
  if v = d then u else Tab.place u k v

/-- Canonical form: keys strictly rising, no entry equal to what an unlisted key reads as. -/
def Tab.wfD {α : Type} [DecidableEq α] (d : α) : Tab α → Bool
  | [] => true
  | [(_, v)] => v != d
  | (j, v) :: (k, w) :: r => v != d && decide (j < k) && Tab.wfD d ((k, w) :: r)

/-- The value under a key of a table whose unlisted keys read the type's default. -/
abbrev Tab.get {α : Type} [Inhabited α] (t : Tab α) (k : Nat) : α := t.getD default k

abbrev Tab.set {α : Type} [Inhabited α] [DecidableEq α] (t : Tab α) (k : Nat) (v : α) : Tab α := t.setD default k v

/-- Change the entry under k. -/
abbrev Tab.mod {α : Type} [Inhabited α] [DecidableEq α] (t : Tab α) (k : Nat) (f : α → α) : Tab α := t.set k (f (t.get k))

/-- The keys listed whose entries satisfy p, in rising order. -/
def Tab.keysWhere {α : Type} (t : Tab α) (p : Nat → α → Bool) : List Nat :=
  (t.filter fun (k, v) => p k v).map Prod.fst

/-- The number of listed entries that satisfy p. -/
def Tab.count {α : Type} (t : Tab α) (p : Nat → α → Bool) : Nat := (t.filter fun (k, v) => p k v).length

/-- Every listed entry changed by f, in canonical form. -/
def Tab.mapAll {α : Type} [Inhabited α] [DecidableEq α] (t : Tab α) (f : Nat → α → α) : Tab α :=
  t.filterMap fun (k, v) => let w := f k v; if w = default then none else some (k, w)

/-- Bit b of n. -/
def bit (n b : Nat) : Bool := n.testBit b

/-- n with bit b set to v. -/
def setBit (n b : Nat) (v : Bool) : Nat := if v then n ||| (1 <<< b) else n &&& (n ^^^ (1 <<< b))

/-- 1 for true. -/
def b2n (b : Bool) : Nat := if b then 1 else 0

/-- An integer as a two's-complement field of w bits. -/
def toField (w : Nat) (i : Int) : Nat := (i % (2 ^ w : Int)).toNat

/-- A two's-complement field of w bits as an integer. -/
def ofField (w n : Nat) : Int := if n < 2 ^ (w - 1) then n else (n : Int) - 2 ^ w

/-- Bits [lo + w − 1 : lo] of n. -/
def bitsOf (n lo w : Nat) : Nat := (n >>> lo) % 2 ^ w

/-! ### Register fields -/

/-- The value of a field of the register file, of block instance i and register index k. -/
def State.f (s : State) (F : R.Fld) (i : Nat := 0) (k : Nat := 0) : Nat := s.fields.getD F.reset (F.key i k)

/-- The field set to v, cut to its width. -/
def State.setF (s : State) (F : R.Fld) (v : Nat) (i : Nat := 0) (k : Nat := 0) : State :=
  { s with fields := s.fields.setD F.reset (F.key i k) (v % 2 ^ F.w) }

/-- A one-bit field reads 1. -/
def State.on (s : State) (F : R.Fld) (i : Nat := 0) (k : Nat := 0) : Bool := s.f F i k != 0

/-- A saturating counter field raised by n. -/
def State.addF (s : State) (F : R.Fld) (n : Nat := 1) (i : Nat := 0) (k : Nat := 0) : State :=
  s.setF F (satAdd F.w (s.f F i k) n) i k

/-- A measured value placed in a field, saturating at the field's largest value. -/
def State.putF (s : State) (F : R.Fld) (v : Nat) (i : Nat := 0) (k : Nat := 0) : State :=
  s.setF F (min v (2 ^ F.w - 1)) i k

/-- The bank of an access path (R456). -/
def pathBank : Path → Nat
  | .sideband => 0
  | .ctrl c => c + 1

/-- A banked index field, read in the bank of a path (R456). -/
def State.idxF (s : State) (p : Path) (F : R.Fld) (i : Nat := 0) : Nat := s.idx.getD F.reset (pathBank p * 2 ^ 40 + F.key i 0)

/-- A banked index field set (R456). -/
def State.setIdx (s : State) (p : Path) (F : R.Fld) (v : Nat) (i : Nat := 0) : State :=
  { s with idx := s.idx.setD F.reset (pathBank p * 2 ^ 40 + F.key i 0) (v % 2 ^ F.w) }

/-- Do f for 0 to n − 1 in order. -/
def State.each (s : State) (n : Nat) (f : State → Nat → State) : State := (List.range n).foldl f s

/-! ### Free values and messages -/

/-- The next free value of the generator of random numbers (R437). -/
def State.drawRandom (s : State) : Nat × State :=
  (Config.random s.ctl.freeCtr, { s with ctl.freeCtr := s.ctl.freeCtr + 1 })

/-- The next free value of content that the manual leaves open. -/
def State.drawGarbage (s : State) : Nat × State :=
  (Config.garbage s.ctl.freeCtr, { s with ctl.freeCtr := s.ctl.freeCtr + 1 })

/-- The messages that a transport connection carries and that its peer acknowledges (R482). -/
def acked : List MK := [.completion, .c2hData, .r2t, .slotGrant, .rdmaRead, .rdmaWrite, .icResp, .adminData, .tlsServerHello]

/-- The messages that go to a link's network, and those that go to a connection's peer. -/
def linkKinds : List MK := [.arpReply, .neighborAdv, .mdnsAnnounce, .mdnsAnswer, .mdnsGoodbye]
def connKinds : List MK :=
  acked ++ [.tcpSynAck, .tcpRst, .tcpFin, .tcpData, .tcpWindow, .dreq, .cmRep, .cmRej, .rnrNak, .accessNak, .rdmaAck, .cnp, .credit,
    .c2hTermReq, .tlsAlert, .tlsKeyUpdate]

/-- The traffic class of a connection (Table 02-4); before its Connect it counts as an I/O connection (notes/assumptions/71). -/
def Conn.tc (c : Conn) : Nat :=
  match c.kind with
  | .admin => 2
  | .disc => 3
  | _ => if c.want = 2 then 2 else if c.rdma then 1 else 0

/-- The priority that PT_TX_PRIO gives for a class (R50). -/
def State.txPrio (s : State) (port tc : Nat) : Nat :=
  match tc with
  | 0 => s.f R.PT_TX_PRIO_PRIO_TC0 port
  | 1 => s.f R.PT_TX_PRIO_PRIO_TC1 port
  | 2 => s.f R.PT_TX_PRIO_PRIO_TC2 port
  | _ => s.f R.PT_TX_PRIO_PRIO_TC3 port

/-- The mark of frames of a class on a device link (R50): the priority by PT_TX_PRIO, with a PCP where the link has a VLAN. -/
def State.txMarkOf (s : State) (link tc : Nat) : TxMark :=
  { link := link, tc := tc, prio := s.txPrio (link / 4 % 2) tc, tagged := bit (((s.links.get link).addr[1]?).getD 0) 12 }

/-- The mark of a message; none: it is no frame of a link, or a MAC control frame. `link`: that of a peer without a connection. -/
def State.txMark (s : State) (kind : MK) (dst : Nat) (link : Option Nat) : Option TxMark :=
  if linkKinds.contains kind then some (s.txMarkOf dst 3)
  else if connKinds.contains kind then
    let c := s.conns.get dst
    some (s.txMarkOf (link.getD c.link) (if kind = .cnp then 3 else if kind = .cmRej then 1 else c.tc))
  else none

/-- A received pause of its priority holds the message (R51). -/
def State.pauseHolds (s : State) (m : Msg) : Bool :=
  match m.tx with
  | some t => bit (s.links.get t.link).paused t.prio
  | none => false

/-- A message is sent, or waits for the end of the pause that holds it. -/
def Ctl.post (c : Ctl) (m : Msg) (hold : Bool) : Ctl :=
  if hold then { c with held := c.held ++ [m] } else { c with out := m :: c.out }

/-- Send a message; on a connection it is outstanding until it is acknowledged (R482). -/
def State.send (s : State) (kind : MK) (dst : Nat) (args : List Nat := []) (data : List Nat := []) (slot : Option SlotTx := none)
    (link : Option Nat := none) : State :=
  let m : Msg := { kind := kind, dst := dst, args := args, data := data, tx := s.txMark kind dst link }
  { s with
    ctl := s.ctl.post m (s.pauseHolds m),
    conns := if acked.contains kind && (s.conns.get dst).alive then
        s.conns.mod dst fun c =>
          { c with sent := c.sent ++ [{ kind := kind, args := args, data := if slot.isSome then [] else data, slot := slot }] }
      else s.conns }

/-- A pause of a priority of a link ends: what it held goes out in order (R51). -/
def State.releaseHeld (s : State) (link prio : Nat) : State :=
  let mine := fun (m : Msg) => match m.tx with
    | some t => t.link == link && t.prio == prio
    | none => false
  { s with ctl.out := (s.ctl.held.filter mine).reverse ++ s.ctl.out, ctl.held := s.ctl.held.filter fun m => !mine m }

/-- Something sent on a connection is outstanding (R482). -/
def Conn.unacked (c : Conn) : Bool := !c.sent.isEmpty

/-! ### Modes -/

/-- The mode number of Table 01-7. -/
def Mode.num : Mode → Nat
  | .off => 0 | .bootstrap => 1 | .discovery => 2 | .rebuild => 3 | .service => 4 | .readOnly => 5 | .feathered => 6
  | .becalmed => 7 | .holdupFlush => 8 | .thermalRest => 9 | .sanitize => 10 | .trial => 11 | .sealed => 12

abbrev State.mode (s : State) : Mode := s.ctl.mode

/-- The part has power and runs: every mode but off. -/
def State.up (s : State) : Bool := s.mode != .off

/-- The mode is one of a list. -/
def State.modeIn (s : State) (l : List Mode) : Bool := l.contains s.mode

/-- The modes that Table 01-8 sends to Hold-up Flush at a power loss. -/
def flushModes : List Mode := [.rebuild, .service, .readOnly, .feathered, .becalmed, .sanitize]

/-- The modes in which a power loss leads straight to Off, and PORST_N to Bootstrap (Table 01-8). -/
def bareModes : List Mode := [.bootstrap, .discovery, .trial, .sealed, .thermalRest]

/-- The modes with the full set of domains on (Table 14-3). -/
def runModes : List Mode := [.discovery, .rebuild, .service, .readOnly, .sanitize]

/-- Table 01-8, with the trigger codes of Table 17-6: the transitions that exist (R34). -/
def canMove (m : Mode) (t : Nat) (m' : Mode) : Bool :=
  match t with
  | 0x01 => m == .off && m' == .bootstrap
  | 0x02 => m == .bootstrap && m' == .discovery
  | 0x03 => m == .bootstrap && m' == .sealed
  | 0x04 => m == .discovery && m' == .service
  | 0x05 => m == .discovery && m' == .rebuild
  | 0x06 => m == .rebuild && m' == .service
  | 0x07 => (m == .discovery || m == .rebuild) && m' == .sanitize
  | 0x08 => [Mode.rebuild, .service, .sanitize].contains m && m' == .readOnly
  | 0x09 => m == .service && m' == .feathered
  | 0x0A => m == .service && m' == .feathered
  | 0x0B => m == .feathered && m' == .service
  | 0x0C => [Mode.service, .readOnly, .feathered].contains m && m' == .becalmed
  | 0x0D => m == .becalmed && (m' == .service || m' == .readOnly)
  | 0x0E => (m == .service || m == .readOnly) && m' == .sanitize
  | 0x0F => m == .sanitize && m' == .service
  | 0x10 => (m == .service || m == .readOnly) && m' == .bootstrap
  | 0x11 => [Mode.discovery, .rebuild, .service, .readOnly, .feathered, .becalmed, .sanitize, .trial].contains m && m' == .sealed
  | 0x12 => (flushModes.contains m && m' == .holdupFlush) || (bareModes.contains m && m' == .off)
  | 0x13 => (flushModes.contains m && m' == .holdupFlush) || (bareModes.contains m && m' == .bootstrap)
  | 0x14 => m == .holdupFlush && (m' == .off || m' == .bootstrap || m' == .thermalRest)
  | 0x15 => m != .off && m != .holdupFlush && m != .thermalRest && m' == .thermalRest
  | 0x16 => m == .thermalRest && m' == .bootstrap
  | 0x17 => m == .bootstrap && m' == .trial
  | 0x18 => m == .trial && m' == .bootstrap
  | 0x19 => m == .sealed && m' == .bootstrap
  | 0x1A => m == .bootstrap && m' == .thermalRest
  | _ => false

/-! ### Events (R460, R461, R478) -/

/-- "None" in a parameter of an Event Log entry (Table 17-4). -/
def noP : Nat := 0xFFFFFFFF

/-- The event source of an event register (Table 17-5), by the register's address. -/
def sourceOf (a : Nat) : Nat :=
  if a = 0x10 then 0 else if a = 0x108 then 1 else if a = 0x30040 then 2 else if a = 0x40090 then 3
  else if a = 0x50040 then 4 else if a = 0x20080 then 5 else if a = 0x80078 ∨ a = 0x90078 then 6
  else if a = 0xC0040 then 8 else if a = 0xD0060 then 9 else if a = 0xE0040 then 10 else if a = 0x100050 then 11
  else if a = 0x120040 then 12 else if a = 0x140050 then 13 else if a = 0x1408C0 then 14
  else if 0x200000 ≤ a ∧ a < 0x400000 ∧ a % 0x10000 = 0x40 then 15
  else if 0x400000 ≤ a ∧ a < 0x440000 ∧ a % 0x2000 = 0x60 then 16
  else if 0x480000 ≤ a ∧ a < 0x4C0000 ∧ a % 0x10000 = 0xA0 then 17
  else 32

/-- The severity of a bit of a source (Table 17-5). -/
def severity (src b : Nat) : Nat :=
  let three : List Nat := match src with
    | 1 => [3, 4] | 2 => [3] | 3 => [4] | 4 => [4] | 5 => [0, 2, 3, 10] | 8 => [2] | 10 => [3] | 12 => [2, 5]
    | 13 => [2] | 14 => [0] | 15 => [1] | 16 => [0, 3] | 17 => [1, 2, 6] | _ => []
  let two : List Nat := match src with
    | 0 => [1, 2, 3] | 1 => [1, 2] | 2 => [0, 2, 5, 6, 7] | 3 => [0, 1, 2, 3] | 4 => [1] | 5 => [1, 5, 6, 11]
    | 6 => [1, 8, 9, 10] | 8 => [0, 1, 3, 4] | 9 => [0, 1, 3, 4, 5] | 10 => [1, 2, 4] | 11 => [0, 2, 3, 5]
    | 12 => [0, 1, 3, 4, 6, 8] | 13 => [0, 1, 4, 5, 6, 7, 8, 9] | 14 => [1, 2, 3] | 15 => [0, 2, 3, 5, 6, 7]
    | 16 => [1, 6] | 17 => [3, 4, 5, 7, 9] | _ => []
  if three.contains b then 3 else if two.contains b then 2 else 1

/-- An event occurs: its bit is set (R14, R478) and its entry waits for the end of the handshake (R461). `i` is the
instance of the block, and P0 for the sources that have one. -/
def State.raise (s : State) (F : R.Fld) (p1 : Nat := noP) (p2 : Nat := noP) (p3 : Nat := noP) (i : Nat := 0) : State :=
  let src := sourceOf (F.reg.at i 0)
  let e : Ev := { code := src * 256 + F.lo, mode := s.mode.num, p0 := i, p1 := p1, p2 := p2, p3 := p3 }
  let s := s.setF F 1 i
  { s with ctl.evq := e :: s.ctl.evq }

/-- An event with at most one entry per 4,096 Governor samples for its key; its bit is set each time. -/
def State.raiseLimited (s : State) (key : Nat) (F : R.Fld) (p1 : Nat := noP) (p2 : Nat := noP) (p3 : Nat := noP)
    (i : Nat := 0) : State :=
  let last := s.ctl.rate.get key
  if last = 0 ∨ s.gov.samples + 1 ≥ last + 4096 then
    { s.raise F p1 p2 p3 i with ctl.rate := s.ctl.rate.set key (s.gov.samples + 1) }
  else s.setF F 1 i

/-- Insert an occurrence by (CODE, P0), after those that are equal (R461). -/
def insertEv (e : Ev) : List Ev → List Ev
  | [] => [e]
  | a :: r => if e.code < a.code ∨ (e.code = a.code ∧ e.p0 < a.p0) then e :: a :: r else a :: insertEv e r

/-- One entry enters the ring at SEQ mod 4,096 (R460). -/
def State.logEntry (s : State) (e : Ev) : State :=
  let q := s.log.seq
  let ent : LogEntry :=
    { tb := s.clk.tb, code := e.code, sev := severity (e.code / 256) (e.code % 256), mode := e.mode, seq := q % 2 ^ 32,
      p0 := e.p0, p1 := e.p1, p2 := e.p2, p3 := e.p3 }
  { s with log := { ring := s.log.ring.set (q % 4096) ent, seq := q + 1 } }

/-- GL_EVT_SUM.SRC: the sources whose event registers hold a set bit (17). -/
def State.evtSum (s : State) : Nat :=
  s.fields.foldl (fun m (k, v) =>
    let src := sourceOf (k / 32)
    if src < 18 ∧ v ≠ 0 then m ||| (1 <<< src) else m) 0

/-- SB_ALERT_N follows the enabled event summary (R459); an assertion is counted, and raises an IBI on I3C. -/
def State.alertUpdate (s : State) : State :=
  let level := (s.evtSum &&& s.f R.GL_EVT_EN_EN) != 0
  let s' := if level && !s.ctl.sbAlert then
      let s := s.addF R.GL_SB_STS_ALERTS
      if s.on R.GL_SB_STS_BUS then s.send .ibi 0 [0xAE] else s
    else s
  { s' with ctl.sbAlert := level }

/-- The handshake's occurrences would overwrite an entry of the ring (R460). -/
def State.logWraps (s : State) : Bool := !s.ctl.evq.isEmpty && decide (s.log.seq + s.ctl.evq.length > 4096)

/-- The entries that a handshake makes, in ascending CODE, then P0 (R461); an overwrite makes one of its own only when LOG_WRAP
changes from 0 to 1. -/
def State.settleEvs (s : State) : List Ev :=
  let q := s.ctl.evq.reverse
  let q := if s.logWraps && !s.on R.GL_EVT_LOG_WRAP then
      q ++ [{ code := 3, mode := s.mode.num, p0 := 0, p1 := noP, p2 := noP, p3 := noP }]
    else q
  q.foldl (fun l e => insertEv e l) []

/-- An overwrite sets LOG_WRAP (R460). -/
def State.settleWrap (s : State) : State :=
  if s.logWraps then s.setF R.GL_EVT_LOG_WRAP 1 else s

/-- Nothing waits for the Event Log. -/
def State.evqClear (s : State) : State := { s with ctl.evq := [] }

/-- The occurrences of one handshake enter the Event Log (R461), and the alert pin follows (R459). -/
def State.settle (s : State) : State := (s.settleEvs.foldl State.logEntry s.settleWrap.evqClear).alertUpdate

/-- A command ends: its handshake's occurrences are logged. -/
def done (s : State) : Host.Outcome State Fault Refusal := .next s.settle

/-- The current mode has no row for the trigger (R34). -/
def State.trigIgnored (s : State) (t : Nat) : State := s.raise R.GL_EVT_TRIG_IGNORED s.mode.num t

/-- A field is given a reserved or unlawful value (R13): the write is counted and INVALID_ENC names the address, the value and
the path (R461). -/
def State.invalidEnc (s : State) (addr value : Nat) (p : Path) : State :=
  (s.addF R.GL_ACC_INVALID_ENCS).raise R.GL_EVT_INVALID_ENC addr value (pathBank p)

/-- A misaligned or wrong-width access (R9). -/
def State.accessFault (s : State) (addr : Nat) (p : Path) : State :=
  (s.addF R.GL_ACC_ACCESS_FAULTS).raise R.GL_EVT_ACCESS_FAULT addr (pathBank p)

/-- HOLDUP_EN by R391: the modes of the rule, with HU_EN, until the flush ends. -/
def State.holdupEn (s : State) : Bool :=
  s.on R.PW_HU_CFG_HU_EN &&
    (s.modeIn flushModes || ((s.mode == .holdupFlush || (s.mode == .thermalRest && s.pwr.tripFlush)) && !s.pwr.flushEnded))

/-- Hold-up is disarmed: ACK_RULE becomes 0 (R91, R392). -/
def State.disarm (s : State) : State :=
  if s.on R.PW_STS_ARMED then
    (((s.setF R.PW_STS_ARMED 0).setF R.RC_ACK_STS_ACK_RULE 0).addF R.RC_ACK_STS_RULE_CHANGES).raise R.PW_EVT_DISARMED
      |>.raise R.RC_EVT_ACK_RULE_CHG 0
  else s

/-- COUNT: the number of the highest blown ROLLBACK bit plus 1 (Table 15-1). -/
def rollbackCount (raw : Nat) : Nat := if raw = 0 then 0 else Nat.log2 raw + 1

abbrev State.count (s : State) : Nat := rollbackCount s.boot.fuses.rollback

/-- COUNT raised to n by blowing bit n − 1 of ROLLBACK (R428). -/
def State.raiseCount (s : State) (n : Nat) : State :=
  if s.count < n then
    ({ s with boot.fuses.rollback := s.boot.fuses.rollback ||| (1 <<< (n - 1)) }).raise R.BT_EVT_RB_RAISED n
  else s

/-- An entry to Service raises COUNT to the lower SVN of the images verified, with RB_AUTO (R428). -/
def State.serviceEntry (s : State) : State :=
  match s.boot.svns with
  | some (a, b) => if s.on R.BT_CFG_RB_AUTO then s.raiseCount (min a b) else s
  | none => s

/-- The mode changes and the change is logged (R32); a HOLDUP_EN that falls disarms hold-up (R392); an entry to Service raises
the rollback count (R428). -/
def State.chmode (s : State) (t : Nat) (m : Mode) : State :=
  let old := s.mode
  let s := { s with ctl.mode := m, ctl.prev := old.num, ctl.trigger := t, ctl.changes := satInc 16 s.ctl.changes }
  let s := s.raise R.GL_EVT_MODE_CHG old.num m.num t
  let s := s.setF R.PW_STS_HOLDUP_EN (b2n s.holdupEn)
  let s := if s.holdupEn then s else s.disarm
  if m = .service then s.serviceEntry else s

/-- A transition by Table 01-8; a trigger without a row for the current mode is ignored and logged (R34). -/
def State.move (s : State) (t : Nat) (m : Mode) : State :=
  if canMove s.mode t m then s.chmode t m else s.trigIgnored t

end Sys2Proof.Machine
end

