-- ==== Sys2Proof/Machine/Loops.lean ====
section
/-! DEFINITION. Loops.lean: the arithmetic of the Governor: Q8.24 saturation (R167), the update of one loop (R166), the
preset (R178), plausibility (R174 to R176), histograms (R163, R164), the share pass (R173), profiles (R181). -/

namespace Sys2Proof.Machine

/-- 1.0 in Q8.24. -/
def q24 : Int := 16777216

/-- num ÷ den rounded to the nearest integer, ties away from zero (R167). -/
def roundAway (num : Int) (den : Nat) : Int :=
  let m : Int := ((2 * num.natAbs + den) / (2 * den) : Nat)
  if num < 0 then -m else m

/-- sat(): the exact value num ÷ den rounded and saturated to Q8.24; and whether it saturated (R167). -/
def satQ (num : Int) (den : Nat) : Int × Bool :=
  let v := roundAway num den
  if v > 0x7FFFFFFF then (0x7FFFFFFF, true) else if v < -0x80000000 then (-0x80000000, true) else (v, false)

/-- Element i of a vector; 0 beyond its length. -/
def elt (l : List Int) (i : Nat) : Int := (l[i]?).getD 0

/-- A vector, each of whose n elements is formed by f and saturated; and whether any saturated. -/
def satVec (n : Nat) (f : Nat → Int × Nat) : List Int × Bool :=
  let r := (List.range n).map fun i => satQ (f i).1 (f i).2
  (r.map Prod.fst, r.any Prod.snd)

/-- The sum of f 0 to f (n − 1). -/
def sumTo (n : Nat) (f : Nat → Int) : Int := (List.range n).foldl (fun a i => a + f i) 0

/-! ### Profiles (Tables 06-5 to 06-7) -/

/-- A profile as its words; words are 32-bit numbers. -/
abbrev Prof := Nat → Nat

def Prof.q (p : Prof) (w : Nat) : Int := ofField 32 (p w % 2 ^ 32)
def Prof.nx (p : Prof) : Nat := bitsOf (p 130) 0 3
def Prof.muse (p : Prof) : Nat := bitsOf (p 130) 4 4
/-- Outputs computed: 1 or 2. -/
def Prof.nu (p : Prof) : Nat := if bit (p 130) 8 then 2 else 1
def Prof.isel (p : Prof) (j : Nat) : Nat := bitsOf (p 130) (9 + 2 * j) 2
def Prof.pcount (p : Prof) : Nat := bitsOf (p 130) 13 8
def Prof.retry (p : Prof) : Nat := bitsOf (p 130) 21 8
def Prof.aw (p : Prof) : Bool := bit (p 130) 29
def Prof.mshift (p : Prof) (i : Nat) : Nat := bitsOf (p 131) (8 * i) 5
def Prof.initU (p : Prof) (j : Nat) : Int := p.q (132 + j)
def Prof.umin (p : Prof) (j : Nat) : Int := p.q (110 + j)
def Prof.umax (p : Prof) (j : Nat) : Int := p.q (112 + j)
def Prof.warm (p : Prof) : Nat := bitsOf (p 134) 0 16
/-- BUDGET, BOUND, RA_MIN, RA_MAX, DECAY and MIN_CNT of a latency class (Table 06-7). -/
def Prof.budget (p : Prof) : Nat := p 136
def Prof.bound (p : Prof) : Nat := p 137
def Prof.raMin (p : Prof) : Nat := bitsOf (p 138) 0 16
def Prof.raMax (p : Prof) : Nat := bitsOf (p 138) 16 16
def Prof.decay (p : Prof) : Nat := bitsOf (p 139) 0 5
def Prof.minCnt (p : Prof) : Nat := bitsOf (p 139) 16 16

/-- A word of profile n without its reserved bits, which read 0 and take nothing (R12, Tables 06-5 and 06-7). -/
def profBits (n w v : Nat) : Nat :=
  let m := if w = 130 then 0x3FFFFFF7 else if w = 131 then 0x1F1F1F1F else if w = 134 then 0xFFFF
    else if w = 135 ∨ 140 ≤ w then 0
    else if n = 16 then (if w = 136 then 0xFFFFF else if w = 137 then 0xFFF else 0xFFFFFFFF)
    else if n = 17 then (if w = 136 then 0xFFFF else if 137 ≤ w then 0 else 0xFFFFFFFF)
    else if w = 139 then 0xFFFF001F else 0xFFFFFFFF
  v &&& m

/-- The live profile n (R155). -/
def State.prof (s : State) (n : Nat) : Prof := fun w => s.per.profiles.get (n * 256 + w)

/-- The checks of Table 06-6. -/
def profileOk (n : Nat) (p : Prof) : Bool :=
  let used := fun i => bit p.muse i
  let common := 1 ≤ p.nx && p.nx ≤ 6 && p.muse != 0 && 1 ≤ p.pcount &&
    (List.range 4).all (fun i => !used i || p.q (114 + i) > 0) && used (p.isel 0) && (p.nu == 1 || used (p.isel 1)) &&
    (List.range 2).all fun j => p.umin j ≤ p.initU j && p.initU j ≤ p.umax j
  common &&
    (if n < 16 then
      p.umin 0 ≥ 0 && p.umax 0 == q24 && 0 ≤ p.umin 1 && p.umin 1 ≤ p.umax 1 && p.umax 1 ≤ q24 && p.raMin ≤ p.raMax &&
        p.decay ≤ 20 && 1500 ≤ p.budget && 100 ≤ p.bound
    else if n = 16 then
      0 ≤ p.umin 0 && p.umin 0 ≤ p.umax 0 && p.umax 0 ≤ q24 && 1048576 ≤ p.umin 1 && p.umin 1 ≤ p.umax 1 &&
        p.umax 1 ≤ q24 && bitsOf (p 136) 20 12 == 0 && 32 ≤ bitsOf (p 137) 0 12 && bitsOf (p 137) 0 12 ≤ 2048
    else
      (List.range 2).all fun j => 0 ≤ p.umin j && p.umin j ≤ p.umax j && p.umax j ≤ q24)

/-! ### The update (R165, R166, R174 to R178) -/

/-- What one computation of a loop reports beside the new entry. -/
structure StepRes where
  loop : Loop := {}
  /-- The loop fell back: the first measurement whose residual exceeded its limit, or none (R175). -/
  fell : Option Nat := none
  returned : Bool := false
  cleared : Bool := false
deriving DecidableEq, Repr, Inhabited

/-- The normalised measurements, RHO and x̂ of R165 and R166: `m i` is none when m_i is stale. -/
def observe (p : Prof) (m : Nat → Option Int) (l : Loop) : Loop :=
  let valid := fun i => bit p.muse i && (m i).isSome
  let ys := (List.range 4).map fun i =>
    if valid i then satQ ((((m i).getD 0) - p.q (126 + i)) * p.q (122 + i)) (2 ^ p.mshift i) else (elt l.y i, false)
  let y := ys.map Prod.fst
  let rho := (List.range 4).map fun i =>
    if valid i then satQ (elt y i * q24 - sumTo p.nx fun j => p.q (48 + 6 * i + j) * elt l.xp j) (2 ^ 24) else (0, false)
  let r := rho.map Prod.fst
  let x := satVec 6 fun i =>
    if i < p.nx then (elt l.xp i * q24 + sumTo 4 fun j => p.q (72 + 4 * i + j) * elt r j, 2 ^ 24) else (0, 1)
  { l with
    y := y, rho := r, x := x.1, sat := ys.any Prod.snd || rho.any Prod.snd || x.2,
    masked := (List.range 4).foldl (fun a i => setBit a i (!valid i)) 0 }

/-- The first measurement whose residual exceeds its limit (R174). -/
def firstBad (p : Prof) (l : Loop) : Option Nat :=
  (List.range 4).find? fun i => !bit l.masked i && ((elt l.rho i).natAbs : Int) > p.q (114 + i)

/-- BAD_RUN, GOOD_RUN and PLAUSIBLE of a sample (R174). -/
def plausibility (p : Prof) (l : Loop) : Loop :=
  let l' := { l with warm := l.warm - 1 }
  if (firstBad p l).isSome then
    { l' with plausible := false, badRun := if 0 < l.warm then 0 else satInc 8 l.badRun, goodRun := 0 }
  else if l.masked % 16 ≠ 15 then { l' with plausible := true, badRun := 0, goodRun := satInc 8 l.goodRun }
  else { l' with plausible := false }

/-- Output j of the outputs pair. -/
def pick (j : Nat) (a b : Int) : Int := if j = 0 then a else b

/-- dot(K[j], x̂), exact, in units of 2^-48. -/
def kx (p : Prof) (x : List Int) (j : Nat) : Int := sumTo p.nx fun i => p.q (96 + 6 * j + i) * elt x i

/-- The integrator and output j of R166; and whether a value saturated. -/
def outputStep (p : Prof) (l : Loop) (preset : Bool) (j : Nat) : Int × Int × Bool :=
  let z := pick j l.z0 l.z1
  let u := pick j l.u0 l.u1
  let hold := pick j l.hold0 l.hold1
  let (z, s1) :=
    if preset then satQ (hold * q24 + kx p l.x j) (2 ^ 24)
    else if l.mode = 2 then
      let i := p.isel j
      let (d, sd) := satQ (p.q (108 + j) * (p.q (118 + i) - elt l.y i)) (2 ^ 24)
      let wind := (u = p.umax j ∧ 0 < d) ∨ (u = p.umin j ∧ d < 0)
      if !bit l.masked i && !(p.aw && decide wind) then
        let (z', sz) := satQ (z + d) 1
        (z', sd || sz)
      else (z, sd)
    else (z, false)
  let (v, s2) := satQ (z * q24 - kx p l.x j) (2 ^ 24)
  let u := if l.mode = 2 then min (p.umax j) (max (p.umin j) v) else if l.mode = 1 then pick j l.man0 l.man1 else 0
  (z, u, s1 || s2)

/-- A preset that would saturate clears x̂ and x̂p and takes Z = u_hold (R178). -/
def presetClears (p : Prof) (l : Loop) : Bool :=
  (List.range p.nu).any fun j => (satQ (pick j l.hold0 l.hold1 * q24 + kx p l.x j) (2 ^ 24)).2

/-- The prediction for the next sample. -/
def predict (p : Prof) (l : Loop) : Loop :=
  let xp := satVec 6 fun i =>
    if i < p.nx then
      (sumTo p.nx (fun j => p.q (6 * i + j) * elt l.x j) + p.q (36 + 2 * i) * l.u0 +
        (if p.nu = 2 then p.q (37 + 2 * i) * l.u1 else 0), 2 ^ 24)
    else (0, 1)
  { l with xp := xp.1, sat := l.sat || xp.2 }

/-- One loop, one sample (R166), with fallback (R175) and the return to Auto (R176) of the same pass. -/
def loopStep (p : Prof) (m : Nat → Option Int) (l : Loop) : StepRes :=
  let l := plausibility p (observe p m l)
  let fall := l.mode == 2 && p.pcount ≤ l.badRun
  let ret := l.mode == 1 && l.fallback && p.retry != 0 && p.retry ≤ l.goodRun
  let l := if fall then
      { l with mode := 1, man0 := l.upl0, man1 := l.upl1, fallback := true, fallbacks := satInc 16 l.fallbacks, preset := false }
    else if ret then { l with mode := 2, fallback := false, preset := true, hold0 := l.u0, hold1 := l.u1 }
    else l
  let preset := l.preset || l.mode == 3
  let l := if l.mode = 3 then { l with hold0 := 0, hold1 := 0 } else l
  let clears := preset && presetClears p l
  let l := if clears then { l with x := [], xp := [] } else l
  let (z0, u0, s0) := outputStep p l preset 0
  let (z1, u1, s1) := if p.nu = 2 then outputStep p l preset 1 else (0, if l.mode = 3 then 0 else p.initU 1, false)
  let l := { l with z0 := z0, z1 := z1, u0 := u0, u1 := u1, sat := l.sat || s0 || s1, preset := false, manW := false }
  let l := if l.plausible then { l with upl0 := u0, upl1 := u1 } else l
  { loop := predict p l, fell := if fall then some ((firstBad p l).getD noP) else none, returned := ret, cleared := clears }

/-- The start of a loop in Auto (R157). -/
def loopStart (p : Prof) (tb : Nat) : Loop :=
  { mode := 2, z0 := p.initU 0, z1 := p.initU 1, u0 := p.initU 0, u1 := p.initU 1, upl0 := p.initU 0, upl1 := p.initU 1,
    warm := p.warm, since := tb }

/-- RA_SLACK of output u1 (R168). -/
def raSlack (p : Prof) (u1 : Int) : Nat := ((p.raMin * 2 ^ 24 + u1.toNat * (p.raMax - p.raMin)) * 64) / 2 ^ 24

/-! ### Histograms (R163, R164) -/

/-- E(b) = round(1,500 × 2^(b/4)) for b = 0 to 62 (Table 06-4). -/
def bucketEdges : List Nat :=
  [1500, 1784, 2121, 2523, 3000, 3568, 4243, 5045, 6000,
   7135, 8485, 10091, 12000, 14270, 16971, 20182, 24000, 28541,
   33941, 40363, 48000, 57082, 67882, 80726, 96000, 114164, 135765,
   161452, 192000, 228328, 271529, 322904, 384000, 456656, 543058, 645808,
   768000, 913311, 1086116, 1291617, 1536000, 1826622, 2172232, 2583234, 3072000,
   3653244, 4344464, 5166468, 6144000, 7306489, 8688928, 10332935, 12288000, 14612977,
   17377856, 20665870, 24576000, 29225954, 34755713, 41331741, 49152000, 58451908, 69511425]

def bucketE (b : Nat) : Nat := (bucketEdges[b]?).getD 0

/-- The bucket that a latency falls in. -/
def bucketOf (t : Nat) : Nat := (bucketEdges.filter (· < t)).length

/-- The decay of a bucket with n completions in the sample (R163). -/
def decayed (h decay n : Nat) : Nat := min (h - (h >>> decay) + n * 256) (2 ^ 32 - 1)

/-- The estimate of R164 for the tail fraction 1 ÷ q; `h b` in Q24.8. None: stale. -/
def estimate (h : Nat → Nat) (minCnt q : Nat) : Option Nat :=
  let total := (List.range 64).foldl (fun a b => a + h b) 0
  if total < minCnt * 256 then none
  else
    let r := (List.range 64).foldl (fun (acc : Nat × Option Nat) k =>
      let b := 63 - k
      match acc.2 with
      | some _ => acc
      | none =>
        if total ≤ (acc.1 + h b) * q then
          if b = 63 then (acc.1, some (bucketE 62))
          else
            let lo := if b = 0 then 0 else bucketE (b - 1)
            -- E(b) − (tau − S) × (E(b) − lo) ÷ H[b], rounded down
            let num := (total - acc.1 * q) * (bucketE b - lo)
            let den := q * h b
            (acc.1, some (if den = 0 then bucketE b else bucketE b - ceilDiv num den))
        else (acc.1 + h b, none)) (0, none)
    r.2

/-! ### The share pass (R173) -/

/-- The grants of a cap among (key, request, guarantee), in the requests' unit; the second number divides the first. -/
def share (l : List (Nat × Nat × Nat)) (cap : Nat) : List (Nat × Nat × Nat) :=
  let total := l.foldl (fun a x => a + x.2.1) 0
  if total ≤ cap then l.map fun (k, d, _) => (k, d, 1)
  else
    let gsum := l.foldl (fun a x => a + min x.2.1 x.2.2) 0
    if cap ≤ gsum then l.map fun (k, d, g) => (k, min d g * cap, gsum)
    else
      let t := total - gsum
      l.map fun (k, d, g) => (k, min d g * t + (d - min d g) * (cap - gsum), t)

end Sys2Proof.Machine
end

