-- ==== Sys2Proof/Machine/Cmds.lean ====
section
/-! DEFINITION. Cmds.lean: the command table, completions, discards, the Sluice's closure and backpressure (03, 05). -/

namespace Sys2Proof.Machine

/-! ### Accessors -/

/-- The live set of a slice. -/
abbrev State.cfg (s : State) (n : Nat) : SliceCfg := s.per.slices.get n
abbrev State.sl (s : State) (n : Nat) : Slice := s.slices.get n
abbrev State.cmd (s : State) (c : Nat) : Cmd := s.cmds.get c
abbrev State.queue (s : State) (q : Nat) : Queue := s.queues.get q
abbrev State.conn (s : State) (c : Nat) : Conn := s.conns.get c
abbrev State.ctrl (s : State) (c : Nat) : Ctrl := s.ctrls.get c

def State.modSl (s : State) (n : Nat) (f : Slice → Slice) : State := { s with slices := s.slices.mod n f }
def State.modCmd (s : State) (c : Nat) (f : Cmd → Cmd) : State := { s with cmds := s.cmds.mod c f }
def State.modQueue (s : State) (q : Nat) (f : Queue → Queue) : State := { s with queues := s.queues.mod q f }
def State.modConn (s : State) (c : Nat) (f : Conn → Conn) : State := { s with conns := s.conns.mod c f }
def State.modCtrl (s : State) (c : Nat) (f : Ctrl → Ctrl) : State := { s with ctrls := s.ctrls.mod c f }

/-- Key of the first admin queue context. -/
def adminBase : Nat := 0x10000

/-- The port of device link L (R45). -/
def portOf (link : Nat) : Nat := link / 4 % 2
abbrev State.linkOf (s : State) (l : Nat) : Link := s.links.get l
def State.modLink (s : State) (l : Nat) (f : Link → Link) : State := { s with links := s.links.mod l f }

/-! ### The Sluice's closure (R141) and backpressure (R61, R85) -/

/-- MGR of a slice (R143). -/
def State.mgrHold (s : State) (n : Nat) : Bool := bit (s.f R.SL_HOLD_HOLD 0 (n / 32)) (n % 32)

/-- CLOSE_CAUSE (Table 05-6). -/
def State.closeCause (s : State) (n : Nat) : Nat :=
  (s.sl n).cause ||| (if s.mgrHold n then 2 else 0) ||| (if s.gov.dev then 8 else 0)

/-- Backpressure wanted on a connection (R61, R85). -/
def State.bpWanted (s : State) (c : Conn) : Bool :=
  c.alive && c.kind == .io &&
    (s.on R.RC_CBP_STS_CMDTAB_BP || bit (s.f R.RC_CBP_STS_HRBUF_BP) (portOf c.link) || s.closeCause c.slice != 0)

/-- LSTATE of device link L (Table 02-3). -/
def State.linkState (s : State) (l : Nat) : Nat := s.f R.PT_LINK_STS_LSTATE (l / 4) (l % 4)

/-- Bytes of [a, b) that no range of a list holds. -/
def gapIn (a b : Nat) : List (Nat × Nat) → Nat
  | [] => b - a
  | (c, d) :: r => if b ≤ a then 0 else if d ≤ a ∨ b ≤ c ∨ d ≤ c then gapIn a b r else gapIn a c r + gapIn (max a d) b r

/-- Bytes still owed under the R2Ts of a TCP connection with what their H2CData PDUs add, rounded up to a multiple of 128 (R61): its
Granted slots are those of the R2Ts sent. -/
def State.owed (s : State) (c : Nat) : Nat :=
  let cn := s.conn c
  let t := s.hop.slots.foldl (fun a (_, x) =>
    if x.state = .granted ∧ x.conn = c then
      let m := gapIn 0 x.length x.arrived
      a + m + (m + 65535) / 65536 * (24 + 4 * b2n cn.hdgst + 4 * b2n cn.ddgst)
    else a) 0
  (t + 127) / 128 * 128

/-- The value of an AETH credit code below 31; PRESUMED, from the InfiniBand table (notes/assumptions/71). -/
def creditValue (k : Nat) : Nat := if k < 2 then k else if k % 2 = 0 then 2 ^ (k / 2) else 3 * 2 ^ (k / 2 - 1)

/-- The largest AETH credit code whose value does not exceed n (R61). -/
def creditCode (n : Nat) : Nat := ((List.range 31).filter fun k => decide (creditValue k ≤ n)).getLastD 0

/-- What an ACK of a connection advertises now (R61, R64, Table 02-5): the receive window in bytes on TCP, the credit code of the
receive buffers posted on RDMA. -/
def State.advert (s : State) (c : Nat) : Nat :=
  let cn := s.conn c
  if cn.rdma then (if cn.bp then 0 else creditCode cn.bufs)
  else if cn.bp then s.owed c
  else if cn.kind = .io then 262144 else 65536

/-- The connection's window or credits are advertised. -/
def State.advertise (s : State) (c : Nat) : State :=
  let v := s.advert c
  if (s.conn c).rdma then s.send .credit c [v] else (s.modConn c fun x => { x with window := v }).send .tcpWindow c [v]

/-- A TCP ACK is sent: a window that differs from the one last advertised is advertised with it (R61). -/
def State.tcpAcks (s : State) (c : Nat) : State :=
  if (s.conn c).alive ∧ s.advert c ≠ (s.conn c).window then s.advertise c else s

/-- A connection follows the backpressure wanted of it: window on TCP, credits on RDMA, in the next ACK; while its link is not Up,
Table 02-7 governs it and nothing is sent (R64). -/
def State.bpConn (s : State) (c : Nat) : State :=
  let cn := s.conn c
  let w := s.bpWanted cn
  if w = cn.bp then s
  else
    let s := s.modConn c fun x => { x with bp := w }
    if s.linkState cn.link = 2 then s.advertise c else s

/-- Every connection follows. -/
def State.bpAll (s : State) : State := (s.conns.map Prod.fst).foldl State.bpConn s

/-- Entries of the I/O part in use (IO_USED) and of the admin part. -/
def State.ioUsed (s : State) : Nat := s.cmds.count fun _ c => c.alive && decide (c.queue < adminBase)
def State.admUsed (s : State) : Nat := s.cmds.count fun _ c => c.alive && decide (adminBase ≤ c.queue)

/-- Capsule buffer held on port p by I/O (or admin) capsules, bytes (R84). -/
def State.hrBytes (s : State) (p : Nat) (admin : Bool) : Nat :=
  s.cmds.foldl (fun a (_, c) =>
    if c.alive ∧ c.port = p ∧ decide (adminBase ≤ c.queue) = admin then a + c.hb else a) 0

/-- Backpressure of R85 starts and ends by its thresholds. -/
def State.bpThresholds (s : State) : State :=
  let used := s.ioUsed
  let start := fun (s : State) => s.addF R.RC_CBP_STS_BP_STARTS
  let s := if !s.on R.RC_CBP_STS_CMDTAB_BP && decide (s.f R.RC_CMDTAB_THR_XOFF_K * 1024 ≤ used) then
      (start (s.setF R.RC_CBP_STS_CMDTAB_BP 1)).raise R.RC_EVT_CMDTAB_BP
    else if s.on R.RC_CBP_STS_CMDTAB_BP && decide (used < s.f R.RC_CMDTAB_THR_XON_K * 1024) then s.setF R.RC_CBP_STS_CMDTAB_BP 0
    else s
  s.each 2 fun s p =>
    let b := s.hrBytes p false
    let on := bit (s.f R.RC_CBP_STS_HRBUF_BP) p
    if !on && decide (3136 * 1024 ≤ b) then
      (start (s.setF R.RC_CBP_STS_HRBUF_BP (setBit (s.f R.RC_CBP_STS_HRBUF_BP) p true))).raise R.RC_EVT_HRBUF_BP p
    else if on && decide (b < 2688 * 1024) then s.setF R.RC_CBP_STS_HRBUF_BP (setBit (s.f R.RC_CBP_STS_HRBUF_BP) p false)
    else s

/-- Thresholds, then connections (R85). -/
def State.bpUpdate (s : State) : State := s.bpThresholds.bpAll

/-- The time that a slice's Sluice spends Closed (R480) follows its causes; its connections follow (R61). -/
def State.sluiceSync (s : State) (n : Nat) : State :=
  let closed := s.closeCause n != 0
  let x := s.sl n
  let s := if closed && x.closedSince == 0 then s.modSl n fun x => { x with closedSince := s.clk.tb + 1 }
    else if !closed && x.closedSince != 0 then
      s.modSl n fun x => { x with closedTicks := x.closedTicks + (s.clk.tb + 1 - x.closedSince), closedSince := 0 }
    else s
  s.bpAll

/-! ### Rates of a slice (R139) -/

/-- cmd_ceil_inc and byte_ceil_inc, Q8.16, rounded down (R139). -/
def cmdCeilInc (kiops : Nat) : Nat := kiops * 1000 * 1024 * 65536 / 1500000000
def byteCeilInc (mbps : Nat) : Nat := mbps * 1000000 * 1024 * 65536 / (1500000000 * 4096)

/-- Units of 4 KiB in flight (INFLIGHT). -/
def State.inflight (s : State) (n : Nat) : Nat :=
  s.cmds.foldl (fun a (_, c) => if c.alive ∧ c.slice = n then a + c.units else a) 0

/-- A write, Write Zeroes or Zone Append (R140 item 5). -/
def isWriteOpc (opc : Nat) : Bool := opc == 0x01 || opc == 0x08 || opc == 0x7D

/-! ### Completion -/

/-- DNR of a status, SCT × 256 + SC (Table 03-7, Table 05-1): 0 for success, Sanitize In Progress and Controller Busy, and
for the firmware activation statuses. -/
def dnrOf (st : Nat) : Bool := st != 0 && st != 0x1D && st != 0x181 && st != 0x110 && st != 0x10B

/-- Error Information (64 entries per controller), newest first. -/
def State.logError (s : State) (ctrl cid status loc : Nat) : State :=
  s.modCtrl ctrl fun c =>
    { c with errs := (⟨cid, status, loc⟩ :: c.errs).take 64, errCount := c.errCount + 1 }

/-- The deadline of a read, ticks: arrival plus BUDGET, or the Voxbel hint (R168, R209). -/
def State.deadlineOf (s : State) (cm : Cmd) : Nat :=
  let p := s.prof (s.cfg cm.slice).latClass
  let h := cm.sqe.cdw14.toNat % 2 ^ 24
  if h ≠ 0 ∧ cm.sqe.opc = 0x02 ∧ bit (s.ctrl cm.cntlid).vxFeat 3 then
    cm.tArr + Config.ticksPerUs * min (max h (s.f R.MD_ZDL_DL_MIN_US)) p.bound
  else cm.tArr + p.budget

/-- The latency of a finished read or write enters its slice's histogram (R163), a late read counts (R169), and the media
units of a command count for the sample (Table 06-1). -/
def State.measure (s : State) (cm : Cmd) : State :=
  if adminBase ≤ cm.queue then s
  else
    let g := s.gov
    let g := if cm.sqe.opc = 0x02 ∨ isWriteOpc cm.sqe.opc then
        let k := cm.slice * 128 + (if cm.sqe.opc = 0x02 then 0 else 64) + bucketOf (s.clk.tb - cm.tArr)
        { g with histNew := g.histNew.mod k (· + 1) }
      else g
    let g := if cm.sqe.opc = 0x02 ∧ (if cm.deadline = 0 then s.deadlineOf cm else cm.deadline) < s.clk.tb then
        { g with loops := g.loops.mod cm.slice fun l => { l with miss := satInc 32 l.miss } }
      else g
    { s with gov := { g with units := g.units.mod cm.slice (· + cm.units) } }

/-- No slot request of a command waits any more. -/
def State.dropWaits (s : State) (c : Nat) : State :=
  { s with
    hop.wq := s.hop.wq.mapAll fun _ l => l.filter (· ≠ c),
    hop.rq := s.hop.rq.mapAll fun _ l => l.filter (· ≠ c),
    hop.reserve := if s.hop.reserve = some c then none else s.hop.reserve }

/-- A command-table entry is freed: SQHD advances, and nothing of it waits (R81, R83). -/
def State.freeCmd (s : State) (c : Nat) : State :=
  let cm := s.cmd c
  let s := (s.dropWaits c).modQueue cm.queue fun q =>
    { q with sqhd := (q.sqhd + 1) % (q.sqsize + 1), waiting := q.waiting.filter (· ≠ c) }
  { s with cmds := s.cmds.set c {} }.bpUpdate

/-- A response capsule is sent with Invalidate of the key that the host named (Table 02-6): 1 and the key. -/
def invalidates (e : Sqe) : List Nat := if e.inval then [1, e.rkey] else []

/-- The Tailrace posts a completion (R87): status SCT × 256 + SC, dwords 0 and 1; the entry is freed (R81). A command whose
queue is deleted finishes without one (R96). -/
def State.complete (s : State) (c : Nat) (status : Nat := 0) (dw0 : Nat := 0) (dw1 : Nat := 0) (loc : Nat := 0xFFFF) : State :=
  let cm := s.cmd c
  if ¬ cm.alive then s
  else
    let q := s.queue cm.queue
    if cm.mute then s.freeCmd c
    else
      let s := s.measure cm
      let s := if status = 0 then s else s.logError cm.cntlid cm.sqe.cid status loc
      let s := s.send .completion cm.conn
        ([cm.sqe.cid, (q.sqhd + 1) % (q.sqsize + 1), status, b2n (dnrOf status), dw0, dw1] ++ invalidates cm.sqe)
      let s := s.modQueue cm.queue fun q => { q with posted := (q.posted + 1) % 2 ^ 32 }
      s.freeCmd c

/-- An asynchronous event for a controller: it completes the oldest outstanding request, or waits for one (R98). The entry is
(type, information, log page). -/
def State.asyncEvent (s : State) (ctrl : Nat) (e : Nat × Nat × Nat) : State :=
  match (s.ctrl ctrl).aers with
  | c :: r => (s.modCtrl ctrl fun x => { x with aers := r }).complete c 0 (e.1 + 256 * e.2.1 + 65536 * e.2.2)
  | [] => s.modCtrl ctrl fun x => { x with aevs := x.aevs ++ [e] }

/-- A command fails. -/
abbrev State.failCmd (s : State) (c st : Nat) : State := s.complete c st

/-- A command that was not dispatched is discarded (Table 03-2, R147 step 4). -/
def State.discard (s : State) (c : Nat) : State := (s.freeCmd c).addF R.RC_CANCEL_DISCARDED

/-- Data passed to the host with an admin command: numbers of 32 bits, or what the log page or structure holds. -/
def State.adminData (s : State) (c : Nat) (args data : List Nat) : State :=
  let cm := s.cmd c
  if cm.mute then s else s.send .adminData cm.conn (cm.sqe.cid :: args) data

/-- The first key at or after base that a table does not list. -/
def firstFree {α : Type} (base : Nat) : Tab α → Nat
  | [] => base
  | (k, _) :: r => if k < base then firstFree base r else if k = base then firstFree (base + 1) r else base

/-- First command-table entry of the admin part: 16 for each admin queue context (R81; the numbering is a DESIGN CHOICE, notes/assumptions/15). -/
def admEntry (q : Nat) : Nat := 196608 + 16 * (q - adminBase)

/-- The command-table entry that a parsed capsule takes; none when the part is full (R81). -/
def State.freeEntry (s : State) (q : Nat) : Option Nat :=
  if q < adminBase then
    let e := firstFree 0 s.cmds
    if e < 196608 then some e else none
  else
    let e := firstFree (admEntry q) s.cmds
    if e < admEntry q + 16 then some e else none

/-- Outstanding commands of a queue. -/
def State.outstanding (s : State) (q : Nat) : List Nat := s.cmds.keysWhere fun _ c => c.alive && c.queue == q

/-- A control processor runs; with every one stopped admin commands wait and media management stops (R448, Table 16-3). -/
def State.cpUp (s : State) : Bool := s.cpus.stopped % 4096 != 4095

/-- An admin command of an operand: alive, on an admin queue, its own step not yet run, with a control processor to run it (R448). -/
def State.admCmd (s : State) (c opc : Nat) : Bool :=
  let cm := s.cmd c
  cm.alive && decide (adminBase ≤ cm.queue) && cm.phase == .dispatched && cm.sqe.opc == opc && s.cpUp

/-- An I/O command of an operand: dispatched by its Sluice, its own step not yet run. -/
def State.ioCmd (s : State) (c opc : Nat) : Bool :=
  let cm := s.cmd c
  cm.alive && decide (cm.queue < adminBase) && cm.phase == .dispatched && cm.sqe.opc == opc

/-- The step of a command begins: it runs. -/
def State.running (s : State) (c : Nat) : State := s.modCmd c fun x => { x with phase := .running }

end Sys2Proof.Machine
end

