-- ==== Sys2Proof/Machine/Hopper.lean ====
section
/-! DEFINITION. Hopper.lean: slot pools and classes, the slot descriptor and its states, quotas and the waiting queues (04). -/

namespace Sys2Proof.Machine

abbrev State.slot (s : State) (n : Nat) : Slot := s.hop.slots.get n
def State.modSlot (s : State) (n : Nat) (f : Slot → Slot) : State := { s with hop.slots := s.hop.slots.mod n f }

/-- COUNT of class c; `rd`: the read pool. -/
def State.classCount (s : State) (rd : Bool) (c : Nat) : Nat :=
  if rd then s.f R.HP_RCLASS_COUNT 0 c else s.f R.HP_WCLASS_COUNT 0 c

/-- The first slot number of class c: class 3 first, then 2, 1 and 0 (R107). -/
def State.classBase (s : State) (rd : Bool) (c : Nat) : Nat :=
  (if rd then 16384 else 0) + (((List.range 4).filter (· > c)).foldl (fun a k => a + s.classCount rd k) 0)

/-- Slot size of class c (Table 04-2). -/
def classSize (c : Nat) : Nat := 4096 * 4 ^ c

/-- Direction and class that a slot number fixes; none beyond the pools. -/
def State.slotInfo (s : State) (n : Nat) : Option (Bool × Nat) :=
  let rd := decide (16384 ≤ n)
  ((List.range 4).find? fun c =>
    decide (s.classBase rd c ≤ n) && decide (n < s.classBase rd c + s.classCount rd c)).map fun c => (rd, c)

def State.slotDir (s : State) (n : Nat) : Bool := match s.slotInfo n with
  | some (d, _) => d
  | none => decide (16384 ≤ n)
def State.slotClass (s : State) (n : Nat) : Nat := match s.slotInfo n with
  | some (_, c) => c
  | none => 0

/-- A free slot of class c, lowest number first (which one is a DESIGN CHOICE, notes/assumptions/15). -/
def State.freeSlot (s : State) (rd : Bool) (c : Nat) : Option Nat :=
  let b := s.classBase rd c
  let n := firstFree b s.hop.slots
  if n < b + s.classCount rd c then some n else none

/-- FREE of class c. -/
def State.freeCount (s : State) (rd : Bool) (c : Nat) : Nat :=
  s.classCount rd c - s.hop.slots.count fun n _ => s.slotInfo n == some (rd, c)

/-- The class chosen for a remaining length R (R108, R109). -/
def wantClass (big : Bool) (r : Nat) : Nat :=
  if r > 65536 then 3 else if r > 16384 then 2 else if r > 4096 ∨ big then 1 else 0

/-- The slot and LENGTH for a remaining length R: the chosen class, or by FALLBACK a larger one, or the largest smaller one
(R108, R109); of no class that is reserved for another read (R128). -/
def State.chooseSlot (s : State) (rd big : Bool) (r : Nat) (reserved : List Nat := []) : Option (Nat × Nat) :=
  let c := wantClass big r
  let order := if s.on R.HP_CFG_FALLBACK then
      [c] ++ (List.range 4).filter (· > c) ++ (([2, 1, 0] : List Nat).filter fun k => decide (k < c) && (!big || decide (1 ≤ k)))
    else [c]
  (order.filter fun k => !reserved.contains k).findSome? fun k => (s.freeSlot rd k).map fun n => (n, min r (classSize k))

/-- KiB of a direction charged to a slice (R127): every slot that is not Free, at its class size. -/
def State.slotUse (s : State) (rd : Bool) (slice : Nat) : Nat :=
  s.hop.slots.foldl (fun a (n, x) =>
    if x.slice = slice ∧ s.slotDir n = rd then a + classSize (s.slotClass n) / 1024 else a) 0

/-- The slice's quota of a direction, KiB. -/
def State.slotQuota (s : State) (rd : Bool) (slice : Nat) : Nat :=
  if rd then (s.cfg slice).rsqMib * 1024 else (s.cfg slice).wsqKib

/-- Bytes in a logical block of a command's namespace. -/
def State.blkSize (s : State) (ns : Nat) : Nat := if (s.per.ns.get ns).big then 16384 else 4096

/-- A slot is taken (R111): its descriptor is written. -/
def State.takeSlot (s : State) (n : Nat) (st : SlotState) (c len : Nat) : State :=
  let cm := s.cmd c
  { s with
    hop.slots := s.hop.slots.set n
      { state := st, epoch := (s.sl cm.slice).epoch, slice := cm.slice, length := len, cmd := c, offset := cm.cut,
        conn := cm.conn } }.modCmd c fun x => { x with cut := x.cut + len }

/-- A slot returns to Free: its descriptor is zero again (R111). -/
def State.freeSlotN (s : State) (n : Nat) : State := { s with hop.slots := s.hop.slots.set n {} }

/-- Slots that serve a command still, in a state. -/
def State.slotsOf (s : State) (c : Nat) (p : SlotState → Bool) : List Nat :=
  s.hop.slots.keysWhere fun _ x =>
    x.cmd == c && x.state != .fenced && x.state != .draining && x.state != .clearing && p x.state

/-- Bytes of a command's data. -/
def State.dataLen (s : State) (c : Nat) : Nat := (s.cmd c).nlb * s.blkSize (s.cmd c).ns

/-- Slot Grant is on for a connection's controller (Table 02-9 bit 1; RDMA only). -/
def State.slotGrantOn (s : State) (c : Conn) : Bool := c.rdma && bit (s.ctrl c.cntlid).vxFeat 1

/-- The per-command limit of Table 04-5. -/
def State.grantLimit (s : State) (cn : Conn) : Nat :=
  let w := s.f R.HP_CFG_WGRANT_MAX
  if ¬ cn.rdma then min w (cn.maxr2t + 1) else if s.slotGrantOn cn then w else min w 16

/-- A write places its next request in its slice's queue when it needs data and its limit allows one (R120). -/
def State.placeWant (s : State) (c : Nat) : State :=
  let cm := s.cmd c
  if cm.alive ∧ ¬ cm.want ∧ ¬ cm.mute ∧ cm.status = 0 ∧ cm.cut < s.dataLen c ∧
      ((s.slotsOf c (· == .granted)).length < s.grantLimit (s.conn cm.conn) ∨ cm.sqe.sgl = .inCapsule) then
    { s with hop.wq := s.hop.wq.mod cm.slice (· ++ [c]) }.modCmd c fun x => { x with want := true }
  else s

/-- What the head of a slice's write queue would take: the command, slot and LENGTH; none while it cannot be granted. -/
def State.writeHead (s : State) (slice : Nat) : Option (Nat × Nat × Nat) :=
  match s.hop.wq.get slice with
  | [] => none
  | c :: _ =>
    let cm := s.cmd c
    match s.chooseSlot false (s.per.ns.get cm.ns).big (s.dataLen c - cm.cut) with
    | some (n, len) =>
      let cn := s.conn cm.conn
      if s.slotUse false slice + classSize (s.slotClass n) / 1024 ≤ s.slotQuota false slice ∧
          (cm.sqe.sgl = .inCapsule ∨ ¬ cn.rdma ∨ s.slotGrantOn cn ∨ cn.reads.length < 16) then some (c, n, len)
      else none
    | none => none

/-- The slice after `last` in the round of R128, among those that satisfy p. -/
def nextRound (keys : List Nat) (last : Nat) (p : Nat → Bool) : Option Nat :=
  match (keys.filter (· > last)).find? p with
  | some k => some k
  | none => keys.find? p

/-- TTAG of an R2T (R115). -/
def ttagOf (slot epoch : Nat) : Nat := slot % 16384 + (epoch % 4) * 16384

/-- The handshake of a granted slot (Table 04-5, R116). -/
def State.sendGrant (s : State) (n : Nat) : State :=
  let x := s.slot n
  let cm := s.cmd x.cmd
  let cn := s.conn cm.conn
  if ¬ cn.rdma then s.send .r2t cm.conn [cm.sqe.cid, ttagOf n x.epoch, x.offset, x.length]
  else if s.slotGrantOn cn then
    s.send .slotGrant cm.conn [0x56475201, cm.sqe.cid, cn.qid, n + x.epoch * 2 ^ 24, x.offset, x.length,
      (s.sl x.slice).hkey, 0x0001000000000000 + n * 0x40000, 0x0002000000000000 + n * 16]
  else
    (s.send .rdmaRead cm.conn [cn.nextRid, cm.sqe.raddr + x.offset, cm.sqe.rkey, x.length]).modConn cm.conn fun cn =>
      { cn with nextRid := cn.nextRid + 1, reads := cn.reads ++ [(cn.nextRid, n)] }

/-- A write request at the head of its queue is granted (R120, R127): the slot is taken, or filled at once from the capsule
(R110), and the command's next request joins the queue. -/
def State.grantWrite (s : State) (slice : Nat) : State :=
  match s.writeHead slice with
  | none => s
  | some (c, n, len) =>
    let cm := s.cmd c
    let s := { s with hop.wq := s.hop.wq.mod slice List.tail, hop.lastW := slice }.modCmd c fun x => { x with want := false }
    let s := if cm.sqe.sgl = .inCapsule then
        let s := s.takeSlot n .filled c len
        let s := s.modSlot n fun x =>
          { x with content := (cm.sqe.data >>> (8 * cm.cut)) % 2 ^ (8 * len), arrived := [(0, len)] }
        -- the capsule's data has moved: its buffer is cleared and freed (R23, R84)
        if s.dataLen c ≤ cm.cut + len then (s.modCmd c fun x => { x with hb := 0, sqe := { x.sqe with data := 0 } }).bpUpdate else s
      else (s.takeSlot n .granted c len).sendGrant n
    s.placeWant c

/-- The head of a slice's write queue waits on the pool though its quota has room: WPOOL_EMPTY (HP_EVT). -/
def State.writeWaits (s : State) (slice : Nat) : State :=
  match s.hop.wq.get slice with
  | [] => s
  | c :: _ =>
    let big := (s.per.ns.get (s.cmd c).ns).big
    let need := classSize (wantClass big (s.dataLen c - (s.cmd c).cut)) / 1024
    if (s.chooseSlot false big (s.dataLen c - (s.cmd c).cut)).isNone ∧ s.slotUse false slice + need ≤ s.slotQuota false slice
    then s.raise R.HP_EVT_WPOOL_EMPTY slice else s

/-- The head request of a slice is granted; none where the pool could then no longer serve the slice whose turn it is by the round of
R128, which goes first. -/
def State.writeTurn (s : State) (slice : Nat) : Option State :=
  let t := s.grantWrite slice
  match nextRound (s.hop.wq.map Prod.fst) s.hop.lastW fun k => (s.writeHead k).isSome with
  | some k => if k ≠ slice ∧ (t.writeHead k).isNone then none else some t
  | none => some t

/-- SLOT_GRANT (R120): the slice's head request is granted; nothing happens where another slice goes first. -/
def execSlotGrant (slice : Nat) (s : State) : Host.Outcome State Fault Refusal :=
  if (s.writeHead slice).isNone then done (s.writeWaits slice)
  else
    match s.writeTurn slice with
    | some t => done t
    | none => .next s

/-! ### Read slots (R121) -/

/-- The slots that a read takes in one step, all or none; each piece by R108, of no class reserved for another read. -/
def State.takeRead (s : State) (c : Nat) (big : Bool) (fuel : Nat) (reserved : List Nat := []) : Option State :=
  match fuel with
  | 0 => if s.dataLen c ≤ (s.cmd c).cut then some s else none
  | k + 1 =>
    let r := s.dataLen c - (s.cmd c).cut
    if r = 0 then some s
    else
      match s.chooseSlot true big r reserved with
      | some (n, len) => (s.takeSlot n .loading c len).takeRead c big k reserved
      | none => none

/-- The classes that a read still needs: those that R108 chooses for its pieces. -/
def State.readNeeds (s : State) (c : Nat) : List Nat :=
  let len := s.dataLen c
  let big := (s.per.ns.get (s.cmd c).ns).big
  (if 262144 ≤ len then [3] else []) ++ (if len % 262144 = 0 then [] else [wantClass big (len % 262144)])

/-- The classes reserved for another read than c (R128). -/
def State.reservedFor (s : State) (c : Nat) : List Nat :=
  match s.hop.reserve with
  | some r => if r = c then [] else s.readNeeds r
  | none => []

/-- The head of a slice's read queue with its slots taken: within the quota, and of no class reserved for another read (R127,
R128). -/
def State.readHead (s : State) (slice : Nat) : Option (Nat × State) :=
  match s.hop.rq.get slice with
  | [] => none
  | c :: _ =>
    match s.takeRead c (s.per.ns.get (s.cmd c).ns).big 512 (s.reservedFor c) with
    | some t => if t.slotUse true slice ≤ s.slotQuota true slice then some (c, t) else none
    | none => none

/-- A read within its quota waits on the pool (HP_EVT). -/
def State.readWaits (s : State) (slice : Nat) : State :=
  match s.hop.rq.get slice with
  | [] => s
  | c :: _ =>
    if (s.takeRead c (s.per.ns.get (s.cmd c).ns).big 512 (s.reservedFor c)).isNone ∧
        s.slotUse true slice + s.dataLen c / 1024 ≤ s.slotQuota true slice then s.raise R.HP_EVT_RPOOL_EMPTY slice
    else s

/-- READ_RESERVE_TIMER (R128): the head read has waited 100 µs; freed slots of its classes are reserved for it, one read at a
time. -/
def execReadReserveTimer (slice : Nat) (s : State) : Host.Outcome State Fault Refusal :=
  match s.hop.rq.get slice with
  | [] => .next s
  | c :: _ =>
    let s := if (s.cmd c).aged then s
      else { s with hop.nextAge := s.hop.nextAge + 1 }.modCmd c fun x => { x with aged := true, agedAt := s.hop.nextAge }
    if s.hop.reserve.isSome then done s
    else done ({ s with hop.reserve := some c }.raise R.HP_EVT_READ_RESERVE slice)

/-- The reservation passes to the head read that was the next to wait 100 µs (R128). -/
def State.reserveNext (s : State) : State :=
  if s.hop.reserve.isSome then s
  else
    let heads := (s.hop.rq.filterMap fun (_, l) => l.head?).filter fun c => (s.cmd c).aged
    match heads.find? fun c => heads.all fun d => decide ((s.cmd c).agedAt ≤ (s.cmd d).agedAt) with
    | none => s
    | some c => { s with hop.reserve := some c }.raise R.HP_EVT_READ_RESERVE (s.cmd c).slice

/-! ### Arrival of write data (R114) -/

/-- The end of the run of bytes that have arrived from `pos` on. -/
def runEnd (ranges : List (Nat × Nat)) (pos : Nat) : Nat → Nat
  | 0 => pos
  | k + 1 =>
    match ranges.find? fun (a, b) => decide (a ≤ pos) && decide (pos < b) with
    | some (_, b) => runEnd ranges b k
    | none => pos

/-- Bytes of a slot's leading run. -/
def Slot.lead (x : Slot) : Nat := runEnd x.arrived 0 x.arrived.length

/-- Bytes [at, at + len) of a number replaced by data. -/
def putBytes (content pos len data : Nat) : Nat :=
  let m := (2 ^ (8 * len) - 1) <<< (8 * pos)
  (content &&& (content ^^^ m)) ||| ((data % 2 ^ (8 * len)) <<< (8 * pos))

/-- Data lands in a slot at an offset within it. -/
def Slot.put (x : Slot) (pos len data : Nat) : Slot :=
  { x with content := putBytes x.content pos len data, arrived := x.arrived ++ [(pos, pos + len)] }

/-- A Granted slot whose every byte has entered becomes Filled (Table 04-4); the command may place a new request (R120). -/
def State.slotFilled (s : State) (n : Nat) : State :=
  let x := s.slot n
  if x.state = .granted ∧ x.length ≤ x.lead then
    (s.modSlot n fun x => { x with state := .filled }).placeWant x.cmd
  else s

/-- An arrival is discarded (R115, R118). -/
def State.stale (s : State) (slice : Nat) : State := (s.addF R.HP_CNT_STALE_DISC).raise R.HP_EVT_STALE slice

/-- SLOT_CLEARED (R112): a Clearing slot is zero and returns to Free. -/
def execSlotCleared (slot : Nat) (s : State) : Host.Outcome State Fault Refusal :=
  if (s.slot slot).state = .clearing then done (s.freeSlotN slot).reserveNext else .next s

/-- A Draining slot's last byte is acknowledged: the slot returns to Free (Table 04-4). -/
def State.slotAcked (s : State) (conn n : Nat) : State :=
  if (s.slot n).state = .draining ∧ (s.slot n).conn = conn then (s.freeSlotN n).reserveNext else s

/-- Queue deletion on a command's slots (Table 04-4): Granted slots keep their leading whole blocks or clear; read slots are
freed once their results have arrived. -/
def State.slotsDeleted (s : State) (c : Nat) : State :=
  (s.slotsOf c fun _ => true).foldl (fun s n =>
    let x := s.slot n
    match x.state with
    | .granted =>
      let bs := s.blkSize (s.cmd c).ns
      let keep := min x.length x.lead / bs * bs
      if keep = 0 then s.modSlot n fun x => { x with state := .clearing, content := 0 }
      else s.modSlot n fun x => { x with state := .filled, length := keep, content := x.content % 2 ^ (8 * keep) }
    | .loading => if x.merged * s.blkSize (s.cmd c).ns = x.length then s.freeSlotN n else s
    | .sending => s.freeSlotN n
    | _ => s) s

/-- A connection closes: its Draining and Sending slots are freed; with no live reference, the transmit reads already issued end, and
the slots are freed, when DRAM next serves requests (Table 04-4, R18). -/
def State.slotsClosed (s : State) (conn : Nat) : State :=
  (s.hop.slots.keysWhere fun _ x => x.conn == conn && (x.state == .draining || x.state == .sending)).foldl
    (fun (s : State) n => if s.clk.stopped then s.modSlot n fun x => { x with closing := true } else s.freeSlotN n) s

/-- DRAM serves requests again: the slots of connections that closed meanwhile are freed (Table 04-4). -/
def State.slotsServed (s : State) : State :=
  { s with hop.slots := s.hop.slots.filter fun (_, x) => !x.closing }

/-- The epoch of a slice changes: every slot that is not Free and not Fenced enters Fenced, Clearing ones as well (R124, Table 05-9; the
row of Table 04-4 leaves those out: notes/assumptions/72). An operation on it that has started runs to its end (R146). -/
def State.fence (s : State) (slice : Nat) : State :=
  { s with hop.slots := s.hop.slots.mapAll fun _ x =>
      if x.slice = slice ∧ x.state ≠ .free ∧ x.state ≠ .fenced then
        { x with state := .fenced, op := (x.state == .filled && !x.waitRoom) || x.state == .sending }
      else x }

/-- An operation that had started on a Fenced slot ends; its result is discarded (R124, R146). -/
def State.fencedOpEnds (s : State) (n : Nat) : State := s.modSlot n fun x => { x with op := false }

/-- Fenced slots of a slice. -/
def State.fenced (s : State) (slice : Nat) : List Nat := s.hop.slots.keysWhere fun _ x => x.slice == slice && x.state == .fenced

/-- The tagged operations are gone: Fenced write slots enter Clearing, Fenced read slots go to Free (Table 04-4). -/
def State.unfence (s : State) (slice : Nat) : State :=
  ((s.fenced slice).foldl (fun s n =>
    if s.slotDir n then s.freeSlotN n else s.modSlot n fun x => { x with state := .clearing, content := 0 }) s).reserveNext

end Sys2Proof.Machine
end

