-- ==== Sys2Proof/Machine/Shells.lean ====
section
/-! DEFINITION. Shells.lean: seat layouts, crews, availability, the busy budget, paths of reconstruction and the choice of
read-around (08), and the geometry of rows (07). -/

namespace Sys2Proof.Machine

/-! ### Layouts (Table 08-1) and geometry (Table 07-3). Formats: 1 Sprint, 2 Cruise, 3 Haul. -/

/-- Data seats D of a format. -/
def dataSeats : Nat → Nat
  | 1 => 26
  | 2 => 29
  | 3 => 30
  | _ => 1

/-- Seats in a boat. -/
def boatSize : Nat → Nat
  | 1 => 8
  | 2 => 16
  | _ => 32

def boatOf (fmt seat : Nat) : Nat := seat / boatSize fmt

/-- The parity seats of a format: P, Q, and the local parities. -/
def pSeat : Nat → Option Nat
  | 1 => some 6
  | 3 => some 30
  | _ => none
def qSeat : Nat → Option Nat
  | 1 => some 14
  | 2 => some 14
  | 3 => some 31
  | _ => none
def localSeats : Nat → List Nat
  | 1 => [7, 15, 23, 31]
  | 2 => [15, 31]
  | _ => []

def isParity (fmt seat : Nat) : Bool := pSeat fmt == some seat || qSeat fmt == some seat || (localSeats fmt).contains seat

/-- The seats in role D, in the order of their data positions. -/
def dataSeatList (fmt : Nat) : List Nat := (List.range 32).filter fun s => !isParity fmt s

/-- The seat of data position d. -/
def seatOfPos (fmt d : Nat) : Nat := ((dataSeatList fmt)[d]?).getD 0

/-- The data position of a seat; none on a parity seat. -/
def posOfSeat (fmt seat : Nat) : Option Nat := (dataSeatList fmt).idxOf? seat

/-- 4 KiB units of a program unit: 64 in QLC, 16 in SLC mode (R217). -/
def seatUnits (slc : Bool) : Nat := if slc then 16 else 64

/-- 4 KiB units of a row's data (R187, R188). -/
def rowUnits (fmt : Nat) (slc : Bool) : Nat := dataSeats fmt * seatUnits slc

/-- Zone capacity in 4 KiB units: 384 rows (Table 07-3). -/
def zoneCapUnits (fmt : Nat) : Nat := 384 * rowUnits fmt false

/-! ### Crews and shells -/

abbrev State.crew (s : State) (c : Nat) : Crew := s.per.crews.get c
def State.modCrew (s : State) (c : Nat) (f : Crew → Crew) : State := { s with per.crews := s.per.crews.mod c f }
def crewOf (shell : Nat) : Nat := shell / 8192
def State.fmt (s : State) (c : Nat) : Nat := (s.crew c).format
abbrev State.shell (s : State) (x : Nat) : Shell := s.per.shells.get x
def State.modShell (s : State) (x : Nat) (f : Shell → Shell) : State := { s with per.shells := s.per.shells.mod x f }

/-- SSTATE as the Shell Table reads it: Unbound at or above SHELLS (Table 09-3). -/
def State.sstate (s : State) (x : Nat) : Nat := if x % 8192 < (s.crew (crewOf x)).shells then (s.shell x).st else 0

/-- Die number on its lane of seat l of crew c: chip enable c / 8, LUN c mod 8 (R15). -/
def dieKey (crew seat : Nat) : Nat := seat * 64 + crew

abbrev State.die (s : State) (crew seat : Nat) : Die := s.flash.dies.get (dieKey crew seat)
def State.modDie (s : State) (crew seat : Nat) (f : Die → Die) : State :=
  { s with flash.dies := s.flash.dies.mod (dieKey crew seat) f }
abbrev State.lane (s : State) (l : Nat) : Lane := s.flash.lanes.get l
def State.modLane (s : State) (l : Nat) (f : Lane → Lane) : State := { s with flash.lanes := s.flash.lanes.mod l f }

/-- LN_STS.LSTATE: 0 Off, 1 Probing, 2 Running, 3 Retraining, 4 Fault recovery, 5 Failed. -/
def State.lstate (s : State) (l : Nat) : Nat := s.f R.LN_STS_LSTATE l

/-- The seat's lane is in retrain or fault recovery (R229, R308). -/
def State.retraining (s : State) (seat : Nat) : Bool := s.lstate seat == 3 || s.lstate seat == 4

/-- The seat is forced by SH_FORCE, in effect. -/
def State.forced (s : State) (crew seat : Nat) : Bool :=
  s.on R.SH_FORCE_ACTIVE && s.f R.SH_FORCE_CREW == crew && s.f R.SH_FORCE_SEAT == seat

/-- A program or erase recipe runs on the seat. -/
def State.progRuns (s : State) (crew seat : Nat) : Bool :=
  match (s.die crew seat).run with
  | some r => match r.failed.getD r.serves with
    | .program _ => true
    | .erase _ => true
    | _ => false
  | none => false

/-- A failed seat (R226). -/
def State.failedSeat (s : State) (crew seat : Nat) : Bool := bit (s.crew crew).failed seat

/-- The seat is busy (R229); a failed seat does not count. -/
def State.busy (s : State) (crew seat : Nat) : Bool :=
  !s.failedSeat crew seat && (s.progRuns crew seat || s.retraining seat || s.forced crew seat)

/-- The busy count of a boat. -/
def State.busyCount (s : State) (crew boat : Nat) : Nat :=
  ((List.range 32).filter fun x => boatOf (s.fmt crew) x == boat && s.busy crew x).length

/-- EFF_BUDGET of a crew (R230); in Trial the budget written (R231). -/
def State.effBudget (s : State) (crew : Nat) : Nat :=
  let c := s.crew crew
  if s.mode = .trial then s.f R.SH_CREW_BUSY_BUDGET 0 crew
  else if c.st = 3 then 1
  else if c.st ≠ 2 then 0
  else if (List.range 32).any fun x => s.retraining x || s.forced crew x then 1
  else s.f R.SH_CREW_BUSY_BUDGET 0 crew

/-- The busy budget is lifted: the flushes and Sanitize (R231). -/
def State.budgetLifted (s : State) : Bool :=
  s.mode == .holdupFlush || s.mode == .becalmed || s.mode == .sanitize || s.mode == .thermalRest

/-- Dies in operation device-wide: recipes that run (R170). -/
def State.activeDies (s : State) : Nat := s.flash.dies.count fun _ d => d.run.isSome

/-- The unit of the seat is gone for a shell: failed, or lost for it. -/
def State.lostUnit (s : State) (shell seat : Nat) : Bool :=
  s.failedSeat (crewOf shell) seat || bit (s.shell shell).lost seat

/-- The seat runs failure handling (R439). -/
def State.handling (s : State) (crew seat : Nat) : Bool :=
  match (s.die crew seat).run with
  | some r => r.failed.isSome
  | none => false

/-- A unit of a shell is unavailable (R221, R439). -/
def State.unavailable (s : State) (shell seat : Nat) : Bool :=
  let c := crewOf shell
  s.lostUnit shell seat || s.progRuns c seat || s.retraining seat || s.forced c seat || s.handling c seat

/-- The unavailable units of a row, with further units that this read lost. -/
def State.unavailSet (s : State) (shell : Nat) (more : List Nat) : List Nat :=
  (List.range 32).filter fun x => s.unavailable shell x || more.contains x

/-! ### Paths (R221, Table 08-2) -/

/-- The kinds of path. -/
inductive PathKind where
  | localP | single | global
deriving DecidableEq, Repr

/-- Units that step 1 of R221 solves: alone in a boat that has a local parity. -/
def solvedLocally (fmt : Nat) (un : List Nat) : List Nat :=
  if localSeats fmt = [] then []
  else un.filter fun x => (un.filter fun y => boatOf fmt y == boatOf fmt x).length == 1

/-- A path for an unavailable unit, and its source seats (R221, R238); none where R221 leaves the unit unsolved. -/
def planPath (fmt : Nat) (un : List Nat) (seat : Nat) : Option (PathKind × List Nat) :=
  let avail := (List.range 32).filter fun x => !un.contains x
  let loc := solvedLocally fmt un
  if loc.contains seat then
    some (.localP, avail.filter fun x => boatOf fmt x == boatOf fmt seat)
  else
    let rest := un.filter fun x => !loc.contains x
    if 2 < rest.length then none
    else if fmt = 3 ∧ rest.length = 1 then
      -- Haul, one unit: a data unit from the other data seats and P, or Q; P or Q from the data seats
      let data := avail.filter fun x => !isParity 3 x
      if isParity 3 seat then some (.single, data) else some (.single, data ++ (if avail.contains 30 then [30] else [31]))
    else some (.global, avail)

/-- The units of a row that R221 can solve. -/
def recoverable (fmt : Nat) (un : List Nat) (seat : Nat) : Bool := !un.contains seat || (planPath fmt un seat).isSome

/-! ### Timing of recipes (R292) -/

/-- A recipe operation by slot of the set that serves a die. -/
def State.recipe (s : State) (crew seat slot : Nat) : Option RecipeOp :=
  ((s.boot.image.recipes[(s.die crew seat).set]?).bind fun r => r.ops.find? fun o => o.slot == slot && o.present)

def State.tExp (s : State) (crew seat slot : Nat) : Nat := match s.recipe crew seat slot with
  | some o => o.tExp
  | none => 0
def State.tMax (s : State) (crew seat slot : Nat) : Nat := match s.recipe crew seat slot with
  | some o => o.tMax
  | none => 0

/-- remaining(s) (R236). -/
def State.remaining (s : State) (crew seat : Nat) : Nat :=
  match (s.die crew seat).run with
  | some r =>
    let e := s.clk.tb - r.tStart
    if e < s.tExp crew seat r.slot then s.tExp crew seat r.slot - e else s.tMax crew seat r.slot - e
  | none => 0

/-- t_read of a page (R292): its read recipe plus the Easy interval in force. -/
def State.tRead (s : State) (crew seat : Nat) (slc : Bool) : Nat :=
  s.tExp crew seat (if slc then 9 else 8) + s.f R.LN_EASY_EASY seat

/-- queue(s): expected times of the reads queued on a seat, one per page (R236). -/
def State.queueTime (s : State) (crew seat : Nat) : Nat :=
  let pages := (s.flash.cws.filterMap fun (_, w) =>
    if w.alive ∧ w.crew = crew ∧ w.seat = seat ∧ w.phase = 0 then some (w.shell, w.row, w.unit / 4, w.slc) else none).dedup
  pages.foldl (fun a x => a + s.tRead crew seat x.2.2.2) 0

/-! ### The decision (R236) -/

/-- What R236 answers. -/
inductive Choice where
  | direct
  | wait (noPath : Bool)
  | path (kind : PathKind) (seats : List Nat)
  | unrecovered
deriving DecidableEq, Repr

/-- R236 for one codeword at a seat of a shell; `more`: source units that failed for this read; `deadline` already less
RA_SLACK. -/
def State.decide236 (s : State) (shell seat : Nat) (slc : Bool) (more : List Nat) (deadline : Nat) : Choice :=
  let c := crewOf shell
  let fmt := s.fmt c
  let un := s.unavailSet shell more
  if ¬ un.contains seat then .direct
  else
    let plan := planPath fmt un seat
    let now := s.clk.tb
    if s.progRuns c seat ∧ ¬ s.lostUnit shell seat ∧ ¬ s.handling c seat ∧ ¬ more.contains seat ∧ ¬ s.retraining seat ∧
        ¬ s.forced c seat then
      let tDirect := now + s.remaining c seat + s.queueTime c seat + s.tRead c seat slc
      match plan with
      | none => .wait true
      | some (k, seats) =>
        if ¬ s.on R.SH_CFG_RA_BUSY_EN ∨ tDirect ≤ deadline then .wait false
        else
          let tPath := now + seats.foldl (fun a x => max a (s.queueTime c x + s.tRead c x slc)) 0 + 3000
          if tDirect ≤ tPath then .wait false else .path k seats
    else
      match plan with
      | some (k, seats) => .path k seats
      | none =>
        if un.all fun x => s.lostUnit shell x || more.contains x then .unrecovered else .wait true

/-- A crew statistics word rises (Table 08-6). -/
def State.stat (s : State) (crew word : Nat) : State :=
  { s with media.stats := s.media.stats.mod (crew * 16 + word) fun n => satInc 32 n }

end Sys2Proof.Machine
end

