-- ==== Sys2Proof/Machine/Parity.lean ====
section
/-! DEFINITION. Parity.lean: arithmetic in GF(2^8), CRC32C, the codewords of a page and the parity units of a row (R220, R310 to R315). -/

namespace Sys2Proof.Machine

/-! ### GF(2^8), bytes and CRC32C -/

/-- Multiplication by α in GF(2^8), field polynomial 0x11D. -/
def xtime (a : Nat) : Nat := if a < 128 then 2 * a else (2 * a) ^^^ 0x11D

/-- Product in GF(2^8). -/
def gmul (a b : Nat) : Nat :=
  (List.range 8).foldl (fun acc k => if b.testBit (7 - k) then xtime acc ^^^ a else xtime acc) 0

/-- Inverse in GF(2^8): a^254. -/
def ginv (a : Nat) : Nat :=
  let sq := fun x => gmul x x
  let a2 := sq a
  let a4 := sq a2
  let a8 := sq a4
  let a16 := sq a8
  let a32 := sq a16
  let a64 := sq a32
  let a128 := sq a64
  gmul a2 (gmul a4 (gmul a8 (gmul a16 (gmul a32 (gmul a64 a128)))))

/-- α^n. -/
def alpha (n : Nat) : Nat := (List.range n).foldl (fun a _ => xtime a) 1

/-- Byte n of a line held as a number. -/
def lineByte (v n : Nat) : Nat := (v >>> (8 * n)) % 256

/-- The 2^d bytes of a number, lowest first. -/
def bytesOf : Nat → Nat → List Nat
  | 0, v => [v % 256]
  | d + 1, v => bytesOf d (v % 2 ^ (8 * 2 ^ d)) ++ bytesOf d (v >>> (8 * 2 ^ d))

/-- A number from its bytes, byte 0 lowest. -/
def ofBytes (l : List Nat) : Nat := l.foldr (fun b a => b % 256 + 256 * a) 0

/-- CRC32C (Castagnoli, reflected 0x82F6_3B78) of a byte list. -/
def crc32c (l : List Nat) : Nat :=
  (l.foldl (fun c b =>
    (List.range 8).foldl (fun c _ => if c % 2 = 1 then (c >>> 1) ^^^ 0x82F63B78 else c >>> 1) (c ^^^ b)) 0xFFFFFFFF) ^^^
    0xFFFFFFFF

/-- The bytes of a word, lowest first. -/
def wordBytes (w : Nat) : List Nat := [w % 256, w / 256 % 256, w / 65536 % 256, w / 16777216 % 256]

/-! ### Codewords (R310, R312, R314, R315) -/

/-- Check bytes of a code (Table 11-3). -/
def checkBytes : Nat → Nat
  | 0 => 480
  | 1 => 352
  | 2 => 224
  | _ => 160

/-- The code of a page by the code assignment (R315, DC_CODE): of SLC pages, or of a QLC bit page. -/
def codeFor (codes : Nat) (slc : Bool) (bitPage : Nat) : Nat := if slc then bitsOf codes 0 2 else bitsOf codes (2 + 2 * bitPage) 2

/-- The bit page of unit k of a seat's program unit (R311). -/
def bitPage (k : Nat) : Nat := k / 16

/-- The metadata of a codeword on a data position, without its CRC (Table 11-2). -/
def metaWord (seq owner row kind lba ns epoch flags : Nat) : Nat :=
  seq % 2 ^ 64 + ((owner % 2 ^ 32) <<< 64) + ((row % 512 + kind % 8 * 512) <<< 96) + ((lba % 2 ^ 64) <<< 128) +
    ((ns % 4096) <<< 192) + ((epoch % 256) <<< 208) + ((flags % 256) <<< 216)

/-- A codeword slot as one number, byte 0 lowest: data, metadata with its CRC32C, check bytes; the pad bytes are 0 (Table 11-1). -/
def codeword (code data meta_ : Nat) : Nat :=
  let body := data % 2 ^ 32768 + (meta_ <<< 32768)
  let info := body + (crc32c ((bytesOf 13 body).take 4124) <<< 32992)
  info + ((Config.ldpcCheck code info % 2 ^ (8 * checkBytes code)) <<< 33024)

/-- Bytes of a program unit: 16 pages of 18,432 bytes in QLC, 4 in SLC mode (R310). -/
def unitBytes (slc : Bool) : Nat := seatUnits slc * 4608

/-! ### Parity (R220) -/

/-- The value 1 in each of len bytes. -/
def onesOf (len : Nat) : Nat := (2 ^ (8 * len) - 1) / 255

/-- Every byte of a unit multiplied by α (`xtime`). -/
def xtimeAll (len v : Nat) : Nat := ((v &&& (onesOf len * 127)) <<< 1) ^^^ (((v >>> 7) &&& onesOf len) * 0x1D)

/-- Every byte of a unit multiplied by a coefficient (`gmul`). -/
def scaleUnit (c len v : Nat) : Nat :=
  (List.range 8).foldl (fun a k => if c.testBit (7 - k) then xtimeAll len a ^^^ v % 2 ^ (8 * len) else xtimeAll len a) 0

/-- P, or a local parity: the sum of units. -/
def sumUnits (l : List Nat) : Nat := l.foldl (· ^^^ ·) 0

/-- Q: the units by data position, each with its coefficient α^(d+1). -/
def qUnit (len : Nat) (data : List Nat) : Nat := data.zipIdx.foldl (fun a (v, d) => a ^^^ scaleUnit (alpha (d + 1)) len v) 0

/-- The parity units of a row by seat, from its units by data position: P and Q first, and the local parities from them (R220). -/
def parityOf (fmt len : Nat) (data : List Nat) : List (Nat × Nat) :=
  let pq := ((pSeat fmt).toList.map fun k => (k, sumUnits data)) ++ ((qSeat fmt).toList.map fun k => (k, qUnit len data))
  let unit := fun k => match posOfSeat fmt k with
    | some d => (data[d]?).getD 0
    | none => ((pq.find? fun e => e.1 == k).map Prod.snd).getD 0
  pq ++ (localSeats fmt).map fun l =>
    (l, sumUnits (((List.range 32).filter fun k => boatOf fmt k == boatOf fmt l && k != l).map unit))

end Sys2Proof.Machine
end

