-- ==== Sys2Proof/Machine/Records.lean ====
section
/-! DEFINITION. Records.lean: the words of the tables that the Logbook records, its record bodies (Table 09-10), and the Logbook tail
as the records gather in it (R271). -/

namespace Sys2Proof.Machine

/-! ### The Block Ledger (R243, R244, Table 09-1) -/

def ledgerKey (crew seat n : Nat) : Nat := (crew * 32 + seat) * 8192 + n

/-- The n-th good block in ascending order, given the bad ones in ascending order (R244). -/
def goodBlock (bad : List Nat) (n : Nat) : Nat := bad.foldl (fun a b => if b ≤ a then a + 1 else a) n

/-- Multi-plane blocks of a die. -/
def State.dieBlocks (s : State) (crew seat : Nat) : Nat :=
  match s.boot.image.recipes[(s.die crew seat).set]? with
  | some r => r.blocks
  | none => 8192

/-- BSTATE of a shell slot by the state of its shell (Table 09-1). -/
def State.slotBstate (s : State) (x seat : Nat) : Nat :=
  match s.sstate x with
  | 1 => 1
  | 4 => if bit (s.shell x).erased seat then 1 else 3
  | 0 => 4
  | _ => 2

/-- The Ledger entry of slot n of a seat; its ec is relative to the shell's erases. -/
def State.ledgerAt (s : State) (crew seat n : Nat) : Ledger :=
  let e := s.per.ledger.get (ledgerKey crew seat n)
  let c := s.crew crew
  let x := crew * 8192 + n
  if e.set then
    if n < c.shells ∧ e.bstate = 2 then { e with bstate := s.slotBstate x seat } else e
  else
    let bad := c.bad.get seat
    let good := s.dieBlocks crew seat - bad.length
    if c.st < 2 then {}
    else if n < good then
      { set := true, pblk := goodBlock bad n, bstate := if n < c.shells then s.slotBstate x seat else 4, ec := e.ec }
    else if 8192 - bad.length ≤ n then
      { set := true, pblk := (bad[8191 - n]?).getD 0, bstate := 5, factory := true, ec := e.ec }
    else { set := true, ec := e.ec }

/-- Crews of a pool. -/
def State.poolCrews (s : State) (p : Nat) : List Nat :=
  (List.range 64).filter fun c => (s.crew c).inPool && (s.crew c).pool == p

/-! ### Streams -/

/-- The stream of a placement handle of namespace n (keyed by internal index + 1). -/
def handleStream (n h : Nat) : Nat := 2 ^ 20 + n * 64 + h

def isZoneStream (st : Nat) : Bool := decide (st < 2 ^ 20)

/-- The namespace key of a stream. -/
def State.streamNs (s : State) (st : Nat) : Nat := if isZoneStream st then (s.per.zones.get st).ns else (st - 2 ^ 20) / 64

/-- The pool and format of a stream. -/
def State.streamPool (s : State) (st : Nat) : Nat := (s.per.ns.get (s.streamNs st)).pool
def State.poolFmt (s : State) (p : Nat) : Nat :=
  match (s.poolCrews p).head? with
  | some c => s.fmt c
  | none => 0
def State.streamFmt (s : State) (st : Nat) : Nat := s.poolFmt (s.streamPool st)
/-- 4 KiB units of a row's data of a stream. -/
def State.streamRow (s : State) (st : Nat) : Nat := rowUnits (s.streamFmt st) false

abbrev State.zone (s : State) (z : Nat) : Zone := s.per.zones.get z
def State.modZone (s : State) (z : Nat) (f : Zone → Zone) : State := { s with per.zones := s.per.zones.mod z f }

/-- Units per logical block of a namespace. -/
def State.nsUnits (s : State) (n : Nat) : Nat := if (s.per.ns.get n).big then 4 else 1

/-- Key of a page-map entry: namespace key and unit. -/
def mapKey (n unit : Nat) : Nat := n * 2 ^ 33 + unit

/-- End of the leading run of a zone that is programmed in QLC or the Millpond, in blocks (DURABLE). -/
def State.zoneDurable (s : State) (z : Nat) : Nat :=
  let x := s.zone z
  let u := s.nsUnits x.ns
  let base := x.rows * s.streamRow z
  let parts := (s.per.spills.filter fun p => p.stream == z).map fun p =>
    (p.row * s.streamRow z + p.unit, p.row * s.streamRow z + p.unit + p.count)
  min (runEnd parts base parts.length / u) x.wp

/-- End of the leading run of a zone that is staged or durable, in blocks (STAGED). -/
def State.zoneStaged (s : State) (z : Nat) : Nat :=
  let x := s.zone z
  let u := s.nsUnits x.ns
  let base := x.rows * s.streamRow z
  let parts := ((s.per.spills.filter fun p => p.stream == z).map fun p =>
      (p.row * s.streamRow z + p.unit, p.row * s.streamRow z + p.unit + p.count)) ++
    ((s.media.stage.filter fun (b : StBlk) => b.stream == z && !b.sup).map fun b =>
      (b.row * s.streamRow z + b.unit, b.row * s.streamRow z + b.unit + b.units))
  runEnd parts base parts.length / u

/-! ### The words of table entries -/

/-- The state number ZS of Table 07-4. -/
def zsNum : ZState → Nat
  | .none => 0 | .empty => 1 | .implOpen => 2 | .explOpen => 3 | .closed => 4 | .readOnly => 13 | .full => 14 | .offline => 15

/-- A word of a Zone Table entry. -/
def State.zoneWord (s : State) (e w : Nat) : Nat :=
  let z := s.zone e
  if z.zs = .none then 0
  else
    match w with
    | 0 => zsNum z.zs + z.life % 4 * 16 + b2n z.spilled * 64 + b2n z.padded * 128 + (z.ns - 1) % 4096 * 2 ^ 20
    | 1 => (if z.shellValid then z.shell % 2 ^ 19 + 2 ^ 31 else 0)
    | 2 => z.wp % 2 ^ 21
    | 3 => s.zoneStaged e % 2 ^ 21
    | 4 => s.zoneDurable e % 2 ^ 21
    | 5 => z.rows % 2 ^ 9
    | 6 => z.zoneNo % 2 ^ 19
    | _ => 0

/-- Words 0, 1 and 3 of a Ledger entry (Table 09-1). -/
def State.ledgerWords (s : State) (e : Nat) : List Nat :=
  let n := e % 8192
  let seat := e / 8192 % 32
  let crew := e / 8192 / 32
  let x := crew * 8192 + n
  let l := s.ledgerAt crew seat n
  let bound := decide (n < (s.crew crew).shells) && l.set
  let used := bound && l.bstate == 2
  [l.pblk % 2 ^ 13 + l.bstate % 8 * 2 ^ 13 + b2n l.grown * 2 ^ 16 + b2n l.factory * 2 ^ 17 + b2n (used && (s.shell x).slc) * 2 ^ 18,
   min (max 0 (l.ec + if bound then ((s.shell x).erases : Int) else 0)).toNat 262143,
   if used && decide (0 < (s.shell x).rows) then (s.shell x).age % 2 ^ 32 else 0]

/-- Words 0 to 3 of a Shell Table entry, with SVALID 0 (Table 09-2). -/
def State.shellWords (s : State) (x : Nat) : List Nat :=
  let h := s.shell x
  [s.sstate x + b2n h.slc * 8 + b2n h.short * 16 + b2n h.refresh * 32 + b2n h.torn * 64 + b2n h.reloc * 128 + h.kind % 8 * 256,
   h.owner % 2 ^ 32, h.lost % 2 ^ 32, h.rows % 2 ^ 9]

/-- A page-map entry as one number of 64 bits (Table 07-7). -/
def MapEnt.word (e : MapEnt) : Nat :=
  e.unit % 2 ^ 20 + e.shell % 2 ^ 19 * 2 ^ 20 + e.epoch % 256 * 2 ^ 40 + b2n e.mapped * 2 ^ 48 + b2n e.slc * 2 ^ 49

/-- The configuration words 0 to 10 and 64 to 127 of a set. -/
def cfgWord (c : SliceCfg) (w : Nat) : Nat :=
  match w with
  | 0 => b2n c.mgmt * 4 + b2n c.listedAll * 8 + b2n c.vxOrigin * 16 + c.latClass % 16 * 2 ^ 16
  | 1 => c.origin % 2 ^ 20
  | 2 => c.qQuota % 2 ^ 15 + c.ctrlQuota % 2 ^ 13 * 2 ^ 16
  | 3 => c.wsqKib % 2 ^ 16
  | 4 => c.rsqMib % 2 ^ 15
  | 5 => c.mrqKib % 2 ^ 16
  | 6 => c.zoneQuota % 2 ^ 13 + c.keyQuota % 2 ^ 14 * 2 ^ 16
  | 7 => c.guarBw % 2 ^ 16 + c.ceilBw % 2 ^ 16 * 2 ^ 16
  | 8 => c.guarKiops % 2 ^ 16 + c.ceilKiops % 2 ^ 16 * 2 ^ 16
  | 9 => c.ceilInfl % 2 ^ 20
  | 10 => c.cmdDepth % 2 ^ 16 + c.byteDepth % 2 ^ 16 * 2 ^ 16
  | _ => if 64 ≤ w ∧ w < 128 then bitsOf c.subnqn (32 * (w - 64)) 32 else 0

/-- A live word of an Origin Table entry (Table 05-3). -/
def State.originWord (s : State) (e w : Nat) : Nat :=
  let o := s.per.origins.get e
  if w = 0 then o.origin % 2 ^ 20 + b2n o.valid * 2 ^ 31 else if w ≤ 64 then bitsOf o.nqn (32 * (w - 1)) 32 else 0

/-- A live word of a PSK table entry; key words read 0 (R431). -/
def State.pskWord (s : State) (e w : Nat) : Nat :=
  let k := s.per.psk.get e
  if w < 48 then bitsOf k.identity (32 * w) 32 else if w = 48 then k.hash % 4 + b2n k.valid * 2 ^ 31 else 0

/-! ### Record bodies (Table 09-10), in words of 32 bits -/

/-- TYPE of a record. -/
def RecKind.code : RecKind → Nat
  | .zone => 1 | .map => 2 | .shell => 3 | .ledger => 4 | .spill => 5 | .reloc => 6 | .commit => 7 | .crew => 8
  | .ns => 9 | .config => 10 | .tally => 11 | .clock => 12 | .mode => 13 | .close => 14 | .pad => 15

/-- The pair of a page-map key: namespace LBA and internal namespace index, and the entry. -/
def State.mapPair (s : State) (k : Nat) : List Nat :=
  let lba := k % 2 ^ 33 / (if (s.per.ns.get (k / 2 ^ 33)).big then 4 else 1)
  let a := lba % 2 ^ 48 + (k / 2 ^ 33 - 1) % 4096 * 2 ^ 48
  let e := (s.per.map.get k).word
  [a % 2 ^ 32, a / 2 ^ 32, e % 2 ^ 32, e / 2 ^ 32]

/-- The pair of a Ledger entry. -/
def State.ledgerPair (s : State) (e : Nat) : List Nat := e :: s.ledgerWords e

/-- The body of a SPILL record. -/
def spillBody (p : Spill) : List Nat := [p.stream, p.row, p.unit, p.count, p.shell, p.mrow, p.munit, b2n p.pad]

/-- Bodies of a record by its kind and object; where the manual does not lay its words out, their order is this one (DESIGN CHOICE,
notes/assumptions/74). -/
def State.recBody (s : State) (kind : RecKind) (obj : Nat) : List Nat :=
  match kind with
  | .zone => obj :: (List.range 7).map (s.zoneWord obj)
  | .map => s.mapPair obj
  | .shell => [obj, 0] ++ s.shellWords obj
  | .ledger => s.ledgerPair obj
  | .reloc =>
    let r := s.media.relocs.get obj
    [obj, r.order, r.src, r.dst - 1]
  | .commit =>
    let r := s.media.relocs.get obj
    [obj, r.src, r.dst - 1, r.rows]
  | .crew =>
    let c := s.crew obj
    [obj + c.format * 2 ^ 8 + c.pool * 2 ^ 12 + b2n c.inPool * 2 ^ 15 + c.st * 2 ^ 16, c.shells, c.failed, 0]
  | .ns =>
    let n := s.per.ns.get obj
    [obj - 1 + b2n n.alive * 2 ^ 31, n.nsid, b2n n.zoned + n.pool * 2 ^ 8, n.owner, b2n n.big, n.nsze % 2 ^ 32, n.nsze / 2 ^ 32, n.resv]
  | .tally =>
    let at_ := s.per.tallyAt.get (obj + 1) - 1
    let cap := s.per.tally.get (obj + 1)
    [obj, cap % 2 ^ 32, cap / 2 ^ 32, at_, (s.shell at_).rows, Config.content [obj, cap] % 2 ^ 32]
  | .clock => [s.per.clock, 0]
  | .mode => [b2n s.per.trialSession, s.per.san, s.per.sanAct + b2n s.per.sanAuse * 2 ^ 8, b2n s.per.roEntry]
  | .spill | .config | .close | .pad => []

end Sys2Proof.Machine
end

