-- ==== Sys2Proof/Machine/Media.lean ====
section
/-! DEFINITION. Media.lean: the Logbook, host staging, row jobs, spills, the page map, shells and their release (07, 09). -/

namespace Sys2Proof.Machine

/-! ### The Logbook (R270 to R273) -/

/-- Rows of a shell that are programmed or have a job (the next row in row order). -/
def State.nextRow (s : State) (x : Nat) : Nat := (s.shell x).rows + (s.media.jobs.filter fun j => j.shell == x + 1).length

/-- The seats that a row of a shell programs: all but those lost for it (R218, R227, R228). -/
def State.rowSeats (s : State) (x : Nat) : Nat :=
  (List.range 32).foldl (fun m k => setBit m k (!s.lostUnit x k)) 0

/-- A row job joins the list. -/
def State.addJob (s : State) (j : Job) : State :=
  let j := { j with
    id := s.media.nextJob, todo := if j.shell = 0 then 2 ^ 32 - 1 else s.rowSeats (j.shell - 1) }
  { s with media.jobs := s.media.jobs ++ [j], media.nextJob := s.media.nextJob + 1 }

/-- Listed shells of a crew that no owner can take: not Erased, or of the Logbook, Tally, anchor or Millpond (R259, R270). -/
def State.usedShells (s : State) (c : Nat) : Tab Shell :=
  s.per.shells.filter fun (x, h) => crewOf x == c && (h.st != 1 || h.kind != 0)

/-- Erased shells of a crew. -/
def State.erasedCount (s : State) (c : Nat) : Nat := (s.crew c).shells - (s.usedShells c).length

/-- The crew of an Erased shell that has an owner already may take new shells (Table 08-3): a Degraded one only while no Healthy crew
of its pool has an erased shell. -/
def State.mayOpen (s : State) (x : Nat) : Bool :=
  let c := s.crew (crewOf x)
  c.st == 2 || (c.st == 3 && !(s.poolCrews c.pool).any fun d => (s.crew d).st == 2 && decide (0 < s.erasedCount d))

/-- An Erased shell becomes Open for an owner (Table 09-4); the crew's failed seats are lost for it (R227). A relocation destination
becomes short at its commit only (Table 09-7). -/
def State.openShell (s : State) (x kind owner : Nat) (slc : Bool) : State :=
  let lost := (s.crew (crewOf x)).failed
  let short := lost != 0 && kind != 7
  let s := s.modShell x fun h =>
    { h with st := 2, kind := kind, owner := owner, slc := slc, rows := 0, lost := lost, short := short, age := s.per.clock }
  if short then s.raise R.SH_EVT_SHELL_SHORT (crewOf x) noP x else s

/-- The ring of Logbook shells from the one after the last opened on (R270). -/
def State.logRing (s : State) : List Nat :=
  match s.per.logShells.idxOf? (s.per.logPos - 1) with
  | some i => if s.per.logPos = 0 then s.per.logShells else s.per.logShells.drop (i + 1) ++ s.per.logShells.take (i + 1)
  | none => s.per.logShells

/-- The Logbook shell that takes the next row: the Open one with rows left, or the next Erased one of the ring. A shell on a Retired
crew takes none, one on a Degraded crew only where no other can (Table 08-3). -/
def State.logShell (s : State) : Option Nat :=
  match s.per.logShells.find? fun x => (s.shell x).st == 2 && decide (s.nextRow x < 384) with
  | some x => some x
  | none =>
    let l := s.logRing.filter fun x => (s.shell x).st == 1 && (s.crew (crewOf x)).st != 4
    match l.find? s.mayOpen with
    | some x => some x
    | none => l.head?

/-- The data bytes of a Logbook row (R272). -/
def State.logRowBytes (s : State) : Nat :=
  match s.logShell with
  | some x => dataSeats (s.fmt (crewOf x)) * 65536
  | none => 26 * 65536

/-- Bytes of the records in the tail. -/
def State.tailBytes (s : State) : Nat := s.media.tail.foldl (fun a r => a + 16 + r.len) 0

/-- What the Logbook records, the relocation jobs that run among it (RELOC). -/
def State.snapshot (s : State) : Persist :=
  { s.per with jobs := s.media.relocs.filterMap fun (k, r) => if r.alive && r.started then some (k, (r.order, r.src, r.dst)) else none }

/-- A record of the next SEQ, with its CRC32C (Table 09-9). -/
def State.mkRec (s : State) (kind : RecKind) (obj len : Nat) (body : List Nat) : Rec :=
  let q := s.media.seq
  { seq := q, kind := kind, obj := obj, len := len, body := body,
    crc := crc32c (([q % 2 ^ 32, q / 2 ^ 32, kind.code + len * 65536] ++ body ++ List.replicate (len / 4 - body.length) 0).flatMap wordBytes) }

/-- A record joins the tail (R271). -/
def State.pushRec (s : State) (kind : RecKind) (obj : Nat) (body : List Nat) : State :=
  { s with per.closed := (kind == RecKind.close), per.clockRec := (if kind == RecKind.clock then s.per.clock else s.per.clockRec),
           media.tail := s.media.tail ++ [s.mkRec kind obj (4 * body.length) body], media.seq := s.media.seq + 1 }

/-- The tail is programmed as one Logbook row, filled with PAD (R272). A Logbook shell that it opens is recorded next. -/
def State.tailOut (s : State) : State :=
  match s.logShell with
  | none => s
  | some x =>
    if s.media.tail.isEmpty then s
    else
      let room := s.logRowBytes - s.tailBytes
      let s := if room < 16 then s
        else { s with media.tail := s.media.tail ++ [s.mkRec .pad 0 (room - 16) []], media.seq := s.media.seq + 1 }
      let row := s.nextRow x
      let fresh := (s.shell x).st == 1
      let s := if fresh then { s.openShell x 4 0 true with per.logPos := x + 1 } else s
      let s := s.addJob { kind := .log, shell := x + 1, row := row, slc := true, recs := s.media.tail, lastSeq := s.media.seq - 1,
                          snap := s.snapshot }
      let s := { s with media.tail := [] }
      if fresh then s.pushRec .shell x (s.recBody .shell x) else s

/-- A record joins the tail with the next SEQ (R271); a tail that cannot take it is programmed first (R272). -/
def State.recordB (s : State) (kind : RecKind) (obj : Nat) (body : List Nat) : State :=
  (if s.tailBytes + 16 + 4 * body.length > s.logRowBytes then s.tailOut else s).pushRec kind obj body

abbrev State.record (s : State) (kind : RecKind) (obj : Nat) : State := s.recordB kind obj (s.recBody kind obj)

/-- A list in pieces of at most n. -/
def chunks {α : Type} (n : Nat) (l : List α) : List (List α) := (List.range (ceilDiv l.length n)).map fun i => (l.drop (i * n)).take n

/-- MAP records of page-map entries, of at most 1,023 pairs each (Table 09-10). -/
def State.recordMap (s : State) (obj : Nat) (keys : List Nat) : State :=
  (chunks 1023 keys).foldl (fun (s : State) l => s.recordB .map obj (l.flatMap s.mapPair)) s

/-- One LEDGER record of several entries. -/
def State.recordLedger (s : State) (es : List Nat) : State := s.recordB .ledger (es.headD 0) (es.flatMap s.ledgerPair)

/-- The Ledger entries of a shell's 32 blocks, in one record. -/
def State.recordBlocks (s : State) (x : Nat) : State :=
  s.recordLedger ((List.range 32).map fun k => ledgerKey (crewOf x) k (x % 8192))

/-- A CONFIG record: kind and index, the words, and zeros to a multiple of 8 bytes. The kinds: 0 slice, 1 Origin Table entry, 2 profile,
3 PSK entry, 4 pool, 5 code assignment, 6 DRAM mark, 7 remap entry, 8 wrap-key class (the numbers are a DESIGN CHOICE,
notes/assumptions/74). -/
def State.recordCfg (s : State) (kind idx : Nat) (words : List Nat) : State :=
  s.recordB .config (kind * 65536 + idx) ([kind, idx] ++ words ++ List.replicate (words.length % 2) 0)

/-- SEQ of the newest record. -/
def State.lastSeq (s : State) : Nat := s.media.seq - 1

/-- Rule 1 is in force (R91). -/
def State.rule1 (s : State) : Bool := s.on R.RC_ACK_STS_ACK_RULE

/-! ### Shells: assignment and release -/

/-- Erases of a shell's 32 blocks, summed: the shell's own and what exchanged blocks brought (R253). -/
def State.shellErases (s : State) (x : Nat) : Int :=
  (List.range 32).foldl (fun a l =>
    a + (s.shell x).erases + (s.per.ledger.get ((crewOf x * 32 + l) * 8192 + x % 8192)).ec) 0

/-- Erases of all Erased shells of a crew, summed over blocks. -/
def State.erasedSum (s : State) (c : Nat) : Int :=
  s.per.shells.foldl (fun a (x, h) => if crewOf x = c ∧ h.st = 1 ∧ h.kind = 0 then a + s.shellErases x else a) 0

/-- The lowest Erased shell number of a crew (which of them is a DESIGN CHOICE, notes/assumptions/15). -/
def State.erasedShell (s : State) (c : Nat) : Option Nat :=
  let n := firstFree (c * 8192) (s.usedShells c)
  if n < c * 8192 + (s.crew c).shells then some n else none

/-- Crews of a pool that hold an Erased shell and may take new shells (Table 08-3). -/
def State.takers (s : State) (p : Nat) (notCrew : Nat → Bool) : List Nat :=
  let l := (s.poolCrews p).filter fun c => decide (0 < s.erasedCount c) && !notCrew c
  let h := l.filter fun c => (s.crew c).st == 2
  if h.isEmpty then l.filter fun c => (s.crew c).st == 3 else h

/-- a ranks before b: lower mean erase count of Erased shells, then lower number (R208). -/
def State.rankLe (s : State) (a b : Nat) : Bool :=
  let x := s.erasedSum a * s.erasedCount b
  let y := s.erasedSum b * s.erasedCount a
  decide (x < y) || (decide (x = y) && decide (a ≤ b))

/-- Insertion by the ranking of R208. -/
def State.rankInsert (s : State) (a : Nat) : List Nat → List Nat
  | [] => [a]
  | b :: r => if s.rankLe a b then a :: b :: r else b :: s.rankInsert a r

/-- The crew that R208 takes for a lifetime class: 1 short, 3 long, else all. -/
def State.chooseCrew (s : State) (p cls : Nat) (notCrew : Nat → Bool) : Option Nat :=
  let r := (s.takers p notCrew).foldr s.rankInsert []
  let h := (r.length + 1) / 2
  let set := if cls = 1 then r.take h else if cls = 3 then r.drop (r.length - h) else r
  set.foldl (fun best c =>
    match best with
    | some b => if s.erasedCount b < s.erasedCount c ∨ (s.erasedCount b = s.erasedCount c ∧ c < b) then some c else best
    | none => some c) none

/-- A shell of a pool is taken for an owner: Erased to Open (R208, Table 09-4), recorded. -/
def State.takeShell (s : State) (p cls kind owner : Nat) (slc : Bool) (notCrew : Nat → Bool := fun _ => false) :
    Option (Nat × State) :=
  match (s.chooseCrew p cls notCrew).bind s.erasedShell with
  | none => none
  | some x =>
    let s := s.openShell x kind owner slc
    some (x, s.record .shell x)

/-- A shell in use gives up its owner: it awaits its erase (Table 09-4). -/
def State.giveUp (s : State) (x : Nat) : State :=
  if (s.shell x).st = 2 ∨ (s.shell x).st = 3 then
    s.modShell x fun h =>
      { h with st := 4, kind := if 3 ≤ h.kind ∧ h.kind ≤ 6 then h.kind else 0, owner := 0, reloc := false, erased := 0,
               res := if h.kind = 2 then h.owner % 4096 + 1 else 0 }
  else s

/-- The newest record is the one that released the shell (R249, R250). -/
def State.releasedBy (s : State) (x : Nat) : State := s.modShell x fun h => { h with relSeq := s.lastSeq }

/-- A shell is released by a SHELL record. -/
def State.releaseShell (s : State) (x : Nat) : State :=
  if (s.shell x).st = 2 ∨ (s.shell x).st = 3 then ((s.giveUp x).record .shell x).releasedBy x else s

/-! ### Streams -/

/-- Staged blocks that gather in a row: those of no job. -/
def State.gathering (s : State) (st row : Nat) : List StBlk :=
  s.media.stage.filter fun (b : StBlk) => b.stream == st && b.row == row && b.job == 0

/-- Units of a row that stand in the Millpond. -/
def State.spilledUnits (s : State) (st row : Nat) : Nat :=
  s.per.spills.foldl (fun a p => if p.stream = st ∧ p.row = row then a + p.count else a) 0

def unitsOf (l : List StBlk) : Nat := l.foldl (fun a b => a + b.units) 0

/-- KiB of host staging that a slice uses (MR_USED_KIB), and all slices. -/
def State.mrUsed (s : State) (slice : Nat) : Nat := 4 * unitsOf (s.media.stage.filter fun (b : StBlk) => b.slice == slice)
def State.mrTotal (s : State) : Nat := 4 * unitsOf s.media.stage
/-- KiB of host staging (R106). -/
def State.mrSize (s : State) : Nat := (64 - s.f R.HP_POOL_WPOOL_MIB) * 1024

/-! ### Completions of writes (R20, R22, R91, R195) -/

/-- The blocks of a command become visible to reads: its completion is posted (R93). -/
def State.expose (s : State) (c : Nat) : State :=
  { s with media.stage := s.media.stage.map fun (b : StBlk) => if b.cmd = c then { b with vis := true, cmd := 2 ^ 20 } else b }

/-- A write's completion is due: staged whole, every block of its zone below its last LBA staged (R195), and under rule 0
durable with its record on flash (R22). -/
def State.postDue (s : State) (c : Nat) : Bool :=
  let cm := s.cmd c
  let ns := s.per.ns.get cm.ns
  let zoneOk := if ns.zoned ∧ isWriteOpc cm.sqe.opc then
      let cap := if ns.big then 262144 else 1048576
      decide (cm.lba % cap + cm.nlb ≤ s.zoneStaged (ns.zbase + cm.lba / cap))
    else true
  let staged := s.media.stage.any fun (b : StBlk) => b.cmd == c && !b.sup
  cm.alive && cm.phase == .durable && zoneOk &&
    (s.rule1 || (!staged && decide (cm.needSeq ≤ s.media.seqFlash)))

/-- Completions that are due are posted; a command with a failure status posts it (R196). -/
def State.postReady (s : State) : State :=
  (s.cmds.keysWhere fun _ c => c.alive && c.phase == .durable).foldl (fun s c =>
    if s.postDue c then (s.expose c).complete c (s.cmd c).status ((s.cmd c).dw0 % 2 ^ 32) ((s.cmd c).dw0 / 2 ^ 32) else s) s

/-- A command completes once the Logbook records its effect: under rule 0 once that record is on flash (R22, R272). -/
def State.completeRecorded (s : State) (c : Nat) : State :=
  if s.rule1 then s.complete c 0 (s.cmd c).dw0
  else
    let s := s.modCmd c fun x => { x with phase := .durable, needSeq := s.lastSeq }
    s.tailOut

/-! ### Codeword reads of media management -/

/-- A codeword read is queued. -/
def State.addCw (s : State) (w : Cw) : State :=
  { s with
    flash.cws := s.flash.cws.set s.flash.nextCw { w with alive := true, queued := s.clk.tb },
    flash.nextCw := s.flash.nextCw + 1 }

/-- The place of unit i of a row's data: seat and unit within the seat. -/
def unitPlace (fmt : Nat) (slc : Bool) (i : Nat) : Nat × Nat := (seatOfPos fmt (i / seatUnits slc), i % seatUnits slc)

/-- A read of no slice issued for a job (R237): unit i of a row's data. -/
def State.jobRead (s : State) (job unit shell row : Nat) (slc : Bool) (i : Nat) : State :=
  let (seat, k) := unitPlace (s.fmt (crewOf shell)) slc i
  s.addCw { purpose := .job job unit, crew := crewOf shell, seat := seat, shell := shell, row := row, slc := slc, unit := k,
            deadline := s.clk.tb + s.f R.SH_CFG_MM_BUDGET_US * 1500 }

/-! ### Rows of streams (R197, R198, R213) -/

/-- Blocks of a list by their unit. -/
def blksByUnit (l : List StBlk) : Tab Blk := l.foldl (fun t b => t.set b.unit b.blk) []

/-- Bytes of media staging that the rows of folds, relocations and Millpond copies take, and room for one more in its 26 MiB: 32 seats of
256 KiB (R272). -/
def State.mediaRoom (s : State) : Bool :=
  decide (((s.media.jobs.filter fun j => j.kind == .fold || j.kind == .reloc || j.kind == .millCopy).length + 1) * 8 ≤ 26)

/-- Jobs end without a row, with their codeword reads. -/
def State.dropJobs (s : State) (p : Job → Bool) : State :=
  let ids := (s.media.jobs.filter p).map fun j => j.id
  let gone := s.flash.cws.keysWhere fun _ w => match w.purpose with
    | .job j _ => ids.contains j
    | _ => false
  { s with
    media.jobs := s.media.jobs.filter fun j => !p j,
    flash.cws := s.flash.cws.filter fun (k, w) => !gone.contains k && match w.purpose with
      | .source n => !gone.contains n
      | _ => true }

/-- A row job gives its blocks back to staging, where they gather again. -/
def State.ungroup (s : State) (id : Nat) : State :=
  let s := s.dropJobs fun j => j.id == id
  { s with media.stage := s.media.stage.map fun (b : StBlk) => if b.job = id then { b with job := 0 } else b }

/-- The row job of a stream that has no shell yet: its blocks wait in host staging and spill as a partial row's do (R264). -/
def State.waitingJob (s : State) (id : Nat) : Bool :=
  s.media.jobs.any fun j => j.id == id && j.shell == 0 && (j.kind == .direct || j.kind == .fold)

/-- A zone's shell is the source of a relocation that runs (R267). -/
def State.zoneMoving (s : State) (z : Nat) : Bool :=
  (s.zone z).shellValid && ((s.shell (s.zone z).shell).torn ||
    s.media.relocs.any fun (_, r) => r.alive && r.started && r.src == (s.zone z).shell)

/-- A job for a row of a stream: its staged blocks, and reads of its spilled parts (R197). -/
def State.rowJob (s : State) (st row : Nat) : State :=
  let g := s.gathering st row
  let parts := s.per.spills.filter fun p => p.stream == st && p.row == row
  let need := parts.foldl (fun a p => a + p.count) 0
  let id := s.media.nextJob
  let s := s.addJob { kind := if parts.isEmpty then .direct else .fold, stream := st, row := row, srow := row,
                      blks := blksByUnit g, units := unitsOf g + need, need := need,
                      shell := if isZoneStream st ∧ (s.zone st).shellValid then (s.zone st).shell + 1 else 0 }
  let s := { s with media.stage := s.media.stage.map fun (b : StBlk) =>
    if b.stream = st ∧ b.row = row ∧ b.job = 0 then { b with job := id } else b }
  parts.foldl (fun s p =>
    (List.range p.count).foldl (fun s k => s.jobRead id (p.unit + k) p.shell p.mrow true (p.munit + k)) s) s

/-- The Open Millpond shell with the fewest rows queued, lowest index among equals (R258). -/
def State.millOpen (s : State) : Option Nat :=
  (s.per.shells.keysWhere fun x h => h.kind == 3 && h.st == 2 && decide (s.nextRow x < 384)).foldl (fun best x =>
    match best with
    | some b => if s.nextRow x - (s.shell x).rows < s.nextRow b - (s.shell b).rows then some x else best
    | none => some x) none

/-- SLC data of a shell, MiB (R256). -/
def slcMib (fmt : Nat) : Nat := dataSeats fmt * 24

/-- MP_HELD: the SLC data of every programmed row of every Millpond shell not yet erased (R257), MiB. Released Millpond
shells keep SLC until they are erased. -/
def State.mpHeld (s : State) : Nat :=
  (s.per.shells.foldl (fun a (x, h) =>
    if h.slc ∧ h.kind = 3 then a + h.rows * dataSeats (s.fmt (crewOf x)) * 64 else a) 0) / 1024

/-- F_p of the home pool (R256). -/
def State.mpFloorShells (s : State) (p : Nat) : Nat :=
  if p = s.boot.image.mpHome then ceilDiv 65536 (slcMib (s.poolFmt p)) else 0

/-- Millpond shells of a pool. -/
def State.millOf (s : State) (p : Nat) : List Nat :=
  s.per.shells.keysWhere fun x h => h.kind == 3 && (s.crew (crewOf x)).pool == p && (s.crew (crewOf x)).inPool

/-- Live units of a zone's row in QLC, below the written end (R245). -/
def State.zoneLive (s : State) (z : Nat) : Nat :=
  let x := s.zone z
  min (x.rows * s.streamRow z) (x.wp * s.nsUnits x.ns)

/-- SVALID: live 4 KiB units of a shell (R245, R247). -/
def State.svalid (s : State) (x : Nat) : Nat :=
  (s.per.map.foldl (fun a (_, e) => if e.mapped ∧ e.shell = x then a + 1 else a) 0) +
  (s.per.spills.foldl (fun a p => if p.shell = x ∧ isZoneStream p.stream ∧ ¬ p.pad then a + p.count else a) 0) +
  (if (s.shell x).kind = 1 then s.zoneLive (s.shell x).owner else 0)

/-- U_p: shells of the pool's Healthy crews neither Unbound nor Retired (Table 09-5). -/
def State.poolU (s : State) (p : Nat) : Nat :=
  ((s.poolCrews p).filter fun c => (s.crew c).st == 2).foldl (fun a c =>
    a + (s.crew c).shells - s.per.shells.count fun x h => crewOf x == c && h.st == 5) 0
/-- S_p: Logbook, Tally and anchor shells on those crews. -/
def State.poolS (s : State) (p : Nat) : Nat :=
  let ok := fun x => (s.crew (crewOf x)).st == 2 && (s.crew (crewOf x)).inPool && (s.crew (crewOf x)).pool == p
  ((s.per.logShells ++ s.per.anchors ++ s.per.tallyShells).filter ok).length
/-- R_p: shells reserved by the pool's namespaces (R185). -/
def State.poolR (s : State) (p : Nat) : Nat :=
  s.per.ns.foldl (fun a (_, n) => if n.alive ∧ n.pool = p then a + n.resv else a) 0
/-- E_p (R255). -/
def State.poolE (s : State) (p : Nat) : Nat :=
  ((s.millOf p).filter fun x => decide (0 < s.svalid x)).length - s.mpFloorShells p
/-- FREE_SHELLS of a pool (R255). -/
def State.freeShells (s : State) (p : Nat) : Nat :=
  s.poolU p - (s.poolS p + s.poolR p + s.mpFloorShells p + s.boot.image.relocRes + s.poolE p)

/-- Live QLC units, and data units of all shells counted in U_p: FILL (R257). -/
def State.fill (s : State) : Nat :=
  let live := s.per.shells.foldl (fun a (x, h) => if h.slc then a else a + s.svalid x) 0
  let total := (List.range 8).foldl (fun a p => a + s.poolU p * zoneCapUnits (s.poolFmt p)) 0
  if total = 0 then 0 else 65536 * live / total

/-- Raw capacity of the formatted crews, MiB: 512 GiB for each die (00, Table of the reference build; a whole number of 96 MiB blocks
does not make it up: notes/assumptions/73). -/
def State.rawMib (s : State) : Nat := ((List.range 64).filter fun c => decide (2 ≤ (s.crew c).st)).length * 32 * 524288

/-- MP_TARGET and WEIR, MiB (R257). -/
def State.mpTarget (s : State) : Nat :=
  let mx := s.rawMib * s.f R.MD_MP_CFG_MP_PCT / 1600
  max 65536 (mx * (65536 - s.fill) / 65536)
def State.weir (s : State) : Nat := max 16384 (s.mpTarget * s.f R.MD_MP_CFG_WEIR_PCT / 100)

/-- The Millpond takes a new shell when fewer than four are Open and MP_TARGET allows it (R258). -/
def State.millTake (s : State) : Option (Nat × State) :=
  let open_ := s.per.shells.keysWhere fun _ h => h.kind == 3 && h.st == 2
  if 4 ≤ open_.length then none
  else
    -- a shell that stayed in the Millpond after its erase goes first (R259), one on a crew without an Open Millpond shell before others
    let used := fun c => open_.any fun x => crewOf x == c
    let all := s.per.shells.keysWhere fun x h => h.kind == 3 && h.st == 1 && s.mayOpen x
    let kept := (all.filter fun x => !used (crewOf x)) ++ all.filter fun x => used (crewOf x)
    let fits := fun x => decide (s.mpHeld + slcMib (s.fmt (crewOf x)) ≤ s.mpTarget)
    let home := s.boot.image.mpHome
    let pool := if (s.millOf home).length < s.mpFloorShells home then some home
      else (List.range 8).foldl (fun best p =>
        if 1 ≤ s.freeShells p then
          match best with
          | some b => if s.freeShells b < s.freeShells p then some p else best
          | none => some p
        else best) none
    match kept.find? fits, pool with
    | some x, _ =>
      let s := s.openShell x 3 s.media.nextMill true
      some (x, { s.record .shell x with media.nextMill := s.media.nextMill + 1 })
    | none, none => none
    | none, some p =>
      if s.mpHeld + slcMib (s.poolFmt p) > s.mpTarget then none
      else
        let r := match s.takeShell p 0 3 s.media.nextMill true used with
          | some r => some r
          | none => s.takeShell p 0 3 s.media.nextMill true
        r.map fun (x, t) => (x, { t with media.nextMill := t.media.nextMill + 1 })

/-- The Millpond takes new shells while fewer than four are Open (R258). -/
def State.millFill (s : State) : Nat → State
  | 0 => s
  | k + 1 => match s.millTake with
    | some (_, t) => t.millFill k
    | none => s

/-- The shell that a spill goes to (R258). -/
def State.millFor (s : State) : Option (Nat × State) :=
  let s := s.millFill 4
  s.millOpen.map fun x => (x, s)

/-- The first blocks of a list that fit in n units. -/
def takeUnits (n : Nat) : List StBlk → List StBlk
  | [] => []
  | b :: r => if b.units ≤ n then b :: takeUnits (n - b.units) r else []

/-- The staged part of a row is spilled: Millpond rows program it in SLC mode (R198). Without a Millpond shell the rows wait
for one in host staging (R258). -/
def State.spillRow (s : State) (st row : Nat) : Nat → State
  | 0 => s
  | fuel + 1 =>
    let g := s.gathering st row
    if g.isEmpty then s
    else
      -- the Millpond shell, or none yet: 416 units fit in an SLC row of every format
      let (shell, mrow, cap, t) := match s.millFor with
        | some (x, t) => (x + 1, t.nextRow x, rowUnits (t.fmt (crewOf x)) true, t)
        | none => (0, 0, 416, s)
      let part := takeUnits cap g
      let id := t.media.nextJob
      let placed := part.foldl (fun (acc : Nat × Tab Blk) b => (acc.1 + b.units, acc.2.set acc.1 b.blk)) (0, [])
      let t := t.addJob { kind := .spill, shell := shell, row := mrow, slc := true, stream := st, srow := row,
                          blks := placed.2, units := placed.1 }
      let us := part.map fun b => b.unit
      let t := { t with media.stage := t.media.stage.map fun (b : StBlk) =>
        if b.stream = st ∧ b.row = row ∧ b.job = 0 ∧ us.contains b.unit then { b with job := id } else b }
      -- a conventional handle's row starts again (R213)
      let t := if isZoneStream st then t else { t with media.fill := t.media.fill.set st ((t.media.fill.get st) / 2 ^ 20 * 2 ^ 20) }
      t.spillRow st row fuel

/-- The rows of a stream that gather, or are whole and wait for a shell, oldest first. -/
def State.partialRows (s : State) (st : Nat) : List Nat :=
  ((s.media.stage.filter fun (b : StBlk) => b.stream == st && (b.job == 0 || s.waitingJob b.job)).map fun b => b.row).dedup

/-- The staged part of a row spills, also where the whole row waits for a shell (R198, R264). -/
def State.spillStaged (s : State) (st row : Nat) : State :=
  let ids := ((s.media.stage.filter fun (b : StBlk) => b.stream == st && b.row == row && s.waitingJob b.job).map fun b => b.job).dedup
  (ids.foldl State.ungroup s).spillRow st row 8

/-- A stream's partial row spills. -/
def State.spillPartial (s : State) (st : Nat) : State :=
  match s.partialRows st with
  | [] => s
  | r :: _ => s.spillStaged st r

/-- Streams with a partial row, oldest staged block first. -/
def State.partialStreams (s : State) : List Nat :=
  ((s.media.stage.filter fun (b : StBlk) => b.job == 0 || s.waitingJob b.job).map fun b => b.stream).dedup

/-- Every partial row spills (R91, R393). -/
def State.spillAllPartial (s : State) : State :=
  s.partialStreams.foldl (fun s st => (s.partialRows st).foldl (fun s r => s.spillStaged st r) s) s

/-- A row that is complete gets its job (R197); while the zone's shell moves it spills instead (R267). -/
def State.rowCheck (s : State) (st row : Nat) : State :=
  let g := unitsOf (s.gathering st row)
  if g + s.spilledUnits st row = s.streamRow st ∧ 0 < s.streamRow st ∧
      ¬ s.media.jobs.any (fun j => j.stream == st && j.srow == row && (j.kind == .direct || j.kind == .fold)) then
    if isZoneStream st ∧ s.zoneMoving st then s.spillRow st row 8
    else if 0 < s.spilledUnits st row ∧ ¬ s.mediaRoom then s else s.rowJob st row
  else s

/-- Complete rows with a spilled part that waited for room in media staging (R272). -/
def State.foldRetry (s : State) : State :=
  ((s.per.spills.filter fun p => isZoneStream p.stream).map fun p => (p.stream, p.row)).dedup.foldl
    (fun (s : State) (st, row) => s.rowCheck st row) s

/-- HOLD_SPILL names the namespace and, of a zoned one, the zone (R216). -/
def State.holdSpill (s : State) (st : Nat) : State :=
  s.raiseLimited (2 ^ 24 + st) R.MD_ZEVT_HOLD_SPILL (s.per.ns.get (s.streamNs st)).nsid
    (if isZoneStream st then (s.zone st).zoneNo else noP)

/-- The oldest row in host staging that can spill, among blocks that satisfy p, does. -/
def State.spillOldest (s : State) (p : StBlk → Bool) : State :=
  match s.media.stage.find? fun (b : StBlk) => (b.job == 0 || s.waitingJob b.job) && p b with
  | some b => (s.spillStaged b.stream b.row).holdSpill b.stream
  | none => s

/-- Staging pressure (R198): host staging above 7/8 spills the oldest partial row, and a slice at its MRQ_KIB its own oldest. -/
def State.pressure (s : State) (slice : Nat) : State :=
  let own := decide ((s.cfg slice).mrqKib ≤ s.mrUsed slice)
  let s := if 7 * s.mrSize < 8 * s.mrTotal then s.spillOldest fun _ => true else s
  if own then s.spillOldest fun b => b.slice == slice else s

/-- The next place of a handle's open row: (row, unit); a row of a new shell follows row 383. -/
def State.handlePlace (s : State) (st units : Nat) : Nat × Nat × State :=
  let f := s.media.fill.get st
  let row := f / 2 ^ 20
  let unit := f % 2 ^ 20
  let next := if unit + units < s.streamRow st then row * 2 ^ 20 + unit + units else (row + 1) % 384 * 2 ^ 20
  (row, unit, { s with media.fill := s.media.fill.set st next })

/-- A block enters host staging (step 5 of Table 01-3). -/
def State.stageBlock (s : State) (b : StBlk) : State := { s with media.stage := s.media.stage ++ [{ b with tIn := s.clk.tb }] }

/-! ### Changed zones, Read Only (R204) -/

/-- The controllers of a namespace's slice get a Zone Descriptor Changed notice, at most one pending each (R204). -/
def State.zoneNotice (s : State) (n : Nat) : State :=
  (s.ctrls.keysWhere fun _ c => c.alive && c.attached.contains n && bit ((c.feats.get 0x0B)) 27).foldl (fun s c =>
    if (s.media.cznOut.get (c * 8192 + n)) then s
    else
      ({ s with media.cznOut := s.media.cznOut.set (c * 8192 + n) true }).asyncEvent c (2, 0xEF, 0xBF)) s

/-- A zone moves to Read Only (R204). -/
def State.zoneReadOnly (s : State) (z : Nat) : State :=
  let x := s.zone z
  if [ZState.implOpen, .explOpen, .closed, .full].contains x.zs then
    let s := s.modZone z fun x => { x with zs := .readOnly }
    let s := s.record .zone z
    let s := { s with media.czl := s.media.czl.mod x.ns fun l => if l.contains x.zoneNo then l else l ++ [x.zoneNo] }
    (s.zoneNotice x.ns).raise R.MD_ZEVT_ZONE_RO (s.per.ns.get x.ns).nsid x.zoneNo
  else s

/-! ### Relocation queue (R265) -/

/-- An event of the FDP Events log, where FDP is on for the namespace's endurance group (R210): type, namespace + 8,192 × group,
handle. -/
def State.fdpEvent (s : State) (ty n h : Nat) : State :=
  let g := s.poolFmt (s.per.ns.get n).pool
  if s.per.fdp.get g then { s with media.fdpEv := (ty, n + 8192 * g, h) :: s.media.fdpEv } else s

/-- A shell is queued for relocation, once; one that waits already rises to the order of the new reason (R265). -/
def State.queueReloc (s : State) (order x : Nat) : State :=
  if s.media.relocs.any fun (_, r) => r.alive && r.src == x then
    { s with media.relocs := s.media.relocs.mapAll fun _ r =>
        if r.alive ∧ r.src = x ∧ ¬ r.started ∧ order < r.order then { r with order := order } else r }
  else
    { s with
      media.relocs := s.media.relocs.set s.media.nextReloc { alive := true, order := order, src := x },
      media.nextReloc := s.media.nextReloc + 1 }

/-- A Millpond shell whose SVALID is 0 is released (R259). -/
def State.millRelease (s : State) (x : Nat) : State :=
  let h := s.shell x
  if h.kind = 3 ∧ 0 < h.rows ∧ s.svalid x = 0 ∧ ¬ s.media.jobs.any (fun j => j.shell == x + 1) then s.releaseShell x else s

/-- A conventional shell that is not the handle's open shell and holds no live unit is released (R262). -/
def State.convRelease (s : State) (x : Nat) : State :=
  let h := s.shell x
  if h.kind = 2 ∧ h.st = 3 ∧ s.svalid x = 0 then s.releaseShell x else s

/-- Shells of a conventional namespace in use. -/
def State.nsShells (s : State) (n : Nat) : Nat :=
  s.per.shells.count fun _ h => (h.st == 2 || h.st == 3) && h.kind == 2 && h.owner % 4096 + 1 == n

/-- Reserved shells of a conventional namespace that are Erased or Awaiting erase (R262), and those that are Erased (R264). -/
def State.resvFree (s : State) (n : Nat) : Nat := (s.per.ns.get n).resv - s.nsShells n
def State.resvErased (s : State) (n : Nat) : Nat := s.resvFree n - s.per.shells.count fun _ h => h.st == 4 && h.res == n

/-- Garbage collection of a namespace, from below GC_START until GC_STOP: the Full shell with the smallest SVALID is the victim, one at a
time; ties go to the oldest AGE, then the lowest index (R262). -/
def State.gcCheck (s : State) (n : Nat) : State :=
  let x := s.per.ns.get n
  let on := x.alive && !x.zoned &&
    decide (s.resvFree n < if s.media.gc.get n then s.f R.MD_GC_CFG_GC_STOP else s.f R.MD_GC_CFG_GC_START)
  let s := { s with media.gc := s.media.gc.set n on }
  if ¬ on ∨ s.media.relocs.any fun (_, r) => r.alive && r.order == 4 && (s.shell r.src).owner % 4096 + 1 == n then s
  else
    let full := s.per.shells.keysWhere fun _ h => h.st == 3 && h.kind == 2 && h.owner % 4096 + 1 == n
    match full.foldl (fun best x =>
      match best with
      | some b =>
        if s.svalid x < s.svalid b ∨ (s.svalid x = s.svalid b ∧ (s.shell x).age < (s.shell b).age) then some x else best
      | none => some x) none with
    | some v => if s.svalid v = 0 then s.releaseShell v else s.queueReloc 4 v
    | none => s

/-! ### The page map (R211 to R214) -/

/-- A unit takes a new location; its EPOCH rises (R213). -/
def State.mapSet (s : State) (n unit shell pos : Nat) (slc : Bool) : State :=
  { s with per.map := s.per.map.mod (mapKey n unit) fun e =>
    { unit := pos, shell := shell, epoch := (e.epoch + 1) % 256, mapped := true, slc := slc } }

/-- A unit is unmapped: MAPPED clears and EPOCH rises (R213). -/
def State.mapClear (s : State) (n unit : Nat) : State :=
  { s with per.map := s.per.map.mod (mapKey n unit) fun e => { e with mapped := false, epoch := (e.epoch + 1) % 256, slc := false, unit := 0, shell := 0 } }

/-- Older staged content of a block gives way: it is mapped no more and read no more. -/
def State.supersede (s : State) (n lba before : Nat) : State :=
  { s with media.stage := s.media.stage.mapIdx fun i (b : StBlk) =>
    if b.blk.ns = n ∧ b.blk.lba = lba ∧ i < before then { b with sup := true, vis := false } else b }

/-- The blocks of a conventional namespace from lba on are unmapped (R213). -/
def State.unmap (s : State) (n lba nlb : Nat) : State :=
  let u := s.nsUnits n
  let shells := (List.range (nlb * u)).filterMap fun k =>
    let e := s.per.map.get (mapKey n (lba * u + k))
    if e.mapped then some e.shell else none
  let s := (List.range (nlb * u)).foldl (fun s k => s.mapClear n (lba * u + k)) s
  let s := (List.range nlb).foldl (fun s k => s.supersede n (lba + k) s.media.stage.length) s
  let s := s.recordMap n ((List.range (nlb * u)).map fun k => mapKey n (lba * u + k))
  let s := shells.dedup.foldl (fun s x => (s.millRelease x).convRelease x) s
  -- blocks whose staged copy was lost are overwritten by this (R448)
  { s with media.lostBlk := (List.range nlb).foldl (fun t k => t.set (n * 2 ^ 48 + lba + k) false) s.media.lostBlk }

/-! ### A row is on flash -/

/-- The flash row of a job. -/
def flashKey (shell row : Nat) : Nat := shell * 1024 + row

/-- Commands with blocks in a job's rows wait for the record just made (R22). -/
def State.needRecord (s : State) (job : Nat) : State :=
  (s.media.stage.filter fun (b : StBlk) => b.job == job).foldl (fun s b =>
    if (s.cmd b.cmd).alive then s.modCmd b.cmd fun x => { x with needSeq := s.lastSeq } else s) s

/-- Staged blocks of a job are released (step 9 of Table 01-3). -/
def State.releaseStage (s : State) (job : Nat) : State :=
  let out := s.media.stage.filter fun (b : StBlk) => b.job == job && !b.sup
  { s with media.stage := s.media.stage.filter (fun (b : StBlk) => b.job != job),
           -- a block whose content was lost stays lost, until a newer content of it is on flash
           media.lostBlk := out.foldl (fun t (b : StBlk) => t.set (b.blk.ns * 2 ^ 48 + b.blk.lba) b.lost) s.media.lostBlk }

/-- The newest staged copy of a block is lost with an uncorrectable SRAM word (R443, R448); `vis`: the newest that reads see. -/
def State.loseStaged (s : State) (n lba : Nat) (vis : Bool) : State :=
  let hit := fun (b : StBlk) => decide (b.blk.ns = n ∧ b.blk.lba = lba) && !b.sup && (!vis || b.vis)
  let last := s.media.stage.foldl (fun (a : Nat × Nat) b => (a.1 + 1, if hit b then a.1 + 1 else a.2)) (0, 0)
  { s with media.stage := s.media.stage.mapIdx fun i (b : StBlk) => if i + 1 = last.2 then { b with lost := true } else b }

/-- The shell of a Full zone whose last row is programmed takes no further row: Open to Full (Table 09-4, Finish). -/
def State.zoneShellFull (s : State) (z : Nat) : State :=
  let x := s.zone z
  if x.zs = .full ∧ x.shellValid ∧ (s.shell x.shell).st = 2 ∧ ¬ s.media.stage.any (fun (b : StBlk) => b.stream == z) ∧
      ¬ s.media.jobs.any (fun j => j.stream == z && (j.kind == .direct || j.kind == .fold || j.kind == .spill)) ∧
      ¬ s.per.spills.any (fun p => p.stream == z) then
    (s.modShell x.shell fun h => { h with st := 3 }).record .shell x.shell
  else s

/-- A row of a zone ends in QLC: ZONE record, spilled parts and staging released (R197, R199). -/
def State.zoneRowDone (s : State) (j : Job) : State :=
  let z := j.stream
  let old := (s.per.spills.filter fun p => p.stream == z && p.row == j.row).map fun p => p.shell
  let s := { s with per.spills := s.per.spills.filter fun p => ¬ (p.stream = z ∧ p.row = j.row) }
  let s := s.modZone z fun x => { x with rows := max x.rows (j.row + 1), spilled := s.per.spills.any fun p => p.stream == z }
  let s := s.modZone z fun x => { x with durable := s.zoneDurable z }
  let s := (s.record .zone z).needRecord j.id
  let s := { s.releaseStage j.id with gov.foldUnits := s.gov.foldUnits + (if j.kind = .fold then j.units else 0) }
  (old.dedup.foldl State.millRelease s).zoneShellFull z

/-- A staged block of a conventional namespace takes its place: map entries, older staged copies of it give way, and shells that lose
their last live unit are released (R213, R259, R262). `i`: its index in staging. -/
def State.mapStaged (s : State) (i : Nat) (b : StBlk) (shell pos : Nat) (slc : Bool) : State :=
  let ks := (List.range b.units).map fun k => mapKey b.blk.ns (b.blk.lba * b.units + k)
  let olds := ks.filterMap fun k => let e := s.per.map.get k; if e.mapped then some e.shell else none
  let s := (List.range b.units).foldl (fun s k => s.mapSet b.blk.ns (b.blk.lba * b.units + k) shell (pos + k) slc) s
  let s := s.supersede b.blk.ns b.blk.lba i
  olds.dedup.foldl (fun s o => (s.millRelease o).convRelease o) s

/-- The staged blocks of a job with their places in the row: of a spill one after the other, else at their units. -/
def State.jobPlaces (s : State) (j : Job) (base : Nat) : List (Nat × StBlk × Nat) :=
  ((s.media.stage.zipIdx.filter fun (b, _) => b.job == j.id).foldl (fun (acc : Nat × List (Nat × StBlk × Nat)) (b, i) =>
    (acc.1 + b.units, acc.2 ++ [(i, b, base + (if j.kind = .spill then acc.1 else b.unit))])) (0, [])).2

/-- The live blocks of a job of a handle are mapped and recorded (R213). -/
def State.mapJob (s : State) (j : Job) (slc : Bool) : State :=
  let x := j.shell - 1
  let l := (s.jobPlaces j (j.row * rowUnits (s.fmt (crewOf x)) slc)).filter fun (_, b, _) => !b.sup
  let s := l.foldl (fun (s : State) (i, b, pos) => if ((s.media.stage[i]?).map StBlk.sup).getD true then s else s.mapStaged i b x pos slc) s
  (s.recordMap j.stream (l.flatMap fun (_, b, _) => (List.range b.units).map fun k => mapKey b.blk.ns (b.blk.lba * b.units + k)))

/-- A row of a handle ends in QLC: its live units are mapped (R213). -/
def State.handleRowDone (s : State) (j : Job) : State :=
  (((s.mapJob j false).needRecord j.id).releaseStage j.id).gcCheck (s.streamNs j.stream)

/-- A part joins the last one of a list where it goes on from it. -/
def joinPart (l : List Spill) (p : Spill) : List Spill :=
  match l.getLast? with
  | some q =>
    if q.unit + q.count = p.unit ∧ q.munit + q.count = p.munit ∧ q.pad = p.pad then l.dropLast ++ [{ q with count := q.count + p.count }]
    else l ++ [p]
  | none => [p]

/-- The parts of a zone's row that a spill row holds. -/
def State.spillParts (s : State) (j : Job) : List Spill :=
  ((s.jobPlaces j 0).filter fun (_, b, _) => !b.sup).foldl (fun l (_, b, pos) =>
    joinPart l { stream := j.stream, row := j.srow, unit := b.unit, count := b.units, shell := j.shell - 1, mrow := j.row, munit := pos,
                 pad := b.blk.ns == 0 }) []

/-- A spill is on flash: SPILL records and SPILLED, or the map entries; staging released (R198, R213). -/
def State.spillDone (s : State) (j : Job) : State :=
  if isZoneStream j.stream then
    let parts := s.spillParts j
    let s := { s with per.spills := s.per.spills ++ parts }
    let s := s.modZone j.stream fun z => { z with spilled := s.per.spills.any fun p => p.stream == j.stream }
    let s := s.modZone j.stream fun z => { z with durable := s.zoneDurable j.stream }
    let s := parts.foldl (fun (s : State) p => s.recordB .spill j.stream (spillBody p)) s
    ((s.needRecord j.id).releaseStage j.id).rowCheck j.stream j.srow
  else ((s.mapJob j true).needRecord j.id).releaseStage j.id

/-- ROWS, AGE and state of a shell after a row: the first sets AGE of its blocks, which the Ledger records (R245), row 383 makes the
shell Full (Table 09-4). A shell of a Degraded crew that now holds data is to move (R227). -/
def State.shellRow (s : State) (x row : Nat) : State :=
  let s := if row = 0 then (s.modShell x fun h => { h with age := s.per.clock }).recordBlocks x else s
  let full := row = 383 ∧ (s.shell x).st = 2
  let s := s.modShell x fun h => { h with rows := max h.rows (row + 1), st := if full then 3 else h.st }
  let s := if full then s.record .shell x else s
  if row = 0 ∧ (s.crew (crewOf x)).st = 3 ∧ 1 ≤ (s.shell x).kind ∧ (s.shell x).kind ≤ 3 then s.queueReloc 1 x else s

/-! ### Spare check (R254) -/

/-- The pools that fail the pool check of Table 09-5, and the Logbook check. -/
def State.poolShort (s : State) : Nat :=
  (List.range 8).foldl (fun m p =>
    let has := s.per.ns.any fun (_, n) => n.alive && n.pool == p
    setBit m p (has && decide ((s.poolU p : Int) - s.poolS p - s.poolR p - s.mpFloorShells p < s.boot.image.relocMin))) 0
def State.logShort (s : State) : Bool :=
  decide ((s.per.logShells.filter fun x =>
    ((s.shell x).st == 1 || (s.shell x).st == 2) && (s.crew (crewOf x)).st == 2).length < 8)
def State.spareOk (s : State) : Bool := s.poolShort == 0 && !s.logShort

/-- The spare check runs: MD_RO_STS, and in Service a failure leads to Read-Only (R254). -/
def State.spareCheck (s : State) : State :=
  let s := (s.setF R.MD_RO_STS_POOL_SHORT s.poolShort).setF R.MD_RO_STS_LOG_SHORT (b2n s.logShort)
  if s.mode = .service ∧ ¬ s.spareOk then
    let s := { s with per.roEntry := true }
    ((s.record .mode 3).raise R.MD_EVT_READ_ONLY).move 0x08 .readOnly
  else s

/-! ### The Logbook's end of a row, and its releases -/

/-- The written regions of the page map, in 4 MiB segments of 524,288 entries. -/
def State.mapSegments (s : State) : List Nat :=
  (s.per.map.foldl (fun l (k, _) => if l.head? = some (k / 524288) then l else (k / 524288) :: l) []).reverse

/-- The Tally floor: the lowest capture SEQ among the newest copies of all segments on flash; 0 while one has none (R275). -/
def State.tallyFloor (s : State) : Nat :=
  let keys := List.range 71 ++ s.mapSegments.map (71 + ·)
  match keys.map fun k => s.disk.tally.get (k + 1) with
  | [] => 0
  | v :: r => r.foldl min v

/-- The anchor row of an update: its sequence number, the list of Logbook shells and the CRC32C (R270). -/
def State.anchorRow (s : State) : Nat × List Nat × Nat :=
  let q := s.per.anchorSeq + 1
  (q, s.per.logShells, crc32c ((q :: s.per.logShells).flatMap wordBytes))

/-- An anchor update appends one SLC row to every anchor shell (R270). -/
def State.anchorUpdate (s : State) : State :=
  let a := s.anchorRow
  let s := { s with per.anchorSeq := a.1 }
  s.per.anchors.foldl (fun s x =>
    if s.nextRow x < 384 then
      s.addJob { kind := .anchor, shell := x + 1, row := s.nextRow x, slc := true, units := 1, anchor := some a }
    else s) s

/-- The list of Logbook shells in the governing anchor row on flash: the highest sequence number with a correct CRC32C (R270). -/
def State.anchorList (s : State) : Option (List Nat) :=
  (s.media.flash.foldl (fun (best : Option (Nat × List Nat)) (_, r) =>
    match r.anchor with
    | some (q, l, crc) =>
      if crc ≠ crc32c ((q :: l).flatMap wordBytes) then best
      else
        match best with
        | some (p, _) => if p < q then some (q, l) else best
        | none => some (q, l)
    | none => best) none).map Prod.snd

/-- A Logbook shell released on a crew that is not Healthy gives its place in the ring to a shell of the Healthy crew that
holds the fewest Logbook shells (R270). -/
def State.logReplace (s : State) (x : Nat) : State :=
  if (s.crew (crewOf x)).st = 2 then s
  else
    let held := fun c => (s.per.logShells.filter fun y => crewOf y == c).length
    let ok := (List.range 64).filter fun c => (s.crew c).st == 2 && (s.erasedShell c).isSome
    let best := ok.foldl (fun b c =>
      match b with
      | some a => if held c < held a then some c else b
      | none => some c) (none : Option Nat)
    match best.bind s.erasedShell with
    | some y =>
      let s := s.modShell y fun h => { h with kind := 4 }
      { s with per.logShells := s.per.logShells.map fun z => if z = x then y else z }.anchorUpdate
    | none => s

/-- Logbook shells that are Erased or Open. -/
def State.logFreeCount (s : State) : Nat := (s.per.logShells.filter fun x => (s.shell x).st == 1 || (s.shell x).st == 2).length

/-- Writes stall while fewer than 2 Logbook shells are Erased or Open (R273). -/
def State.logStall (s : State) : State :=
  let stall := decide (s.logFreeCount < 2) && !s.per.logShells.isEmpty
  if stall && !s.on R.MD_LOG_STS_STALL then (s.setF R.MD_LOG_STS_STALL 1).raise R.MD_EVT_LOG_STALL
  else if !stall then s.setF R.MD_LOG_STS_STALL 0 else s

/-- Logbook shells below the floor are released (R273). -/
def State.logRelease (s : State) : State :=
  (s.per.logShells.foldl (fun s x =>
    if (s.shell x).st = 3 ∧ s.media.logLast.get x < s.tallyFloor then (s.releaseShell x).logReplace x else s) s).logStall

/-- Tally shells that hold no newest copy, on flash or in the tail, are released (R275). -/
def State.tallyRelease (s : State) : State :=
  let used := fun x => (s.per.tallyAt ++ s.disk.tallyAt).any fun (_, y) => y == x + 1
  s.per.tallyShells.foldl (fun s x => if (s.shell x).st = 3 ∧ ¬ used x then s.releaseShell x else s) s

/-- A Logbook row is on flash: what it records is what a start loads (R271, R249). -/
def State.logRowDone (s : State) (j : Job) : State :=
  let s := { s with
    disk := { j.snap with endSeq := j.lastSeq }, media.seqFlash := max s.media.seqFlash j.lastSeq,
    media.logLast := s.media.logLast.set (j.shell - 1) j.lastSeq }
  s.logRelease.tallyRelease.postReady

/-- A Tally row is on flash; the last of a segment appends its TALLY record (R274). -/
def State.tallyRowDone (s : State) (j : Job) : State :=
  if j.seg = 0 then s
  else
    let s := { s with per.tally := s.per.tally.set j.seg j.lastSeq, per.tallyAt := s.per.tallyAt.set j.seg j.shell }
    s.record .tally (j.seg - 1)


/-! ### What a row holds in its pages (R218, R220, R310 to R315) -/

/-- The words of a record as a Logbook row holds them (Table 09-9). -/
def Rec.words (r : Rec) : List Nat :=
  [r.seq % 2 ^ 32, r.seq / 2 ^ 32, r.kind.code + r.len * 65536, r.crc] ++ r.body ++ List.replicate (r.len / 4 - r.body.length) 0

/-- Words of 32 bits as one number, the first lowest. -/
def ofWords (l : List Nat) : Nat := l.foldr (fun w a => w % 2 ^ 32 + 2 ^ 32 * a) 0

/-- The block of a table that covers unit i, and its first unit. -/
def blkAt (t : Tab Blk) (i : Nat) : Option (Nat × Blk) :=
  match t.find? fun (j, _) => j == i with
  | some e => some e
  | none =>
    match t.find? fun (j, _) => j == i / 4 * 4 with
    | some e => if e.2.units = 4 then some e else none
    | none => none

/-- EPOCH in the page metadata of a unit: that of its map entry, one higher where the row is a unit's first place (R213, R313); 0 for a
zone's unit (Table 11-2). -/
def State.unitEpoch (s : State) (j : Job) (ns unit : Nat) : Nat :=
  let e := (s.per.map.get (mapKey ns unit)).epoch
  if (s.per.ns.get ns).zoned then 0 else if j.kind = .reloc then e else (e + 1) % 256

/-- The codeword of unit i of a row's data (R312, R315): host data as ciphertext, zero pad, or Logbook, Tally or anchor content. -/
def State.unitCode (s : State) (j : Job) (i : Nat) : Nat :=
  let h := s.shell (j.shell - 1)
  let code := codeFor j.codes j.slc (bitPage (i % seatUnits j.slc))
  let meta_ := metaWord j.pseq h.owner j.row h.kind
  let own := fun (v : Nat) => codeword code (v >>> (32768 * i)) (meta_ (2 ^ 64 - 1) 0 0 4)
  match j.kind with
  | .log => own (ofWords (j.recs.flatMap Rec.words))
  | .anchor => own (ofWords ((j.anchor.toList).flatMap fun a => a.1 :: a.2.2 :: a.2.1))
  | .tally => codeword code (Config.content [j.seg, j.lastSeq, i]) (meta_ (2 ^ 64 - 1) 0 0 4)
  | _ =>
    match blkAt j.blks i with
    | some (f, b) =>
      let epoch := s.unitEpoch j b.ns (b.lba * b.units + (i - f))
      codeword code (Config.cipher [b.key, b.ns, b.lba, b.plain] >>> (32768 * (i - f))) (meta_ b.lba (b.ns - 1) epoch 1)
    | none => codeword code 0 (meta_ (2 ^ 64 - 1) 0 0 2)

/-- The program unit of data position d: its codewords in the order of R311. -/
def State.dataUnit (s : State) (j : Job) (d : Nat) : Nat :=
  let n := seatUnits j.slc
  (List.range n).foldl (fun a k => a + (s.unitCode j (d * n + k) <<< (36864 * k))) 0

/-- A row is encoded by the code assignment and its parity units are computed, before its first program starts (R218, R220, R315). -/
def State.encodeRow (s : State) (j : Job) : Job :=
  let f := s.fmt (crewOf (j.shell - 1))
  let epochs := j.blks.flatMap fun (u, b) =>
    if b.ns = 0 ∨ (s.per.ns.get b.ns).zoned then []
    else (List.range b.units).map fun k => (u + k, s.unitEpoch j b.ns (b.lba * b.units + k))
  let j := { j with pseq := s.lastSeq, codes := s.per.codes, epochs := epochs }
  { j with parity := parityOf f (unitBytes j.slc) ((List.range (dataSeats f)).map (s.dataUnit j)) }

/-! ### The flush reservation (R392, R393) -/

/-- SLC rows for `need` units of host staging: (shell, first row, rows), from shells given with their next row. -/
def State.resRows (s : State) : Nat → List (Nat × Nat) → List (Nat × Nat × Nat) × Nat
  | need, [] => ([], need)
  | need, (x, first) :: r =>
    if need = 0 then ([], 0)
    else
      let u := rowUnits (s.fmt (crewOf x)) true
      let rows := min (384 - first) (ceilDiv need u)
      let (l, left) := s.resRows (need - rows * u) r
      ((x, first, rows) :: l, left)

/-- The unprogrammed SLC rows of open and erased Millpond shells, the home pool's Erased shells after them. -/
def State.resShells (s : State) : List (Nat × Nat) :=
  let open_ := s.per.shells.keysWhere fun x h => h.kind == 3 && h.st == 2 && decide (s.nextRow x < 384)
  let kept := s.per.shells.keysWhere fun _ h => h.kind == 3 && h.st == 1
  let home := (s.poolCrews s.boot.image.mpHome).filterMap s.erasedShell
  open_.map (fun x => (x, s.nextRow x)) ++ kept.map (fun x => (x, 0)) ++ home.map fun x => (x, 0)

/-- The flush reservation is named: rows for the whole of host staging, and a Logbook row. -/
def State.reserve (s : State) : State :=
  let (l, left) := s.resRows (s.mrSize / 4) s.resShells
  let ok := decide (left = 0) && s.logShell.isSome
  { s.setF R.PW_STS_RESERVED_OK (b2n ok) with pwr.resv := if ok then l else [] }

/-- HU_EXPOSED rises while a block acknowledged when armed, or its record, is not on flash (R393). -/
def State.exposeStaging (s : State) : State :=
  if s.media.stage.any fun (b : StBlk) => b.vis then { s.setF R.PW_STS_HU_EXPOSED 1 with pwr.huSeq := s.lastSeq }
  else if s.media.seqFlash < s.pwr.huSeq then s.setF R.PW_STS_HU_EXPOSED 1
  else s

/-- Hold-up is disarmed while the device runs: what it had acknowledged is exposed, and every partial row spills (R393). -/
def State.disarmSpill (s : State) : State :=
  if s.on R.PW_STS_ARMED then s.disarm.exposeStaging.spillAllPartial else s

/-- While armed, the reservation is named anew; without it hold-up is disarmed in the same handshake (R392). -/
def State.reserveSync (s : State) : State :=
  if s.on R.PW_STS_ARMED then
    let s := s.reserve
    if s.on R.PW_STS_RESERVED_OK then s else s.disarmSpill
  else s

end Sys2Proof.Machine
end

