-- ==== Sys2Proof/Machine/Reads.lean ====
section
/-! DEFINITION. Reads.lean: codeword reads, their decision and recovery, and what their data is delivered to (08, 11). -/

namespace Sys2Proof.Machine

abbrev State.cw (s : State) (n : Nat) : Cw := s.flash.cws.get n
def State.modCw (s : State) (n : Nat) (f : Cw → Cw) : State := { s with flash.cws := s.flash.cws.mod n f }

/-- A codeword read ends, with the sources it had queued. -/
def State.dropCw (s : State) (n : Nat) : State :=
  { s with flash.cws := s.flash.cws.filter fun (k, w) => k != n && w.purpose != CwFor.source n }

/-- The block that covers unit i of a row's data, as flash holds it, and its first unit. -/
def State.rowBlk (s : State) (shell row i : Nat) : Option (Nat × Blk) :=
  let r := s.media.flash.get (flashKey shell row)
  blkAt r.blks i

/-- Unit index of a codeword in the row's data; none on a parity seat. -/
def State.cwIndex (s : State) (w : Cw) : Option Nat :=
  (posOfSeat (s.fmt w.crew) w.seat).map fun d => d * seatUnits w.slc + w.unit

/-! ### Delivery to commands (Table 01-4, steps 5 and 6) -/

/-- The Loading slot that holds a byte offset of a command's data. -/
def State.slotAt (s : State) (c off : Nat) : Option Nat :=
  (s.hop.slots.keysWhere fun _ x => x.cmd == c && x.state == .loading &&
    decide (x.offset ≤ off) && decide (off < x.offset + x.length)).head?

/-- A block of a read is merged into its slot (Table 04-4); at queue deletion a slot whose results have all arrived is
freed. -/
def State.mergeBlk (s : State) (c b : Nat) (k : Blk) : State :=
  let s := s.modCmd c fun x => { x with src := x.src.set b .done }
  let bs := s.blkSize (s.cmd c).ns
  match s.slotAt c (b * bs) with
  | some n =>
    let s := s.modSlot n fun x => { x with blks := x.blks.set ((b * bs - x.offset) / bs) k, merged := x.merged + 1 }
    if (s.cmd c).mute ∧ (s.slot n).merged * bs = (s.slot n).length then (s.freeSlotN n).reserveNext else s
  | none => s

/-- Bytes of a read's data that it may transmit: those before the first unrecovered block (R87); none when it failed otherwise. -/
def State.readGood (s : State) (c : Nat) : Nat :=
  let cm := s.cmd c
  if cm.status = 0 then s.dataLen c
  else if cm.status = 0x281 then
    match cm.src.findIdx? (· == .failed) with
    | some i => i * s.blkSize cm.ns
    | none => s.dataLen c
  else 0

/-- A read or Verify whose every block has its result: Verify completes; a failed read completes with its status after the
transmissions before its first unrecovered block, and its slots are then freed (R87); a read of a deleted queue ends (Table 03-2). -/
def State.readEnd (s : State) (c : Nat) : State :=
  let cm := s.cmd c
  if cm.alive ∧ cm.phase = .running ∧ cm.unitsLeft = 0 ∧ cm.src.all fun x => x == .done || x == .failed then
    let drop := fun (s : State) =>
      ((s.slotsOf c fun t => t == .loading || t == .sending).foldl State.freeSlotN s).reserveNext
    if cm.sqe.opc = 0x0C then s.complete c cm.status
    else if cm.mute then (drop s).freeCmd c
    else if cm.status ≠ 0 ∧ ¬ (s.slotsOf c (· == .sending)).any fun n =>
        decide ((s.slot n).offset + (s.slot n).length ≤ s.readGood c) then (drop s).complete c cm.status
    else s
  else s

/-- A block of a read is unrecovered: Unrecovered Read Error (R101, R240); a zone moves to Read Only (R204). The error is
posted when every transmission passed before has passed (R87): at once when no slot is being sent. -/
def State.blockFailed (s : State) (c b : Nat) : State :=
  let cm := s.cmd c
  if ¬ cm.alive then s
  else
    let s := s.modCmd c fun x => { x with src := x.src.set b .failed, left := x.left.set b 0, status := if x.status = 0 then 0x281 else x.status }
    let ns := s.per.ns.get cm.ns
    let s := if ns.zoned then s.zoneReadOnly (ns.zbase + (cm.lba + b) / (if ns.big then 262144 else 1048576)) else s
    s.readEnd c

/-- Unit of block b of a command is decoded. -/
def State.unitToCmd (s : State) (c b : Nat) (k : Blk) : State :=
  let cm := s.cmd c
  let n := cm.left.get b
  if ¬ cm.alive ∨ n = 0 then s
  else
    let s := s.modCmd c fun x => { x with left := x.left.set b (n - 1) }
    if n = 1 then (s.mergeBlk c b k).readEnd c else s

/-! ### Delivery to jobs and sources -/

def State.modJob (s : State) (id : Nat) (f : Job → Job) : State :=
  { s with media.jobs := s.media.jobs.map fun (j : Job) => if j.id = id then f j else j }

def State.job? (s : State) (id : Nat) : Option Job := s.media.jobs.find? fun j => j.id == id

/-- A unit that a job needs is decoded and stands in media staging (R27). -/
def State.unitToJob (s : State) (id unit shell row i : Nat) : State :=
  let s := s.modJob id fun j => { j with need := j.need - 1 }
  match s.rowBlk shell row i with
  | some (first, k) =>
    if first = i then s.modJob id fun j => { j with blks := j.blks.set unit k } else s
  | none => s

/-- A zone or job source is unrecovered (R267): a zone shell moves its zone to Read Only; the unit is not copied. -/
def State.unitLostToJob (s : State) (id shell : Nat) : State :=
  let s := s.modJob id fun j => { j with need := j.need - 1 }
  if (s.shell shell).kind = 1 then s.zoneReadOnly (s.shell shell).owner else s

/-! ### The decision of R236 for a codeword -/

/-- A source seat gave its codeword, or the wanted unit was rebuilt: the read gets its data. -/
def State.deliver (s : State) (n : Nat) : State :=
  let w := s.cw n
  let s := s.dropCw n
  match w.purpose with
  | .patrol => s
  | .source p =>
    let s := s.modCw p fun x => { x with got := w.seat :: x.got }
    let x := s.cw p
    if x.alive ∧ x.phase = 3 ∧ x.need.all x.got.contains then s.modCw p fun x => { x with phase := 4 } else s
  | .cmd c b _ =>
    match (s.cwIndex w).bind fun i => s.rowBlk w.shell w.row i with
    | some (_, k) => s.unitToCmd c b k
    | none => s.unitToCmd c b {}
  | .job j u =>
    match s.cwIndex w with
    | some i => s.unitToJob j u w.shell w.row i
    | none => s

/-- A codeword is unrecovered (R240). -/
def State.unrecovered (s : State) (n : Nat) : State :=
  let w := s.cw n
  let s := s.dropCw n
  match w.purpose with
  | .patrol => s
  | .source _ => s
  | .cmd c b _ => ((s.stat w.crew 6).raise R.SH_EVT_RA_UNRECOV w.crew w.seat w.shell).blockFailed c b
  | .job j _ => ((s.stat w.crew 6).raise R.SH_EVT_RA_UNRECOV w.crew w.seat w.shell).unitLostToJob j w.shell

/-- Insert the source reads of a path (R238). -/
def State.pathReads (s : State) (n : Nat) (seats : List Nat) : State :=
  let w := s.cw n
  seats.foldl (fun s x =>
    s.addCw { purpose := .source n, crew := w.crew, seat := x, shell := w.shell, row := w.row, slc := w.slc, unit := w.unit }) s

/-- The unavailable seats of a shell's rows, bit per seat. -/
def State.unMask (s : State) (shell : Nat) : Nat := (List.range 32).foldl (fun m k => setBit m k (s.unavailable shell k)) 0

/-- A codeword is decided by R236; a patrol read never reads around (R326). -/
def State.cwDecide (s : State) (n : Nat) : State :=
  let w := s.cw n
  let s := { s with flash.cws := s.flash.cws.filter fun (_, x) => x.purpose != CwFor.source n }
  -- a read that is being decided stands in no queue (R236)
  let s := s.modCw n fun x => { x with need := [], got := [], phase := 6, un := s.unMask w.shell }
  if w.purpose = .patrol then
    if s.lostUnit w.shell w.seat then s.dropCw n
    else s.modCw n fun x => { x with phase := if s.unavailable w.shell w.seat then 5 else 0 }
  else
    match s.decide236 w.shell w.seat w.slc w.lost w.deadline with
    | .direct => s.modCw n fun x => { x with phase := 0 }
    | .wait np =>
      let s := s.modCw n fun x => { x with phase := 5, waited := true, noPath := x.noPath || np, choseWait := x.choseWait || !np }
      if np && !w.noPath then (s.stat w.crew 3).raiseLimited (2 ^ 20 + w.crew) R.SH_EVT_RA_WAIT w.crew w.seat
      else if !np && !w.choseWait then s.stat w.crew 4 else s
    | .path k seats =>
      (s.modCw n fun x => { x with phase := 3, need := seats, loc := k == .localP }).pathReads n seats
    | .unrecovered => s.unrecovered n

/-- Codewords of a crew that are decided again: those that wait, where a unit of their row became available or unavailable since, direct
reads whose seat became unavailable, and paths with an unavailable source (R236, R241). -/
def State.redecide (s : State) (crew : Nat) : State :=
  let ks := s.flash.cws.keysWhere fun _ w =>
    w.alive && w.crew == crew &&
      (match w.purpose with
        | .source _ => false
        | _ =>
          (w.phase == 5 && w.un != s.unMask w.shell) || ((w.phase == 0 || w.phase == 1) && s.unavailable w.shell w.seat) ||
            (w.phase == 3 && w.need.any fun x => !w.got.contains x && s.unavailable w.shell x))
  ks.foldl (fun s n => if (s.cw n).alive then s.cwDecide n else s) s

/-- A new codeword read for unit i of a row's data; it is decided at once (R236). -/
def State.readUnit (s : State) (purpose : CwFor) (shell row : Nat) (slc : Bool) (i deadline : Nat) : State :=
  let c := crewOf shell
  let (seat, k) := unitPlace (s.fmt c) slc i
  let n := s.flash.nextCw
  (s.addCw { purpose := purpose, crew := c, seat := seat, shell := shell, row := row, slc := slc, unit := k,
             deadline := deadline }).cwDecide n

/-! ### Recovery (R320, R322 to R325) -/

/-- ERASE_COUNT of the block that serves a shell at a seat (Table 09-1). -/
def State.eraseCount (s : State) (shell seat : Nat) : Nat :=
  let i : Int := (s.shell shell).erases + (s.per.ledger.get ((crewOf shell * 32 + seat) * 8192 + shell % 8192)).ec
  min i.toNat 262143

/-- The cell of R320 for a codeword: (FIRST, COUNT). -/
def State.cellOf (s : State) (w : Cw) : Nat × Nat :=
  match s.boot.image.curves[(s.die w.crew w.seat).set]? with
  | none => (0, 1)
  | some cs =>
    let m := if w.slc then 0 else 1 + w.unit / 16
    let e := (cs.peEdges.filter (· ≤ s.eraseCount w.shell w.seat)).length
    let a := (cs.ageEdges.filter (· ≤ s.per.clock - (s.shell w.shell).age)).length
    let d := s.die w.crew w.seat
    let t := match d.tempSample with
      | some k => if s.gov.samples ≤ k + 64 then (cs.tempEdges.filter (· ≤ d.temp)).length else cs.tempDef
      | none => cs.tempDef
    let cell := (cs.cells[((m * 8 + e) * 8 + a) * 4 + t]?).getD (0, 0)
    (cell.1, cell.2 + 1)

/-- The retry entry that a codeword's step needs (R320). -/
def stepEntry (w : Cw) : Nat := (w.first + (if w.step = 16 then w.best else w.step)) % 1024

/-- The die holds an entry of its curve set, with the entry's offsets (R321). -/
def State.setEntry (s : State) (c k e : Nat) : State :=
  let offsets := ((s.boot.image.curves[(s.die c k).set]?).bind fun cs => cs.entries[e]?).getD 0
  s.modDie c k fun d => { d with entry := e + 1, offsets := offsets }

/-- A queued read needs a codeword that another read has in recovery: it takes that read's result (R323). -/
def State.joins (s : State) (n : Nat) (w : Cw) : Bool :=
  w.alive && w.phase == 0 && w.step == 0 && s.flash.cws.any fun (m, x) =>
    m != n && x.alive && decide (x.phase ≤ 2) && decide (0 < x.step) && x.crew == w.crew && x.seat == w.seat && x.shell == w.shell &&
      x.row == w.row && x.unit == w.unit

/-- The reads that take codeword read n's result (R323). -/
def State.joined (s : State) (n : Nat) : List Nat :=
  let w := s.cw n
  s.flash.cws.keysWhere fun m x =>
    s.joins m x && x.crew == w.crew && x.seat == w.seat && x.shell == w.shell && x.row == w.row && x.unit == w.unit

/-- REFRESH of a shell is set (R325). -/
def State.markRefresh (s : State) (lane shell : Nat) : State :=
  if (s.shell shell).refresh then s
  else
    let s := (s.modShell shell fun h => { h with refresh := true }).addF R.DC_PATROL_MARKED 1 lane
    (s.record .shell shell).queueReloc 3 shell

/-- A codeword decoded (R324, R325): counts and marking; a soft read decodes in tier 3, any other in tier 1 or 2 (R322). -/
def State.decodedOk (s : State) (lane n tier_ bits : Nat) : State :=
  let w := s.cw n
  let tier := if w.step = 16 then 3 else min tier_ 2
  let s := if tier = 1 then s.addF R.DC_CNT_T1_COUNT 1 lane
    else if tier = 2 then s.addF R.DC_CNT_T2_COUNT 1 lane else s.addF R.DC_CNT_T3_COUNT 1 lane
  let total := s.f R.DC_BITS_LO_BITS_LO lane + 2 ^ 32 * s.f R.DC_BITS_HI_BITS_HI lane + bits
  let s := (s.setF R.DC_BITS_LO_BITS_LO total lane).setF R.DC_BITS_HI_BITS_HI (total / 2 ^ 32) lane
  let rs := s.f R.DC_CFG_REFRESH_STEP lane
  let rb := s.f R.DC_CFG_REFRESH_BITS lane
  if (rs ≠ 0 ∧ rs ≤ w.step) ∨ (tier = 3 ∧ s.on R.DC_CFG_REFRESH_SOFT lane) ∨ (rb ≠ 0 ∧ rb ≤ bits) then
    s.markRefresh lane w.shell
  else s

/-- A codeword is lost to a read that needed it: the read is decided again (R240); a source's failure is its read's (R241). -/
def State.cwLost (s : State) (n : Nat) : State :=
  let w := s.cw n
  match w.purpose with
  | .source p =>
    let s := (s.dropCw n).stat w.crew 5
    (s.modCw p fun x => { x with lost := w.seat :: x.lost }).cwDecide p
  | .patrol => s.dropCw n
  | _ => (s.modCw n fun x => { x with lost := w.seat :: x.lost, step := 0, cell := false }).cwDecide n

/-- A codeword failed every tier and step: the unit is unavailable to the reads that needed it (R322, R323). -/
def State.cwFailed (s : State) (lane n : Nat) : State :=
  let w := s.cw n
  let twins := s.joined n
  let s := (s.addF R.DC_CNT_FAIL_UNCORR 1 lane).raise R.DC_EVT_UNCORR w.seat w.shell (w.unit / 4) lane
  twins.foldl (fun s m => if (s.cw m).alive then s.cwLost m else s) (s.cwLost n)

/-- The host reads and Verifies whose units compare NS and LBA (R318): data positions only. -/
def State.comparesLba (w : Cw) : Bool := match w.purpose with
  | .cmd _ _ _ => true
  | _ => false

/-- A misdirected unit (R318): unavailable to its read at once. -/
def State.misdirected (s : State) (lane n : Nat) : State :=
  let w := s.cw n
  let s := (s.addF R.DC_CNT_FAIL_MISDIRECT 1 lane).raise R.DC_EVT_MISDIRECT w.seat w.shell (w.unit / 4) lane
  (s.modCw n fun x => { x with lost := w.seat :: x.lost, step := 0, cell := false }).cwDecide n

/-- A decoded codeword goes to a read that needed it (R318, R324). -/
def State.decodedTo (s : State) (lane : Nat) (mis : Bool) (n : Nat) : State :=
  let w := s.cw n
  if ¬ w.alive then s
  else if mis && State.comparesLba w && !isParity (s.fmt w.crew) w.seat then s.misdirected lane n
  else (if State.comparesLba w then s.stat w.crew 0 else s).deliver n

end Sys2Proof.Machine
end

