-- ==== Sys2Proof/Machine/Jobs.lean ====
section
/-! DEFINITION. Jobs.lean: row jobs as they are assigned, end and fail, the Ledger, failed seats, relocation, drains, the
Tally, and the timers of media management (08, 09). -/

namespace Sys2Proof.Machine

/-- Programs and erases run in this mode (Table 01-7, R231); work stopped for lack of a reference waits (R381). -/
def State.mediaRuns (s : State) : Bool :=
  (s.modeIn [.rebuild, .service, .readOnly, .sanitize, .trial] && !s.clk.stopped) ||
    (s.mode == .becalmed && !s.clk.becDone) || (s.mode == .holdupFlush && !s.pwr.flushEnded) ||
    (s.mode == .thermalRest && s.pwr.tripFlush && !s.pwr.flushEnded)

/-! ### Spares (R253) -/

/-- The lowest-numbered spare slot of a seat (R253). -/
def State.spareSlot (s : State) (crew seat : Nat) : Option Nat :=
  let b := (s.crew crew).shells
  ((List.range (8192 - b)).find? fun i => (s.ledgerAt crew seat (b + i)).bstate == 4).map (b + ·)

/-- The lowest slot above SHELLS that holds no block. -/
def State.emptySlot (s : State) (crew seat : Nat) : Option Nat :=
  let b := (s.crew crew).shells
  ((List.range (8192 - b)).find? fun i => (s.ledgerAt crew seat (b + i)).bstate == 0).map (b + ·)

def State.setLedger (s : State) (crew seat n : Nat) (e : Ledger) : State :=
  { s with per.ledger := s.per.ledger.set (ledgerKey crew seat n) e }

/-- The entries of a shell slot n and of slot m change places (R253): each block keeps its history; the block that leaves the
shell takes BSTATE `st`. -/
def State.exchange (s : State) (crew seat n m st : Nat) : State :=
  let a := s.ledgerAt crew seat n
  let b := s.ledgerAt crew seat m
  let er : Int := (s.shell (crew * 8192 + n)).erases
  let s := s.setLedger crew seat n { b with bstate := if b.bstate = 0 then 0 else 2, ec := b.ec - er }
  (s.setLedger crew seat m { a with bstate := st, ec := a.ec + er }).recordLedger [ledgerKey crew seat n, ledgerKey crew seat m]

/-! ### Lost and failed seats (R226 to R228, R251, R252) -/

/-- Seats whose units of a shell are lost. -/
def State.goneSeats (s : State) (x : Nat) : List Nat := (List.range 32).filter fun k => s.lostUnit x k

/-- The shell has lost more seats than its format tolerates (R204, R221). -/
def State.beyond (s : State) (x : Nat) : Bool :=
  let g := s.goneSeats x
  g.any fun k => (planPath (s.fmt (crewOf x)) g k).isNone

def State.modReloc (s : State) (id : Nat) (f : Reloc → Reloc) : State := { s with media.relocs := s.media.relocs.mod id f }
abbrev State.reloc (s : State) (id : Nat) : Reloc := s.media.relocs.get id

/-- A shell that copies were written to takes no more of them: with no live data it is released, else it is Full, and of a handle. -/
def State.destClose (s : State) (x owner : Nat) : State :=
  let s := { s with media.hshell := s.media.hshell.mapAll fun _ v => if v = x + 1 then 0 else v }
  if (s.shell x).st ≠ 2 ∧ (s.shell x).st ≠ 3 then s
  else if s.svalid x = 0 then s.releaseShell x
  else
    let h := s.shell x
    let s := (s.modShell x fun h => { h with st := 3, kind := if h.kind = 7 then 2 else h.kind,
                                              owner := if h.kind = 7 then owner else h.owner, short := h.lost != 0 }).record .shell x
    let s := if h.lost = 0 ∨ h.short then s else s.raise R.SH_EVT_SHELL_SHORT (crewOf x) noP x
    if h.lost = 0 then s else s.queueReloc 2 x

/-- A relocation job is abandoned (Table 09-7): its destination is released, or kept where rows were committed to it, the source keeps
its data, and the job is queued again at its order while the source still holds data to move. A zone that is Read Only is moved no more
(R267). -/
def State.abandon (s : State) (id : Nat) : State :=
  let r := s.reloc id
  if ¬ r.alive then s
  else
    let dests := if r.dst ≠ 0 then [r.dst - 1]
      else ((s.media.jobs.filter fun j => j.reloc == id && j.kind == .reloc && j.shell != 0).map fun j => j.shell - 1).dedup
    let s := s.dropJobs fun j => j.reloc == id
    let h := s.shell r.src
    let s := s.modShell r.src fun h => { h with reloc := false }
    let s := dests.foldl (fun (s : State) x => s.destClose x r.owner) s
    let again := (h.st = 2 ∨ h.st = 3) ∧ ¬ (h.kind = 1 ∧ (s.zone h.owner).zs = .readOnly)
    let s := { s with media.relocs := s.media.relocs.set id (if again then { alive := true, order := r.order, src := r.src } else {}) }
    s.raise R.MD_EVT_RELOC_ABANDON (crewOf r.src) r.src id

/-- The relocation jobs that a shell is a destination of: whole-shell jobs, and others that are programming a row there. -/
def State.destJobs (s : State) (x : Nat) : List Nat :=
  s.media.relocs.keysWhere fun id r => r.alive && (r.dst == x + 1 ||
    (r.dst == 0 && s.media.jobs.any fun j => j.reloc == id && j.kind == .reloc && j.shell == x + 1))

/-- Open to Full without row 383: a Logbook, Millpond or Tally shell closed early (R252), which the Logbook records (R248). -/
def State.closeEarly (s : State) (x : Nat) : State :=
  if (s.shell x).st = 2 then (((s.modShell x fun h => { h with st := 3 }).record .shell x).logStall).spareCheck else s

/-- Seat k of a shell is lost for the shell (R228): it is short, its other rows are written without the seat, and what follows depends on
the owner (R251, R252). A relocation destination becomes short at its commit; at its second lost seat its job is abandoned (R268). -/
def State.seatLost (s : State) (x k : Nat) : State :=
  let h := s.shell x
  let s := s.modShell x fun h => { h with lost := setBit h.lost k true, short := h.short || h.kind != 7 }
  let s := { s with media.jobs := s.media.jobs.map fun (j : Job) => if j.shell = x + 1 then { j with todo := setBit j.todo k false } else j }
  let s := s.record .shell x
  let s := if h.short ∨ h.kind = 7 then s else s.raise R.SH_EVT_SHELL_SHORT (crewOf x) k x
  let two := 2 ≤ (s.goneSeats x).length
  let s := if two then (s.destJobs x).foldl State.abandon s else s
  match h.kind with
  | 1 =>
    let s := s.queueReloc 2 x
    if s.beyond x then s.zoneReadOnly (s.shell x).owner else s
  | 2 => s.queueReloc 2 x
  | 7 => s
  | _ => if two then s.closeEarly x else s

/-- A program failed at seat k of a shell (R251): the block is GROWN_BAD and the seat is lost for the shell. -/
def State.programFail (s : State) (x k : Nat) : State :=
  let c := crewOf x
  let n := x % 8192
  let e := s.ledgerAt c k n
  let s := s.setLedger c k n { e with grown := true, bstate := 2 }
  let s := (s.recordLedger [ledgerKey c k n]).raise R.MD_EVT_BLOCK_BAD c k x
  (s.seatLost x k).spareCheck

/-! ### Assignment of shells to row jobs -/

/-- A row job gets its shell and row. -/
def State.giveShell (s : State) (id x row : Nat) : State :=
  s.modJob id fun j => { j with shell := x + 1, row := row, todo := s.rowSeats x, done := 0, running := 0 }

/-- The next row of the Logbook, as `tailOut` takes it (R272). -/
def State.logOpen (s : State) : Option (Nat × State) :=
  s.logShell.map fun x =>
    (x, if (s.shell x).st = 1 then ({ s.openShell x 4 0 true with per.logPos := x + 1 }).record .shell x else s)

/-- The Tally shell that takes the next row (R275): on a Retired crew none (Table 08-3). -/
def State.tallyOpen (s : State) : Option (Nat × State) :=
  match s.per.tallyShells.find? fun x => (s.shell x).st == 2 && decide (s.nextRow x < 384) with
  | some x => some (x, s)
  | none =>
    let l := s.per.tallyShells.filter fun x => (s.shell x).st == 1 && (s.crew (crewOf x)).st != 4
    (match l.find? s.mayOpen with
      | some x => some x
      | none => l.head?).map fun x => (x, (s.openShell x 5 0 true).record .shell x)

/-- A conventional namespace may take another of its reserved shells: one of them is Erased (R264). -/
def State.nsMayTake (s : State) (n : Nat) : Bool := decide (0 < s.resvErased n)

/-- The shell of a handle's stream: its open shell, or a new one by R208; `key`: where the open shell is kept. -/
def State.handleShell (s : State) (st key : Nat) (gc : Bool) (notCrew : Nat → Bool) : Option (Nat × State) :=
  let n := s.streamNs st
  let cur := s.media.hshell.get key
  if cur ≠ 0 ∧ (s.shell (cur - 1)).st = 2 ∧ s.nextRow (cur - 1) < 384 ∧ ¬ notCrew (crewOf (cur - 1)) then some (cur - 1, s)
  else if ¬ gc ∧ ¬ s.nsMayTake n then none
  else
    (s.takeShell (s.streamPool st) 0 2 (n - 1 + (st - 2 ^ 20) % 64 * 4096) false notCrew).map fun (x, t) =>
      (x, { t with media.hshell := t.media.hshell.set key (x + 1) })

/-- A job without a shell gets one where one can be had (R208, R258). -/
def State.assignOne (s : State) (id : Nat) : State :=
  match s.job? id with
  | none => s
  | some j =>
    if j.shell ≠ 0 then s
    else
      let give := fun (r : Option (Nat × State)) => match r with
        | some (x, t) => t.giveShell id x (t.nextRow x)
        | none => s
      match j.kind with
      | .log => give s.logOpen
      | .spill | .millCopy => give s.millFor
      | .tally => give s.tallyOpen
      | .anchor => s
      | .reloc => give (s.handleShell j.stream (j.stream + 2 ^ 30) true fun c => c == crewOf j.src)
      | .direct | .fold =>
        if isZoneStream j.stream then
          let z := s.zone j.stream
          if z.shellValid then s.giveShell id z.shell j.srow
          else
            match s.takeShell (s.streamPool j.stream) z.life 1 j.stream false with
            | some (x, t) => (t.modZone j.stream fun z => { z with shell := x, shellValid := true }).giveShell id x j.srow
            | none => s
        else give (s.handleShell j.stream j.stream false fun _ => false)

/-- Every job without a shell, oldest first. -/
def State.assignShells (s : State) : State :=
  ((s.media.jobs.filter fun j => j.shell == 0).map fun j => j.id).foldl State.assignOne s

/-- A row of a zone gives its blocks back to staging, and they spill (R267). -/
def State.unrow (s : State) (id st row : Nat) : State := (s.ungroup id).spillRow st row 8

/-- Rows of a shell that takes no further row find another (R252); rows of a zone spill until the zone has moved. -/
def State.reshell (s : State) (x : Nat) (begun : Bool) : State :=
  (s.media.jobs.filter fun j => j.shell == x + 1 && (begun || (j.running == 0 && j.done == 0))).foldl (fun s j =>
    if (j.kind = .direct ∨ j.kind = .fold) ∧ isZoneStream j.stream then s.unrow j.id j.stream j.srow
    else s.modJob j.id fun j => { j with shell := 0, todo := 2 ^ 32 - 1, running := 0, done := 0 }) s

/-! ### The end of a row -/

/-- HU_EXPOSED clears when every block acknowledged while armed is on flash with its record (R393). -/
def State.exposedCheck (s : State) : State :=
  if s.on R.PW_STS_HU_EXPOSED ∧ ¬ s.media.stage.any (fun (b : StBlk) => b.vis) ∧ s.pwr.huSeq ≤ s.media.seqFlash then
    s.setF R.PW_STS_HU_EXPOSED 0
  else s

/-- The copies of a Millpond copy row are committed (R261): the spilled parts stand in their new place. -/
def State.millCopyDone (s : State) (j : Job) : State :=
  let x := j.shell - 1
  let r := j.parts.foldl (fun (acc : Nat × List Spill) p =>
    let moved := acc.2.flatMap fun q =>
      if q.stream = p.stream ∧ q.row = p.row ∧ q.unit = p.unit ∧ q.shell = p.shell ∧ q.mrow = p.mrow ∧ q.munit = p.munit then
        { p with shell := x, mrow := j.row, munit := acc.1 } ::
          (if p.count < q.count then
            [{ q with unit := q.unit + p.count, munit := q.munit + p.count, count := q.count - p.count }] else [])
      else [q]
    (acc.1 + p.count, moved)) (0, s.per.spills)
  { s with per.spills := r.2 }.record .commit j.reloc

/-- The block of a per-row copy at unit i was read. -/
def copied (j : Job) (u i : Nat) : Bool := j.blks.any fun (k, _) => k == i / u * u

/-- The row of a per-row job is committed (R214, R263, R269): the map entries that have not changed take the copy. The COMMIT record that
commits the last live unit releases the source; pairs beyond 1,022 go in MAP records before it. -/
def State.commitRow (s : State) (j : Job) : State :=
  let x := j.shell - 1
  let base := j.row * rowUnits (s.fmt (crewOf x)) false
  let u := s.nsUnits (s.streamNs j.stream)
  let r := j.orig.foldl (fun (acc : Nat × List Nat × State) (k, e) =>
    let (i, ks, s) := acc
    let cur := s.per.map.get k
    if copied j u i ∧ cur.shell = e.shell ∧ cur.unit = e.unit ∧ cur.epoch = e.epoch ∧ cur.mapped = e.mapped then
      (i + 1, ks ++ [k], { s with per.map := s.per.map.set k { cur with shell := x, unit := base + i, slc := false } })
    else (i + 1, ks, s)) (0, [], s)
  let s := r.2.2.modReloc j.reloc fun r => { r with rows := r.rows + 1 }
  let h := s.shell j.src
  let last := s.svalid j.src = 0 ∧ ((h.kind = 2 ∧ h.st = 3) ∨ (h.kind = 3 ∧ ¬ s.media.jobs.any fun i => i.shell == j.src + 1))
  let s := s.recordMap j.stream (r.2.1.drop 1022)
  let s := if last then s.giveUp j.src else s
  let s := s.recordB .commit j.reloc (s.recBody .commit j.reloc ++ (r.2.1.take 1022).flatMap s.mapPair)
  let s := if last then s.releasedBy j.src else s
  let rl := s.reloc j.reloc
  let s : State := { s with gov.foldUnits := s.gov.foldUnits + (if rl.order = 5 ∨ rl.order = 6 then j.units else 0) }
  -- the shell has left its handle (R210)
  if h.kind = 2 ∧ last then s.fdpEvent 0x80 (s.streamNs j.stream) ((j.stream - 2 ^ 20) % 64) else s

/-- The map keys of the live units of a shell. -/
def State.liveKeys (s : State) (x : Nat) : List Nat := s.per.map.keysWhere fun _ e => e.mapped && e.shell == x

/-- The deadline of a read of no slice (R237). -/
def State.mmDeadline (s : State) : Nat := s.clk.tb + s.f R.SH_CFG_MM_BUDGET_US * 1500

/-- The row job of a whole-shell job's next row (R266): every unit of the row that holds a block is read. -/
def State.relocRow (s : State) (id : Nat) : State :=
  let r := s.reloc id
  let row := r.made
  let blks := (s.media.flash.get (flashKey r.src row)).blks
  let us := blks.flatMap fun (u, b) => (List.range b.units).map (u + ·)
  let jid := s.media.nextJob
  let s := s.addJob { kind := .reloc, shell := r.dst, row := row, stream := (s.shell r.src).owner, srow := row, src := r.src,
                      reloc := id, units := us.length, need := us.length }
  let s := s.modReloc id fun r => { r with made := r.made + 1 }
  us.foldl (fun s u => s.readUnit (.job jid u) r.src row false u s.mmDeadline) s

/-- The first parts of a list that fit in n units, the last one cut. -/
def takeParts (n : Nat) : List Spill → List Spill
  | [] => []
  | p :: r => if n = 0 then [] else if p.count ≤ n then p :: takeParts (n - p.count) r else [{ p with count := n }]

/-- Foreground drain runs: the Millpond loop's fold rate, in MB/s, is not 0 in Auto or Manual (R171, R172, R260). -/
def State.fgDrain (s : State) : Bool :=
  let m := (s.gov.loops.get 4097).mode
  decide (0 < s.gov.drain) && (m == 1 || m == 2)

/-- The oldest Millpond shell with p, by its sequence number. -/
def State.oldestMill (s : State) (p : Nat → Bool) : Option Nat :=
  (s.per.shells.keysWhere fun x h => h.kind == 3 && (h.st == 2 || h.st == 3) && p x).foldl (fun b x =>
    match b with
    | some y => if (s.shell x).owner < (s.shell y).owner then some x else b
    | none => some x) none

/-- The oldest Millpond shell with live data holds only pinned parts, and those total less than 1/8 of its SLC data (R261). -/
def State.fewPinned (s : State) : Option Nat :=
  match s.oldestMill fun x => decide (0 < s.svalid x) with
  | some x =>
    if (s.shell x).st = 3 ∧ (s.per.map.all fun (_, e) => !(e.mapped && e.shell == x)) ∧
        8 * s.svalid x < slcMib (s.fmt (crewOf x)) * 256 then some x else none
  | none => none

/-- The spilled parts of zones that a Millpond shell holds are copied to the open Millpond shell: in an evacuation, or under
R261 while foreground drain runs. -/
def State.pinnedCopy (s : State) (id : Nat) : State :=
  let r := s.reloc id
  let parts := s.per.spills.filter fun p => p.shell == r.src && isZoneStream p.stream
  if parts.isEmpty ∨ ¬ (r.order ≤ 3 ∨ (s.fgDrain ∧ s.fewPinned = some r.src)) then s
  else
    let batch := takeParts 416 parts
    let n := batch.foldl (fun a p => a + p.count) 0
    let jid := s.media.nextJob
    let s := s.addJob { kind := .millCopy, slc := true, src := r.src, reloc := id, units := n, need := n, parts := batch }
    (batch.foldl (fun (acc : Nat × State) p =>
      (acc.1 + p.count, (List.range p.count).foldl (fun s k =>
        s.readUnit (.job jid (acc.1 + k)) r.src p.mrow true (p.munit + k) s.mmDeadline) acc.2)) (0, s)).2

/-- The next batch of a job that commits per row (R263, R266): live units of one handle, at most a row of its pool's format; to the job's own
destination, or the handle's. -/
def State.relocBatch (s : State) (id : Nat) : State :=
  let r := s.reloc id
  let h := s.shell r.src
  let ru := rowUnits (s.fmt (crewOf r.src)) h.slc
  let keys := s.liveKeys r.src
  let handleOf := fun k =>
    let e := s.per.map.get k
    match s.rowBlk r.src (e.unit / ru) (e.unit % ru) with
    | some (_, b) => b.handle
    | none => 0
  match keys with
  | [] => s.pinnedCopy id
  | k0 :: _ =>
    let st := handleStream (k0 / 2 ^ 33) (handleOf k0)
    let batch := (keys.filter fun k => k / 2 ^ 33 == k0 / 2 ^ 33 && handleOf k == handleOf k0).take (s.streamRow st)
    let jid := s.media.nextJob
    let s := s.addJob { kind := .reloc, stream := st, src := r.src, reloc := id, units := batch.length, need := batch.length,
                        shell := r.dst, row := if r.dst = 0 then 0 else s.nextRow (r.dst - 1),
                        orig := batch.map fun k => (k, s.per.map.get k) }
    (batch.foldl (fun (acc : Nat × State) k =>
      let e := acc.2.per.map.get k
      (acc.1 + 1, acc.2.readUnit (.job jid acc.1) r.src (e.unit / ru) h.slc (e.unit % ru) acc.2.mmDeadline)) (0, s)).2

/-- A relocation job is over. A destination of its own that copies of a handle were committed to goes on as the handle's destination of
reclamation where it has none, else it takes no further row (DESIGN CHOICE, notes/assumptions/73). -/
def State.relocOver (s : State) (id : Nat) : State :=
  let r := s.reloc id
  let s := s.modShell r.src fun h => { h with reloc := false }
  let s := { s with media.relocs := s.media.relocs.set id {} }
  let x := r.dst - 1
  let key := handleStream (r.owner % 4096 + 1) (r.owner / 4096) + 2 ^ 30
  if r.dst = 0 ∨ (s.shell x).kind ≠ 7 then s
  else if (s.shell x).st = 2 ∧ 0 < s.svalid x ∧ (s.shell x).lost = 0 ∧ s.media.hshell.get key = 0 then
    { (s.modShell x fun h => { h with kind := 2, owner := r.owner }).record .shell x with media.hshell := s.media.hshell.set key (x + 1) }
  else s.destClose x r.owner

/-- The commit of a zone's shell (R266, R269): SHELL of the zone changes and the source is released by the COMMIT record. -/
def State.zoneCommit (s : State) (id : Nat) : State :=
  let r := s.reloc id
  let z := (s.shell r.src).owner
  let x := r.dst - 1
  let full := decide (r.made = 384) || (s.zone z).zs == .full || (s.zone z).zs == .readOnly
  let s := s.modZone z fun w => { w with shell := x }
  -- a destination that lost a seat becomes short here (Table 09-7)
  let short := decide ((s.shell x).lost ≠ 0)
  let s := s.modShell x fun h => { h with kind := 1, owner := z, rows := r.made, st := if full then 3 else 2, short := short }
  let s := (((s.giveUp r.src).record .commit id).releasedBy r.src).record .shell x
  let s := (s.relocOver id).record .zone z
  let s := if short then (s.raise R.SH_EVT_SHELL_SHORT (crewOf x) noP x).queueReloc 2 x else s
  -- rows that became complete meanwhile are folded to the destination (R267)
  (s.per.spills.filter fun p => p.stream == z).foldl (fun s p => s.rowCheck z p.row) s

/-- A job goes on after a row, or ends; its next row waits for room in media staging (R272). Background drain starts no new row once the
device is not idle (R260). -/
def State.relocNext (s : State) (id : Nat) : State :=
  let r := s.reloc id
  let h := s.shell r.src
  if ¬ r.alive ∨ ¬ r.started ∨ ¬ s.cpUp then s
  else if h.st = 4 then s.relocOver id
  else if s.media.jobs.any fun j => j.reloc == id then s
  else if h.kind = 1 then (if h.rows ≤ r.made then s.zoneCommit id else if s.mediaRoom then s.relocRow id else s)
  else
    let s := (s.millRelease r.src).convRelease r.src
    if (s.shell r.src).st = 4 then s.relocOver id
    else if r.order = 6 ∧ ¬ s.on R.MD_MP_STS_IDLE then s.relocOver id
    else if r.order = 5 ∧ ¬ s.fgDrain then s.relocOver id
    else if ¬ s.mediaRoom then s
    else
      let t := s.relocBatch id
      if t.media.jobs.any fun j => j.reloc == id then t else t.relocOver id

/-- A row of a relocation is on flash. -/
def State.relocRowDone (s : State) (j : Job) : State :=
  if (s.shell j.src).kind = 1 then (s.modReloc j.reloc fun r => { r with rows := r.rows + 1 }).relocNext j.reloc
  else
    let before := (s.liveKeys j.src).length
    let s := s.commitRow j
    -- nothing could be moved: the job is over
    if (s.liveKeys j.src).length = before then s.relocOver j.reloc else s.relocNext j.reloc

/-- Every program of a row has ended (step 9 of Table 01-3). -/
def State.rowDone (s : State) (j : Job) : State :=
  let shown := s.media.stage.any fun (b : StBlk) => b.job == j.id && b.vis
  let s := { s with media.jobs := s.media.jobs.filter fun k => k.id != j.id }
  let s := s.shellRow (j.shell - 1) j.row
  let s := match j.kind with
    | .log => s.logRowDone j
    | .tally => s.tallyRowDone j
    | .anchor => s
    | .spill => s.spillDone j
    | .direct | .fold => if isZoneStream j.stream then s.zoneRowDone j else s.handleRowDone j
    | .millCopy => (s.millCopyDone j).relocNext j.reloc
    | .reloc => s.relocRowDone j
  let s := if shown then { s with pwr.huSeq := s.lastSeq } else s
  -- a Millpond shell may have become Full (R258)
  let s := if j.kind = .spill ∨ j.kind = .millCopy then s.millFill 4 else s
  -- under rule 0 a completion that waits on the record has the tail programmed (R272)
  let s := if ¬ s.rule1 ∧ s.cmds.any (fun (_, c) => c.alive && c.phase == .durable && decide (s.media.seqFlash < c.needSeq))
    then s.tailOut else s
  s.reserveSync.postReady.exposedCheck

/-- A row whose seats have all ended is done. -/
def State.finishRow (s : State) (id : Nat) : State :=
  match s.job? id with
  | some j => if j.shell ≠ 0 ∧ j.need = 0 ∧ j.todo = 0 ∧ j.running = 0 then s.rowDone j else s
  | none => s

def State.finishRows (s : State) : State := (s.media.jobs.map fun j => j.id).foldl State.finishRow s

/-- Relocation jobs whose next row waited for room in media staging go on (R272). -/
def State.relocRetry (s : State) : State :=
  (s.media.relocs.keysWhere fun id r => r.alive && r.started && !s.media.jobs.any fun j => j.reloc == id).foldl State.relocNext s

/-- A codeword read of a job, or its loss, may have been the last that the row needs; reads whose row changed are decided again, and rows
that waited for media staging go on. -/
def State.afterRows (s : State) : State :=
  let s := (List.range 64).foldl State.redecide s.finishRows.foldRetry.relocRetry
  -- a zone that moved to Read Only during its relocation: the job is abandoned (R267)
  (s.media.relocs.keysWhere fun _ r => r.alive && r.started && (s.shell r.src).kind == 1 &&
    (s.zone (s.shell r.src).owner).zs == .readOnly).foldl State.abandon s

/-! ### Failed seats (R226, R227) -/

/-- Shells of a crew with live data. -/
def State.liveShells (s : State) (c : Nat) : List Nat :=
  s.per.shells.keysWhere fun x h =>
    crewOf x == c && (h.st == 2 || h.st == 3) && (h.kind == 1 || decide (1 ≤ h.kind ∧ h.kind ≤ 3 ∧ 0 < s.svalid x))

/-- Every shell of a crew that holds live data is queued for evacuation (Table 09-6, order 1). -/
def State.evacuate (s : State) (c : Nat) : State :=
  (s.liveShells c).foldl (fun s x => s.queueReloc 1 x) s

/-- A seat fails (R226): the map, the crew's state, its queues, evacuation, and every decision that it changes. -/
def State.seatFail (s : State) (c k : Nat) : State :=
  if s.failedSeat c k then s
  else
    let st := (s.crew c).st
    let s := s.modCrew c fun x => { x with failed := setBit x.failed k true, st := if st = 2 then 3 else if st = 3 then 4 else st }
    let s := (s.record .crew c).raise R.SH_EVT_SEAT_FAILED c k
    let s := if st = 2 then s.raise R.SH_EVT_CREW_DEGRADED c k else if st = 3 then s.raise R.SH_EVT_CREW_RETIRED c k else s
    let s := s.modDie c k fun d => { d with failed := true, run := none, easy := false, entry := 0, runNext := 0, runPages := 0 }
    -- its program queue is discarded; the rows go on without it, and the shells record it as lost (R227)
    let s := { s with media.jobs := s.media.jobs.map fun (j : Job) =>
      if j.shell ≠ 0 ∧ crewOf (j.shell - 1) = c then { j with todo := setBit j.todo k false, running := setBit j.running k false }
      else j }
    let open_ := s.per.shells.keysWhere fun x h => crewOf x == c && h.st == 2
    let s := open_.foldl (fun (s : State) x =>
      let h := s.shell x
      let s := (s.modShell x fun h => { h with lost := setBit h.lost k true, short := h.short || h.kind != 7 }).record .shell x
      if h.short ∨ h.kind = 7 then s else s.raise R.SH_EVT_SHELL_SHORT c k x) s
    -- destinations on the crew are abandoned (Table 09-7)
    let s := (open_.flatMap s.destJobs).dedup.foldl State.abandon s
    -- shells written on with the seat lost reach Full at their second (R252)
    let s : State := open_.foldl (fun (s : State) x =>
      if 3 ≤ (s.shell x).kind ∧ (s.shell x).kind ≤ 5 ∧ 2 ≤ (s.goneSeats x).length then (s.closeEarly x).reshell x false else s) s
    let s := if (s.crew c).st = 4 then open_.foldl (fun (s : State) x => s.reshell x true) s else s
    let s := (s.per.shells.keysWhere fun x h => crewOf x == c && h.kind == 1).foldl (fun s x =>
      if s.beyond x then s.zoneReadOnly (s.shell x).owner else s) s
    let s := s.evacuate c
    s.finishRows.redecide c |>.spareCheck

/-! ### The end of a program or erase on a seat (R290, R295) -/

/-- A program ended at a seat: its unit is on flash, or it failed. -/
def State.programEnd (s : State) (c k id : Nat) (ok : Bool) : State :=
  match s.job? id with
  | none => s
  | some j =>
    if j.shell = 0 ∨ crewOf (j.shell - 1) ≠ c ∨ ¬ bit j.running k then s
    else
      let x := j.shell - 1
      let s := s.modJob id fun j => { j with running := setBit j.running k false, done := setBit j.done k ok }
      let s := if ok then
          { s with media.flash := s.media.flash.mod (flashKey x j.row) fun r =>
              { r with done := setBit r.done k true, blks := j.blks, owner := (s.shell x).owner,
                       seq := j.pseq, slc := j.slc, codes := j.codes, recs := j.recs, anchor := j.anchor, parity := j.parity,
                       epochs := j.epochs } }
        else s.programFail x k
      let s := if ¬ ok ∧ (s.shell x).st = 3 then s.reshell x false else s
      s.finishRow id

/-- Formats with SES 1 complete once their last shell is erased (R186). -/
def State.formatErased (s : State) (x : Nat) : State :=
  let w := s.media.fmtWait.map fun (c, l) => (c, l.filter (· ≠ x))
  let ended := w.filter fun (_, l) => l.isEmpty
  let s := { s with media.fmtWait := w.filter fun (_, l) => !l.isEmpty }
  ended.foldl (fun s (c, _) => s.completeRecorded c) s

/-- Rows of a shell leave flash. -/
def State.wipeRows (s : State) (x : Nat) : State :=
  { s with media.flash := s.media.flash.filter fun (k, _) => k / 1024 != x }

/-- A shell whose seats that have not failed are all erased is Erased (Table 09-4); ERASE_COUNT rises (R250). A Millpond shell
stays in the Millpond while MP_TARGET needs it (R259). -/
def State.shellErased (s : State) (x : Nat) : State :=
  let c := crewOf x
  let h := s.shell x
  if (List.range 32).all fun k => s.failedSeat c k || bit h.erased k then
    let mill := s.per.shells.foldl (fun a (y, g) => if g.kind = 3 then a + slcMib (s.fmt (crewOf y)) else a) 0
    let keep := decide (4 ≤ h.kind ∧ h.kind ≤ 6) || (h.kind == 3 && decide (mill ≤ s.mpTarget))
    -- a failed seat's block is not erased
    let s := (List.range 32).foldl (fun s k =>
      if s.failedSeat c k then
        { s with per.ledger := s.per.ledger.mod (ledgerKey c k (x % 8192)) fun e => { e with ec := e.ec - 1 } }
      else s) s
    let s := s.modShell x fun h => { erases := h.erases + 1, kind := if keep then h.kind else 0 }
    let s := (((s.wipeRows x).record .shell x).recordBlocks x).logStall
    (s.formatErased x).millFill 4
  else s

/-- A shell is Retired for lack of a spare at seat k (R253): its other good blocks become spares where a slot is unused, and those already
erased count that erase (R250). -/
def State.retireShell (s : State) (x k : Nat) : State :=
  let c := crewOf x
  let n := x % 8192
  let e := s.ledgerAt c k n
  let s := s.setLedger c k n { e with bstate := 5, grown := true }
  let s := (List.range 32).foldl (fun s y =>
    if y = k ∨ s.failedSeat c y then s
    else
      let e := s.ledgerAt c y n
      let s := if bit (s.shell x).erased y then s.setLedger c y n { e with bstate := 2, ec := e.ec + 1 } else s
      if e.grown then s.setLedger c y n { e with bstate := 5 }
      else
        match s.emptySlot c y with
        | some m => s.exchange c y n m 4
        | none => s) s
  let s := ((s.modShell x fun h => { h with st := 5, kind := 0, owner := 0 }).record .shell x).recordBlocks x
  let s := s.wipeRows x
  ((s.raise R.MD_EVT_SHELL_RETIRED c k x).formatErased x).spareCheck

/-- A GROWN_BAD block, or one whose erase failed, is exchanged for the lowest spare of its seat (R253). -/
def State.swapSpare (s : State) (x k : Nat) : State :=
  match s.spareSlot (crewOf x) k with
  | some m => (s.exchange (crewOf x) k (x % 8192) m 5).spareCheck
  | none => s.retireShell x k

/-- An erase ended at a seat (R250, R253). -/
def State.eraseEnd (s : State) (c k x : Nat) (ok : Bool) : State :=
  if (s.shell x).st ≠ 4 ∨ crewOf x ≠ c then s
  else if ok then (s.modShell x fun h => { h with erased := setBit h.erased k true }).shellErased x
  else
    let n := x % 8192
    let e := s.ledgerAt c k n
    let s := (s.setLedger c k n { e with grown := true, bstate := 2 }).raise R.MD_EVT_BLOCK_BAD c k x
    s.swapSpare x k

/-! ### Sanitize (Table 15-14) -/

/-- An I/O command fails while it runs: its slots leave by Table 04-4, and the completion follows the last of them (R112). -/
def State.failIoCmd (s : State) (st c : Nat) : State :=
  let cm := s.cmd c
  if cm.phase ≠ .running then s.complete c st
  else if cm.sqe.opc = 0x02 then
    if (s.hop.rq.get cm.slice).contains c then s.complete c st else (s.modCmd c fun x => { x with status := st }).readEnd c
  else if cm.sqe.opc = 0x0C then
    let k := (cm.nlb * s.nsUnits cm.ns - cm.unitsLeft) / s.nsUnits cm.ns
    (s.modCmd c fun x =>
      { x with status := st, unitsLeft := 0, src := x.src.mapIdx fun i r => if k ≤ i then .done else r }).readEnd c
  else if isWriteOpc cm.sqe.opc then
    if (s.slotsOf c fun _ => true).isEmpty then s.complete c st
    else (s.modCmd c fun x => { x with status := st, want := false }).dropWaits c
  else s.complete c st

/-- Every I/O command that has not completed fails with Sanitize In Progress (Table 03-7). -/
def State.failIo (s : State) (st : Nat) : State :=
  (s.cmds.keysWhere fun _ c => c.alive && decide (c.queue < adminBase)).foldl (fun s c => s.failIoCmd st c) s

/-- Steps 2 and 3: staging and spilled parts discarded, every namespace key replaced, injected keys zeroised, every zone Empty
and every map region cleared; every shell that held them is released. -/
def State.sanitizeClear (s : State) : State :=
  let s := s.failIo 0x1D
  let s := s.dropJobs fun j => j.kind != .log && j.kind != .tally && j.kind != .anchor
  let s := { s with
    media.stage := [], media.relocs := [], media.fill := [], media.hshell := [], media.lostBlk := [],
    per.spills := [], per.map := s.per.map.mapAll fun _ e => { epoch := e.epoch }, hop.slots := s.hop.slots.filter fun (n, _) => n < 16384 }
  let s := (s.per.ns.keysWhere fun _ n => n.alive).foldl (fun s n =>
    let (r, s) := s.drawRandom
    { s with per.ns := s.per.ns.mod n fun x => { x with key := r },
             keys := s.keys.mapAll fun _ k => if k.valid ∧ ¬ k.inj ∧ k.ns = n then { k with key := r } else k }) s
  let s := { s with keys := s.keys.mapAll fun _ k => if k.inj then {} else k }
  let s := { s with per.zones := s.per.zones.mapAll fun _ (z : Zone) =>
    if z.zs = ZState.none then z
    else { zs := .empty, ns := z.ns, zoneNo := z.zoneNo } }
  (s.per.shells.keysWhere fun _ h => (h.st == 2 || h.st == 3) && (h.kind ≤ 3 || h.kind == 7)).foldl State.releaseShell s

/-- Shells that step 4 still has to erase: on a Retired crew none is (R227). -/
def State.sanLeft (s : State) (retired : Bool) : List Nat :=
  s.per.shells.keysWhere fun x h => h.st == 4 && !(4 ≤ h.kind && h.kind ≤ 6) && decide (0 < h.rows) &&
    ((s.crew (crewOf x)).st == 4) == retired

/-- Step 5: the MODE record, the spare check, and the exit by Table 01-8; a Block Erase that left data on a Retired crew has
failed (R434). -/
def State.sanitizeEnd (s : State) : State :=
  let fail := s.per.sanAct = 2 ∧ ¬ (s.sanLeft true).isEmpty
  let s := { s with per.san := if fail then 3 else 1, media.sanStep := 0 }
  let s := s.record .mode s.per.san
  let s := s.raise R.BT_EVT_SANITIZE_DONE
  let s := if fail then s.raise R.BT_EVT_SANITIZE_FAIL else s
  let s := (s.setF R.MD_RO_STS_POOL_SHORT s.poolShort).setF R.MD_RO_STS_LOG_SHORT (b2n s.logShort)
  if s.spareOk then s.move 0x0F .service
  else ({ s with per.roEntry := true }.raise R.MD_EVT_READ_ONLY).move 0x08 .readOnly

/-- Step 4 follows the full Tally cycle of step 3; Crypto Erase leaves it out. -/
def State.sanitizeErase (s : State) : State :=
  if s.per.sanAct = 4 then s.sanitizeEnd
  else { s.tailOut with media.sanTotal := (s.sanLeft false).length, media.sanDone := 0, media.sanStep := 4 }

/-- Step 3 ends with the last segment of its Tally cycle; then SPROG follows, and the sanitize ends with its last erase. -/
def State.sanitizeCheck (s : State) : State :=
  let s :=
    if s.mode = .sanitize ∧ s.media.sanStep = 3 ∧ s.media.tseg = 0 ∧ ¬ s.media.jobs.any (fun j => j.kind == .tally) ∧ ¬ s.clk.stopped then
      s.sanitizeErase
    else s
  if s.mode = .sanitize ∧ s.media.sanStep = 4 ∧ ¬ s.clk.stopped then
    let left := (s.sanLeft false).length
    let s := { s with media.sanDone := s.media.sanTotal - left }
    if left = 0 then s.sanitizeEnd else s
  else s

/-- Steps 2 and 3 of a sanitize in mode Sanitize. The Tally cycle of step 3 is written by TALLY_SEGMENT_START (`sanStep` 2, and 3 from its
first segment on); where no Tally shell exists there is none to write. -/
def State.sanitizeRun (s : State) : State :=
  let s := s.sanitizeClear
  if s.per.tallyShells.isEmpty then s.sanitizeErase.sanitizeCheck
  else { s with media.tseg := 0, media.sanStep := 2 }

/-! ### Starting relocation jobs (R265, R266) -/

def State.relocActive (s : State) : Nat := s.media.relocs.count fun _ r => r.alive && r.started

/-- Rank within order 1: Retired crews, then short shells, then the rest. -/
def State.relocRank (s : State) (r : Reloc) : Nat :=
  if r.order ≠ 1 then 0
  else if (s.crew (crewOf r.src)).st = 4 then 0 else if (s.shell r.src).short then 1 else 2

/-- Insertion by order, rank and age. -/
def State.relocInsert (s : State) (a : Nat) : List Nat → List Nat
  | [] => [a]
  | b :: r =>
    let x := s.reloc a
    let y := s.reloc b
    if x.order < y.order ∨ (x.order = y.order ∧ (s.relocRank x < s.relocRank y ∨ (s.relocRank x = s.relocRank y ∧ a ≤ b))) then
      a :: b :: r
    else b :: s.relocInsert a r

/-- The Erased shell of a pool with the highest erase count, not on the source's crew (Table 09-6, Wear). -/
def State.wornShell (s : State) (p c : Nat) : Option Nat :=
  (s.per.shells.keysWhere fun x h => h.st == 1 && h.kind == 0 && (s.crew (crewOf x)).inPool && (s.crew (crewOf x)).pool == p &&
    (s.crew (crewOf x)).st == 2 && crewOf x != c).foldl (fun b x =>
      match b with
      | some y => if s.shellErases y < s.shellErases x then some x else b
      | none => some x) none

/-- The destination of a whole-shell job (R266). -/
def State.relocDest (s : State) (id : Nat) : Option (Nat × State) :=
  let r := s.reloc id
  let c := crewOf r.src
  let p := (s.crew c).pool
  let worn := if r.order = 7 then s.wornShell p c else none
  match worn with
  | some x =>
    some (x, (s.openShell x 7 id false).record .shell x)
  | none => s.takeShell p 0 7 id false fun d => d == c

/-- A queued job starts where it can: no row of its source is being programmed, and a destination is there (R265, R266). -/
def State.relocTry (s : State) (id : Nat) : Option State :=
  let r := s.reloc id
  let h := s.shell r.src
  if s.media.jobs.any (fun j => j.shell == r.src + 1) then none
  else if ¬ (h.st = 2 ∨ h.st = 3) ∨ h.kind = 0 ∨ 3 < h.kind then some { s with media.relocs := s.media.relocs.set id {} }
  else
    let start := fun (s : State) (dst : Nat) =>
      let s := (s.modReloc id fun r => { r with started := true, dst := dst, owner := h.owner }).record .reloc id
      ((s.modShell r.src fun h => { h with reloc := true }).record .shell r.src).relocNext id
    if h.kind = 1 then
      if h.rows = 0 then
        -- nothing is programmed: the zone gives the shell back
        let s := s.modZone h.owner fun z => { z with shellValid := false, shell := 0 }
        some { (s.record .zone h.owner).releaseShell r.src with media.relocs := s.media.relocs.set id {} }
      else (s.relocDest id).map fun (x, t) => start t (x + 1)
    else if h.kind = 3 ∧ 5 ≤ r.order then some (start s 0)
    else
      -- an open shell of a handle, or of the Millpond where all of it moves, takes no further row
      let t := if h.st = 3 then s else (s.modShell r.src fun h => { h with st := 3 }).record .shell r.src
      let t := { t with media.hshell := t.media.hshell.mapAll fun _ v => if v = r.src + 1 then 0 else v }
      if h.kind = 3 ∨ r.order = 4 then some (start t 0)
      else if t.svalid r.src = 0 then some { t.releaseShell r.src with media.relocs := t.media.relocs.set id {} }
      else (t.relocDest id).map fun (x, t) => start t (x + 1)

/-- RELOC_JOB_START (R265): the first queued job that can start does, within RELOC_MAX. -/
def execRelocJobStart (s : State) : Host.Outcome State Fault Refusal :=
  if ¬ s.modeIn [.rebuild, .service, .readOnly] ∨ s.clk.stopped ∨ ¬ s.cpUp ∨ s.f R.MD_RELOC_RELOC_MAX ≤ s.relocActive then .next s
  else
    let q := (s.media.relocs.keysWhere fun _ r => r.alive && !r.started).foldr s.relocInsert []
    match q.findSome? s.relocTry with
    | some t => done t.afterRows
    | none => .next s

/-! ### What each Governor sample and each minute queue (R257, R260, R262, Table 09-6) -/

/-- Drain jobs (R260, R261): the oldest Millpond shell with conventional units, and the oldest of all where it holds few pinned parts. -/
def State.queueDrain (s : State) : State :=
  let order := if s.fgDrain then some 5 else if s.on R.MD_MP_STS_IDLE then some 6 else none
  match order with
  | none => s
  | some o =>
    let s := match s.oldestMill fun x => !(s.liveKeys x).isEmpty with
      | some x => s.queueReloc o x
      | none => s
    if o = 5 then
      match s.fewPinned with
      | some x => s.queueReloc 5 x
      | none => s
    else s

/-- The samples of the last 5 ms, newest first (R260). -/
def last5ms : Nat → List (Nat × Nat) → List (Nat × Nat)
  | _, [] => []
  | t, (k, b) :: r => if 7500000 ≤ t then [] else (k, b) :: last5ms (t + k) r

/-- The figures of R257 at a Governor sample, idleness over the last 5 ms (R260), POOL_LOW and the drains. `bytes`: media
bytes admitted in the sample; `ticks`: its length. -/
def State.mediaSample (s : State) (bytes ticks : Nat) : State :=
  let adm := last5ms 0 ((ticks, bytes) :: s.media.admitted)
  -- 1 MB/s over 5 ms is 5,000 bytes
  let idle := decide (adm.foldl (fun a e => a + e.2) 0 < s.f R.MD_MP_CFG_IDLE_MBPS * 5000)
  let low : Nat := (List.range 8).foldl (fun m p => setBit m p (!(s.poolCrews p).isEmpty && s.freeShells p == 0)) 0
  let fg := s.fgDrain
  let was := s.on R.MD_MP_STS_FG_DRAIN
  let s := { s with media.admitted := adm }
  let s := ((s.putF R.MD_MP_TARGET_TARGET_MIB s.mpTarget).putF R.MD_MP_HELD_HELD_MIB s.mpHeld).putF R.MD_MP_WEIR_WEIR_MIB s.weir
  let s := (s.putF R.MD_FILL_FILL s.fill).setF R.MD_MP_STS_IDLE (b2n idle)
  let s := s.setF R.MD_MP_STS_FG_DRAIN (b2n fg)
  let s := s.setF R.MD_MP_STS_BG_DRAIN (b2n (s.media.relocs.any fun (_, r) => r.alive && r.started && r.order == 6))
  let s : State := if fg ∧ ¬ was then s.raiseLimited (2 ^ 23) R.MD_EVT_FG_DRAIN else s
  let s : State := if low ≠ 0 ∧ ¬ s.on R.MD_EVT_POOL_LOW then s.raise R.MD_EVT_POOL_LOW low else s
  let s := (s.per.ns.keysWhere fun _ n => n.alive && !n.zoned).foldl State.gcCheck s
  (s.queueDrain.millFill 4).reserveSync

/-- Sum of the erases of Full shells of a pool and their number. -/
def State.fullErases (s : State) (p : Nat) : Int × Nat :=
  s.per.shells.foldl (fun a (x, h) =>
    if h.st = 3 ∧ (s.crew (crewOf x)).inPool ∧ (s.crew (crewOf x)).pool = p then (a.1 + s.shellErases x, a.2 + 1) else a) (0, 0)

/-- Wear levelling of a pool (Table 09-6, order 7): one job per pool. -/
def State.wearCheck (s : State) (p : Nat) : State :=
  let cs := s.poolCrews p
  let e := cs.foldl (fun a c => a + s.erasedSum c) 0
  let n := cs.foldl (fun a c => a + s.erasedCount c) 0
  let (fe, fn) := s.fullErases p
  let busy := s.media.relocs.any fun (_, r) => r.alive && r.order == 7 && (s.crew (crewOf r.src)).pool == p
  if busy ∨ n = 0 ∨ fn = 0 ∨ e * fn ≤ fe * n + s.f R.MD_GC_CFG_WEAR_GAP * 32 * n * fn then s
  else
    let cand := s.per.shells.keysWhere fun x h => h.st == 3 && (h.kind == 1 || h.kind == 2) && (s.crew (crewOf x)).inPool &&
      (s.crew (crewOf x)).pool == p
    match cand.foldl (fun b x =>
      match b with
      | some y =>
        if s.shellErases x < s.shellErases y ∨ (s.shellErases x = s.shellErases y ∧ (s.shell x).age < (s.shell y).age) then some x
        else b
      | none => some x) (none : Option Nat) with
    | some x => s.queueReloc 7 x
    | none => s

/-- Shells whose data is REFRESH_MIN minutes old are queued for refresh (Table 09-6, order 3). -/
def State.refreshAges (s : State) : State :=
  (s.per.shells.keysWhere fun x h => (h.st == 2 || h.st == 3) && (h.kind == 1 || h.kind == 2 || h.kind == 3) && decide (0 < h.rows) &&
    decide (h.kind = 3 → 0 < s.svalid x) && decide (s.boot.image.refreshMin ≤ s.per.clock - h.age)).foldl (fun s x => s.queueReloc 3 x) s

/-- LEDGER_CLOCK_MINUTE (R246): the Ledger clock counts a minute of powered time from Discovery on; age and wear are checked. -/
def execLedgerClockMinute (s : State) : Host.Outcome State Fault Refusal :=
  if s.modeIn [.off, .bootstrap, .sealed] then .next s
  else
    let s := { s with per.clock := s.per.clock + 1, media.clockMin := s.media.clockMin + 1 }
    if s.modeIn [.service, .readOnly] then done ((List.range 8).foldl State.wearCheck s.refreshAges) else done s

/-- LEDGER_CLOCK_RECORD (R246): every 64 minutes a CLOCK record is written. -/
def execLedgerClockRecord (s : State) : Host.Outcome State Fault Refusal :=
  if s.modeIn [.rebuild, .service, .readOnly, .sanitize] then done ({ s with media.clockMin := 0 }.record .clock s.per.clock)
  else .next s

/-- LOG_HOLD_TIMER (R272): the oldest record of the tail has waited LOG_HOLD_US. -/
def execLogHoldTimer (s : State) : Host.Outcome State Fault Refusal :=
  if s.mediaRuns ∧ ¬ s.media.tail.isEmpty then done s.tailOut else .next s

/-- SPILL_DWELL_TIMER (R198): no block entered the stream's partial row for the dwell time; it spills. -/
def execSpillDwellTimer (zone : Nat) (s : State) : Host.Outcome State Fault Refusal :=
  if s.mediaRuns ∧ ¬ (s.partialRows zone).isEmpty then done (s.spillPartial zone).afterRows else .next s

/-- SPILL_HOLD_MAX_TIMER (R198): the partial row's first block is HOLD_MAX old; it spills, and HOLD_SPILL is set. -/
def execSpillHoldMaxTimer (zone : Nat) (s : State) : Host.Outcome State Fault Refusal :=
  if s.mediaRuns ∧ ¬ (s.partialRows zone).isEmpty then
    done ((s.holdSpill zone).spillPartial zone).afterRows
  else .next s

/-! ### The Tally (R274, R275) -/

/-- Segments of the cycle: Ledger 0 to 63, Shell Table 64 and 65, Zone Table 66 to 69, the final group 70, and the written
regions of the page map from 71 on. -/
def State.tallySegments (s : State) : Nat := 71 + s.mapSegments.length

/-- The Tally is written in Service and Read-Only (R274), and for one full cycle at step 3 of a sanitize (Table 15-14), while a
control processor runs (R448). -/
def State.tallyRuns (s : State) : Bool :=
  s.cpUp && (s.modeIn [.service, .readOnly] || s.mode == .sanitize && (s.media.sanStep == 2 || (s.media.sanStep == 3 && s.media.tseg != 0)))

/-- TALLY_SEGMENT_START (R274): the next segment is captured at the current SEQ and programmed as SLC rows; one at a time. -/
def execTallySegmentStart (s : State) : Host.Outcome State Fault Refusal :=
  if ¬ s.tallyRuns ∨ s.clk.stopped ∨ s.per.tallyShells.isEmpty ∨
      s.media.jobs.any (fun j => j.kind == .tally) ∨ s.clk.tb < s.media.tallyFree then .next s
  else
    let seg := s.media.tseg % s.tallySegments
    let key := if seg < 71 then seg else 71 + ((s.mapSegments[seg - 71]?).getD 0)
    let cap := s.lastSeq
    -- a cycle is complete when the next one begins
    let s := if seg ≠ 0 then s
      else
        let s := if s.media.tallyStart = 0 then s else s.putF R.MD_TALLY_LAP_S ((s.clk.tb + 1 - s.media.tallyStart) / Config.ticksPerS)
        { s with media.tallyStart := s.clk.tb + 1 }
    let fmt := match s.tallyOpen with
      | some (x, _) => s.fmt (crewOf x)
      | none => 1
    let n := ceilDiv 1024 (rowUnits fmt true)
    let s := (List.range n).foldl (fun s i =>
      s.addJob { kind := .tally, slc := true, units := 1024, lastSeq := cap, seg := if i + 1 = n then key + 1 else 0 }) s
    -- 4 MiB at TALLY_MBPS: ticks of 1/1,500 of a microsecond
    let pace := ceilDiv (2 ^ 22 * 1500) (max 1 (s.f R.MD_TALLY_TALLY_MBPS))
    done { s with media.sanStep := if s.media.sanStep = 2 then 3 else s.media.sanStep, media.tseg := (seg + 1) % s.tallySegments, media.tallyFree := s.clk.tb + pace }.assignShells

end Sys2Proof.Machine
end

