-- ==== Sys2Proof/Machine/Lanes.lean ====
section
/-! DEFINITION. Lanes.lean: the recipe interpreter of a Seat Sequencer, the bus and the Stroke gate, the starts of programs and
erases, failure handling, lane retrain and recovery, die temperature, self-test (08, 10, 11). -/

namespace Sys2Proof.Machine

/-! ### The interpreter (R288 to R290, Table 10-8) -/

/-- A state of an operation; one beyond NSTATES cannot be reached (R289), and reads as END "no response". -/
def opState (o : RecipeOp) (pc : Nat) : Nat × Nat := (o.states[pc]?).getD (0x30D, 0)

/-- Run the states that need no bus, up to a bus state, a WAIT, a POLL or END. -/
def advance (o : RecipeOp) (tb : Nat) : Nat → Run → Run
  | 0, r => { r with phase := 4 }
  | k + 1, r =>
    let (w0, w1) := opState o r.pc
    let next := w1 % 64
    let alt := bitsOf w1 8 6
    match w0 % 256 with
    | 0x05 => { r with phase := 1 }
    | 0x07 => advance o tb k { r with pc := if r.status &&& bitsOf w0 8 8 ≠ 0 then alt else next }
    | 0x0A => advance o tb k { r with pc := next, u := r.u + 1 }
    | 0x0B => advance o tb k { r with pc := if r.u = bitsOf w0 8 5 then alt else next }
    | 0x0D => { r with phase := 3, res := bitsOf w0 8 2 }
    | _ => { r with phase := 0, tWait := tb }

/-- The operation that a run executes. -/
def State.runOp (s : State) (c k : Nat) (r : Run) : RecipeOp := (s.recipe c k r.slot).getD { slot := r.slot }

/-- A run goes on at a state. -/
def State.runAt (s : State) (c k : Nat) (r : Run) (pc : Nat) : State :=
  s.modDie c k fun d => { d with run := some (advance (s.runOp c k r) s.clk.tb 1024 { r with pc := pc }) }

/-- A recipe starts on a seat (R290); without PRESENT it cannot (R288). -/
def State.startRun (s : State) (c k slot : Nat) (serves : RunFor) (failed : Option RunFor := none) : State :=
  match s.recipe c k slot with
  | none => s
  | some o => s.runAt c k { slot := slot, serves := serves, tStart := s.clk.tb, tWait := s.clk.tb, failed := failed } o.start

/-- The Seat Sequencer may start a recipe: the die is matched and alive, nothing runs on it, and no Easy interval does (R303). -/
def State.seatFree (s : State) (c k : Nat) : Bool :=
  let d := s.die c k
  d.matched && !s.failedSeat c k && d.run.isNone && !d.easy && s.lstate k == 2

/-! ### Reads of pages -/

/-- The queued codeword reads of a seat, the one served first at the head: patrol reads stand behind the others (R326). -/
def State.nextRead (s : State) (c k : Nat) : Option (Nat × Cw) :=
  s.flash.cws.foldl (fun best (n, w) =>
    if w.alive ∧ w.crew = c ∧ w.seat = k ∧ w.phase = 0 ∧ ¬ s.joins n w then
      match best with
      | some (m, b) =>
        let pb := b.purpose == .patrol
        let pw := w.purpose == .patrol
        if (pb && !pw) || (pb == pw && decide (w.queued < b.queued)) then some (n, w) else some (m, b)
      | none => some (n, w)
    else best) none

/-- w is in the page. -/
def inPage (w : Cw) (c k shell row page : Nat) : Bool :=
  w.alive && w.crew == c && w.seat == k && w.shell == shell && w.row == row && w.unit / 4 == page

/-- Codewords of a page in a phase. -/
def State.pageCws (s : State) (c k shell row page phase : Nat) : List Nat :=
  s.flash.cws.keysWhere fun n w => inPage w c k shell row page && w.phase == phase && !s.joins n w

/-- The cell of R320 is selected for the codewords of a page. -/
def State.setCells (s : State) (c k shell row page : Nat) : State :=
  (s.pageCws c k shell row page 0).foldl (fun s n =>
    let w := s.cw n
    if w.cell then s
    else
      let (f, m) := s.cellOf w
      s.modCw n fun w => { w with cell := true, first := f, count := m }) s

/-- A page is read by a recipe: every codeword of it that a queued read needs comes with it (R323). -/
def State.readPage (s : State) (c k slot shell row page : Nat) (serves : RunFor) : State :=
  let s := (s.pageCws c k shell row page 0).foldl (fun s n => s.modCw n fun w => { w with phase := 1 }) s
  s.startRun c k slot serves

/-- Pages per row of a block in its page order (R311). -/
def rowPages (slc : Bool) : Nat := seatUnits slc / 4

/-- A program or erase is queued on the seat. -/
def State.workQueued (s : State) (c k : Nat) : Bool :=
  (s.media.jobs.any fun j => j.shell != 0 && crewOf (j.shell - 1) == c && bit j.todo k) ||
    s.per.shells.any fun (x, h) => crewOf x == c && h.st == 4 && h.erased != 0 && !bit h.erased k

/-- A run of pages of a shell that stands at page j ends (R298): a queued read needs another recipe on the die, or a program or erase is
queued on the seat. -/
def State.runEnds (s : State) (c k shell j : Nat) (slc : Bool) : Bool :=
  (s.flash.cws.any fun (n, w) => w.alive && w.crew == c && w.seat == k && w.phase == 0 && !s.joins n w &&
    (w.shell != shell || w.step != 0 || decide (w.row * rowPages slc + w.unit / 4 < j) || match w.purpose with
      | .source _ => true
      | .patrol => true
      | _ => false)) ||
  s.workQueued c k

/-- A step-0 read of page j of a shell (page order of its block), with the entry that the die holds (R321), is queued on the seat. -/
def State.pageQueued (s : State) (c k shell j : Nat) (slc : Bool) : Bool :=
  s.flash.cws.any fun (n, w) =>
    inPage w c k shell (j / rowPages slc) (j % rowPages slc) && w.phase == 0 && w.step == 0 && !s.joins n w &&
      (if w.cell then w.first else (s.cellOf w).1) % 1024 + 1 == (s.die c k).entry

/-- The next recipe of a Run Read (R297, R298): the cached page is delivered by RUN_NEXT while its successor is needed, by
RUN_END otherwise. -/
def State.runRead (s : State) (c k : Nat) : State :=
  let d := s.die c k
  let shell := d.runNext / 65536
  let j := d.runNext % 65536 - 1
  let slc := (s.shell shell).slc
  let p := rowPages slc
  let go := s.pageQueued c k shell (j + 1) slc && !s.runEnds c k shell j slc && decide (d.runPages < Config.runMax) && decide (j + 1 < 384 * p)
  let s := s.setCells c k shell (j / p) (j % p)
  s.readPage c k (if go then 11 else 12) shell (j / p) (j % p) (.page shell (j / p) (j % p))

/-- An idle seat starts the recipe that its oldest queued read needs: SET_RETRY when the die holds another entry (R321), a soft
read (R322), a Run Read (R297) or a page read. -/
def State.dieReadStart (s : State) (c k : Nat) : State :=
  if ¬ s.seatFree c k ∨ ¬ s.mediaRuns then s
  else if (s.die c k).runNext ≠ 0 then s.runRead c k
  else
    match s.nextRead c k with
    | none => s
    | some (n, w) =>
      let page := w.unit / 4
      let s := s.setCells c k w.shell w.row page
      let w := s.cw n
      let e := stepEntry w
      if (s.die c k).entry ≠ e + 1 ∧ (s.recipe c k 14).isSome then s.startRun c k 14 (.setRetry e)
      else
        let s := s.setEntry c k e
        -- pages read at steps 1 and later are counted, and a soft read is reported (DC_CNT_RETRY, DC_EVT)
        let s := if w.step = 0 then s else s.addF R.DC_CNT_RETRY_COUNT 1 k
        if w.step = 16 then
          if (s.recipe c k 13).isSome then
            (s.raiseLimited (2 ^ 22 + k) R.DC_EVT_SOFT_USED w.seat w.shell page k).readPage c k 13 w.shell w.row page (.soft w.shell w.row page)
          else s.cwFailed k n
        else
          let j := w.row * rowPages w.slc + page
          let run := (s.shell w.shell).kind == 1 && w.step == 0 && s.pageQueued c k w.shell (j + 1) w.slc && !s.runEnds c k w.shell j w.slc &&
            ([10, 11, 12] : List Nat).all fun o => (s.recipe c k o).isSome
          if run then
            (s.startRun c k 10 (.page w.shell w.row page)).modDie c k fun d => { d with runNext := w.shell * 65536 + j + 1, runPages := 1 }
          else s.readPage c k (if w.slc then 9 else 8) w.shell w.row page (.page w.shell w.row page)

/-- DOUT moves n codewords from the column of the first one needed to the tile (Table 10-8). -/
def State.dout (s : State) (c k n : Nat) (serves : RunFor) : State :=
  let move := fun (shell row page : Nat) =>
    let ks := s.pageCws c k shell row page 1
    let col := ks.foldl (fun m x => min m ((s.cw x).unit % 4)) 4
    (ks.filter fun x => (s.cw x).unit % 4 < col + n).foldl (fun s x => s.modCw x fun w => { w with phase := 2 }) s
  match serves with
  | .page a b p => move a b p
  | .soft a b p => move a b p
  | _ => s

/-! ### Failure handling (R294, R295, R439) -/

/-- The seat's die is dead (Table 10-11, step 5). -/
def State.dieDead (s : State) (c k : Nat) : State := (s.raise R.LN_EVT_DIE_FAILED c noP noP k).seatFail c k

/-- A recipe ends with "no response": the reads that it carried are decided again, and RESET runs (Table 10-11); where it was that RESET,
the die is dead. -/
def State.noResponse (s : State) (c k : Nat) (r : Run) : State :=
  let s := ((s.addF R.LN_FAULTS_NORESP 1 k).addF R.LN_OPS_RECIPES 1 k).modDie c k fun d =>
    { d with timeouts := satInc 16 d.timeouts, run := none, runNext := 0, runPages := 0, easy := false }
  if r.failed.isSome then s.dieDead c k
  else
    let s := s.startRun c k 0 .reset (some r.serves)
    s.redecide c

/-- The die responds after RESET: the interrupted operation ends (R295). -/
def State.responded (s : State) (c k : Nat) (f : RunFor) : State :=
  let s := s.raise R.LN_EVT_DIE_NORESP c noP noP k
  match f with
  | .program id => s.programEnd c k id false
  | .erase x => s.eraseEnd c k x false
  | _ => s

/-! ### Retrain and SH_FORCE (R235) -/

/-- The seats of the boats of lane l: (crew, seat). -/
def State.boatSeats (s : State) (c l : Nat) : List Nat :=
  (List.range 32).filter fun k => boatOf (s.fmt c) k == boatOf (s.fmt c) l

/-- Crews that hold a format. -/
def State.fmtCrews (s : State) : List Nat := (List.range 64).filter fun c => decide (2 ≤ (s.crew c).st)

/-- R235 refuses a retrain of lane l. -/
def State.retrainRefused (s : State) (l : Nat) : Bool :=
  (s.fmtCrews.any fun c => (s.boatSeats c l).any fun k =>
    s.failedSeat c k || s.per.shells.any fun (x, h) => crewOf x == c && h.st != 1 && h.st != 5 && bit h.lost k) ||
  ((List.range 32).any fun m => m != l && s.on R.LN_RT_STS_ACTIVE m) ||
  (s.on R.SH_FORCE_EN && s.f R.SH_FORCE_SEAT != l)

/-- No seat of the boats of a lane is busy (R235). -/
def State.boatsQuiet (s : State) (l : Nat) : Bool :=
  s.fmtCrews.all fun c => (s.boatSeats c l).all fun k => !s.busy c k

/-- Step 3 of Table 10-13 where the boats have become quiet. -/
def State.quiesce (s : State) : State :=
  s.each 32 fun s l =>
    if (s.lane l).rtWait ∧ s.boatsQuiet l then
      let s := (s.modLane l fun x => { x with rtWait := false }).setF R.LN_STS_LSTATE 3 l
      let s := { s with flash.dies := s.flash.dies.mapAll fun k d => if k / 64 = l then { d with runNext := 0, runPages := 0 } else d }
      (List.range 64).foldl State.redecide s
    else s

/-- A forced seat takes effect once its operation has ended and its boat is idle (SH_FORCE). -/
def State.forceCheck (s : State) : State :=
  let c := s.f R.SH_FORCE_CREW
  if s.on R.SH_FORCE_EN ∧ ¬ s.on R.SH_FORCE_ACTIVE ∧
      (s.boatSeats c (s.f R.SH_FORCE_SEAT)).all fun k => !s.busy c k then
    (s.setF R.SH_FORCE_ACTIVE 1).redecide c
  else s

/-- A retrain request (R305): refused by R235, or step 2 of Table 10-13 begins. -/
def State.retrainRequest (s : State) (l : Nat) (auto_ : Bool) : State :=
  if s.on R.LN_RT_STS_ACTIVE l then s
  else if s.lstate l ≠ 2 ∨ s.retrainRefused l then
    let s := ((s.setF R.LN_RT_STS_RESULT 3 l).addF R.LN_RT_CNT_REFUSALS 1 l).raiseLimited (2 ^ 25 + l) R.LN_EVT_RT_REFUSED noP noP noP l
    if auto_ then s.setF R.LN_RT_STS_PENDING 1 l else s
  else
    let s := (s.setF R.LN_RT_STS_ACTIVE 1 l).setF R.LN_RT_STS_PENDING 0 l
    (s.modLane l fun x => { x with rtWait := true, rtStart := s.clk.tb }).quiesce

/-! ### Starts of programs and erases (R230, R233, R234, R296) -/

/-- Order of Table 08-4; Tally rows are not in it: DEDUCED with the copies, anchor rows with the Logbook (notes/assumptions/49). -/
def jobOrder (j : Job) : Nat :=
  match j.kind with
  | .log => 1 | .anchor => 1 | .spill => 2 | .direct => 3
  | .fold => if isZoneStream j.stream then 3 else 4
  | .millCopy => 4 | .reloc => 4 | .tally => 4

/-- The row of a job waits for a lower row of its shell that is not complete yet: rows are programmed in row order (R197, R233). -/
def State.rowEarly (s : State) (j : Job) : Bool :=
  decide ((s.shell (j.shell - 1)).rows < j.row) &&
    !s.media.jobs.any fun i => i.shell == j.shell && decide (i.row + 1 = j.row)

/-- The row program that a seat starts next (R233): by order, then age; rows of one shell in row order. -/
def State.pickProgram (s : State) (c k : Nat) : Option Job :=
  s.media.jobs.foldl (fun best j =>
    let ready := j.shell != 0 && crewOf (j.shell - 1) == c && bit j.todo k && j.need == 0 && !s.rowEarly j &&
      !s.media.jobs.any fun i => i.shell == j.shell && decide (i.row < j.row) && bit i.todo k
    if ready then
      match best with
      | some b => if jobOrder j < jobOrder b then some j else some b
      | none => some j
    else best) none

/-- Seats of the crew's boat are kept free of new programs for a retrain or a forced seat (R235). -/
def State.boatHeld (s : State) (c k : Nat) : Bool :=
  let b := boatOf (s.fmt c) k
  ((List.range 32).any fun l => (s.lane l).rtWait && boatOf (s.fmt c) l == b) ||
    (s.on R.SH_FORCE_EN && !s.on R.SH_FORCE_ACTIVE && s.f R.SH_FORCE_CREW == c && boatOf (s.fmt c) (s.f R.SH_FORCE_SEAT) == b)

/-- Reads that go before a program or erase on the seat: source reads until they have completed, reads that waited for it (R234), and a
codeword in recovery (R323). -/
def State.readsFirst (s : State) (c k : Nat) : Bool :=
  s.flash.cws.any fun (_, w) => w.alive && w.crew == c && w.seat == k &&
    ((decide (w.phase ≤ 2) && (match w.purpose with
        | .source _ => true
        | _ => decide (0 < w.step))) || (w.phase == 0 && w.waited))

/-- The seat is free for a program or erase, apart from the budgets. -/
def State.progReady (s : State) (c k : Nat) : Bool :=
  s.mediaRuns && ((s.crew c).st == 2 || (s.crew c).st == 3 || ((s.crew c).st == 1 && s.mode == .trial)) && s.seatFree c k && (s.die c k).runNext == 0 && !s.forced c k &&
    !s.boatHeld c k && !s.readsFirst c k

/-- The budgets allow one more program or erase on the seat (R230, R231, R170). -/
def State.budgetOk (s : State) (c k : Nat) : Bool :=
  (s.budgetLifted || decide (s.busyCount c (boatOf (s.fmt c) k) < s.effBudget c)) &&
    decide (s.activeDies < s.f R.PW_DIE_DIE_BUDGET)

/-- Another seat of the crew has a program that the budgets allow and that goes before a program j of this seat by Table 08-4 and age, or
before an erase (R233). -/
def State.goesFirst (s : State) (c k : Nat) (j : Option Job) : Bool :=
  (List.range 32).any fun i => i != k && s.progReady c i && s.budgetOk c i &&
    match s.pickProgram c i, j with
    | some a, some b => decide (jobOrder a < jobOrder b) || (jobOrder a == jobOrder b && decide (a.id < b.id))
    | some _, none => true
    | none, _ => false

/-- PROGRAM_START (R230): the seat's next row program starts, once no other of the crew goes first; with the first of a row, its
units are encoded and its parity computed (R218). Out of program order it is not issued, and the seat is lost for
the shell (R296). -/
def execProgramStart (crew seat : Nat) (s0 : State) : Host.Outcome State Fault Refusal :=
  let s := s0.assignShells
  match s.pickProgram crew seat with
  | none => .next s0
  | some j =>
    if 64 ≤ crew ∨ 32 ≤ seat ∨ ¬ s.progReady crew seat then .next s0
    else if ¬ s.budgetOk crew seat then done (s.stat crew 10)
    else if s.goesFirst crew seat (some j) then .next s0
    else
      let x := j.shell - 1
      let before := j.row = 0 ∨ bit (s.media.flash.get (flashKey x (j.row - 1))).done seat
      if ¬ before ∨ bit (s.media.flash.get (flashKey x j.row)).done seat then
        let s := s.modJob j.id fun j => { j with todo := setBit j.todo seat false }
        let s := ((s.addF R.LN_FAULTS_ORDER_FAULTS 1 seat).raise R.LN_EVT_ORDER_FAULT crew noP noP seat).seatLost x seat
        done (s.finishRow j.id).afterRows
      else
        let s := if j.done = 0 ∧ j.running = 0 then s.modJob j.id fun i => s.encodeRow i else s
        let s := s.modJob j.id fun j => { j with todo := setBit j.todo seat false, running := setBit j.running seat true }
        let s := s.startRun crew seat (if j.slc then 16 else 15) (.program j.id)
        done ((s.stat crew 7).redecide crew)

/-- The shell of a crew whose erase comes next: oldest release first (R250). -/
def State.nextErase (s : State) (c : Nat) : Option Nat :=
  (s.per.shells.keysWhere fun x h => crewOf x == c && h.st == 4).foldl (fun b x =>
    match b with
    | some y => if (s.shell x).relSeq < (s.shell y).relSeq then some x else b
    | none => some x) none

/-- The crew may give the shell that a job waits for (R208, R258, R270, R275). -/
def State.servesJob (s : State) (c x : Nat) (j : Job) : Bool :=
  j.shell == 0 && match j.kind with
    | .log => s.per.logShells.contains x
    | .tally => s.per.tallyShells.contains x
    | .anchor => false
    | .spill | .millCopy => (s.crew c).inPool
    | _ => (s.crew c).inPool && (s.crew c).pool == s.streamPool j.stream

/-- An erase is wanted (R250): fewer than 2 Erased shells on the crew, a first program that waits for a shell of its pool, a Logbook
without a shell, a Format with SES 1 (R186), a sanitize; an erase begun goes on. -/
def State.eraseWanted (s : State) (c x : Nat) : Bool :=
  decide (s.erasedCount c < 2) || s.media.jobs.any (s.servesJob c x) || (s.logShell.isNone && s.per.logShells.contains x) ||
    s.media.fmtWait.any (fun (_, l) => l.contains x) || (s.mode == .sanitize && s.media.sanStep == 4) || (s.shell x).erased != 0

/-- A read that resolved a block to the shell has not completed (R28, R202): a codeword read of it, or a command whose block stood there,
in flash or in staging that has been programmed there since. -/
def State.readsShell (s : State) (x : Nat) : Bool :=
  s.flash.cws.any (fun (_, w) => w.alive && w.shell == x) ||
    s.cmds.any fun (_, c) => c.alive && c.phase == .running && (c.sqe.opc == 0x02 || c.sqe.opc == 0x0C) && c.place.any fun (_, p) =>
      match p with
      | .media y _ _ _ => y == x
      | .staged b => s.media.flash.any fun (k, r) => k / 1024 == x && r.blks.any fun (_, d) => d == b
      | _ => false

/-- ERASE_START (R250): the erase of the crew's oldest released shell starts on a seat, once the record that released it is on
flash (R249) and no read of it is left. A GROWN_BAD block is exchanged first (R253). -/
def execEraseStart (crew seat : Nat) (s : State) : Host.Outcome State Fault Refusal :=
  match s.nextErase crew with
  | none => .next s
  | some x =>
    let h := s.shell x
    if 64 ≤ crew ∨ 32 ≤ seat ∨ bit h.erased seat ∨ s.media.seqFlash < h.relSeq ∨ s.readsShell x ∨ ¬ s.eraseWanted crew x ∨
        ¬ s.progReady crew seat ∨ (s.pickProgram crew seat).isSome then .next s
    else if ¬ s.budgetOk crew seat then done (s.stat crew 10)
    else if s.goesFirst crew seat none then .next s
    else
      let s := if (s.ledgerAt crew seat (x % 8192)).grown then s.swapSpare x seat else s
      if (s.shell x).st ≠ 4 then done s.sanitizeCheck
      else
        let s := s.startRun crew seat (if h.slc then 18 else 17) (.erase x)
        done ((s.stat crew 8).redecide crew)

/-! ### The bus (R281) -/

/-- The state that a run waits with is a stroke-gated CMD (R299). -/
def State.gated (s : State) (c k : Nat) (r : Run) : Bool :=
  let w0 := (opState (s.runOp c k r) r.pc).1
  r.phase == 0 && w0 % 256 == 0x01 && bit w0 16

/-- Ticks since the lane's slot last opened, by the Time Base modulo 2,048 (R299). -/
def State.slotPos (s : State) (l : Nat) : Nat :=
  (s.clk.tb % Config.stroke + Config.stroke - s.f R.LN_STROKE_SLOT_OFF l) % Config.stroke

/-- The lane's slot is open, and a stroke-gated command may be issued: none has been in this Stroke (R299), and no positive phase step fell
in it (R301). -/
def State.slotOpen (s : State) (l : Nat) : Bool :=
  let n := s.clk.tb / Config.stroke + 1
  decide (s.slotPos l < s.f R.LN_STROKE_SLOT_LEN l) && (s.lane l).stroke != n && (s.lane l).stepStroke != n

/-- Ticks that the data of a bus state takes: a page for DIN, codewords for DOUT, at 48,000 ÷ DIV_CUR MT/s (R281, R302); on the Pacer at
the lowest rate of Table 10-2. Other states count as no time (DESIGN CHOICE, notes/assumptions/49). -/
def State.grantTicks (s : State) (l w0 : Nat) : Nat :=
  let n := match w0 % 256 with
    | 0x03 => 18432
    | 0x04 => 4608 * bitsOf w0 8 3
    | _ => 0
  if s.on R.LN_STS_PACER l then ceilDiv (n * 1500) 280 else ceilDiv (n * s.f R.LN_STS_DIV_CUR l) 32

/-- A grant would still be running when the lane's next slot opens, while a stroke-gated command waits (R299). -/
def State.grantHeld (s : State) (l w0 : Nat) : Bool :=
  decide (Config.stroke - s.slotPos l < s.grantTicks l w0) && (List.range 64).any fun c =>
    match (s.die c l).run with
    | some q => s.gated c l q
    | none => false

/-- Class of R281 of a waiting state. -/
def State.busClass (s : State) (c k : Nat) (r : Run) : Nat :=
  let op := (opState (s.runOp c k r) r.pc).1 % 256
  let read := match r.serves with
    | .page _ _ _ => true
    | .soft _ _ _ => true
    | _ => false
  if r.failed.isSome then 1
  else if read && (op == 0x01 || op == 0x02 || op == 0x04) then 2
  else if s.gated c k r then 3
  else if op = 0x06 then 4
  else 5

/-- No other die of the lane has a state that is granted before die c's; a stroke-gated command takes part while its slot is open. -/
def State.busFirst (s : State) (l c : Nat) (r : Run) : Bool :=
  let me := s.busClass c l r
  (List.range 64).all fun d =>
    d == c || match (s.die d l).run with
      | some q =>
        let k := s.busClass d l q
        q.phase != 0 || (s.gated d l q && !s.slotOpen l) || decide (me < k) ||
          (me == k && (decide (r.tWait < q.tWait) || (r.tWait == q.tWait && decide (c < d))))
      | none => true

/-- A lane fault is detected (R308): recovery trains the lane from DIV 128, and a retrain in progress ends. -/
def State.laneFault (s : State) (l : Nat) : State :=
  let s := (s.setF R.LN_STS_LSTATE 4 l).raise R.LN_EVT_LANE_FAULT noP noP noP l
  let s := (s.setF R.LN_STS_DIV_CUR 128 l).setF R.LN_RT_STS_ACTIVE 0 l
  let s := s.modLane l fun x => { x with noStrobe := 0, noDies := [], attempts := 0, rtWait := false }
  let s := s.each 64 fun s c =>
    s.modDie c l fun d => { d with
      runNext := 0, runPages := 0,
      run := d.run.map fun r =>
        if (opState (s.runOp c l r) r.pc).1 % 256 = 0x06 ∧ (r.phase = 0 ∨ r.phase = 2) then { r with phase := 4 } else r }
  (List.range 64).foldl State.redecide s

/-- The grants in which a die drives the strobe are counted towards a lane fault (R308). -/
def State.strobeSeen (s : State) (l c : Nat) (strobe : Bool) : State :=
  if strobe then s.modLane l fun x => { x with noStrobe := 0, noDies := [] }
  else
    let s := s.modLane l fun x => { x with noStrobe := x.noStrobe + 1, noDies := if x.noDies.contains c then x.noDies else c :: x.noDies }
    if 3 ≤ (s.lane l).noStrobe ∧ 2 ≤ (s.lane l).noDies.length then s.laneFault l else s

/-- The status byte says ready: bit 6 (PRESUMED, notes/assumptions/48, ONFI and JESD230). -/
def ready (b : Nat) : Bool := bit b 6

/-- T_MAX of the run has passed (Table 10-8). -/
def State.overTime (s : State) (c k : Nat) (r : Run) : Bool := decide ((s.runOp c k r).tMax ≤ s.clk.tb - r.tStart)

/-- A status byte has been read in a POLL: NEXT at RDY, ALT once T_MAX has passed, else another interval. -/
def State.polled (s : State) (c k : Nat) (r : Run) (b : Nat) : State :=
  let (_, w1) := opState (s.runOp c k r) r.pc
  let r := { r with status := b }
  if ready b then s.runAt c k r (w1 % 64)
  else if s.overTime c k r then s.runAt c k r (bitsOf w1 8 6)
  else s.modDie c k fun d => { d with run := some { r with phase := 2 } }

/-- BUS_GRANT (R281): one bus state of the die's recipe; an idle die starts the recipe of its oldest queued read. A data
transfer without strobe ends the recipe with "no response" (R294). -/
def execBusGrant (lane die : Nat) (strobe : Bool) (data : Nat) (s0 : State) : Host.Outcome State Fault Refusal :=
  let s := if (s0.die die lane).run.isNone then s0.dieReadStart die lane else s0
  match (s.die die lane).run with
  | none => .next s0
  | some r =>
    if 32 ≤ lane ∨ 64 ≤ die ∨ s.lstate lane ≠ 2 ∨ s.gated die lane r ∨ ¬ s.busFirst lane die r then .next s0
    else if r.phase ≠ 0 then (if s0.die die lane = s.die die lane then .next s0 else done s)
    else
      let (w0, w1) := opState (s.runOp die lane r) r.pc
      let next := w1 % 64
      if s.grantHeld lane w0 then .next s0
      else match w0 % 256 with
      | 0x04 =>
        if strobe then done ((((s.strobeSeen lane die true).dout die lane (bitsOf w0 8 3) r.serves).runAt die lane r next))
        else done ((s.strobeSeen lane die false).noResponse die lane r).afterRows
      | 0x09 =>
        if strobe then done ((s.strobeSeen lane die true).runAt die lane { r with result := data % 2 ^ 48 } next)
        else done ((s.strobeSeen lane die false).noResponse die lane r).afterRows
      | 0x06 =>
        if strobe then done ((s.strobeSeen lane die true).polled die lane r (data % 256))
        else
          let s := s.strobeSeen lane die false
          if s.lstate lane = 4 then done s else done (s.polled die lane r 0)
      | _ => done (s.runAt die lane r next)

/-- STROKE_SLOT_OPEN (R299): in the lane's slot of a Stroke in which it has issued none, and in which no positive phase step
fell (R301), the oldest stroke-gated command is issued, where no state of a higher class waits (R281). -/
def execStrokeSlotOpen (lane : Nat) (s : State) : Host.Outcome State Fault Refusal :=
  let waiting := (List.range 64).foldl (fun (b : Option (Nat × Run)) c =>
    match (s.die c lane).run with
    | some r =>
      if s.gated c lane r then
        match b with
        | some (_, q) => if r.tWait < q.tWait then some (c, r) else b
        | none => some (c, r)
      else b
    | none => b) none
  match waiting with
  | none => .next s
  | some (c, r) =>
    if 32 ≤ lane ∨ s.lstate lane ≠ 2 ∨ ¬ s.slotOpen lane ∨ ¬ s.busFirst lane c r then .next s
    else
      let (_, w1) := opState (s.runOp c lane r) r.pc
      done ((s.modLane lane fun x => { x with stroke := s.clk.tb / Config.stroke + 1 }).runAt c lane r (w1 % 64))

/-- RECIPE_WAIT_EXPIRY (R289): the WAIT state ends. -/
def execRecipeWaitExpiry (lane die : Nat) (s : State) : Host.Outcome State Fault Refusal :=
  match (s.die die lane).run with
  | some r =>
    if r.phase ≠ 1 then .next s
    else done (s.runAt die lane r ((opState (s.runOp die lane r) r.pc).2 % 64))
  | none => .next s

/-- POLL_INTERVAL (R289): the interval of a POLL ends; the status is read, or ALT is taken once T_MAX has passed. In a lane
fault the recipe is held (R308). -/
def execPollInterval (lane die : Nat) (status : Option Byte) (s : State) : Host.Outcome State Fault Refusal :=
  match (s.die die lane).run with
  | some r =>
    if r.phase ≠ 2 then .next s
    else if s.lstate lane = 4 then done (s.modDie die lane fun d => { d with run := some { r with phase := 4 } })
    else
      match status with
      | some b => done (s.polled die lane r b.toNat)
      | none => if s.overTime die lane r then done (s.runAt die lane r (bitsOf (opState (s.runOp die lane r) r.pc).2 8 6)) else .next s
  | none => .next s

/-- What follows the end of any recipe: waits that the seat's end resolves (R235, R306, R434). -/
def State.afterRecipe (s : State) (c : Nat) : State := (s.redecide c).quiesce.forceCheck.sanitizeCheck.afterRows

/-- RECIPE_END (R290): the recipe's result goes to the Cox, and the seat's Easy interval begins (R303). -/
def execRecipeEnd (lane die : Nat) (s : State) : Host.Outcome State Fault Refusal :=
  let d := s.die die lane
  match d.run with
  | none => .next s
  | some r =>
    if r.phase ≠ 3 then .next s
    else if r.res = 3 ∧ r.failed.isNone then done ((s.noResponse die lane r).afterRows)
    else
      let easy := decide (0 < s.f R.LN_EASY_EASY lane)
      let s := (s.modDie die lane fun d => { d with run := none, easy := easy }).addF R.LN_OPS_RECIPES 1 lane
      let s := match r.failed with
        | some f => if r.res = 0 then s.responded die lane f else s.dieDead die lane
        | none =>
          match r.serves with
          | .program id => s.programEnd die lane id (r.res == 0)
          | .erase x => s.eraseEnd die lane x (r.res == 0)
          | .setRetry e => s.setEntry die lane e
          | .reset => s
          | .page a b p =>
            let s := (s.pageCws die lane a b p 1).foldl (fun (s : State) n =>
              if r.res = 0 then s.modCw n fun w => { w with phase := 0 } else s.cwFailed lane n) s
            -- where the run of pages stands
            if r.slot = 11 then s.modDie die lane fun d => { d with runNext := d.runNext + 1, runPages := d.runPages + 1 }
            else if r.slot = 12 then s.modDie die lane fun d => { d with runNext := 0, runPages := 0 }
            else s
          | .soft a b p =>
            (s.pageCws die lane a b p 1).foldl (fun (s : State) n =>
              if r.res = 0 then s.modCw n fun w => { w with phase := 0 } else s.cwFailed lane n) s
      done (s.afterRecipe die)

/-- EASY_INTERVAL_END (R303). -/
def execEasyIntervalEnd (lane die : Nat) (s : State) : Host.Outcome State Fault Refusal :=
  if (s.die die lane).easy then done (s.modDie die lane fun d => { d with easy := false }) else .next s

/-! ### Codewords (R317, R322) -/

/-- Decodes that the CRC rejected are counted (R317); a parity seat's codeword has no CRC check. -/
def State.crcRejects (s : State) (lane n k : Nat) : State :=
  let w := s.cw n
  if k = 0 ∨ isParity (s.fmt w.crew) w.seat then s
  else (s.addF R.DC_CNT_CRC_CRC_REJECTS (min k 2) lane).raiseLimited (2 ^ 21 + lane) R.DC_EVT_CRC_REJECT w.seat w.shell (w.unit / 4) lane

/-- A step of a codeword's recovery has failed with so many unsatisfied checks: the next step of R322, or none is left. -/
def State.nextStep (s : State) (lane n unsat : Nat) : State :=
  let w := s.cw n
  let s := if w.step < 16 ∧ (w.step = 0 ∨ unsat < w.bestUnsat) then
      s.modCw n fun x => { x with best := w.step, bestUnsat := unsat }
    else s
  if w.step < 16 ∧ w.step + 1 < w.count then s.modCw n fun x => { x with step := w.step + 1, phase := 0 }
  else if w.step < 16 ∧ s.on R.DC_CFG_SOFT_EN lane then s.modCw n fun x => { x with step := 16, phase := 0 }
  else s.cwFailed lane n

/-- CODEWORD_DECODED (R317, R322): one step of a codeword's recovery ends; the reads that wait for its result take it, and a read whose
codeword another has in recovery waits for that one (R323). -/
def execCodewordDecoded (lane cw : Nat) (res : Decode) (s : State) : Host.Outcome State Fault Refusal :=
  let w := s.cw cw
  if ¬ w.alive ∨ w.phase ≠ 2 ∨ w.seat ≠ lane then .next s
  else
    match res with
    | .ok tier bits rejects mis =>
      let reads := cw :: s.joined cw
      let s := (s.crcRejects lane cw rejects).decodedOk lane cw tier bits
      done (reads.foldl (fun s n => s.decodedTo lane mis n) s).afterRows
    | .fail unsat rejects =>
      let s := s.crcRejects lane cw rejects
      if s.joins cw { w with phase := 0 } then done (s.modCw cw fun x => { x with phase := 0 })
      else done (s.nextStep lane cw unsat).afterRows

/-- PARITY_REBUILD_DONE (R222): the rebuilt codeword goes to its read. -/
def execParityRebuildDone (cw : Nat) (s : State) : Host.Outcome State Fault Refusal :=
  let w := s.cw cw
  if ¬ w.alive ∨ w.phase ≠ 4 then .next s
  else done ((s.stat w.crew (if w.loc then 1 else 2)).deliver cw).afterRows

/-- A patrol covers a shell: it holds live data, or is of the Logbook or the Tally (R326). -/
def State.patrols (s : State) (x : Nat) : Bool :=
  let h := s.shell x
  (h.st == 2 || h.st == 3) && (h.kind == 4 || h.kind == 5 || decide (0 < s.svalid x))

/-- A page of a lane's patrol lap is read; when every page of every row to be covered has been, the lap is complete, and LAP_H
gives its hours (R326). -/
def State.patrolled (s : State) (l shell row page : Nat) : State :=
  let s := s.modLane l fun x => { x with patrolled := x.patrolled.set ((shell * 1024 + row) * 16 + page) true }
  let seen := (s.lane l).patrolled
  let all := s.per.shells.all fun (x, h) =>
    !s.patrols x || s.lostUnit x l ||
      (List.range h.rows).all fun r => (List.range (seatUnits h.slc / 4)).all fun p => seen.get ((x * 1024 + r) * 16 + p)
  if all then
    (s.putF R.DC_PATROL_LAP_H ((s.per.clock - (s.lane l).lapStart) / 60) l).modLane l fun x =>
      { x with patrolled := [], lapStart := s.per.clock }
  else s

/-- PATROL_READ (R326): one page of a programmed row, in Service and Read-Only; its four codewords queue behind host reads. -/
def execPatrolRead (shell row seat page : Nat) (s : State) : Host.Outcome State Fault Refusal :=
  let h := s.shell shell
  if ¬ s.modeIn [.service, .readOnly] ∨ ¬ s.cpUp ∨ ¬ s.patrols shell ∨ h.rows ≤ row ∨ s.lostUnit shell seat ∨ 32 ≤ seat ∨
      seatUnits h.slc / 4 ≤ page then .next s
  else
    done <| (List.range 4).foldl (init := s.patrolled seat shell row page) fun s k =>
      let n := s.flash.nextCw
      (s.addCw { purpose := .patrol, crew := crewOf shell, seat := seat, shell := shell, row := row, slc := h.slc,
                 unit := 4 * page + k }).cwDecide n

/-! ### Divider, temperature (R302, R304) -/

/-- DIV_STEP (R302): DIV_CUR moves one step toward the largest of DIV_TARGET, DIV_MIN and the envelope's divider; on the Pacer
it does not move. -/
def execDivStep (lane : Nat) (s : State) : Host.Outcome State Fault Refusal :=
  let cur := s.f R.LN_STS_DIV_CUR lane
  let goal := max (max (s.f R.LN_CFG_DIV_TARGET lane) (s.f R.LN_STS_DIV_MIN lane)) s.pwr.divFloor
  if 32 ≤ lane ∨ ¬ ([2, 3, 4] : List Nat).contains (s.lstate lane) ∨ s.on R.LN_STS_PACER lane ∨ cur = goal then .next s
  else done (s.setF R.LN_STS_DIV_CUR (if goal < cur then cur - 1 else cur + 1) lane)

/-- A calibration word (LN_CDATA) of a target: as a retrain gave it, or what the last probe or recovery found, a FREE VALUE
(notes/assumptions/3); the bits that LN_CDATA marks rsvd read 0, as do the words of a target without a matched die. -/
def State.calWord (s : State) (l t w : Nat) : Nat :=
  let v := (s.lane l).cal.get (t * 16 + w)
  let free := ofBytes ((List.range 4).map fun k =>
    (Config.freeByte (2 ^ 91 + (((s.dram.power * 2 ^ 40 + (s.lane l).trained) * 32 + l) * 128 + t * 16 + w) * 4 + k)).toNat)
  let x := if v ≠ 0 then v - 1 else if (List.range 8).any fun u => (s.die (8 * t + u) l).matched then free else 0
  if w < 8 then x % 2 ^ 24 else if w = 8 then x % 2 ^ 32 else 0

/-- Mean of the lane's die readings, 1/16 °C. -/
def State.laneMean (s : State) (l : Nat) : Option Int :=
  let ts := (List.range 64).filterMap fun c =>
    let d := s.die c l
    if d.matched ∧ d.tempSample.isSome then some d.temp else none
  if ts.isEmpty then none else some (ts.foldl (· + ·) 0 / (ts.length : Int))

/-- The die that the lane's temperature round reads next (R304). -/
def State.tempDie (s : State) (l : Nat) : Option Nat :=
  let ok := fun c =>
    let d := s.die c l
    d.matched && !s.failedSeat c l && d.run.isNone && !d.easy && d.runNext == 0 && (s.recipe c l 7).isSome
  let n := (s.lane l).tempNext
  ((List.range 64).map fun i => (n + i) % 64).find? ok

/-- TEMP_READ_TIMER (R304): TEMP runs on the next die, and its Easy interval begins (R303); a mean that has moved RT_DELTA since the last training requests a
retrain (R305). -/
def execTempReadTimer (lane : Nat) (raw : Int) (s : State) : Host.Outcome State Fault Refusal :=
  if 32 ≤ lane ∨ s.lstate lane ≠ 2 then .next s
  else
    match s.tempDie lane with
    | none => .next s
    | some c =>
      let (off, gain) := match s.boot.image.recipes[(s.die c lane).set]? with
        | some r => (r.tempOff, r.tempGain)
        | none => (0, 0)
      let t := off + raw * gain / 16
      let s := s.modDie c lane fun d =>
        { d with temp := t, tempTb := s.clk.tb, tempSample := some s.gov.samples, easy := decide (0 < s.f R.LN_EASY_EASY lane) }
      let s := s.addF R.LN_OPS_RECIPES 1 lane
      let s := s.modLane lane fun x => { x with tempNext := (c + 1) % 64 }
      let s := if (s.lane lane).rtTemp.isSome then s else s.modLane lane fun x => { x with rtTemp := s.laneMean lane }
      let moved := match s.laneMean lane, (s.lane lane).rtTemp with
        | some m, some b => decide (16 * s.f R.LN_CFG_RT_DELTA lane ≤ (m - b).natAbs)
        | _, _ => false
      if moved && s.on R.LN_CFG_AUTO_RT lane && !s.on R.LN_RT_STS_PENDING lane then done (s.retrainRequest lane true) else done s

/-! ### Lane retrain and recovery (R305 to R308) -/

/-- RETRAIN_AGE_TIMER (R305): 3,600 s since the last training, with AUTO_RT. -/
def execRetrainAgeTimer (lane : Nat) (s : State) : Host.Outcome State Fault Refusal :=
  if 32 ≤ lane ∨ ¬ s.on R.LN_CFG_AUTO_RT lane ∨ s.lstate lane ≠ 2 then .next s else done (s.retrainRequest lane true)

/-- RETRAIN_RECHECK_TIMER (R305): a pending automatic request is checked again. -/
def execRetrainRecheckTimer (lane : Nat) (s : State) : Host.Outcome State Fault Refusal :=
  if 32 ≤ lane ∨ ¬ s.on R.LN_RT_STS_PENDING lane then .next s else done (s.retrainRequest lane true)

/-- LN_RETRAIN (R305): a write of 1 to RETRAIN. -/
def execLnRetrain (lane : Nat) (s : State) : Host.Outcome State Fault Refusal :=
  if 32 ≤ lane ∨ s.mode = .off then .next s else done (s.retrainRequest lane false)

/-- RETRAIN_TRAINING_DONE (R306, R307): steps 4 and 5. Bit t of `failed`: target t keeps its calibration; `cal`: 16 words for
each target in turn. -/
def execRetrainTrainingDone (lane failed : Nat) (cal : List Word) (s : State) : Host.Outcome State Fault Refusal :=
  if 32 ≤ lane ∨ s.lstate lane ≠ 3 then .next s
  else
    let part := (List.range 8).any fun t => bit failed t
    let tab := (cal.zipIdx).foldl (fun t (w, i) => if i < 128 ∧ ¬ bit failed (i / 16) then t.set i (w.toNat + 1) else t) (s.lane lane).cal
    let s := s.modLane lane fun x => { x with cal := tab, rtTemp := s.laneMean lane }
    let s := (s.setF R.LN_STS_LSTATE 2 lane).setF R.LN_RT_STS_ACTIVE 0 lane
    let s := (s.setF R.LN_RT_STS_RESULT (if part then 2 else 1) lane).addF R.LN_RT_CNT_RETRAINS 1 lane
    let s := s.putF R.LN_RT_STS_DURATION_US ((s.clk.tb - (s.lane lane).rtStart) / 1500) lane
    let s := s.raise R.LN_EVT_RT_DONE noP noP noP lane
    let s := if part then s.raise R.LN_EVT_RT_PARTIAL noP noP noP lane else s
    done ((List.range 64).foldl State.redecide s).quiesce

/-- LANE_RECOVERY_DONE (R308): an attempt ends; held recipes resume, or after three attempts the lane fails with its dies. -/
def execLaneRecoveryDone (lane : Nat) (ok : Bool) (s : State) : Host.Outcome State Fault Refusal :=
  if 32 ≤ lane ∨ s.lstate lane ≠ 4 then .next s
  else if ok then
    let s := (s.setF R.LN_STS_LSTATE 2 lane).raise R.LN_EVT_LANE_RECOVERED noP noP noP lane
    let s := (s.modLane lane fun x =>
      { x with attempts := 0, cal := [], trained := x.trained + 1, rtTemp := s.laneMean lane }).setF R.LN_RT_STS_ACTIVE 0 lane
    let s := s.each 64 fun s c =>
      match (s.die c lane).run with
      | some r =>
        if r.phase ≠ 4 then s
        else if s.overTime c lane r ∧ r.failed.isNone then s.noResponse c lane r
        else s.modDie c lane fun d => { d with run := some { r with phase := 0, tWait := s.clk.tb } }
      | none => s
    done ((List.range 64).foldl State.redecide s).afterRows
  else
    let s := s.modLane lane fun x => { x with attempts := x.attempts + 1 }
    if (s.lane lane).attempts < 3 then done s
    else
      let s := s.setF R.LN_STS_LSTATE 5 lane
      let s := s.each 64 fun s c => if (s.die c lane).matched ∧ ¬ s.failedSeat c lane then s.dieDead c lane else s
      done s.afterRows

/-- SH_FORCE_WRITE (R235): a write of EN 1 is ignored where R235 would refuse a retrain of the seat's lane, the crew is not
Healthy, or a retrain is in force; a force in effect on the same lane gives way to the new one. -/
def execShForceWrite (value : Word) (s : State) : Host.Outcome State Fault Refusal :=
  if s.mode = .off then .next s
  else
    let v := value.toNat
    let c := bitsOf v 0 6
    let k := bitsOf v 8 5
    if bit v 16 then
      let same := s.on R.SH_FORCE_EN ∧ s.f R.SH_FORCE_CREW = c ∧ s.f R.SH_FORCE_SEAT = k
      if same then done s
      else if (s.crew c).st ≠ 2 ∨ (List.range 32).any (fun l => s.on R.LN_RT_STS_ACTIVE l) ∨ s.retrainRefused k then
        done (s.raise R.SH_EVT_FORCE_REFUSED c k)
      else
        let old := s.f R.SH_FORCE_CREW
        let s := (((s.setF R.SH_FORCE_CREW c).setF R.SH_FORCE_SEAT k).setF R.SH_FORCE_EN 1).setF R.SH_FORCE_ACTIVE 0
        done (s.redecide old).forceCheck.afterRows
    else
      let old := s.f R.SH_FORCE_CREW
      let s := ((s.setF R.SH_FORCE_CREW c).setF R.SH_FORCE_SEAT k).setF R.SH_FORCE_EN 0
      done (((s.setF R.SH_FORCE_ACTIVE 0).redecide old).afterRows)

/-- BUSY_BUDGET_WRITE (R230): 1 or 2; 2 only for a Haul crew; other values are invalid encodings (R13). -/
def execBusyBudgetWrite (crew value : Nat) (s : State) (path : Path := .sideband) : Host.Outcome State Fault Refusal :=
  if s.mode = .off ∨ 64 ≤ crew then .next s
  else if value = 1 ∨ (value = 2 ∧ s.fmt crew = 3) then done (s.setF R.SH_CREW_BUSY_BUDGET value 0 crew)
  else done (s.invalidEnc (R.SH_CREW.at 0 crew) (value * 256) path)

/-! ### Self-test (R327) -/

/-- SELFTEST_START (R327): in Trial the tile runs its self-test; elsewhere the write is ignored. -/
def execSelftestStart (lane : Nat) (s : State) : Host.Outcome State Fault Refusal :=
  if 32 ≤ lane ∨ s.mode = .off then .next s
  else if s.mode ≠ .trial then done ((s.setF R.DC_ST_STS_RESULT 3 lane).raise R.DC_EVT_ST_REFUSED noP noP noP lane)
  else if s.on R.DC_ST_STS_ACTIVE lane then .next s
  else
    let args := [s.f R.DC_ST_CTL_CODE lane, s.f R.DC_ST_CTL_TIER lane, s.f R.DC_ST_CTL_ERRORS lane, s.f R.DC_ST_SEED_SEED lane,
      s.f R.DC_ST_CTL_COUNT lane]
    done ((s.modLane lane fun x => { x with selftest := args }).setF R.DC_ST_STS_ACTIVE 1 lane)

/-- SELFTEST_DONE (R327): FAILS and SIG of a sound tile (`fails` and `defect` 0) depend on what the test was started with alone (FREE
VALUES, notes/assumptions/78); a defect of the tile fails further codewords and changes SIG. RESULT is pass when FAILS is 0. -/
def execSelftestDone (lane fails defect : Nat) (s : State) : Host.Outcome State Fault Refusal :=
  if 32 ≤ lane ∨ ¬ s.on R.DC_ST_STS_ACTIVE lane then .next s
  else
    let args := (s.lane lane).selftest
    let count := (args[4]?).getD 1
    let fails := min count (Config.selftestFails args % (count + 1) + fails)
    let s := ((s.setF R.DC_ST_STS_ACTIVE 0 lane).setF R.DC_ST_STS_RESULT (if fails = 0 then 1 else 2) lane)
    let s := (s.putF R.DC_ST_STS_FAILS fails lane).setF R.DC_ST_SIG_SIG (Config.selftestSig (args ++ if defect = 0 then [] else [defect]) % 2 ^ 32) lane
    done (s.raise R.DC_EVT_ST_DONE noP noP noP lane)

end Sys2Proof.Machine
end

