-- ==== Sys2Proof/Machine/RegWrite.lean ====
section
/-! DEFINITION. RegWrite.lean: a write of a register's fields by their access codes (R10, R12 to R14). -/

namespace Sys2Proof.Machine

/-- The fields of a list that belong to a register. -/
def fieldsOf (fs : List R.Fld) (r : R.Reg) : List R.Fld := fs.filter fun F => F.reg == r

/-- One field takes its part of a written word by its access code (Table 00-3); WO and RWF fields are their registers' own. The
flag is set when the value is a reserved encoding: the field then keeps its value (R13). `keep`: fields that a rule holds. -/
def State.writeField (s : State) (F : R.Fld) (v i k : Nat) (path : Path) (keep : R.Fld → Nat → Bool) : State × Bool :=
  let x := bitsOf v F.lo F.w
  match F.acc with
  | .rw =>
    if !F.ok x || keep F x then (s, true)
    else if F.reg.banked then (s.setIdx path F x i, false) else (s.setF F x i k, false)
  | .w1c => if x = 0 then (s, false) else (s.setF F (s.f F i k &&& (2 ^ F.w - 1 - x)) i k, false)
  | .w1s => (s.setF F (s.f F i k ||| x) i k, false)
  | _ => (s, false)

/-- A word is written to the fields of a register; one invalid-encoding event for a write that places a reserved encoding (R13). -/
def State.writeReg (s : State) (fs : List R.Fld) (i k : Nat) (v : Nat) (path : Path)
    (keep : R.Fld → Nat → Bool := fun _ _ => false) : State :=
  let r := fs.foldl (fun (acc : State × Bool) F =>
    let (t, bad) := acc.1.writeField F v i k path keep
    (t, acc.2 || bad)) (s, false)
  match fs with
  | F :: _ => if r.2 then r.1.invalidEnc (F.reg.at i k) v path else r.1
  | [] => r.1

/-- The word that the fields of a register hold. -/
def State.wordOf (s : State) (fs : List R.Fld) (i k : Nat) (path : Path) : Nat :=
  fs.foldl (fun a F =>
    if F.acc = .wo then a
    else a + (if F.reg.banked then s.idxF path F i else s.f F i k) * 2 ^ F.lo) 0

end Sys2Proof.Machine
end

