-- ==== Sys2Proof/Machine/Dram.lean ====
section
/-! DEFINITION. Dram.lean: DRAM addressing, the chip-loss code, poison, valid regions, the scheduler, marks, remap, scrub and
patrol, retrain windows, training and the line buffer (12). -/

namespace Sys2Proof.Machine

/-! ### The field and the code (R335) -/

/-- The check symbols of 16 data symbols: the remainder by the generator with roots α^0 to α^3; symbol 0 is the highest power. -/
def checkSyms (d : List Nat) : List Nat :=
  let r := d.foldl (fun (r : Nat × Nat × Nat × Nat) x =>
    let f := x ^^^ r.1
    (r.2.1 ^^^ gmul f 15, r.2.2.1 ^^^ gmul f 54, r.2.2.2 ^^^ gmul f 120, gmul f 64)) (0, 0, 0, 0)
  [r.1, r.2.1, r.2.2.1, r.2.2.2]

/-- Data symbols of codeword i of a line. -/
def dataSyms (v i : Nat) : List Nat := (List.range 16).map fun s => lineByte v (16 * i + s)
/-- Check symbols of codeword i as stored: bytes 128 + 4i on (R356, "32 check bytes in symbol order"). -/
def storedChecks (v i : Nat) : List Nat := (List.range 4).map fun s => lineByte v (128 + 4 * i + s)

/-- The low 128 bytes of a line. -/
def lineData (v : Nat) : Nat := v % 2 ^ 1024

/-- A line of 160 bytes with computed check symbols; with poison they are XORed with 0xFF (R342). -/
def encodeLine (data : Nat) (poison : Bool) : Nat :=
  let c := (List.range 8).flatMap fun i => (checkSyms (dataSyms data i)).map fun x => if poison then x ^^^ 0xFF else x
  lineData data + ofBytes c * 2 ^ 1024

/-- The syndromes S0 to S3 of 20 symbols. -/
def syndromes (r : List Nat) : List Nat := (List.range 4).map fun j => r.foldl (fun a x => gmul a (alpha j) ^^^ x) 0

/-- The locator of symbol s: α^(19 − s). -/
def locator (s : Nat) : Nat := alpha (19 - s)

/-- The values of errors at two symbols that S0 and S1 give. -/
def solve2 (s0 s1 x1 x2 : Nat) : Nat × Nat :=
  let e1 := gmul (s1 ^^^ gmul s0 x2) (ginv (x1 ^^^ x2))
  (e1, s0 ^^^ e1)

/-- The error values (symbol, value) of a codeword (R336), of at most one device, or with a device marked of that device and one
further symbol; none: uncorrectable. -/
def decodeWord (mark : Option Nat) (r : List Nat) : Option (List (Nat × Nat)) :=
  let s := syndromes r
  let at_ := fun i => (s[i]?).getD 0
  if s.all (· = 0) then some []
  else
    match mark with
    | none =>
      (List.range 10).findSome? fun d =>
        let x1 := locator (2 * d)
        let x2 := locator (2 * d + 1)
        let (e1, e2) := solve2 (at_ 0) (at_ 1) x1 x2
        let q1 := gmul x1 x1
        let q2 := gmul x2 x2
        if at_ 2 = gmul e1 q1 ^^^ gmul e2 q2 ∧ at_ 3 = gmul e1 (gmul q1 x1) ^^^ gmul e2 (gmul q2 x2) then
          some ([(2 * d, e1), (2 * d + 1, e2)].filter fun e => e.2 ≠ 0)
        else none
    | some m =>
      let x1 := locator (2 * m)
      let x2 := locator (2 * m + 1)
      let sum := x1 ^^^ x2
      let prod := gmul x1 x2
      let t0 := at_ 2 ^^^ gmul (at_ 1) sum ^^^ gmul (at_ 0) prod
      let t1 := at_ 3 ^^^ gmul (at_ 2) sum ^^^ gmul (at_ 1) prod
      if t0 = 0 ∧ t1 = 0 then
        let (e1, e2) := solve2 (at_ 0) (at_ 1) x1 x2
        some ([(2 * m, e1), (2 * m + 1, e2)].filter fun e => e.2 ≠ 0)
      else
        (List.range 20).findSome? fun q =>
          let xq := locator q
          if q / 2 = m ∨ t0 = 0 ∨ t1 ≠ gmul xq t0 then none
          else
            let e := gmul t0 (ginv (gmul (xq ^^^ x1) (xq ^^^ x2)))
            let (e1, e2) := solve2 (at_ 0 ^^^ e) (at_ 1 ^^^ gmul e xq) x1 x2
            some ([(2 * m, e1), (2 * m + 1, e2), (q, e)].filter fun e => e.2 ≠ 0)

/-- What a read of a line finds (R336). -/
structure LineRes where
  poison : Bool := false
  uncorr : Bool := false
  /-- 128 data bytes, corrected. -/
  data : Nat := 0
  /-- Bit d: device d held a corrected symbol. -/
  devs : Nat := 0
deriving DecidableEq, Repr, Inhabited

/-- The line carries the poison signature: all eight codewords are valid after the XOR (R342). -/
def isPoison (v : Nat) : Bool :=
  (List.range 8).all fun i => (storedChecks v i).map (· ^^^ 0xFF) == checkSyms (dataSyms v i)

/-- A line is tested for poison and decoded (R336). -/
def decodeLine (mark : Option Nat) (v : Nat) : LineRes :=
  if isPoison v then { poison := true, data := lineData v }
  else
    (List.range 8).foldl (fun (a : LineRes) i =>
      match decodeWord mark (dataSyms v i ++ storedChecks v i) with
      | none => { a with uncorr := true }
      | some es =>
        es.foldl (fun (a : LineRes) (q, e) =>
          { a with data := if q < 16 then a.data ^^^ (e <<< (8 * (16 * i + q))) else a.data, devs := setBit a.devs (q / 2) true }) a)
      { data := lineData v }

/-! ### Addressing (R332 to R334) -/

/-- Populated channels. -/
def State.nch (s : State) : Nat := 2 ^ s.f R.DR_GCFG_WIDTH

/-- GRAIN, bytes. -/
def State.grain (s : State) : Nat := 256 * 2 ^ s.f R.DR_GCFG_GRAIN_EXP

/-- Data capacity, bytes. -/
def State.dramCap (s : State) : Nat := s.f R.DR_GCFG_CAP_GIB * 2 ^ 30

/-- Channel and channel line of a data address (R332). -/
def State.dramAt (s : State) (x : Nat) : Nat × Nat :=
  let chunk := x / s.grain
  (chunk % s.nch, ((chunk / s.nch) * s.grain + x % s.grain) / 128)

/-- The data address of a channel line. -/
def State.dramAddr (s : State) (ch line : Nat) : Nat :=
  let a := 128 * line
  (a / s.grain * s.nch + ch) * s.grain + a % s.grain

/-- The test window (R334). -/
def State.inTest (s : State) (x : Nat) : Bool := decide (s.dramCap ≤ x + 2 ^ 20 ∧ x < s.dramCap)

/-- Rank, bank group, bank, row and line in row of a channel line (Table 12-2). -/
def State.dramRow (s : State) (a : Nat) : Nat × Nat × Nat × Nat × Nat :=
  let row := if s.on R.DR_GCFG_DENSITY then bitsOf a 11 17 else bitsOf a 11 16
  let rank := if !s.on R.DR_GCFG_DENSITY && s.on R.DR_GCFG_RANKS then bitsOf a 27 1 else 0
  (rank, bitsOf a 1 3, bitsOf a 9 2, row, bitsOf a 4 5 * 2 + a % 2)

/-- Word 0 of a remap entry for a row, VALID apart. -/
def rowWord (p : Nat × Nat × Nat × Nat × Nat) : Nat := p.1 * 4 + p.2.1 * 8 + p.2.2.1 * 64 + p.2.2.2.1 * 256

/-! ### Channels and lines -/

abbrev State.chan (s : State) (c : Nat) : Channel := s.dram.chans.get c
def State.modChan (s : State) (c : Nat) (f : Channel → Channel) : State := { s with dram.chans := s.dram.chans.mod c f }

/-- CSTATE of a channel: 0 Unpopulated, 1 Off, 2 Training, 3 Ready, 4 Retrain window, 5 Self-refresh, 6 Failed. -/
def State.cstate (s : State) (c : Nat) : Nat := s.f R.DR_STS_CSTATE c

/-- The channel's marked device. -/
def State.markOf (s : State) (c : Nat) : Option Nat :=
  if s.on R.DR_STS_MARK_VALID c then some (s.f R.DR_STS_MARK_DEV c) else none

/-- A remap entry (VALID) covers a line (R349). -/
def State.covers (s : State) (entry a : Nat) : Bool :=
  let w0 := entry % 2 ^ 32
  let p := s.dramRow a
  bit w0 0 && w0 % 2 ^ 25 / 4 == rowWord p / 4 && (!bit w0 1 || (entry >>> 32) % 64 == p.2.2.2.2)

/-- The line is served from the remap store (R349). -/
def State.remapped (s : State) (c a : Nat) : Bool := (s.chan c).remap.any fun (_, e) => s.covers e a

/-- What a line holds that nothing has written since power-up: a FREE VALUE (notes/assumptions/3). -/
def freeLine (power c a : Nat) : Nat :=
  ofBytes ((List.range 160).map fun k => (Config.freeByte (((power * 4 + c) * 2 ^ 28 + a) * 160 + k)).toNat)

/-- The 160 bytes of a channel line, from the devices or the remap store. -/
def State.rawLine (s : State) (c a : Nat) : Nat :=
  let v := if s.remapped c a then (s.chan c).store.get a else (s.chan c).lines.get a
  if v = 0 then freeLine s.dram.power c a else v - 1

/-- The 160 bytes stored. -/
def State.setLine (s : State) (c a v : Nat) : State :=
  if s.remapped c a then s.modChan c fun x => { x with store := x.store.set a (v + 1) }
  else s.modChan c fun x => { x with lines := x.lines.set a (v + 1) }

/-! ### Marks (R338) -/

/-- A mark request; a second one is refused. -/
def State.markDev (s : State) (c d : Nat) (record : Bool) : State :=
  if s.on R.DR_STS_MARK_VALID c then s.raise R.DR_EVT_MARK_REFUSED d noP noP c
  else
    let s := ((s.setF R.DR_STS_MARK_VALID 1 c).setF R.DR_STS_MARK_DEV d c).raise R.DR_EVT_DEV_MARKED d noP noP c
    if record then { s with per.marks := s.per.marks.set c (d + 1) }.recordCfg 6 c [d + 1] else s

/-- The count of device d rises (R337); at MARK_THR the device is marked, where none is (R338). -/
def State.devCount (s : State) (c d : Nat) : State :=
  let F := if d % 2 = 0 then R.DR_DEVCE_CE_EVEN else R.DR_DEVCE_CE_ODD
  let s := s.addF F 1 c (d / 2)
  let thr := s.f R.DR_MARK_MARK_THR c
  if thr ≠ 0 ∧ s.f F c (d / 2) = thr then s.markDev c d true else s

/-- The data address in an event: its low 32 bits (DESIGN CHOICE, notes/assumptions/22). -/
def State.addrP (s : State) (c a : Nat) : Nat := s.dramAddr c a % 2 ^ 32

/-- The row in an event: as word 0 of a remap entry (DESIGN CHOICE, notes/assumptions/22). -/
def State.rowP (s : State) (a : Nat) : Nat := rowWord (s.dramRow a)

/-- The counts and events of a read that was corrected or not correctable (R336, R337). -/
def State.countRead (s : State) (c a : Nat) (r : LineRes) : State :=
  if r.uncorr then
    (s.addF R.DR_ECC_UNCORR 1 c).raise R.DR_EVT_UNCORR (s.addrP c a) (s.rowP a) noP c
  else if r.devs ≠ 0 then
    let s := s.addF R.DR_ECC_CORRECTED 1 c
    let ds := (List.range 10).filter fun d => bit r.devs d
    let s := s.raiseLimited (2 ^ 29 + c) R.DR_EVT_CORRECTED ((ds.head?).getD noP) (s.addrP c a) (s.rowP a) c
    ds.foldl (fun s d => s.devCount c d) s
  else s

/-! ### Valid regions (R339, R340) -/

/-- The region of a data address has its bit set. -/
def State.validAt (s : State) (x : Nat) : Bool := s.dram.valid.get (x / 4096)

/-- The bits set (DR_VRCNT). -/
def State.validSync (s : State) : State := s.setF R.DR_VRCNT_VALID_REGIONS s.dram.valid.length

/-- The region of x is filled with zeros, if its bit is 0 (R340). -/
def State.fillRegion (s : State) (x : Nat) : State :=
  let r := x / 4096
  if s.dram.valid.get r then s
  else
    let s := (List.range 32).foldl (fun (s : State) k =>
      let (c, a) := s.dramAt (4096 * r + 128 * k)
      s.setLine c a 0) s
    { s with dram.valid := s.dram.valid.set r true }.validSync

/-- A write reaches the channel: it cancels write-backs of its line, and one that a read still to be checked would ask for. -/
def State.overwrite (s : State) (c a : Nat) : State :=
  s.modChan c fun x => { x with
    queue := x.queue.filter fun w => !(w.back && w.req.line == a),
    reads := x.reads.map fun r => if r.line = a then { r with wr := true } else r }

/-- A write of data bytes from a byte on (R340, R342, R346): of a whole line, or a read-modify-write. -/
def State.writeLine (s : State) (c a byte : Nat) (data : List Nat) : State :=
  let s := s.fillRegion (s.dramAddr c a)
  let d := data.take (128 - byte)
  if byte = 0 ∧ d.length = 128 then s.setLine c a (encodeLine (ofBytes d) false)
  else
    let r := decodeLine (s.markOf c) (s.rawLine c a)
    if r.poison then s.raise R.DR_EVT_POISON_RMW (s.addrP c a) (s.rowP a) noP c
    else
      let s := s.countRead c a r
      if r.uncorr then (s.setLine c a (encodeLine r.data true)).raise R.DR_EVT_POISON_RMW (s.addrP c a) (s.rowP a) noP c
      else
        let old := (List.range 128).map fun k => if byte ≤ k ∧ k < byte + d.length then (d[k - byte]?).getD 0 else lineByte r.data k
        s.setLine c a (encodeLine (ofBytes old) false)

/-! ### The scheduler (R345, R346) -/

/-- The age limit of a class, ticks (DR_AGE). -/
def State.ageLimit (s : State) (c cls : Nat) : Nat :=
  150 * (match cls with
    | 0 => s.f R.DR_AGE_AGE_0 c
    | 1 => s.f R.DR_AGE_AGE_1 c
    | 2 => s.f R.DR_AGE_AGE_2 c
    | _ => s.f R.DR_AGE_AGE_3 c)

/-- a goes before b, where a is the older: unless b is promoted and a is not, or b's class is higher (R345). -/
def schedLe (a b : DrWait) : Bool :=
  if a.promoted then true else if b.promoted then false else decide (a.req.cls ≤ b.req.cls)

/-- The request that the scheduler issues next. -/
def bestWait : List DrWait → Option DrWait
  | [] => none
  | w :: r =>
    match bestWait r with
    | some b => if schedLe w b then some w else some b
    | none => some w

/-- A request is carried out: a write takes effect; a read of a line whose region is clear returns zeros without a DRAM command
(R339), another is issued and checked by DRAM_READ_COMPLETE. -/
def State.perform (s : State) (c : Nat) (w : DrWait) : State :=
  match w.req.data with
  | some d =>
    let s := s.modChan c fun x => { x with reads := x.reads.map fun r => if r.line = w.req.line then { r with wr := true } else r }
    s.writeLine c w.req.line w.req.byte (d.map BitVec.toNat)
  | none =>
    if s.validAt (s.dramAddr c w.req.line) then
      let raw := s.rawLine c w.req.line
      s.modChan c fun x => { x with reads := x.reads ++ [{ line := w.req.line, cls := w.req.cls, raw := raw }] }
    else s

/-- Requests to one line are carried out in their order; a read behind a write is served from it, without a DRAM access (R346). -/
def State.performAll (s : State) (c : Nat) (l : List DrWait) : State :=
  (l.foldl (fun (a : Bool × State) w =>
    if w.req.data.isSome then (true, a.2.perform c w) else (a.1, if a.1 then a.2 else a.2.perform c w)) (false, s)).2

/-- Requests that have waited past the limit of their class are promoted (R345). -/
def State.promote (s : State) (c : Nat) : State :=
  let age := fun (w : DrWait) => if s.ageLimit c w.req.cls < s.clk.tb - w.tIn then { w with promoted := true } else w
  s.modChan c fun x => { x with queue := x.queue.map age }

/-- The scheduler issues its next request, after the older ones to the same line (R346). -/
def State.schedule (s : State) (c : Nat) : State :=
  let s := s.promote c
  let q := (s.chan c).queue
  match bestWait q with
  | none => s
  | some b =>
    let i := q.findIdx (· == b)
    let older := (q.take i).filter fun w => w.req.line == b.req.line
    let keep := (q.take i).filter (fun w => w.req.line != b.req.line) ++ q.drop (i + 1)
    (s.modChan c fun x => { x with queue := keep }).performAll c (older ++ [b])

/-- The requests to a line that the channel accepted before go first (R346). -/
def State.lineUp (s : State) (c a : Nat) : State :=
  let q := (s.chan c).queue
  (s.modChan c fun x => { x with queue := q.filter fun w => w.req.line != a }).performAll c (q.filter fun w => w.req.line == a)

/-- Writes that a channel holds (R346). -/
def State.heldWrites (s : State) (c : Nat) : Nat := (s.chan c).queue.countP fun w => w.req.data.isSome

/-- DRAM_REQUEST_ISSUE (R345): the request is handed to the scheduler, where it is not waiting there already, and the scheduler
of a Ready channel issues one. A write is not accepted while the channel holds 64 (R346). -/
def execDramRequestIssue (ch : Nat) (req : DramReq) (s : State) : Host.Outcome State Fault Refusal :=
  if 4 ≤ ch ∨ ¬ ([3, 4, 5] : List Nat).contains (s.cstate ch) ∨ s.dramCap ≤ s.dramAddr ch req.line ∨ 128 ≤ req.byte then .next s
  else
    let known := (s.chan ch).queue.any fun w => w.req == req
    let s := if known ∨ (req.data.isSome ∧ 64 ≤ s.heldWrites ch) then s
      else
        let s := if req.data.isSome then s.overwrite ch req.line else s
        s.modChan ch fun x => { x with queue := x.queue ++ [{ req := req, tIn := s.clk.tb }] }
    done (if s.cstate ch = 3 then s.schedule ch else s)

/-- DRAM_AGE_PROMOTE (R345): requests that have waited past the limit of their class are promoted. -/
def execDramAgePromote (ch : Nat) (s : State) : Host.Outcome State Fault Refusal :=
  if 4 ≤ ch then .next s else done (s.promote ch)

/-- A read is checked (R336, R337, R343): counted, written back where it was corrected and no device is marked; poison is used by
the consumers of classes 0 to 2, and a table line (class 1) is then rebuilt from its Tally copy. -/
def State.readDone (s : State) (c : Nat) (rd : DrRead) : State :=
  let r := decodeLine (s.markOf c) rd.raw
  let s := s.countRead c rd.line r
  if r.poison || r.uncorr then
    if rd.cls = 3 then s
    else
      let s := s.raise R.DR_EVT_POISON_USED (s.addrP c rd.line) (s.rowP rd.line) noP c
      if rd.cls = 1 ∧ ¬ rd.wr then
        let (d, s) := s.drawGarbage
        s.setLine c rd.line (encodeLine d false)
      else s
  else if r.devs ≠ 0 ∧ (s.markOf c).isNone ∧ ¬ rd.wr then
    let data := (List.range 128).map fun k => BitVec.ofNat 8 (lineByte r.data k)
    s.modChan c fun x => { x with
      queue := x.queue ++ [{ req := { cls := 3, line := rd.line, byte := 0, data := some data }, tIn := s.clk.tb, back := true }] }
  else s

/-- DRAM_READ_COMPLETE (R336): the channel's oldest issued read is checked; `flip`: the bits of the line in which the devices' answer
differs from what is stored. -/
def execDramReadComplete (ch flip : Nat) (s : State) : Host.Outcome State Fault Refusal :=
  match (s.chan ch).reads with
  | [] => .next s
  | r :: rest => done ((s.modChan ch fun x => { x with reads := rest }).readDone ch { r with raw := r.raw ^^^ flip })

/-! ### Marks, refresh, windows -/

/-- DR_MARK (R338): MARK with DEV; devices 10 to 15 are reserved, and DEV then keeps its value (R13). -/
def execDrMark (ch dev : Nat) (s : State) (path : Path := .sideband) : Host.Outcome State Fault Refusal :=
  if ¬ s.up ∨ 4 ≤ ch then .next s
  else
    let s := s.writeReg [R.DR_MARK_DEV] ch 0 (dev % 16 + 16) path
    done (s.markDev ch (s.f R.DR_MARK_DEV ch) true)

/-- DR_CLEAR (R338). -/
def execDrClear (ch : Nat) (s : State) : Host.Outcome State Fault Refusal :=
  if ¬ s.up ∨ 4 ≤ ch then .next s
  else if s.on R.DR_STS_MARK_VALID ch then
    let s := (s.setF R.DR_STS_MARK_VALID 0 ch).setF R.DR_STS_MARK_DEV 0 ch
    done ({ s with per.marks := s.per.marks.set ch 0 }.recordCfg 6 ch [0])
  else .next s

/-- The channel is powered and out of self-refresh. -/
def State.dramRuns (s : State) (c : Nat) : Bool := s.cstate c == 3 || s.cstate c == 4

/-- DRAM_REFRESH (R347): a same-bank refresh. -/
def execDramRefresh (ch : Nat) (s : State) : Host.Outcome State Fault Refusal :=
  if s.dramRuns ch then done (s.modChan ch fun x => { x with refreshes := x.refreshes + 1 }) else .next s

/-- DRAM_MR4_POLL (R347): MR4 of the channel's devices sets the refresh rate. -/
def execDramMr4Poll (ch : Nat) (doubled : Bool) (s : State) : Host.Outcome State Fault Refusal :=
  if s.dramRuns ch then done (s.modChan ch fun x => { x with doubled := doubled }) else .next s

/-- DRAM_RETRAIN_WINDOW (R348): the window opens in a mode that has them, with no other channel's window open; a promoted class 0
request is issued first. -/
def execDramRetrainWindow (ch : Nat) (s : State) : Host.Outcome State Fault Refusal :=
  if 4 ≤ ch ∨ ¬ s.modeIn [.service, .readOnly, .rebuild, .sanitize] ∨ ¬ s.on R.DR_RTCFG_RT_EN ∨ s.cstate ch ≠ 3 ∨
      (List.range 4).any (fun c => s.cstate c == 4) then .next s
  else
    let hot := (s.chan ch).queue.any fun w => w.promoted && w.req.cls == 0
    let s := if hot then
        (s.chan ch).queue.foldl (fun (s : State) _ =>
          if (s.chan ch).queue.any (fun w => w.promoted && w.req.cls == 0) then s.schedule ch else s) s
      else s
    done (s.setF R.DR_STS_CSTATE 4 ch)

/-- DRAM_ALERT_N (R462): the input is asserted by the devices; the manual gives it no further effect. -/
def execDramAlertN (ch : Nat) (s : State) : Host.Outcome State Fault Refusal :=
  if ¬ s.up ∨ 4 ≤ ch then .next s else done (s.modChan ch fun x => { x with alerts := x.alerts + 1 })

/-! ### Remap (R349, R350) -/

/-- A range of rows or lines that an entry covers, as channel lines. -/
def State.entryLines (s : State) (e : Nat) : List Nat :=
  let w0 := e % 2 ^ 32
  let base := bitsOf w0 3 3 * 2 + bitsOf w0 6 2 * 2 ^ 9 + bitsOf w0 8 17 * 2 ^ 11 +
    (if !s.on R.DR_GCFG_DENSITY then bitsOf w0 2 1 * 2 ^ 27 else 0)
  let at_ := fun l => base + l % 2 + (l / 2) * 16
  if bit w0 1 then [at_ ((e >>> 32) % 64)] else (List.range 64).map at_

/-- Two entries cover a common line. -/
def entriesMeet (a b : Nat) : Bool :=
  bit a 0 && bit b 0 && a % 2 ^ 25 / 4 == b % 2 ^ 25 / 4 && (!bit a 1 || !bit b 1 || (a >>> 32) % 64 == (b >>> 32) % 64)

/-- A line as a copy leaves it: zeros where its region's bit is 0 (R339), else corrected; poisoned, or with poison where it is not correctable (R343, R350). -/
def State.copyLine (s : State) (c a : Nat) : Nat × State :=
  let s := s.lineUp c a
  let v := if s.validAt (s.dramAddr c a) then s.rawLine c a else encodeLine 0 false
  let r := decodeLine (s.markOf c) v
  (if r.poison then v else encodeLine r.data r.uncorr, s.countRead c a r)

/-- An entry is put in force: its lines are copied into the store. -/
def State.remapPut (s : State) (c i e : Nat) : State :=
  let s := (s.entryLines e).foldl (fun (s : State) a =>
    let (v, s) := s.copyLine c a
    s.modChan c fun x => { x with store := x.store.set a (v + 1) }) s
  s.modChan c fun x => { x with remap := x.remap.set i e }

/-- A command of the line buffer or of the remap store waits, busy, while its channel's clock is stopped or a retrain window is
open (R348, R375). -/
def State.drHold (s : State) (h : DrHeld) : State :=
  if s.cstate h.ch = 4 ∨ s.cstate h.ch = 5 then { s with dram.held := s.dram.held ++ [h] } else s

/-- An install acts (R350): refused when it overlaps or the entry is taken. -/
def State.remapIn (s : State) (ch i e : Nat) : State :=
  if (s.chan ch).remap.get i ≠ 0 ∨ (s.chan ch).remap.any (fun (_, o) => entriesMeet o e) then
    (s.setF R.DR_RMCMD_RESULT 1 ch).raise R.DR_EVT_REMAP_FULL (e % 2 ^ 25) noP noP ch
  else
    let s := (s.remapPut ch i e).setF R.DR_RMCMD_RESULT 0 ch
    { s with per.remaps := s.per.remaps.set (ch * 16 + i) e }.recordCfg 7 (ch * 16 + i) [e % 2 ^ 32, e / 2 ^ 32]

/-- A removal acts (R350): the lines are copied back, and the entry is free. -/
def State.remapOut (s : State) (ch i : Nat) : State :=
  let e := (s.chan ch).remap.get i
  if e = 0 then s.setF R.DR_RMCMD_RESULT 0 ch
  else
    let s := (s.entryLines e).foldl (fun (s : State) a =>
      let v := (s.chan ch).store.get a
      s.modChan ch fun x => { x with store := x.store.set a 0, lines := x.lines.set a v }) s
    let s := (s.modChan ch fun x => { x with remap := x.remap.set i 0 }).setF R.DR_RMCMD_RESULT 0 ch
    { s with per.remaps := s.per.remaps.set (ch * 16 + i) 0 }.recordCfg 7 (ch * 16 + i) [0, 0]

/-- REMAP_INSTALL (R350): the staging copy at ENTRY; busy while the channel does not accept requests. -/
def execRemapInstall (path : Path) (ch : Nat) (s : State) : Host.Outcome State Fault Refusal :=
  if ¬ s.up ∨ 4 ≤ ch then .next s
  else
    let i := s.idxF path R.DR_RMIDX_ENTRY ch
    let x := s.chan ch
    let e := x.rmStage.get (2 * i) % 2 ^ 25 / 2 * 2 + 1 + x.rmStage.get (2 * i + 1) % 64 * 2 ^ 32
    if s.cstate ch ≠ 3 then done ((s.drHold ⟨ch, 7, i, e⟩).setF R.DR_RMCMD_RESULT 2 ch)
    else done (s.remapIn ch i e)

/-- REMAP_REMOVE (R350): the lines are copied back, and the entry is free; busy while the channel does not accept requests. -/
def execRemapRemove (path : Path) (ch : Nat) (s : State) : Host.Outcome State Fault Refusal :=
  if ¬ s.up ∨ 4 ≤ ch then .next s
  else
    let i := s.idxF path R.DR_RMIDX_ENTRY ch
    if s.cstate ch ≠ 3 then done ((s.drHold ⟨ch, 8, i, 0⟩).setF R.DR_RMCMD_RESULT 2 ch)
    else done (s.remapOut ch i)

/-! ### Scrub and patrol (R344, R351, R352) -/

/-- One line is read at class 3 by a scrub or the patrol: corrected and written back (R337), or written with poison (R344). -/
def State.scrubRead (s : State) (c a : Nat) (flip : Nat := 0) : LineRes × State :=
  let s := s.lineUp c a
  let r := decodeLine (s.markOf c) (s.rawLine c a ^^^ flip)
  let s := s.countRead c a r
  let s := if r.uncorr then s.setLine c a (encodeLine r.data true)
    else if r.devs ≠ 0 ∧ (s.markOf c).isNone then s.setLine c a (encodeLine r.data false) else s
  (r, s)

/-- The first failing address of a scrub (Table 12-5). -/
def State.firstFail (s : State) (x : Nat) : State :=
  if s.f R.DR_SCR_FAIL_LO_FAIL_LO = 0xFFFFFFFF ∧ s.f R.DR_SCR_FAIL_HI_FAIL_HI = 0xFFFFFFFF then
    (s.setF R.DR_SCR_FAIL_LO_FAIL_LO (x % 2 ^ 32)).setF R.DR_SCR_FAIL_HI_FAIL_HI (x / 2 ^ 32)
  else s

/-- A line of a row needed correction on an unmarked device: the second one makes the row a remap candidate (R351). -/
def State.candidate (s : State) (c a devs : Nat) : State :=
  let other := (List.range 10).any fun d => bit devs d && s.markOf c != some d
  if ¬ other then s
  else
    let p := s.dramRow a
    let k := rowWord p
    let n := (s.chan c).scrRows.get k + 1
    let s := s.modChan c fun x => { x with scrRows := x.scrRows.set k n }
    if n = 2 then (s.addF R.DR_SCR_SUM1_CANDIDATES).raise R.DR_EVT_CANDIDATE p.1 (p.2.1 + 8 * p.2.2.1) p.2.2.2.1 c else s

/-- The scrub ends with its summary (R351). -/
def State.scrubEnd (s : State) : State :=
  ((s.setF R.DR_SCR_CTL_ACTIVE 0).setF R.DR_SCR_CTL_PAUSED 0).raise R.DR_EVT_SCRUB_DONE

/-- SCRUB_START (R351): ignored while a scrub runs, and in a mode that runs none. -/
def execScrubStart (s : State) : Host.Outcome State Fault Refusal :=
  if ¬ s.modeIn [.service, .readOnly, .sanitize] ∨ s.on R.DR_SCR_CTL_ACTIVE ∨ s.f R.DR_SCR_LEN_SCR_LEN = 0 then .next s
  else
    let b := s.f R.DR_SCR_START_SCR_START
    let e := min (b + s.f R.DR_SCR_LEN_SCR_LEN) (s.dramCap / 4096)
    let s := { s with dram.scrPos := 32 * b, dram.scrEnd := e, dram.scrSkip := 0 }
    let s := s.each 4 fun s c => s.modChan c fun x => { x with scrRows := [] }
    let s := [R.DR_SCR_SUM0_CORRECTED, R.DR_SCR_SUM0_UNCORR, R.DR_SCR_SUM1_CANDIDATES, R.DR_SCR_SUM1_POISONED,
      R.DR_SCR_SUM1_SKIPPED_K].foldl (fun s F => s.setF F 0) s
    let s := (s.setF R.DR_SCR_FAIL_LO_FAIL_LO 0xFFFFFFFF).setF R.DR_SCR_FAIL_HI_FAIL_HI 0xFFFFFFFF
    done ((s.setF R.DR_SCR_CTL_ACTIVE 1).setF R.DR_SCR_CTL_PAUSED 0)

/-- SCRUB_STOP (R351): the scrub ends at the current line with a partial summary. -/
def execScrubStop (s : State) : Host.Outcome State Fault Refusal :=
  if s.up ∧ s.on R.DR_SCR_CTL_ACTIVE then done s.scrubEnd else .next s

/-- The next valid region at or after r, below e. -/
def State.nextValid (s : State) (r e : Nat) : Nat :=
  match s.dram.valid.find? fun (k, _) => decide (r ≤ k) with
  | some (k, _) => min k e
  | none => e

/-- SCRUB_LINE (R351): the next line of the next valid region is read; regions whose bit is 0 count as skipped. `flip`
as for a read. -/
def execScrubLine (flip : Nat) (s : State) : Host.Outcome State Fault Refusal :=
  if ¬ s.modeIn [.service, .readOnly, .sanitize] ∨ ¬ s.on R.DR_SCR_CTL_ACTIVE ∨ s.on R.DR_SCR_CTL_PAUSED ∨ s.clk.stopped then .next s
  else
    let r := s.dram.scrPos / 32
    let e := s.dram.scrEnd
    let v := if s.dram.scrPos % 32 = 0 then s.nextValid r e else r
    let skip := s.dram.scrSkip + (v - r)
    let s := ({ s with dram.scrSkip := skip }).putF R.DR_SCR_SUM1_SKIPPED_K (skip / 1024)
    if e ≤ v then done s.scrubEnd
    else
      let k := if v = r then s.dram.scrPos % 32 else 0
      let x := 4096 * v + 128 * k
      let (c, a) := s.dramAt x
      if s.cstate c ≠ 3 then .next s
      else
        let (res, s) := s.scrubRead c a flip
        let s := if res.poison then (s.addF R.DR_SCR_SUM1_POISONED).firstFail x
          else if res.uncorr then (s.addF R.DR_SCR_SUM0_UNCORR).firstFail x
          else if res.devs ≠ 0 then (s.addF R.DR_SCR_SUM0_CORRECTED).candidate c a res.devs
          else s
        let s := { s with dram.scrPos := 32 * v + k + 1 }
        done (if e * 32 ≤ s.dram.scrPos then s.scrubEnd else s)

/-- DRAM_PATROL_STEP (R352): the next region is filled or scrubbed while its channels are idle; the end of a lap is reported. -/
def execDramPatrolStep (s : State) : Host.Outcome State Fault Refusal :=
  let n := s.dramCap / 4096
  let idle := (List.range 32).all fun k =>
    let c := (s.dramAt (4096 * (s.dram.patPos % n) + 128 * k)).1
    s.cstate c == 3 && (s.chan c).queue.isEmpty
  if ¬ s.modeIn [.discovery, .rebuild, .trial] ∨ ¬ idle ∨ n = 0 ∨ s.clk.stopped then .next s
  else
    let r := s.dram.patPos % n
    let s := if r = 0 then { s with dram.patStart := s.clk.tb } else s
    let s := if s.dram.valid.get r then
        (List.range 32).foldl (fun (s : State) k =>
          let (c, a) := s.dramAt (4096 * r + 128 * k)
          (s.scrubRead c a).2) s
      else s.fillRegion (4096 * r)
    if r + 1 = n then
      let s := (s.putF R.DR_PATROL_LAP_MS ((s.clk.tb - s.dram.patStart) / 1500000)).addF R.DR_PATROL_LAPS
      done { s with dram.patPos := 0 }
    else done { s with dram.patPos := r + 1 }

/-! ### Training (R331, R355) -/

/-- The test window's regions have their bits set (R356). -/
def State.testBits (s : State) : State :=
  let n := s.dramCap / 4096
  if n < 256 then s
  else
    (s.each 256 fun s k => { s with dram.valid := s.dram.valid.set (n - 256 + k) true }).validSync

/-- Training of the populated channels with the devices that failed (R331); true: DRAM is in use. `topologyOk`: the probe
agrees with the image. Recorded marks and remap entries apply before any request is served (R338, R350). -/
def State.dramTrain (s : State) (bad : List Nat) (topologyOk : Bool) : Bool × State :=
  let count := fun c => ((List.range 10).filter fun d => bit ((bad[c]?).getD 0) d).length
  let n := s.nch
  let fails := fun c => decide (2 ≤ count c) || !topologyOk
  let ok := (List.range n).all fun c => !fails c
  let s := s.each n fun s c =>
    if fails c then (s.setF R.DR_STS_CSTATE 6 c).raise R.DR_EVT_TRAIN_FAIL noP noP noP c
    else
      let s := (s.setF R.DR_STS_CSTATE 3 c).modChan c fun x => { x with delays := [], trained := x.trained + 1 }
      match (List.range 10).find? fun d => bit ((bad[c]?).getD 0) d with
      | some d => if s.on R.DR_STS_MARK_VALID c then s else s.markDev c d true
      | none => s
  if ¬ ok then (false, s)
  else
    let s := s.testBits
    let s := s.each n fun s c =>
      let m := s.per.marks.get c
      let s := if m = 0 ∨ s.markOf c = some (m - 1) then s else s.markDev c (m - 1) false
      (List.range 16).foldl (fun (s : State) i =>
        let e := s.per.remaps.get (c * 16 + i)
        if e = 0 ∨ (s.chan c).remap.get i ≠ 0 then s else s.remapPut c i e) s
    (true, { s.setF R.DR_PATROL_LAPS 0 with dram.patPos := 0 })

/-- TRAIN_RETRY_TIMER (R331): after failed training the training runs again; with no reference it waits (R18, R38). -/
def execTrainRetryTimer (found : TrainFound) (s : State) : Host.Outcome State Fault Refusal :=
  if s.mode ≠ .discovery ∨ ¬ s.boot.trainFail ∨ s.clk.stopped then .next s
  else
    let (ok, s) := s.dramTrain found.bad found.topologyOk
    done { s with boot.trainFail := !ok }

/-- TRAINING_RUN (R355): a run over the comparators in Discovery or Trial, with a reference (R18); a PRBS seed of 0 is a reserved
encoding. -/
def execTrainingRun (ch : Nat) (errors : List Nat) (s : State) (path : Path := .sideband) : Host.Outcome State Fault Refusal :=
  if 4 ≤ ch ∨ s.cstate ch = 0 ∨ ¬ s.modeIn [.discovery, .trial] ∨ s.clk.stopped then .next s
  else if s.f R.DR_TRN_CTL_PATTERN ch ≠ 2 ∧ s.f R.DR_TRN_WORD_WORD ch = 0 then done (s.invalidEnc (R.DR_TRN_CTL.at ch 0) 1 path)
  else
    let errs := (List.range 80).foldl (fun (t : Tab Nat) q => t.set q (min ((errors[q]?).getD 0) (2 ^ 32 - 1))) []
    done (s.modChan ch fun x => { x with trnErr := errs })

/-- A delay and reference word (DR_CDATA): as written, or the FREE VALUE that training or a retrain window left. -/
def State.delayWord (s : State) (c q : Nat) : Nat :=
  let v := (s.chan c).delays.get q
  let free := fun k => (Config.freeByte (2 ^ 90 + (((s.dram.power * 2 ^ 40 + (s.chan c).trained) * 4 + c) * 128 + q) * 4 + k)).toNat
  if v ≠ 0 then v - 1 else free 0 + 256 * free 1 + 65536 * free 2

/-! ### The line buffer (R356) -/

/-- The 160 bytes of the buffer. -/
def State.lbGet (s : State) : Nat := (List.range 40).foldl (fun a i => a + s.dram.lb.get i * 2 ^ (32 * i)) 0

def State.lbSet (s : State) (v : Nat) : State :=
  { s with dram.lb := (List.range 40).foldl (fun (t : Tab Nat) i => t.set i ((v >>> (32 * i)) % 2 ^ 32)) [] }

/-- A write of the line buffer reaches the channel and is stored. -/
def State.lbPut (s : State) (c a v : Nat) : State := (s.overwrite c a).setLine c a v

/-- LB_RAW_READ: the line as stored. -/
def State.lbRaw (s : State) (c a : Nat) : State := s.lbSet (s.rawLine c a)

/-- LB_DATA_ONLY_WRITE: bytes 0 to 127; the rest stays. -/
def State.lbData (s : State) (c a d : Nat) : State := s.lbPut c a (lineData d + s.rawLine c a / 2 ^ 1024 * 2 ^ 1024)

/-- LB_CHECK_ONLY_WRITE: bytes 128 to 159; the rest stays. -/
def State.lbCheck (s : State) (c a d : Nat) : State := s.lbPut c a (lineData (s.rawLine c a) + d / 2 ^ 1024 * 2 ^ 1024)

/-- LB_CORRECTED_READ: the line as a consumer reads it (R336, R337), with the check bytes as stored; zeros where the region's bit
is 0 (R339). -/
def State.lbCorrected (s : State) (c a : Nat) : State :=
  if ¬ s.validAt (s.dramAddr c a) then s.lbSet 0
  else
    let v := s.rawLine c a
    let (r, s) := s.scrubRead c a
    -- an uncorrectable line is delivered with poison; only a scrub writes the poison back (R344)
    let s := if r.uncorr then s.setLine c a v else s
    s.lbSet (r.data + v / 2 ^ 1024 * 2 ^ 1024)

/-- A line-buffer command acts on a line with the buffer's content d, after the requests to the line before it (R346). -/
def State.lbAct (s : State) (code c a d : Nat) : State :=
  let s := s.lineUp c a
  let s := match code with
    | 1 => s.lbRaw c a
    | 2 => s.lbPut c a d
    | 3 => s.lbData c a d
    | 4 => s.lbCheck c a d
    | 5 => s.lbPut c a (encodeLine d true)
    | _ => s.lbCorrected c a
  s.setF R.DR_LB_CMD_RESULT 0

/-- A line-buffer command: refused outside the test window but in Trial, busy while the channel does not accept requests. -/
def State.lbRun (s : State) (code : Nat) : Host.Outcome State Fault Refusal :=
  if ¬ s.up then .next s
  else
    let x := s.f R.DR_LB_ADDR_LINE * 128
    let (c, a) := s.dramAt x
    if s.dramCap ≤ x ∨ (s.mode ≠ .trial ∧ ¬ s.inTest x) then done (s.setF R.DR_LB_CMD_RESULT 2)
    else if s.cstate c ≠ 3 then done ((s.drHold ⟨c, code, a, s.lbGet⟩).setF R.DR_LB_CMD_RESULT 1)
    else done (s.lbAct code c a s.lbGet)

/-- LB_RAW_READ: the line as stored. -/
def execLbRawRead (s : State) : Host.Outcome State Fault Refusal := s.lbRun 1

/-- LB_RAW_WRITE: all 160 bytes as given. -/
def execLbRawWrite (s : State) : Host.Outcome State Fault Refusal := s.lbRun 2

/-- LB_DATA_ONLY_WRITE: bytes 0 to 127; the rest stays. -/
def execLbDataOnlyWrite (s : State) : Host.Outcome State Fault Refusal := s.lbRun 3

/-- LB_CHECK_ONLY_WRITE: bytes 128 to 159; the rest stays. -/
def execLbCheckOnlyWrite (s : State) : Host.Outcome State Fault Refusal := s.lbRun 4

/-- LB_POISON_WRITE: the data bytes with poison (R342). -/
def execLbPoisonWrite (s : State) : Host.Outcome State Fault Refusal := s.lbRun 5

/-- LB_CORRECTED_READ: the line as a consumer reads it. -/
def execLbCorrectedRead (s : State) : Host.Outcome State Fault Refusal := s.lbRun 6

/-- The commands that waited for a channel act, in their order (R348, R375). -/
def State.drHeldRun (s : State) (ch : Nat) : State :=
  let due := s.dram.held.filter fun h => h.ch == ch
  let s := { s with dram.held := s.dram.held.filter fun h => h.ch != ch }
  due.foldl (fun (s : State) h =>
    if h.code = 7 then s.remapIn ch h.place h.data
    else if h.code = 8 then s.remapOut ch h.place
    else s.lbAct h.code ch h.place h.data) s

/-- DRAM_RETRAIN_WINDOW_END (R348): delays are adjusted, requests are accepted again, and commands that waited act. -/
def execDramRetrainWindowEnd (ch ns : Nat) (s : State) : Host.Outcome State Fault Refusal :=
  if 4 ≤ ch ∨ s.cstate ch ≠ 4 then .next s
  else
    let s := (s.setF R.DR_STS_CSTATE 3 ch).putF R.DR_STS_RT_LAST_NS ns ch
    done ((s.modChan ch fun x => { x with delays := [], trained := x.trained + 1 }).drHeldRun ch)

/-! ### Self-refresh and power (R353, R354) -/

/-- Entry to self-refresh (Table 12-6): held writes and issued reads complete, then no access does; a scrub pauses. -/
def State.dramSelfRefresh (s : State) : State :=
  let s := s.each 4 fun s c =>
    if s.dramRuns c then
      let s := (s.chan c).queue.foldl (fun (s : State) w => if w.req.data.isSome then s.lineUp c w.req.line else s) s
      let rs := (s.chan c).reads
      let s := rs.foldl (fun (s : State) r => s.readDone c r) (s.modChan c fun x => { x with reads := [] })
      s.setF R.DR_STS_CSTATE 5 c
    else s
  if s.on R.DR_SCR_CTL_ACTIVE then s.setF R.DR_SCR_CTL_PAUSED 1 else s

/-- Exit from self-refresh: requests are accepted, commands that waited act (R375), the scrub resumes, and transmit reads of closed
connections end (Table 04-4). -/
def State.dramResume (s : State) : State :=
  ((s.each 4 fun s c => if s.cstate c = 5 then (s.setF R.DR_STS_CSTATE 3 c).drHeldRun c else s).setF R.DR_SCR_CTL_PAUSED 0).slotsServed

/-- DRAM is not used again (R354): no channel holds content. -/
def State.dramOff (s : State) : State :=
  let s := s.each 4 fun s c => if s.cstate c = 0 then s else s.setF R.DR_STS_CSTATE 1 c
  { s with dram := { power := s.dram.power + 1 } }.validSync

end Sys2Proof.Machine
end

