-- ==== Sys2Proof/Machine/Flush.lean ====
section
/-! DEFINITION. Flush.lean: what the Becalmed flush, Hold-up Flush and the trip flush do with the rows of media management (R377,
R378, R394, R395). -/

namespace Sys2Proof.Machine

/-- No program of the row has begun. -/
def Job.idle (j : Job) : Bool := j.running == 0 && j.done == 0

/-- Host staging as spills: rows of it that have not begun give their blocks back, every partial row spills, and the tail is
programmed (step 6 of Table 13-4; step 5 of Table 14-6). -/
def State.stageToSpills (s : State) : State :=
  let s := (s.media.jobs.filter fun j => j.kind == .direct && j.idle).foldl (fun s j => s.unrow j.id j.stream j.srow) s
  s.spillAllPartial.tailOut

/-- Every seat that a row has left to program ends well; the dies are free of it. -/
def State.jobProgrammed (s : State) (id : Nat) : State :=
  match s.job? id with
  | none => s
  | some j =>
    if j.shell = 0 ∨ j.need ≠ 0 then s
    else
      let c := crewOf (j.shell - 1)
      let seats := (List.range 32).filter fun k => bit (j.todo ||| j.running) k
      let s := if j.idle then s.modJob id fun i => s.encodeRow i else s
      let s := s.modJob id fun j => { j with running := j.running ||| j.todo, todo := 0 }
      let s := seats.foldl (fun (s : State) k =>
        let s := s.modDie c k fun d =>
          { d with run := match d.run with
              | some r => if r.serves = RunFor.program id then none else some r
              | none => none }
        s.programEnd c k id true) s
      s.finishRow id

/-- The rows that a flush programs: those of the Logbook and of the Millpond, and those begun (R395). -/
def State.flushSet (s : State) : List Nat :=
  (s.media.jobs.filter fun j => j.kind == .log || j.kind == .spill || !j.idle).map fun j => j.id

/-- The flush programs its rows, and then the rows that hold their records, until nothing is left. -/
def State.flushRows (s : State) : Nat → State
  | 0 => s
  | n + 1 =>
    let s := s.stageToSpills.assignShells
    match s.flushSet with
    | [] => s
    | l => (l.foldl State.jobProgrammed s).flushRows n

/-- Fold and relocation rows not begun are dropped; their sources keep their data (R395). -/
def State.dropIdleRows (s : State) : State :=
  s.dropJobs fun j => j.idle && (j.kind == .fold || j.kind == .reloc || j.kind == .millCopy || j.kind == .tally || j.kind == .anchor)

/-- Each relocation job that is not committed: the tail releases its destination with a SHELL record (R395). -/
def State.releaseDests (s : State) : State :=
  (s.media.relocs.keysWhere fun _ r => r.alive).foldl (fun s id =>
    let r := s.reloc id
    let s := s.modShell r.src fun h => { h with reloc := false }
    let s := if r.dst = 0 then s else s.releaseShell (r.dst - 1)
    s.modReloc id fun r => { r with dst := 0, made := 0, rows := 0 }) s

/-- Steps 5 and 6 of Table 14-6 as they end: rows and spills are on flash, then the tail, with a CLOSE record where one is due. -/
def State.flushMedia (s : State) (close : Bool) : State :=
  let s := s.dropIdleRows.flushRows 6
  let s := s.releaseDests.dropIdleRows
  let s := if close then s.record .close 0 else s
  s.flushRows 4

end Sys2Proof.Machine
end

