-- ==== Sys2Proof/Machine/Sram.lean ====
section
/-! DEFINITION. Sram.lean: on-chip SRAM words with symbols in error: correction, spare rows, uncorrectable words (R442, R443). -/

namespace Sys2Proof.Machine

/-- The key of a sub-array. -/
def sramSub (e : SramErr) : Nat := e.array * 2 ^ 20 + e.sub

/-- A row has held a corrected symbol in 4 reads since Bootstrap: a spare row takes its place where the sub-array has one; with its last
one SRAM_NOSPARE is set (R443). -/
def State.sramReplace (s : State) (e : SramErr) : State :=
  let used := s.cpus.sramSpares.get (sramSub e)
  if 8 ≤ used then s
  else
    let s := { s with cpus.sramSpares := s.cpus.sramSpares.set (sramSub e) (used + 1),
                      cpus.sramHits := s.cpus.sramHits.set (sramSub e * 512 + e.row) 0 }
    let s := s.raise R.GL_FLT_EVT_SRAM_SPARE e.array e.sub e.row
    if used = 7 then s.raise R.GL_FLT_EVT_SRAM_NOSPARE e.array e.sub e.row else s

/-- A word is read with `syms` symbols in error: up to 4 are corrected and counted for the row, more are uncorrectable (R442, R443). The
entry names the array, the sub-array and the row (R450). -/
def State.sramRead (s : State) (e : SramErr) : State :=
  if e.syms = 0 then s
  else if 4 < e.syms then s.raise R.GL_FLT_EVT_SRAM_UNCORR e.array e.sub e.row
  else
    let n := s.cpus.sramHits.get (sramSub e * 512 + e.row) + 1
    let s := { s.addF R.GL_SRAM_STS_CORRECTED with cpus.sramHits := s.cpus.sramHits.set (sramSub e * 512 + e.row) n }
    let s := s.raiseLimited (2 ^ 40 + sramSub e) R.GL_FLT_EVT_SRAM_CORR e.array e.sub e.row
    if 4 ≤ n then s.sramReplace e else s

/-- The words that a step reads with errors; `gone`: what an uncorrectable word of the Millrace (array 0) costs. -/
def State.sramWords (s : State) (l : List SramErr) (gone : State → SramErr → State) : State :=
  l.foldl (fun (s : State) e =>
    let s := s.sramRead e
    if 4 < e.syms ∧ e.array = 0 then gone s e else s) s

end Sys2Proof.Machine
end

