-- ==== Sys2Proof/Machine/IoPath.lean ====
section
/-! DEFINITION. IoPath.lean: what every I/O command's step shares (checks, keys, zones, resolution of blocks), and the data
path of slots: staging, encryption, merging, transmission (01, 03, 04, 07). -/

namespace Sys2Proof.Machine

/-! ### The fields of an I/O command -/

def sqeLba (q : Sqe) : Nat := q.cdw10.toNat + 2 ^ 32 * q.cdw11.toNat
def sqeNlb (q : Sqe) : Nat := q.cdw12.toNat % 65536 + 1
/-- Zone Send Action and Select All; Zone Receive Action, its filter and the Partial Report bit. -/
def sqeZsa (q : Sqe) : Nat := q.cdw13.toNat % 256
def sqeAll (q : Sqe) : Bool := q.cdw13.toNat.testBit 8

/-- The namespace of an NSID as a controller sees it: one that is attached to it (Table 03-7). -/
def State.nsOf (s : State) (ctrl nsid : Nat) : Option Nat :=
  (s.ctrl ctrl).attached.find? fun n => (s.per.ns.get n).alive && (s.per.ns.get n).nsid == nsid

/-- Blocks in a zone's LBA range (ZSZE, R187). -/
def State.zsze (s : State) (n : Nat) : Nat := if (s.per.ns.get n).big then 262144 else 1048576
/-- ZCAP in blocks (Table 07-3). -/
def State.zcap (s : State) (n : Nat) : Nat := zoneCapUnits (s.poolFmt (s.per.ns.get n).pool) / s.nsUnits n
/-- The Zone Table entry of an LBA. -/
def State.zoneAt (s : State) (n lba : Nat) : Nat := (s.per.ns.get n).zbase + lba / s.zsze n

/-! ### Order of dispatch (R86, R194, R202) -/

/-- Zones that a Reset waits to empty: later writes and Zone Management Sends to them are held (R202). -/
def State.zoneHeld (s : State) (z : Nat) : Bool := s.cmds.any fun (_, c) => c.alive && c.zs.contains z

/-- A command of a zoned namespace acts on zone z: of Zone Management Send with Select All, on any of the namespace's. A number
from 2^20 on names a namespace as a whole (R186). -/
def State.touches (s : State) (c : Cmd) (z : Nat) : Bool :=
  match s.nsOf c.cntlid c.sqe.nsid with
  | none => false
  | some n =>
    if 2 ^ 20 ≤ z then z - 2 ^ 20 == n
    else (s.zone z).ns == n && (isWriteOpc c.sqe.opc || c.sqe.opc == 0x79) && (s.per.ns.get n).zoned &&
      ((c.sqe.opc == 0x79 && sqeAll c.sqe) || s.zoneAt n (sqeLba c.sqe) == z)

/-- A dispatched command is held by a pending Reset of a zone that it writes or acts on (R202). -/
def State.resetHolds (s : State) (c : Cmd) : Bool :=
  s.cmds.any fun (_, d) => d.alive && d.zs.any fun z => s.touches c z

/-- The step of a dispatched I/O command may run: the mode serves I/O, no Reset holds it, and no command of the same NSID and
slice dispatched before it, unless a Reset holds that one, is still to run (R86, R194). -/
def State.ioReady (s : State) (c : Nat) (ops : List Nat) : Bool :=
  let cm := s.cmd c
  cm.alive && decide (cm.queue < adminBase) && cm.phase == .dispatched && ops.contains cm.sqe.opc &&
    s.modeIn [.service, .readOnly, .sanitize] && !s.resetHolds cm &&
    !s.cmds.any fun (_, d) => d.alive && decide (d.queue < adminBase) && d.phase == .dispatched && d.slice == cm.slice &&
      d.sqe.nsid == cm.sqe.nsid && decide (d.ord < cm.ord) && !s.resetHolds d

/-! ### Keys (R150 to R152) -/

/-- The key slot that a command of a namespace uses. -/
def State.keyFor (s : State) (slice n cev : Nat) : Option Nat :=
  let k := s.per.ns.get n
  (s.keys.find? fun (_, x) => x.valid && x.slice == slice && x.ns == n && x.inj == k.kpio && (!k.kpio || x.tag == cev)).map
    fun (_, x) => x.key

def State.cmdKey (s : State) (c : Nat) : Option Nat :=
  let cm := s.cmd c
  s.keyFor cm.slice cm.ns cm.sqe.cev

/-! ### Checks that every I/O command meets (R89, R99, R151, Table 03-7) -/

/-- The commands that write (Table 01-7: writes, appends, resets). -/
def writesMedia (q : Sqe) : Bool := isWriteOpc q.opc || (q.opc == 0x79 && sqeZsa q == 4)

/-- The status with which a command fails before its own checks, or its namespace. -/
def State.ioCheck (s : State) (c : Nat) : Except Nat Nat :=
  let cm := s.cmd c
  let q := cm.sqe
  if q.fuse ≠ 0 then .error 0x02
  else if s.mode = .sanitize then .error 0x1D
  else if s.per.san = 3 then .error 0x1C
  else
    match s.nsOf cm.cntlid q.nsid with
    | none => .error 0x0B
    | some n =>
      let x := s.per.ns.get n
      if x.zoned ∧ q.opc = 0x09 ∨ ¬ x.zoned ∧ (q.opc = 0x79 ∨ q.opc = 0x7A ∨ q.opc = 0x7D) then .error 0x01
      else if s.mode = .readOnly ∧ writesMedia q then .error 0x20
      else if x.kpio ∧ (q.opc = 0x02 ∨ isWriteOpc q.opc) ∧ (q.cetype ≠ 1 ∨ (s.keyFor cm.slice n q.cev).isNone) then .error 0x02
      else .ok n

/-- The checks of a data transfer of `len` bytes (R99, Table 02-5). A descriptor of fewer bytes than the command moves, and an
in-capsule one of more than 8,192 bytes on TCP, fail as an invalid field; an in-capsule offset on a command that returns data fails
with 0x11, since R99 names the type without a direction (DESIGN CHOICE, notes/assumptions/24). -/
def State.sglCheck (s : State) (c len : Nat) (read : Bool) : Option Nat :=
  let cm := s.cmd c
  let rdma := (s.conn cm.conn).rdma
  let ok := (cm.sqe.sgl == .keyed && rdma) || (cm.sqe.sgl == .transport && !rdma) || (cm.sqe.sgl == .inCapsule && !read)
  if ¬ ok then some 0x11
  else if 2097152 < len ∨ 2097152 < cm.sqe.dlen ∨ cm.sqe.dlen < len then some 0x02
  else if cm.sqe.sgl = .inCapsule ∧ 8192 < cm.sqe.dlen ∧ ¬ rdma then some 0x02
  else none

/-- The LBA range of a command lies in its namespace. -/
def State.lbaOk (s : State) (n lba nlb : Nat) : Bool := decide (lba + nlb ≤ (s.per.ns.get n).nsze)

/-! ### Zones: active units, states, emptying (R189, R190, R202, R208) -/

def Zone.active (z : Zone) : Bool := z.zs == .implOpen || z.zs == .explOpen || z.zs == .closed

/-- ZONES_USED of a slice: active zones and held FDP handles (Table 05-4, R210). -/
def State.zonesUsed (s : State) (slice : Nat) : Nat :=
  s.per.zones.count (fun _ z => z.active && (s.per.ns.get z.ns).owner == slice) +
    s.per.ns.foldl (fun a (_, n) => if n.alive ∧ ¬ n.zoned ∧ n.owner = slice then a + n.handles.length else a) 0

/-- Active zones and held handles, device-wide (MD_ZSTS.ACTIVE). -/
def State.zonesActive (s : State) : Nat :=
  s.per.zones.count (fun _ z => z.active) +
    s.per.ns.foldl (fun a (_, n) => if n.alive ∧ ¬ n.zoned then a + n.handles.length else a) 0

/-- A zone of namespace n may become active (R190). -/
def State.mayActivate (s : State) (n : Nat) : Bool :=
  let o := (s.per.ns.get n).owner
  decide (s.zonesUsed o < (s.cfg o).zoneQuota) && decide (s.zonesActive < 4096)

/-- A zone changes state and the Logbook records it. -/
def State.zoneTo (s : State) (z : Nat) (zs : ZState) : State := (s.modZone z fun x => { x with zs := zs }).record .zone z

/-- A zone leaves Empty: it takes an erased shell of its pool by R208, or waits for one. -/
def State.zoneShell (s : State) (z : Nat) : State :=
  let x := s.zone z
  match s.takeShell (s.streamPool z) x.life 1 z false with
  | some (h, t) => t.modZone z fun y => { y with shell := h, shellValid := true }
  | none => s

/-- What a zone holds in staging, in row jobs and in the Millpond is discarded, and its shell joins the erase queue. -/
def State.zoneDrop (s : State) (z : Nat) : State :=
  let x := s.zone z
  let s := s.dropJobs fun j => j.stream == z && (j.kind == .direct || j.kind == .fold)
  let s := { s with
    media.stage := s.media.stage.filter (fun (b : StBlk) => b.stream != z),
    media.lostBlk := s.media.lostBlk.filter fun (k, _) => !(k / 2 ^ 48 == x.ns && s.zoneAt x.ns (k % 2 ^ 48) == z) }
  let old := (s.per.spills.filter fun p => p.stream == z).map fun p => p.shell
  let s := { s with per.spills := s.per.spills.filter fun p => p.stream != z }
  let s := old.dedup.foldl State.millRelease s
  if x.shellValid then
    let s := s.releaseShell x.shell
    (s.media.relocs.keysWhere fun _ r => r.alive && r.src == x.shell).foldl State.abandon s
  else s

/-- A zone becomes Empty in one handshake (R202). -/
def State.zoneEmpty (s : State) (z : Nat) : State :=
  let x := s.zone z
  let s := s.zoneDrop z
  ({ s with per.zones := s.per.zones.set z { zs := .empty, ns := x.ns, zoneNo := x.zoneNo } }).record .zone z

/-- The status of Table 07-5 for a write to a zone in a state. -/
def writeStatus : ZState → Nat
  | .full => 0x1B9
  | .readOnly => 0x1BA
  | .offline => 0x1BB
  | _ => 0

/-- The checks of R193 for nlb blocks at the write pointer of a zone; `off`: the offset that the command gives. -/
def State.zoneWriteCheck (s : State) (n z off nlb : Nat) : Nat :=
  let x := s.zone z
  if writeStatus x.zs ≠ 0 then writeStatus x.zs
  else if off ≠ x.wp then 0x1BC
  else if s.zcap n < x.wp + nlb then 0x1B8
  else if x.zs = .empty ∧ ¬ s.mayActivate n then 0x1BD
  else 0

/-- A command that passed every check advances the write pointer in the same handshake (R193), opens the zone and makes it
Full at ZCAP. -/
def State.zoneAdvance (s : State) (n z nlb : Nat) : State :=
  let was := (s.zone z).zs
  let s := if was = .empty then
      (s.modZone z fun x => { x with zs := .implOpen, life := 0 }).zoneShell z
    else if was = .closed then s.modZone z fun x => { x with zs := .implOpen, life := 0 }
    else s
  let s := s.modZone z fun x => { x with wp := x.wp + nlb, zs := if x.wp + nlb = s.zcap n then .full else x.zs }
  if (s.zone z).zs = was then s else s.record .zone z

/-! ### Writes that end short (R196, R148) -/

/-- The zone of a write that has its place. -/
def State.cmdZone (s : State) (c : Nat) : Option Nat :=
  let cm := s.cmd c
  if (s.per.ns.get cm.ns).zoned then some (s.zoneAt cm.ns cm.lba) else none

/-- Leading blocks of a write that stand in staging or are durable. -/
def State.cmdLead (s : State) (c : Nat) : Nat :=
  let cm := s.cmd c
  match s.cmdZone c with
  | none => cm.nlb
  | some z =>
    let off := cm.lba % s.zsze cm.ns
    let u := s.nsUnits cm.ns
    let row := s.streamRow z
    let have_ := fun k =>
      let unit := (off + k) * u
      decide (unit < (s.zone z).rows * row) ||
        s.media.stage.any (fun (b : StBlk) => b.stream == z && !b.sup && b.row * row + b.unit == unit) ||
        s.per.spills.any (fun p => p.stream == z && decide (p.row * row + p.unit ≤ unit) &&
          decide (unit < p.row * row + p.unit + p.count))
    ((List.range cm.nlb).takeWhile have_).length

/-- A spilled part of zone z without the units from `end_` (in 4 KiB units from the zone's start) on; none: nothing is left. -/
def Spill.cut (p : Spill) (z row end_ : Nat) : Option Spill :=
  let first := p.row * row + p.unit
  if p.stream ≠ z ∨ first + p.count ≤ end_ then some p
  else if end_ ≤ first then none
  else some { p with count := end_ - first }

/-- The spilled parts of a zone hold nothing from a unit on; a Millpond shell that holds nothing live any more is released (R259). -/
def State.spillsCut (s : State) (z end_ : Nat) : State :=
  let row := s.streamRow z
  let gone := (s.per.spills.filter fun p => p.cut z row end_ != some p).map fun p => p.shell
  gone.dedup.foldl State.millRelease { s with per.spills := s.per.spills.filterMap fun p => p.cut z row end_ }

/-- The write pointer of a zone is pulled back to offset `off` (R196): later writes not completed fail, staged blocks beyond it
are discarded, and the zone's state follows. `ord`: the order of the short write. -/
def State.pullBack (s : State) (z off ord : Nat) : State :=
  let x := s.zone z
  if x.wp ≤ off ∨ ¬ (x.active ∨ x.zs = .full) then s
  else
    let u := s.nsUnits x.ns
    let row := s.streamRow z
    let later := s.cmds.keysWhere fun k d =>
      d.alive && isWriteOpc d.sqe.opc && decide (ord < d.ord) && (d.phase == .running || d.phase == .durable) && s.cmdZone k == some z
    let s := later.foldl (fun (s : State) k => (s.modCmd k fun d => { d with status := 0x1BC, want := false }).dropWaits k) s
    -- rows after the gap are programmed no more, and a running spill records nothing beyond it
    let s := s.dropJobs fun j => j.stream == z && (j.kind == .direct || j.kind == .fold) && decide (off * u < (j.srow + 1) * row)
    let s := { s with media.stage := s.media.stage.filterMap fun (b : StBlk) =>
      if b.stream ≠ z ∨ b.row * row + b.unit < off * u then some b
      else if s.media.jobs.any fun j => j.id == b.job then some { b with sup := true, vis := false }
      else none }
    let s := s.spillsCut z (off * u)
    let s := s.modZone z fun x => { x with wp := off, padded := false }
    let s := if off = 0 ∧ (x.zs = .implOpen ∨ x.zs = .explOpen ∨ x.zs = .full) then s.zoneEmpty z
      else s.zoneTo z (if x.zs = .full then .implOpen else x.zs)
    -- failed writes that no slot serves any more complete now
    later.foldl (fun s k => if (s.slotsOf k fun _ => true).isEmpty then s.complete k 0x1BC else s) s

/-- A write that is to be dispatched no further ends when no slot of it is left: one of a deleted queue, or one whose key slot was lost,
with the blocks of its leading run (Table 03-2, R196); one that R196 or a sanitize failed, with its status. -/
def State.writeFinal (s : State) (c : Nat) : State :=
  let cm := s.cmd c
  if ¬ cm.alive ∨ cm.phase ≠ .running ∨ ¬ (s.slotsOf c fun _ => true).isEmpty then s
  else if cm.status = 0x1BC ∨ cm.status = 0x1D then s.complete c cm.status
  else
    let lead := s.cmdLead c
    let s := s.expose c
    let s := match s.cmdZone c with
      | some z => if lead < cm.nlb then s.pullBack z (cm.lba % s.zsze cm.ns + lead) cm.ord else s
      | none => s
    s.complete c cm.status

/-- A write fails: it asks for no more data, its slots empty by Table 04-4, and it completes when none is left. -/
def State.writeFails (s : State) (c st : Nat) : State :=
  ((s.modCmd c fun y => { y with status := st, want := false }).dropWaits c).writeFinal c

/-! ### Encryption into host staging (Table 01-3 step 5, R137) -/

/-- Host staging has room for the blocks of a slot (Table 05-4, MRQ_KIB). -/
def State.stageRoom (s : State) (slice bytes : Nat) : Bool :=
  decide (s.mrUsed slice + bytes / 1024 ≤ (s.cfg slice).mrqKib) && decide (s.mrTotal + bytes / 1024 ≤ s.mrSize)

/-- One block of a write enters host staging as ciphertext; its row is checked (R197). -/
def State.stageOne (s : State) (c b key plain : Nat) : State :=
  let cm := s.cmd c
  let u := s.nsUnits cm.ns
  let lba := cm.lba + b
  match s.cmdZone c with
  | some z =>
    let unit := lba % s.zsze cm.ns * u
    let row := s.streamRow z
    (s.stageBlock { stream := z, row := unit / row, unit := unit % row, units := u, slice := cm.slice, cmd := c,
                    blk := { key := key, ns := cm.ns, lba := lba, plain := plain, units := u } }).rowCheck z (unit / row)
  | none =>
    let h := if cm.sqe.cdw12.toNat / 2 ^ 20 % 16 = 2 ∧ s.per.fdp.get (s.poolFmt (s.per.ns.get cm.ns).pool) ∧
        cm.sqe.cdw13.toNat / 65536 < (s.per.ns.get cm.ns).handles.length then cm.sqe.cdw13.toNat / 65536 else 0
    let st := handleStream cm.ns h
    let (row, unit, s) := s.handlePlace st u
    (s.stageBlock { stream := st, row := row, unit := unit, units := u, slice := cm.slice, cmd := c,
                    blk := { key := key, ns := cm.ns, lba := lba, plain := plain, units := u, handle := h } }).rowCheck st row

/-- Under rule 0 the partial rows that a command's blocks stand in spill at once (R91, R198). -/
def State.spillNow (s : State) (c : Nat) : State :=
  if s.rule1 then s
  else
    let rows := ((s.media.stage.filter fun (b : StBlk) => b.cmd == c && b.job == 0).map fun b => (b.stream, b.row)).dedup
    rows.foldl (fun s (st, r) => s.spillRow st r 8) s

/-- The blocks of a write are all in host staging: its completion waits for its rule only (R20, R22, R195). A write that R196
failed completes with its status. -/
def State.stagedAll (s : State) (c : Nat) : State :=
  let cm := s.cmd c
  if cm.status ≠ 0 then s.complete c cm.status
  else if cm.mute then s.writeFinal c
  else (s.modCmd c fun x => { x with phase := .durable }).postReady

/-- `n` blocks of a command from block b on are encrypted and staged. -/
def State.stageRun (s : State) (c b n key content : Nat) : State :=
  let bs := s.blkSize (s.cmd c).ns
  (List.range n).foldl (fun (s : State) k => s.stageOne c (b + k) key ((content >>> (8 * bs * k)) % 2 ^ (8 * bs))) s

/-- CR_BLK counts logical blocks encrypted or decrypted, 64 bits. -/
def State.aesBlocks (s : State) (n : Nat) : State :=
  let t := s.f R.CR_BLK_LO_BLK_LO + 2 ^ 32 * s.f R.CR_BLK_HI_BLK_HI + n
  (s.setF R.CR_BLK_LO_BLK_LO (t % 2 ^ 32)).setF R.CR_BLK_HI_BLK_HI (t / 2 ^ 32)

/-- AES_STAGED (R112): the engine has placed the slot's last block in host staging, and the slot enters Clearing; of a Fenced slot the
result is discarded (R124). A slot that finds no room waits with its charge (R137). `sram`: words that the engine reads or writes with
symbols in error (R442). -/
def execAesStaged (slot : Nat) (sram : List SramErr) (s : State) : Host.Outcome State Fault Refusal :=
  let x := s.slot slot
  let c := x.cmd
  let cm := s.cmd c
  if ¬ s.up then .next s
  else if x.state = .fenced ∧ x.op ∧ ¬ s.slotDir slot then done (s.fencedOpEnds slot)
  else if x.state ≠ .filled ∨ (x.waitRoom ∧ cm.status = 0) then .next s
  else
    let clear := fun (s : State) => s.modSlot slot fun x => { x with state := .clearing, content := 0 }
    if cm.status ≠ 0 then done ((clear s).writeFinal c)
    else
      match s.cmdKey c with
      | none => done (((clear s).raise R.SL_EVT_KEY_MISMATCH cm.slice).writeFails c 0x02)
      | some key =>
        if ¬ s.stageRoom x.slice x.length then
          done ((s.modSlot slot fun x => { x with waitRoom := true }).pressure x.slice).afterRows
        else
          let bs := s.blkSize cm.ns
          let n := x.length / bs
          let s := (s.stageRun c (x.offset / bs) n key x.content).aesBlocks n
          let s := s.sramWords sram fun s e => s.loseStaged cm.ns (cm.lba + x.offset / bs + e.blk) false
          let s := (clear s).modCmd c fun y => { y with staged := y.staged + n }
          let s := s.spillNow c
          let s := s.pressure x.slice
          done ((if (s.cmd c).staged = cm.nlb then s.stagedAll c
            else if cm.mute then s.writeFinal c else s).postReady.placeWant c).afterRows

/-- STAGING_ADMIT (R137): host staging has room for a slot that waited for it. -/
def execStagingAdmit (slot : Nat) (s : State) : Host.Outcome State Fault Refusal :=
  let x := s.slot slot
  if x.state = .filled ∧ x.waitRoom ∧ s.stageRoom x.slice x.length then
    done (s.modSlot slot fun x => { x with waitRoom := false })
  else .next s

/-! ### Reads: resolution of blocks (Table 01-4, steps 2 to 4) -/

/-- The deadline of a read or Verify that starts (R168, R209). -/
def State.readDeadline (s : State) (c : Nat) : Nat := s.deadlineOf (s.cmd c)

/-- RA_SLACK of a slice's loop, ticks (R168). -/
def State.raSlackOf (s : State) (slice : Nat) : Nat := (s.gov.loops.get slice).outA

/-- Where a block stands: newest visible staged copy, spilled part, shell; none: it yields zeros (R93, R203, R213). -/
def State.resolve (s : State) (n lba : Nat) : Place :=
  let u := s.nsUnits n
  let ns := s.per.ns.get n
  let newest := s.media.stage.foldl (fun (a : Option Place) (b : StBlk) =>
    if b.vis ∧ ¬ b.sup ∧ b.blk.ns = n ∧ b.blk.lba = lba then some (if b.lost then .lost else .staged b.blk) else a) none
  let lost := s.media.lostBlk.get (n * 2 ^ 48 + lba)
  if ns.zoned then
    let z := s.zoneAt n lba
    let x := s.zone z
    let off := lba % s.zsze n
    if x.zs = .empty ∨ x.zs = .none ∨ x.wp ≤ off then .zero
    else
      match newest with
      | some p => p
      | none =>
        let row := s.streamRow z
        let r := off * u / row
        let i := off * u % row
        if lost then .lost
        else
          match s.per.spills.find? fun p =>
            p.stream == z && p.row == r && decide (p.unit ≤ i) && decide (i < p.unit + p.count) with
          | some p => .media p.shell p.mrow (p.munit + (i - p.unit)) true
          | none => if x.shellValid ∧ r < x.rows then .media x.shell r i false else .zero
  else
    match newest with
    | some p => p
    | none =>
      if lost then .lost
      else
        let e := s.per.map.get (mapKey n (lba * u))
        if e.mapped then
          let row := rowUnits (s.fmt (crewOf e.shell)) e.slc
          .media e.shell (e.unit / row) (e.unit % row) e.slc
        else .zero

/-- A block of a read or Verify is fetched from its place: zeros and staged blocks merge at once, media reads are decided (R236). -/
def State.fetchBlock (s : State) (c b : Nat) (p : Place) : State :=
  let cm := s.cmd c
  match p with
  | .zero => s.mergeBlk c b {}
  | .staged k => s.mergeBlk c b k
  | .lost =>
    -- a block lost from staging: Unrecovered Read Error until it is overwritten (R448); its zone stays as it is
    (s.modCmd c fun x => { x with src := x.src.set b .failed, left := x.left.set b 0, status := if x.status = 0 then 0x281 else x.status }).readEnd c
  | .media shell row unit slc =>
    let u := s.nsUnits cm.ns
    let s := s.modCmd c fun x => { x with src := x.src.set b .media, left := x.left.set b u }
    let dl := cm.deadline - s.raSlackOf cm.slice
    (List.range u).foldl (fun (s : State) k => s.readUnit (.cmd c b k) shell row slc (unit + k) dl) s

/-- One block of a read or Verify starts: the place where it stands now is the one that the command keeps to (R26, R28). -/
def State.startBlock (s : State) (c b : Nat) : State :=
  let cm := s.cmd c
  if ¬ cm.alive then s
  else
    let p := s.resolve cm.ns (cm.lba + b)
    (s.modCmd c fun x => { x with place := x.place.set b p }).fetchBlock c b p

/-- Blocks [b, b + n) of a read or Verify start. -/
def State.startBlocks (s : State) (c b n : Nat) : State :=
  ((List.range n).foldl (fun (s : State) k => s.startBlock c (b + k)) s).readEnd c

/-- A read whose slots are taken starts: no look-up of it came before (R121). `sram`: words of the Millrace and of the tables that its
look-ups read with symbols in error (R442). -/
def State.readStart (s : State) (slice c : Nat) (sram : List SramErr) : State :=
  let cm := s.cmd c
  let s := { s with hop.rq := s.hop.rq.mod slice List.tail, hop.lastR := slice,
                    hop.reserve := if s.hop.reserve = some c then none else s.hop.reserve }
  let s := (s.modCmd c fun x => { x with aged := false }).reserveNext
  (s.sramWords sram fun s e => s.loseStaged cm.ns (cm.lba + e.blk) true).startBlocks c 0 cm.nlb

/-- The head read of a slice takes every slot of its length in one step (R121); none where the pool could then no longer serve the
slice whose turn it is by the round of R128, which goes first. -/
def State.readTurn (s : State) (slice : Nat) (sram : List SramErr) : Option State :=
  match s.readHead slice with
  | none => some (s.readWaits slice)
  | some (c, t) =>
    match nextRound (s.hop.rq.map Prod.fst) s.hop.lastR fun k => (s.readHead k).isSome with
    | some k => if k ≠ slice ∧ (t.readHead k).isNone then none else some (t.readStart slice c sram)
    | none => some (t.readStart slice c sram)

/-- READ_SLOTS_TAKE (R121): the head read takes its slots and starts; nothing happens where another slice goes first. -/
def execReadSlotsTake (take : SliceLookups) (s : State) : Host.Outcome State Fault Refusal :=
  match s.readTurn take.slice take.sram with
  | some t => done t
  | none => .next s

/-! ### Transmission (R87, R122) -/

/-- READ_MERGE_DONE (R112): every block of the slot is merged, and every lower slot of the command has left Loading. -/
def execReadMergeDone (slot : Nat) (s : State) : Host.Outcome State Fault Refusal :=
  let x := s.slot slot
  let lower := (s.slotsOf x.cmd (· == .loading)).any fun n => decide ((s.slot n).offset < x.offset)
  if x.state = .loading ∧ x.merged * s.blkSize (s.cmd x.cmd).ns = x.length ∧ ¬ lower then
    done (s.modSlot slot fun x => { x with state := .sending })
  else .next s

/-- A block as an AES engine decrypts it: zeros where it has no content, its plaintext under its own key and tweak, and a free
value under another (R23, notes/assumptions/3). -/
def State.decrypt (s : State) (key ns lba : Nat) (k : Blk) : Nat × State :=
  if k.ns = 0 then (0, s)
  else if k.key = key ∧ k.ns = ns ∧ k.lba = lba then (k.plain, s)
  else
    let (g, s) := s.drawGarbage
    (g % 2 ^ (32768 * k.units), s)

/-- The plaintext of a stretch of a slot, decrypted as the transport reads it (R123): `n` blocks from block b on. -/
def State.slotRead (s : State) (t : SlotTx) (b n : Nat) : List Nat × State :=
  (List.range n).foldl (fun (acc : List Nat × State) k =>
    let (v, s) := acc.2.decrypt t.key t.ns (t.lba + b + k) ((acc.2.slot t.slot).blks.get (b + k))
    (acc.1 ++ [v], s)) ([], s)

/-- The data of a slot passes to the transport: C2HData PDUs of up to 65,536 bytes, or one RDMA WRITE (R122). Arguments: the
command identifier, the offset and the length; the data by logical block. Until they are acknowledged, they are sent again from the
slot (R123). -/
def State.transmit (s : State) (slot key : Nat) : State :=
  let x := s.slot slot
  let cm := s.cmd x.cmd
  let bs := s.blkSize cm.ns
  let t : SlotTx := { slot := slot, key := key, ns := cm.ns, lba := cm.lba + x.offset / bs }
  let piece := if (s.conn cm.conn).rdma then max x.length 1 else 65536
  let kind : MK := if (s.conn cm.conn).rdma then .rdmaWrite else .c2hData
  (List.range ((x.length + piece - 1) / piece)).foldl (fun (s : State) k =>
    let len := min piece (x.length - k * piece)
    let (data, s) := s.slotRead t (k * piece / bs) (len / bs)
    s.send kind cm.conn [cm.sqe.cid, x.offset + k * piece, len] data (some t)) s

/-- Where a block that a read took from a place stands now (R25, R26): a staged copy is still in the Millrace, or on the row that it was
programmed to; a content that neither holds any more is lost (notes/assumptions/72). -/
def State.placeNow (s : State) (p : Place) : Place :=
  match p with
  | .staged k =>
    if s.media.stage.any fun (b : StBlk) => b.blk == k && !b.lost then p
    else
      match s.media.flash.findSome? fun (h, r) => (r.blks.find? fun (_, d) => d == k).map fun (i, _) => (h, i, r.slc) with
      | some (h, i, slc) => .media (h / 1024) (h % 1024) i slc
      | none => .lost
  | _ => p

/-- A poisoned block sends its slot back to Loading and is read again from where the read resolved it (R25, R26, R28). -/
def State.reread (s : State) (slot b : Nat) : State :=
  let x := s.slot slot
  let cm := s.cmd x.cmd
  let i := x.offset / s.blkSize cm.ns + b
  let p := s.placeNow (cm.place.get i)
  let s := s.modSlot slot fun x => { x with state := .loading, merged := x.merged - 1, blks := x.blks.set b {} }
  (s.modCmd x.cmd fun c => { c with src := c.src.set i .media, place := c.place.set i p }).fetchBlock x.cmd i p

/-- The data address of a read slot: the slots stand in the pool in the order of their numbers (R106, R107). -/
def State.slotAddr (s : State) (n : Nat) : Nat :=
  let c := s.slotClass n
  s.f R.HP_RBASE_BASE_MIB * 2 ^ 20 +
    ((List.range 4).filter (· > c)).foldl (fun a k => a + s.classCount true k * classSize k) 0 + (n - s.classBase true c) * classSize c

/-- The transmit path meets poison in a block of a read slot (R25, R343): the event names the line's place, and the block is read
again. -/
def State.slotPoison (s : State) (slot b : Nat) : State :=
  let x := s.slotAddr slot + b * s.blkSize (s.cmd (s.slot slot).cmd).ns
  let (c, a) := s.dramAt x
  (s.raise R.DR_EVT_POISON_USED (s.addrP c a) (s.rowP a) noP c).reread slot b

/-- SLOT_SENT (R112): the slot's last byte passes to the transport and the slot enters Draining; the last slot's transmission
completes the command (R87). A block whose DRAM lines carry poison is read again instead (R25). Frames that a pause holds wait in the
transport (R51). Of a Fenced slot, the transmission that had started ends (R124). -/
def execSlotSent (slot : Nat) (poison : List Nat) (s : State) : Host.Outcome State Fault Refusal :=
  let x := s.slot slot
  let c := x.cmd
  let cm := s.cmd c
  let lower := (s.slotsOf c fun t => t == .loading || t == .sending).any fun n => decide ((s.slot n).offset < x.offset)
  if x.state = .fenced ∧ x.op ∧ s.slotDir slot then done (s.fencedOpEnds slot)
  else if x.state ≠ .sending ∨ lower ∨ ¬ (s.conn cm.conn).alive ∨ s.readGood c < x.offset + x.length then .next s
  else
    match (poison.filter fun b => decide (b < x.length / s.blkSize cm.ns)).dedup with
    | b :: l => done ((b :: l).foldl (fun (s : State) b => s.slotPoison slot b) s).afterRows
    | [] =>
      match s.cmdKey c with
      | none => done (((s.raise R.SL_EVT_KEY_MISMATCH cm.slice).modCmd c fun y => { y with status := 0x02 }).readEnd c)
      | some key =>
        let s := s.aesBlocks (x.blks.count fun _ k => k.ns != 0)
        let s := (s.transmit slot key).modSlot slot fun x => { x with state := .draining }
        if (s.slotsOf c fun _ => true).isEmpty ∧ cm.status = 0 then done (s.complete c) else done (s.readEnd c)

end Sys2Proof.Machine
end

