-- ==== Sys2Proof/Machine/Conns.lean ====
section
/-! DEFINITION. Conns.lean: queues, controllers and connections: deletion, closure, release (02, 03), and the visible entries of
the Discovery log (R72, R73). -/

namespace Sys2Proof.Machine

/-! ### Deletion of a queue (R96, Table 03-2) -/

/-- The namespaces that a Format NVM names: its NSID's, or every one attached to the controller (Table 03-3). -/
def State.formatNs (s : State) (cm : Cmd) : List Nat :=
  let att := (s.ctrl cm.cntlid).attached
  if cm.sqe.nsid = 0xFFFFFFFF then att
  else att.filter fun n => (s.per.ns.get n).alive && (s.per.ns.get n).nsid == cm.sqe.nsid

/-- What becomes of one outstanding command at the deletion of its queue. -/
def State.cmdDeleted (s : State) (c : Nat) : State :=
  let cm := s.cmd c
  let s := s.modCmd c fun x => { x with mute := true }
  if cm.phase = .waiting then s.discard c
  else if adminBase ≤ cm.queue then
    -- an admin command in progress finishes and takes effect; a held Asynchronous Event Request has none
    if cm.sqe.opc = 0x0C ∧ cm.phase = .running then s.freeCmd c
    else if cm.sqe.opc = 0x80 ∧ cm.zs.isEmpty then s.modCmd c fun x => { x with zs := (s.formatNs cm).map (2 ^ 20 + ·) }
    else s
  else
    match cm.phase with
    | .durable => (s.expose c).freeCmd c
    | .dispatched =>
      -- its own step has not run: nothing has entered a slot, and no media work has started
      if [0x00, 0x01, 0x02, 0x0C, 0x7A, 0x7D].contains cm.sqe.opc then s.freeCmd c else s
    | _ =>
      if cm.sqe.opc = 0x02 then
        if (s.hop.rq.get cm.slice).contains c then s.freeCmd c else ((s.slotsDeleted c).readEnd c)
      else if cm.sqe.opc = 0x0C then
        -- pieces that wait for tokens are dropped (R88)
        let k := (cm.nlb * s.nsUnits cm.ns - cm.unitsLeft) / s.nsUnits cm.ns
        (s.modCmd c fun x => { x with unitsLeft := 0, src := x.src.mapIdx fun i r => if k ≤ i then .done else r }).readEnd c
      else if isWriteOpc cm.sqe.opc then
        ((s.dropWaits c).modCmd c fun x => { x with want := false, hb := 0 }).slotsDeleted c |>.writeFinal c
      else s

/-- A queue is deleted: each outstanding command is handled by its state; no completion is sent (R96). -/
def State.queueDelete (s : State) (q : Nat) : State :=
  if ¬ (s.queue q).valid ∨ (s.queue q).deleting then s
  else
    let s := s.modQueue q fun x => { x with deleting := true }
    ((s.outstanding q).foldl State.cmdDeleted s).reserveNext.bpUpdate

/-! ### Closure of connections (R67) -/

/-- What remains of a connection that has closed: what still arrives on it is judged against the slots (R118, R126). -/
def Conn.ended (c : Conn) : Conn :=
  { gone := true, rdma := c.rdma, kind := c.kind, link := c.link, cntlid := c.cntlid, slice := c.slice, connected := c.connected,
    reads := c.reads, got := c.got, pmtu := c.pmtu }

/-- Nothing of a connection waits for the end of a pause any more (R51). -/
def State.dropHeldOf (s : State) (c : Nat) : State :=
  { s with ctl.held := s.ctl.held.filter fun (m : Msg) => !(connKinds.contains m.kind && m.dst == c) }

/-- A connection goes: its transmit slots are freed, its contexts return, and a pause no longer holds anything of it. `tell`: the
controller sends a RST or a DREQ. -/
def State.connEnd (s : State) (c : Nat) (tell : Bool) : State :=
  let cn := s.conn c
  if ¬ cn.alive then s
  else
    let s := s.dropHeldOf c
    let s := if tell then s.send (if cn.rdma then .dreq else .tcpRst) c else s
    let s := (s.slotsClosed c).reserveNext
    let s := { s with conns := s.conns.set c cn.ended }
    if cn.connected then s.queueDelete cn.queue else s

/-- An NVMe controller ends: every I/O connection of it closes (R67). -/
def State.ctrlEnd (s : State) (k : Nat) : State :=
  let s := (s.conns.keysWhere fun _ x => x.alive && x.kind == .io && x.connected && x.cntlid == k).foldl
    (fun (s : State) c => s.connEnd c true) s
  { s with
    ctrls := s.ctrls.set k {},
    media.cznOut := s.media.cznOut.filter fun (x, _) => x / 8192 != k,
    boot.spdm := s.boot.spdm.set (k + 1) {} }

/-- A connection closes once, for whatever reason (R67, R69); with an admin connection its controller ends. -/
def State.close (s : State) (c : Nat) (tell : Bool := false) : State :=
  let cn := s.conn c
  if ¬ cn.alive then s
  else
    let s := s.connEnd c tell
    if cn.connected ∧ (cn.kind = .admin ∨ cn.kind = .disc) then s.ctrlEnd cn.cntlid else s

/-- A fatal transport error (R56, R60, R83): a C2HTermReq with its Fatal Error Status on TCP, the error state on RDMA. -/
def State.fatal (s : State) (c fes : Nat) : State :=
  let s := s.close c
  if (s.conn c).rdma then s else s.send .c2hTermReq c [fes]

/-- Connections on a link. -/
def State.connsOn (s : State) (l : Nat) : List Nat := s.conns.keysWhere fun _ x => x.alive && x.link == l

/-- Connections of a slice. -/
def State.connsOf (s : State) (n : Nat) : List Nat :=
  s.conns.keysWhere fun _ x => x.alive && x.connected && x.slice == n && (x.kind == .io || x.kind == .admin)

/-- QUEUE_RELEASE (R97): the last outstanding command of a deleted queue has ended; context, quota and entries are released. -/
def execQueueRelease (queue : Nat) (s : State) : Host.Outcome State Fault Refusal :=
  let q := s.queue queue
  if q.valid ∧ q.deleting ∧ (s.outstanding queue).isEmpty then done { s with queues := s.queues.set queue {} }
  else .next s

/-- KEEP_ALIVE_EXPIRY (R68): the admin connection closes. -/
def execKeepAliveExpiry (cntlid : Nat) (s : State) : Host.Outcome State Fault Refusal :=
  let k := s.ctrl cntlid
  if k.alive ∧ k.katoMs ≠ 0 ∧ s.up then done (s.close k.adminConn true) else .next s

/-- Q_USED and CTRL_USED (Table 05-4). -/
def State.qUsed (s : State) (n : Nat) : Nat := s.queues.count fun q x => x.valid && x.slice == n && decide (q < adminBase)
def State.ctrlUsed (s : State) (n : Nat) : Nat := s.ctrls.count fun _ x => x.alive && !x.disc && x.slice == n

/-! ### The Discovery log (R72, R73) -/

/-- A link's address table gives it an address (R48). -/
def Link.hasAddr (l : Link) : Bool :=
  (l.addr[0]?).getD 0 != 0 || bit ((l.addr[10]?).getD 0) 16 || bit ((l.addr[10]?).getD 0) 17

/-- The Up links with an address, with what an entry says of them: link, address, TREQ, RoCE. -/
def State.discLinks (s : State) : List (Nat × List Nat × Bool × Bool) :=
  ((List.range 8).filter fun l => s.linkState l == 2 && (s.linkOf l).hasAddr).map fun l =>
    (l, (s.linkOf l).addr, s.on R.PT_CFG_TLS_REQ (l / 4), s.on R.PT_CFG_ROCE_EN (l / 4))

/-- The slice that an Origin ID reaches: one not Unused that carries it. -/
def State.originSlice (s : State) (oid : Nat) : Option Nat :=
  (s.slices.keysWhere fun n x => x.st != 0 && (s.cfg n).origin == oid).head?

/-- Bytes of an NQN up to and including its first NUL, as one number (R136). -/
def nqnOf (n : Nat) : Nat :=
  match (List.range 256).find? fun i => n / 256 ^ i % 256 = 0 with
  | some i => n % 256 ^ i
  | none => n % 256 ^ 256

/-- origin_lookup of R136: the valid entry that holds a host NQN. -/
def State.originLookup (s : State) (nqn : Nat) : Option OriginEntry :=
  (s.per.origins.find? fun (_, e) => e.valid && nqnOf e.nqn == nqnOf nqn).map Prod.snd

/-- The entries of the Discovery log page for a host (R72): link, its address, RoCE or TCP, TREQ of the port (R58), subsystem NQN. Only
the slices in state Active are listed: a host can reach no subsystem of another by R134 (DESIGN CHOICE of a Resetting one,
notes/assumptions/71). -/
def State.discEntries (s : State) (nqn : Nat) : List (Nat × List Nat × Bool × Bool × Nat) :=
  let bound := (s.originLookup nqn).bind fun e => s.originSlice e.origin
  let subs := (s.slices.keysWhere fun n x => x.st == 1 && ((s.cfg n).listedAll || bound == some n)).map fun n => (s.cfg n).subnqn
  s.discLinks.flatMap fun (l, a, tls, roce) =>
    (subs.map fun q => (l, a, false, tls, q)) ++ (if roce then subs.map fun q => (l, a, true, tls, q) else [])

/-- The hosts whose entries may differ: those of the Origin Table, those connected, and one that no entry names. -/
def State.discHosts (s : State) : List Nat :=
  0 :: ((s.per.origins.filter fun (_, e) => e.valid).map fun (_, e) => e.nqn) ++
    ((s.ctrls.filter fun (_, c) => c.alive && c.disc).map fun (_, c) => c.hostnqn)

/-- The set of visible entries changed between two states: LOG_GEN rises, and persistent discovery controllers are told (R73). -/
def State.discSync (s old : State) : State :=
  let changed := fun (h : Nat) => s.discEntries h != old.discEntries h
  if ¬ ((s.discHosts ++ old.discHosts).any changed) then s
  else
    let s := s.setF R.PT_DISC_CTL_LOG_GEN ((s.f R.PT_DISC_CTL_LOG_GEN + 1) % 65536)
    (s.ctrls.keysWhere fun _ c => c.alive && c.disc && c.katoMs != 0 && !c.discChange && changed c.hostnqn).foldl
      (fun (s : State) k =>
        let on := bit ((s.ctrl k).feats.get 0x0B) 31
        let s := s.modCtrl k fun c => { c with discChange := true, discSent := on }
        if on then s.asyncEvent k (2, 0xF0, 0x70) else s) s

/-- As `discSync`, where a part of the handshake may have told it already: LOG_GEN rises once (R73). -/
def State.discSyncOnce (s old : State) : State :=
  if s.f R.PT_DISC_CTL_LOG_GEN = old.f R.PT_DISC_CTL_LOG_GEN then s.discSync old else s

end Sys2Proof.Machine
end

