-- ==== Sys2Proof/Machine/Slices.lean ====
section
/-! DEFINITION. Slices.lean: the Sluice (R139 to R142), the Slice table port (R131 to R137, R143 to R149) and the Origin Table
(R136). -/

namespace Sys2Proof.Machine

/-! ### The Sluice -/

/-- One unit of a token bucket: 16 fraction bits (R139). -/
def tok16 : Int := 65536

/-- SLUICE_REFILL (R139): every 1,024 ticks each Active slice gains tokens, clipped to its ceiling and its depth. -/
def execSluiceRefill (s : State) : Host.Outcome State Fault Refusal :=
  if s.up then
    done { s with slices := s.slices.mapAll fun n x =>
      if x.st = 1 then
        { x with
          cmdTok := min ((s.cfg n).cmdDepth * tok16) (x.cmdTok + min x.cmdInc (cmdCeilInc (s.cfg n).ceilKiops)),
          byteTok := min ((s.cfg n).byteDepth * tok16) (x.byteTok + min x.byteInc (byteCeilInc (s.cfg n).ceilBw)) }
      else x }
  else .next s

/-- Media units of 4 KiB of a command (R100, R140). -/
def State.mediaUnits (s : State) (c : Nat) : Nat :=
  let cm := s.cmd c
  match s.nsOf cm.cntlid cm.sqe.nsid with
  | none => 0
  | some n =>
    let zoned := (s.per.ns.get n).zoned
    if [0x01, 0x02, 0x0C, 0x7D].contains cm.sqe.opc ∨ (cm.sqe.opc = 0x08 ∧ zoned) then sqeNlb cm.sqe * s.nsUnits n else 0

/-- A write pause of the Millpond loop, or a Logbook stall, holds writes, Write Zeroes and Zone Appends (R140, R171, R273). -/
def State.writesHeld (s : State) : Bool := s.gov.pause || s.on R.MD_LOG_STS_STALL

/-- The causes that keep a slice's head command of a write kind or not waiting (WAIT_CAUSE): bit 0 command tokens, 1 byte tokens,
2 in flight, 3 write pause. -/
def State.waitCause (s : State) (n : Nat) (write : Bool) : Nat :=
  let x := s.sl n
  (if x.cmdTok < tok16 then 1 else 0) + (if x.byteTok ≤ 0 then 2 else 0) +
    (if (s.cfg n).ceilInfl ≤ s.inflight n then 4 else 0) + (if write && s.writesHeld then 8 else 0)

/-- Pieces of a Verify of the slice wait for tokens (R140). -/
def State.pieceWaits (s : State) (n : Nat) : Bool :=
  s.cmds.any fun (_, c) => c.alive && c.slice == n && c.phase == .running && decide (0 < c.unitsLeft) && !c.mute

/-- The head command of a queue is eligible (R140); I/O commands are held in Rebuild, Feathered and Becalmed (R40, R42). -/
def State.eligible (s : State) (q : Nat) : Bool :=
  let x := s.queue q
  match x.waiting with
  | [] => false
  | c :: _ =>
    x.valid && !x.deleting && s.modeIn [.service, .readOnly, .sanitize] && (s.sl x.slice).st == 1 &&
      s.closeCause x.slice == 0 && s.waitCause x.slice (isWriteOpc (s.cmd c).sqe.opc) == 0 && !s.pieceWaits x.slice

/-- The I/O queues of a slice. -/
def State.queuesOf (s : State) (n : Nat) : List Nat :=
  s.queues.keysWhere fun q x => x.valid && x.slice == n && decide (q < adminBase)

/-- A command is admitted: tokens and in-flight units are charged, and it is dispatched (R86, R140). -/
def State.admitCmd (s : State) (n q c : Nat) : State :=
  let total := s.mediaUnits c
  let u := min total 512
  let write := isWriteOpc (s.cmd c).sqe.opc
  let s := s.modSl n fun x => { x with cmdTok := x.cmdTok - tok16, byteTok := x.byteTok - u * tok16, rr := q }
  let s := s.modQueue q fun x => { x with waiting := x.waiting.tail }
  let s := s.modCmd c fun x =>
    { x with phase := .dispatched, tDisp := s.clk.tb, units := u, unitsLeft := if x.sqe.opc = 0x0C then total - u else 0,
             ord := s.hop.nextOrd }
  { s with hop.nextOrd := s.hop.nextOrd + 1, gov.admUnits := s.gov.admUnits + u, gov.wrUnits := s.gov.wrUnits + (if write then u else 0) }

/-- SLUICE_ADMIT (R140): the queue's head command is admitted when it is eligible and the round of the slice stands at it. -/
def execSluiceAdmit (slice queue : Nat) (s : State) : Host.Outcome State Fault Refusal :=
  match (s.queue queue).waiting, nextRound (s.queuesOf slice) (s.sl slice).rr s.eligible with
  | c :: _, some q => if q = queue ∧ (s.queue queue).slice = slice then done (s.admitCmd slice queue c) else .next s
  | _, _ => .next s

/-- SLUICE_PIECE_CHARGE (R140): a further piece of a Verify is charged while BYTE_TOK is positive, and its reads start. -/
def execSluicePieceCharge (cmd : Nat) (s : State) : Host.Outcome State Fault Refusal :=
  let cm := s.cmd cmd
  if cm.alive ∧ cm.phase = .running ∧ cm.sqe.opc = 0x0C ∧ 0 < cm.unitsLeft ∧ 0 < (s.sl cm.slice).byteTok then
    let p := min 512 cm.unitsLeft
    let u := s.nsUnits cm.ns
    let first := (cm.nlb * u - cm.unitsLeft) / u
    let s := s.modSl cm.slice fun x => { x with byteTok := x.byteTok - p * tok16 }
    let s := { s with gov.admUnits := s.gov.admUnits + p }
    let s := s.modCmd cmd fun x => { x with units := x.units + p, unitsLeft := x.unitsLeft - p }
    done (s.startBlocks cmd first (p / u)).afterRows
  else .next s

/-! ### Checks of the Slice table port -/

/-- Ranges of Table 05-4 and Table 05-12 (RESULT 2). -/
def State.cfgRange (s : State) (c : SliceCfg) : Bool :=
  decide (1 ≤ c.origin ∧ c.origin ≤ 1048575) && decide (c.qQuota ≤ 16384) && decide (1 ≤ c.ctrlQuota ∧ c.ctrlQuota ≤ 4096) &&
    decide (256 ≤ c.wsqKib ∧ c.wsqKib ≤ 32768) && decide (2 ≤ c.rsqMib ∧ c.rsqMib ≤ 16384) &&
    decide (2048 ≤ c.mrqKib ∧ c.mrqKib ≤ s.mrSize) && decide (c.zoneQuota ≤ 4096) && decide (c.keyQuota ≤ 8192) &&
    decide (512 ≤ c.ceilInfl ∧ c.ceilInfl ≤ 1048575) && decide (1 ≤ c.ceilBw ∧ c.ceilBw ≤ 65535) && decide (c.guarBw ≤ c.ceilBw) &&
    decide (1 ≤ c.ceilKiops ∧ c.ceilKiops ≤ 65535) && decide (c.guarKiops ≤ c.ceilKiops) &&
    decide (1 ≤ c.cmdDepth ∧ c.cmdDepth ≤ 32767) && decide (512 ≤ c.byteDepth ∧ c.byteDepth ≤ 32767)

/-- Slices that are not Unused. -/
def State.liveSlices (s : State) : List Nat := s.slices.keysWhere fun _ x => x.st != 0

/-- The set that a slice has or is about to have. -/
def State.nextCfg (s : State) (n : Nat) : SliceCfg := ((s.sl n).pend).getD (s.cfg n)

/-- No other slice carries the same non-zero ORIGIN (R135). -/
def State.originFree (s : State) (n oid : Nat) : Bool :=
  oid == 0 || (s.liveSlices.filter (· ≠ n)).all fun k => (s.cfg k).origin != oid && (s.nextCfg k).origin != oid

/-- The enforced quotas of all slices, this one's set included, stay within the device pools, with the sets in force and with those
that wait (R137). -/
def State.poolsOk (s : State) (n : Nat) (c : SliceCfg) : Bool :=
  let sum := fun (g : Nat → SliceCfg) (f : SliceCfg → Nat) => f c + (s.liveSlices.filter (· ≠ n)).foldl (fun a k => a + f (g k)) 0
  [s.cfg, s.nextCfg].all fun g => decide (sum g (fun c => c.zoneQuota) ≤ 4096) && decide (sum g (fun c => c.keyQuota) ≤ 8192)

/-- Another Active slice has MGMT = 1 and keeps it (R133). -/
def State.otherMgmt (s : State) (n : Nat) : Bool :=
  (s.slices.keysWhere fun k x => x.st == 1 && k != n).any fun k => (s.cfg k).mgmt && (s.nextCfg k).mgmt

/-- Slice n has MGMT = 1, or is about to have it, and no other Active slice has (R133). -/
def State.lastMgmt (s : State) (n : Nat) : Bool := ((s.cfg n).mgmt || (s.nextCfg n).mgmt) && !s.otherMgmt n

/-- A command of the port ends with a RESULT; one that is not 0 sets CMD_REFUSED. -/
def State.tcmd (s : State) (n r : Nat) : State :=
  let s := s.setF R.SL_TCMD_RESULT r
  if r = 0 then s else s.raise R.SL_EVT_CMD_REFUSED n

/-- A slice's configuration words are recorded (R132): words 0 to 10 and 64 to 127 of the set that it has or is about to have, zeros of
one that is no more (ORIGIN 0 is no slice's). -/
def State.recordSlice (s : State) (n : Nat) : State :=
  s.recordCfg 0 n ((List.range 11 ++ (List.range 64).map (· + 64)).map fun w =>
    if s.per.slUsed.get n then cfgWord (if s.per.slNext.get n = default then s.per.slices.get n else s.per.slNext.get n) w else 0)

/-- An Origin Table entry is recorded (R136). -/
def State.recordOrigin (s : State) (e : Nat) : State := s.recordCfg 1 e ((List.range 65).map (s.originWord e))

/-- A PSK entry is recorded: identity and word 48, and the key wrapped under the class in force (R410, R431). -/
def State.recordPsk (s : State) (e : Nat) : State :=
  let wrapped := Config.cipher [s.per.wrapClass, (s.per.psk.get e).key]
  s.recordCfg 3 e ((List.range 49).map (s.pskWord e) ++ (List.range 12).map fun i => bitsOf wrapped (32 * i) 32)

/-- The slice that SL_TIDX selects in a path's bank. -/
def State.tidx (s : State) (p : Path) : Nat := s.idxF p R.SL_TIDX_SLICE

/-- The Slice table can be written: a mode in which its slices are loaded. -/
def State.slicesUp (s : State) : Bool := s.modeIn [.rebuild, .service, .readOnly, .sanitize, .feathered, .becalmed]

/-- The slice loop starts (R157): Auto, the initial outputs in force, warm-up begun, counters and estimates zero. -/
def State.sliceLoopStart (s : State) (n : Nat) : State :=
  let c := s.cfg n
  let p := s.prof c.latClass
  let slack := raSlack p (p.initU 1)
  let u0 := (p.initU 0).toNat
  let s := { s with gov.loops := s.gov.loops.set n { loopStart p s.clk.tb with outA := slack } }
  s.modSl n fun x =>
    { x with cmdInc := u0 * cmdCeilInc c.ceilKiops / 2 ^ 24, byteInc := u0 * byteCeilInc c.ceilBw / 2 ^ 24,
             closedTicks := 0, closedSince := if x.closedSince = 0 then 0 else s.clk.tb + 1 }

/-- Tokens at their depths (Table 05-9 step 8). -/
def State.tokensFull (s : State) (n : Nat) : State :=
  s.modSl n fun x => { x with cmdTok := (s.cfg n).cmdDepth * tok16, byteTok := (s.cfg n).byteDepth * tok16 }

/-! ### Commands of the port -/

/-- A slice becomes Active with a set (R131): recorded first, with a new Hopper key and its loop started. -/
def State.sliceMake (s : State) (n : Nat) (c : SliceCfg) : State :=
  let s := { s with per.slices := s.per.slices.set n c, per.slUsed := s.per.slUsed.set n true }
  let s := s.recordSlice n
  let (k, s) := s.drawRandom
  let s := { s with per.hkeys := s.per.hkeys.set n (k % 2 ^ 32) }
  let s := s.modSl n fun x => { x with st := 1, hkey := k % 2 ^ 32, cause := 0, pend := none, resets := 0 }
  ((s.tokensFull n).sliceLoopStart n).sluiceSync n

/-- SL_CREATE (R131). -/
def execSlCreate (path : Path) (s : State) : Host.Outcome State Fault Refusal :=
  if ¬ s.slicesUp then .next s
  else
    let n := s.tidx path
    let c := s.shadow.get n
    let r := if (s.sl n).st ≠ 0 then 1 else if ¬ s.cfgRange c then 2 else if ¬ s.originFree n c.origin then 3
      else if ¬ s.poolsOk n c then 4 else 0
    if r ≠ 0 then done (s.tcmd n r) else done ((s.sliceMake n c).discSync s |>.tcmd n 0)

/-- SL_MODIFY (R144): the checked set waits for the slice's next sample boundary. -/
def execSlModify (path : Path) (s : State) : Host.Outcome State Fault Refusal :=
  if ¬ s.slicesUp then .next s
  else
    let n := s.tidx path
    let c := s.shadow.get n
    let x := s.sl n
    let moved := c.origin ≠ (s.cfg n).origin ∨ c.subnqn ≠ (s.cfg n).subnqn
    let r := if x.st ≠ 1 ∧ x.st ≠ 2 then 1 else if ¬ s.cfgRange c then 2
      else if (moved ∧ s.ctrlUsed n ≠ 0) ∨ ¬ s.originFree n c.origin then 3
      else if ¬ s.poolsOk n c then 4
      else if ¬ c.mgmt ∧ s.lastMgmt n then 5 else 0
    if r ≠ 0 then done (s.tcmd n r)
    else
      let s := { s with per.slNext := s.per.slNext.set n c }
      done (((s.recordSlice n).modSl n fun x => { x with pend := some c }).tcmd n 0)

/-- SL_LOAD (R144): the live set is copied into the shadow set. -/
def execSlLoad (path : Path) (s : State) : Host.Outcome State Fault Refusal :=
  if ¬ s.slicesUp then .next s
  else
    let n := s.tidx path
    done ({ s with shadow := s.shadow.set n (s.cfg n) }.tcmd n 0)

/-! ### The reset sequence (Table 05-9) -/

/-- Media operations of a command that have not started are dropped (step 6). -/
def State.dropUnstarted (s : State) (c : Nat) : State :=
  let mine := s.flash.cws.keysWhere fun k w =>
    match w.purpose with
    | .cmd d _ _ => d == c && (w.phase == 0 || w.phase == 5 ||
        (w.phase == 3 && !s.flash.cws.any fun (_, x) => x.purpose == .source k && x.phase != 0))
    | _ => false
  mine.foldl (fun (s : State) k =>
    match (s.cw k).purpose with
    | .cmd _ b _ =>
      let s := s.dropCw k
      let l := (s.cmd c).left.get b
      s.modCmd c fun x => { x with left := x.left.set b (l - 1), src := if l ≤ 1 then x.src.set b .done else x.src }
    | _ => s) s

/-- Steps 2 and 3: the Sluice closes with cause RESET, and the epoch rises and fences the slots. -/
def State.resetFence (s : State) (n : Nat) : State :=
  let s := s.modSl n fun x =>
    { x with epoch := (x.epoch + 1) % 256, cause := x.cause ||| 4, fenceWait := false }
  (s.fence n).sluiceSync n

/-- Steps 4 to 6: undispatched commands are discarded, unstarted media operations dropped, the connections close. -/
def State.resetDrop (s : State) (n : Nat) : State :=
  let mine := s.cmds.keysWhere fun _ c => c.alive && c.slice == n && decide (c.queue < adminBase)
  let s := (mine.filter fun c => (s.cmd c).phase == .waiting).foldl State.discard s
  let s := mine.foldl (fun (s : State) c => s.modCmd c fun x => if x.alive then { x with mute := true } else x) s
  let s := mine.foldl State.dropUnstarted s
  (s.connsOf n).foldl (fun (s : State) c => s.close c true) s

/-- Steps 2 to 6 of Table 05-9. -/
def State.resetStart (s : State) (n : Nat) : State := (s.resetFence n).resetDrop n

/-- The reset or the deletion of a slice begins; slots that are still Fenced hold it at step 1 (R125). -/
def State.resetBegin (s : State) (n st : Nat) : State :=
  let s := s.modSl n fun x => { x with st := st }
  if (s.fenced n).isEmpty then s.resetStart n
  else (s.modSl n fun x => { x with fenceWait := true }).raise R.HP_EVT_EPOCH_HOLD n

/-- SL_RESET (R147, R133). -/
def execSlReset (path : Path) (s : State) : Host.Outcome State Fault Refusal :=
  if ¬ s.slicesUp then .next s
  else
    let n := s.tidx path
    let r := if (s.sl n).st ≠ 1 then 1
      else if path ≠ .sideband ∧ s.lastMgmt n then 5 else 0
    if r ≠ 0 then done (s.tcmd n r) else done (((s.tcmd n 0).resetBegin n 2).discSync s)

/-- SL_DELETE (R131, R133): recorded first; the slice must hold no namespace. -/
def execSlDelete (path : Path) (s : State) : Host.Outcome State Fault Refusal :=
  if ¬ s.slicesUp then .next s
  else
    let n := s.tidx path
    let r := if (s.sl n).st ≠ 1 ∨ s.per.ns.any (fun (_, x) => x.alive && x.owner == n) then 1
      else if s.lastMgmt n then 5 else 0
    if r ≠ 0 then done (s.tcmd n r)
    else
      let t := ({ s with per.slUsed := s.per.slUsed.set n false }.recordSlice n).tcmd n 0
      done ((t.resetBegin n 3).discSync s)

/-- RESET_FENCE_WAIT_END (R125): the slots have left Fenced, and the waiting reset proceeds. -/
def execResetFenceWaitEnd (slice : Nat) (s : State) : Host.Outcome State Fault Refusal :=
  if (s.sl slice).fenceWait ∧ (s.fenced slice).isEmpty then done (s.resetStart slice) else .next s

/-- A codeword's page is being read, or its codeword is in the tile or the parity engine: an operation that has started. -/
def Cw.started (w : Cw) : Bool := w.alive && w.phase != 0 && w.phase != 3 && w.phase != 5

/-- TAGGED_OPS: operations that shared engines have started for the slice and not ended (R146): media operations of its commands,
blocks at the AES engines and slots at the transport, those of Fenced slots included. An operation carries the EPOCH of its command or
slot. -/
def State.taggedOps (s : State) (n : Nat) : Nat :=
  s.flash.cws.count (fun _ w => w.started && match w.purpose with
    | .cmd c _ _ => (s.cmd c).slice == n
    | .source k => (match (s.cw k).purpose with
      | .cmd c _ _ => (s.cmd c).slice == n
      | _ => false)
    | _ => false) +
  s.hop.slots.count fun _ x => x.slice == n && ((x.state == .filled && !x.waitRoom) || x.state == .sending || x.state == .draining || x.op)

/-- Step 7: Fenced slots pass to Free, write slots through Clearing, and the queues that hold no command are released. -/
def State.resetRelease (s : State) (n : Nat) : State :=
  let s := (((s.fenced n).foldl State.freeSlotN s).reserveNext)
  { s with queues := s.queues.filter fun (q, x) => !(x.deleting && x.slice == n && (s.outstanding q).isEmpty) }

/-- TAGGED_OPS_ZERO (Table 05-9 steps 7 and 8, R131): slots and queues are released; the slice restarts Active, or is Unused with its
key slots zeroised. While a reset waits for Fenced slots, they leave Fenced (Table 04-4, R125). -/
def execTaggedOpsZero (slice : Nat) (s : State) : Host.Outcome State Fault Refusal :=
  let x := s.sl slice
  if s.taggedOps slice ≠ 0 then .next s
  else if x.fenceWait then (if (s.fenced slice).isEmpty then .next s else done (s.unfence slice))
  else if (x.st = 2 ∨ x.st = 3) ∧ bit x.cause 2 then
    let s0 := s
    let s := s.resetRelease slice
    let hist := fun (t : Tab Nat) => t.filter fun (k, _) => k / 128 != slice
    let s := { s with gov.hist := hist s.gov.hist, gov.histNew := hist s.gov.histNew }
    if x.st = 2 then
      let s := s.modSl slice fun x => { x with st := 1, cause := 0, resets := satInc 16 x.resets }
      let s := ((s.tokensFull slice).sliceLoopStart slice).sluiceSync slice
      done ((s.raise R.SL_EVT_RESET_DONE slice).discSync s0)
    else
      let s := { s with
        keys := s.keys.mapAll fun _ (k : KeySlot) => if k.valid ∧ k.slice = slice then {} else k,
        gov.loops := s.gov.loops.set slice {},
        per.slices := s.per.slices.set slice {},
        per.slNext := s.per.slNext.set slice {},
        per.hkeys := s.per.hkeys.set slice 0,
        slices := s.slices.set slice { epoch := x.epoch } }
      done (s.bpAll.discSync s0)
  else .next s

/-- RESET_SLOW_TIMER (R147): step 7 has exceeded 14 ms. -/
def execResetSlowTimer (slice : Nat) (s : State) : Host.Outcome State Fault Refusal :=
  if ((s.sl slice).st = 2 ∨ (s.sl slice).st = 3) ∧ bit (s.sl slice).cause 2 then done (s.raise R.SL_EVT_RESET_SLOW slice)
  else .next s

/-- SL_HOLD_WRITE (R143): MGR of 32 slices, in the handshake that stores the write. -/
def execSlHoldWrite (n : Nat) (value : Word) (s : State) : Host.Outcome State Fault Refusal :=
  if n < 128 ∧ s.up then
    let s := s.setF R.SL_HOLD_HOLD value.toNat 0 n
    done ((List.range 32).foldl (fun (s : State) b =>
      if (s.sl (32 * n + b)).st = 0 then s else s.sluiceSync (32 * n + b)) s)
  else .next s

/-! ### The Origin Table (R136) -/

/-- The staging copy of an entry. -/
def State.originStaged (s : State) : OriginEntry :=
  let w := fun k => s.originStage.get k
  { valid := bit (w 0) 31, origin := w 0 % 2 ^ 20,
    nqn := (List.range 64).foldl (fun a k => a + w (k + 1) * 2 ^ (32 * k)) 0 }

/-- An NQN of 256 bytes is not empty and holds a NUL. -/
def nqnOk (n : Nat) : Bool := n % 256 != 0 && (List.range 256).any fun i => n / 256 ^ i % 256 == 0

/-- A command of SL_OCMD ends with a RESULT. -/
def State.ocmd (s : State) (r : Nat) : State :=
  let s := s.setF R.SL_OCMD_RESULT r
  if r = 0 then s else s.raise R.SL_EVT_CMD_REFUSED

/-- ORIGIN_COMMIT (R136): the staging copy applies exactly as given. -/
def execOriginCommit (path : Path) (s : State) : Host.Outcome State Fault Refusal :=
  if ¬ s.slicesUp then .next s
  else
    let k := s.idxF path R.SL_OIDX_ENTRY
    let e := s.originStaged
    let dup := s.per.origins.any fun (j, o) => j != k && o.valid && nqnOf o.nqn == nqnOf e.nqn
    if e.valid ∧ dup then done (s.ocmd 1)
    else if e.valid ∧ ¬ nqnOk e.nqn then done (s.ocmd 2)
    else
      let t := { s with per.origins := s.per.origins.set k e }.recordOrigin k
      done ((t.discSync s).ocmd 0)

/-- ORIGIN_INVALIDATE (R136). -/
def execOriginInvalidate (path : Path) (s : State) : Host.Outcome State Fault Refusal :=
  if ¬ s.slicesUp then .next s
  else
    let k := s.idxF path R.SL_OIDX_ENTRY
    let t := { s with per.origins := s.per.origins.mod k fun e => { e with valid := false } }.recordOrigin k
    done ((t.discSync s).ocmd 0)

end Sys2Proof.Machine
end

