-- ==== Sys2Proof/Machine/Governor.lean ====
section
/-! DEFINITION. Governor.lean: the Governor's passes (R159 to R180), the profile and mode commands (R177, R181) and the envelope
that applies at a sample boundary (R390). The arithmetic of one loop stands in Loops.lean. -/

namespace Sys2Proof.Machine

/-- A loop's entry. -/
abbrev State.loop (s : State) (n : Nat) : Loop := s.gov.loops.get n

def State.modLoop (s : State) (n : Nat) (f : Loop → Loop) : State := { s with gov.loops := s.gov.loops.mod n f }

/-- The modes in which passes run (R162). -/
def passModes : List Mode := [.rebuild, .service, .readOnly, .sanitize]

/-- The profile that a loop uses (Table 06-1). -/
def State.profOf (s : State) (n : Nat) : Nat := if n < 4096 then (s.cfg n).latClass else n - 4096 + 16

/-- Active slices. -/
def State.activeSlices (s : State) : List Nat := s.slices.keysWhere fun _ x => x.st == 1

/-! ### The envelope (R390) -/

/-- Envelope n of the image (R388). -/
def State.envelope (s : State) (n : Nat) : Envelope := (s.pwr.env[n]?).getD {}

/-- ENVELOPE_APPLY at a sample boundary (R390), where the requested envelope is not the one in force. -/
def State.envApply (s : State) : State :=
  let r := s.f R.PW_ENV_ENV_REQ
  let e := s.envelope r
  let now := (s.envelope (s.f R.PW_ENV_ENV_ACTIVE)).vcoreMv
  if r = s.f R.PW_ENV_ENV_ACTIVE ∧ s.f R.PW_ENV_VREQ_MV = e.vcoreMv then s
  else
    let apply := fun (s : State) =>
      let s := ({ s with pwr.divFloor := e.divFloor, pwr.dieCap := e.dieCap }).setF R.PW_ENV_ENV_ACTIVE r
      (s.setF R.PW_ENV_PENDING 0).raise R.PW_EVT_ENV_APPLIED r
    if e.vcoreMv ≤ now then
      let chg := s.f R.PW_ENV_VREQ_MV ≠ e.vcoreMv
      let s := (apply s).putF R.PW_ENV_VREQ_MV e.vcoreMv
      if chg then s.raise R.PW_EVT_VREQ_CHG e.vcoreMv else s
    else if s.f R.PW_MON_VCORE_MV + 10 ≥ s.f R.PW_ENV_VREQ_MV then apply s else s

/-! ### Step 1: measurements -/

/-- The histograms of every slice that exists are decayed and take the sample's completions (R163). -/
def State.decayAll (s : State) : State :=
  let hist := s.liveSlices.foldl (fun (h : Tab Nat) n =>
    let d := (s.prof (s.cfg n).latClass).decay
    (List.range 128).foldl (fun (h : Tab Nat) b =>
      let k := n * 128 + b
      h.set k (decayed (h.get k) d (s.gov.histNew.get k))) h) s.gov.hist
  { s with gov.hist := hist, gov.histNew := [] }

/-- The estimates of a slice loop (R164): read p99.99 and p99, write p99.99 and p99; none: stale. -/
def State.estimates (s : State) (n : Nat) : List (Option Nat) :=
  let mc := (s.prof (s.cfg n).latClass).minCnt
  let h := fun (w b : Nat) => s.gov.hist.get (n * 128 + w + b)
  [estimate (h 0) mc 10000, estimate (h 0) mc 100, estimate (h 64) mc 10000, estimate (h 64) mc 100]

/-- EST fields keep the last estimate that was not stale. -/
def State.estimateAll (s : State) : State :=
  s.activeSlices.foldl (fun (s : State) n =>
    let e := s.estimates n
    s.modLoop n fun l => { l with
      est := (List.range 4).map fun i => (((e[i]?).getD none)).getD ((l.est[i]?).getD 0),
      estValid := l.estValid ||| (if ((e[0]?).getD none).isSome then 1 else 0) ||| (if ((e[2]?).getD none).isSome then 2 else 0),
      passTb := s.clk.tb, missPass := l.miss }) s

/-- The measurements of a slice loop (Table 06-1); `ticks` is the length of the sample. -/
def State.sliceMeas (s : State) (n ticks i : Nat) : Option Int :=
  let e := s.estimates n
  match i with
  | 0 => ((e[0]?).getD none).map Int.ofNat
  | 1 => ((e[1]?).getD none).map Int.ofNat
  | 2 => some (s.cmds.count fun _ c => c.alive && decide (c.queue < adminBase) && c.slice == n)
  | _ =>
    let den := byteCeilInc (s.cfg n).ceilBw * ticks
    some (if den = 0 then 0 else s.gov.units.get n * 65536 * 65536 * 1024 / den : Nat)

/-- Some on-die sensor is valid (R400). -/
def State.sensorValid (s : State) : Bool := (List.range 24).any fun i => !s.on R.TH_SNS_SUSPECT 0 i

/-- The measurements of the thermal loop. -/
def State.thermMeas (s : State) (mw i : Nat) : Option Int :=
  match i with
  | 0 => if s.sensorValid then some (ofField 16 (s.f R.TH_SUM_HOT)) else none
  | 1 =>
    let r := s.flash.dies.foldl (fun (a : Option (Nat × Int)) (_, d) =>
      match d.tempSample, a with
      | some t, some (m, h) => some (max t m, max h d.temp)
      | some t, none => some (t, d.temp)
      | none, a => a) none
    match r with
    | some (newest, hot) => if s.gov.samples - newest ≤ 64 then some hot else none
    | none => none
  | 2 => some mw
  | _ => if s.sensorValid then some (ofField 16 (s.f R.TH_SUM_MEAN)) else none

/-- The measurements of the Millpond loop: m0 is MP_FREE less WEIR, MiB (R257). -/
def State.millMeas (s : State) (i : Nat) : Option Int :=
  match i with
  | 0 => some ((s.mpTarget : Int) - s.mpHeld - s.weir)
  | 1 => some s.gov.wrUnits
  | 2 => some s.gov.foldUnits
  | _ => some s.mrTotal

/-! ### Step 2: what waited for the boundary -/

/-- An Auto loop presets in this pass with u_hold (R178, R179); a preset already asked for in the pass stands. -/
def presetWith (h0 h1 : Int) (l : Loop) : Loop :=
  if l.mode = 2 ∧ ¬ l.preset then { l with preset := true, hold0 := h0, hold1 := h1 } else l

/-- A pending slice set replaces the live one (R144, R145, R179); tokens above a new depth are cut. A latency class of another NX starts
the loop's warm-up (R174). -/
def State.applySet (s : State) (n : Nat) : State :=
  match (s.sl n).pend with
  | none => s
  | some c =>
    let old := s.cfg n
    let s0 := s
    let s := { s with per.slices := s.per.slices.set n c, per.slNext := s.per.slNext.set n {} }
    let s := s.modSl n fun x => { x with
      pend := none, cmdTok := min x.cmdTok (c.cmdDepth * tok16), byteTok := min x.byteTok (c.byteDepth * tok16) }
    let s := s.modLoop n fun l =>
      let new := byteCeilInc c.ceilBw
      if c.ceilBw ≠ old.ceilBw ∧ new ≠ 0 then
        presetWith (min ((s.prof c.latClass).umax 0) (roundAway (l.u0 * byteCeilInc old.ceilBw) new)) l.u1 l
      else if c.latClass ≠ old.latClass then presetWith l.u0 l.u1 l else l
    let s := if (s.prof c.latClass).nx = (s.prof old.latClass).nx then s
      else s.modLoop n fun l => { l with warm := (s.prof c.latClass).warm, badRun := 0 }
    (s.discSync s0).sluiceSync n

/-- A committed profile replaces the live one (R181); every loop that uses it presets (R179), and a change of NX clears its
estimate and starts its warm-up (R174). -/
def State.applyProfile (s : State) (p : Nat) : State :=
  let old := s.prof p
  let word := fun w => s.gov.commit.get (p * 256 + w)
  let s := { s with
    per.profiles := (List.range 256).foldl (fun (t : Tab Nat) w => t.set (p * 256 + w) (word w)) s.per.profiles,
    gov.commit := s.gov.commit.filter fun (k, _) => k / 256 != p }
  let s := s.recordCfg 2 p ((List.range 256).map fun w => profBits p w (s.prof p w))
  let new := s.prof p
  let users := s.gov.loops.keysWhere fun n _ => s.profOf n == p
  users.foldl (fun (s : State) n => s.modLoop n fun l =>
    let l := presetWith l.u0 l.u1 l
    if new.nx = old.nx then l
    else { l with x := if l.mode = 0 then l.x else [], xp := if l.mode = 0 then l.xp else [], warm := new.warm, badRun := 0 }) s

/-- A mode request applies (R158, R177). -/
def applyReq (p : Prof) (l : Loop) : Loop :=
  let m := match l.req with
    | 1 => 1
    | 2 => 2
    | 3 => 0
    | _ => l.mode
  let l' := { l with req := 0, manW := false }
  if l.req = 0 then l'
  else
    let l' := { l' with fallback := false }
    if m = l.mode then l'
    else if m = 1 then
      if l.manW then { l' with mode := 1, preset := false }
      else { l' with mode := 1, preset := false, man0 := l.u0, man1 := l.u1 }
    else if m = 2 then
      let l' := if l.mode = 0 then { l' with x := [], xp := [] } else l'
      { l' with mode := 2, preset := true, hold0 := l.u0, hold1 := l.u1 }
    else { l' with mode := 0, preset := false, u0 := q24, u1 := p.initU 1 }

/-- Step 2 of Table 06-3: pending sets, committed profiles, mode requests, in that order; the loops of slices that are not
Active are Off (R180). -/
def State.boundaryApply (s : State) : State :=
  let s := s.activeSlices.foldl State.applySet s
  let ps := s.gov.committed.keysWhere fun _ b => b
  let s := { ps.foldl State.applyProfile s with gov.committed := [] }
  { s with gov.loops := s.gov.loops.mapAll fun n l =>
      let l := applyReq (s.prof (s.profOf n)) l
      if n < 4096 ∧ (s.sl n).st ≠ 1 then { l with mode := 0, preset := false } else l }

/-! ### Steps 3 to 6 -/

/-- U × k, in units of 2^-24, rounded to the nearest integer. -/
def scaled (u : Int) (k : Nat) : Nat := (roundAway (u * k) (2 ^ 24)).toNat

/-- The thermal loop's outputs (R170). -/
def thermOuts (p : Prof) (l : Loop) : Loop :=
  { l with outA := scaled l.u0 (bitsOf (p 136) 0 20), outB := max 32 (scaled l.u1 (bitsOf (p 137) 0 12)),
           outC := l.u1.toNat * p 138 / 2 ^ 24 }

/-- The Millpond loop's outputs (R171); the drain rate is rounded down. -/
def millOuts (p : Prof) (ticks : Nat) (l : Loop) : Loop :=
  { l with outA := scaled l.u0 ticks, outB := l.u1.toNat * bitsOf (p 136) 0 16 / 2 ^ 24 }

/-- A slice loop's outputs (R168); an Off loop stands as though U were (1.0, INIT_U1) (R158). -/
def sliceOuts (p : Prof) (byteCeil : Nat) (l : Loop) : Loop :=
  let l := if l.mode = 0 then { l with u0 := q24, u1 := p.initU 1 } else l
  { l with outA := raSlack p l.u1, outC := l.u0.toNat * byteCeil / 65536 % 2 ^ 32 }

/-- R172: the Millpond loop's Auto and Standby follow m0. -/
def millMode (m0 : Int) (l : Loop) : Loop :=
  if l.mode = 2 ∧ 0 ≤ m0 then { l with mode := 3, preset := false }
  else if l.mode = 3 ∧ m0 < 0 then { l with mode := 2, preset := true, hold0 := 0, hold1 := 0 }
  else l

/-- The events of one computation. -/
def evsOf (n : Nat) (r : StepRes) : List (Nat × Nat × Nat) :=
  (match r.fell with
    | some i => [(0, n, i)]
    | none => []) ++ (if r.returned then [(1, n, 0)] else []) ++ (if r.loop.sat then [(2, n, 0)] else []) ++
    (if r.cleared then [(5, n, 0)] else [])

/-- Steps 3 to 6 of Table 06-3, on the state of step 2, with the measurements of s0, the state of step 1. `ticks`: the sample that
ended; `next`: the one that begins. -/
def State.passOut (s s0 : State) (ps : List Nat) (mw ticks next : Nat) : PassOut :=
  let th := loopStep (s.prof 16) (s0.thermMeas mw) (s.loop 4096)
  let ml := millMode ((s0.millMeas 0).getD 0) (s.loop 4097)
  let mi := loopStep (s.prof 17) s0.millMeas ml
  let slices := s.activeSlices
  let rs := slices.map fun n =>
    let p := s.prof (s.cfg n).latClass
    let l := s.loop n
    let r : StepRes := if l.mode = 0 then { loop := l } else loopStep p (s0.sliceMeas n ticks) l
    (n, { r with loop := sliceOuts p (byteCeilInc (s.cfg n).ceilBw) r.loop }, l.mode)
  let reqB := rs.map fun (n, r, m) =>
    let c := s.cfg n
    let u := if m = 0 then 2 ^ 24 else r.loop.u0.toNat
    (n, u * byteCeilInc c.ceilBw, byteCeilInc c.guarBw * 2 ^ 24)
  let reqC := rs.map fun (n, r, m) =>
    let c := s.cfg n
    let u := if m = 0 then 2 ^ 24 else r.loop.u0.toNat
    (n, u * cmdCeilInc c.ceilKiops, cmdCeilInc c.guarKiops * 2 ^ 24)
  let u1 := th.loop.u1.toNat
  let gb := share reqB (u1 * s.prof 16 138)
  let gc := share reqC (u1 * s.prof 16 139)
  let grants := (gb.zip gc).map fun ((n, a, b), (_, c, d)) => (n, a / (b * 2 ^ 24), c / (d * 2 ^ 24))
  { loops := (4096, thermOuts (s.prof 16) th.loop) :: (4097, millOuts (s.prof 17) next mi.loop) ::
      rs.map fun (n, r, _) => (n, r.loop),
    grants := grants,
    evs := ps.map (fun p => (4, p, 0)) ++ evsOf 4096 th ++ evsOf 4097 mi ++
      (rs.filter fun (_, _, m) => m != 0).flatMap fun (n, r, _) => evsOf n r,
    start := s.clk.tb }

/-- The first boundary after Discovery starts the thermal loop; the Millpond loop is in Standby from Discovery (R157). -/
def State.firstBoundary (s : State) : State :=
  if s.gov.first then s
  else
    let start := fun (l : Loop) =>
      { loopStart (s.prof 16) s.clk.tb with req := l.req, manW := l.manW, man0 := l.man0, man1 := l.man1 }
    { s.modLoop 4096 start with gov.first := true }

/-- P_EST and P_PEAK in units of 10 mW, and VCORE_MV, of the sample. -/
def State.powerMeas (s : State) (mw mv : Nat) : State :=
  let e := min (mw / 10) 65535
  ((s.putF R.PW_EST_P_EST e).putF R.PW_EST_P_PEAK (max e (s.f R.PW_EST_P_PEAK))).putF R.PW_MON_VCORE_MV mv

/-- SAMPLE_BOUNDARY (R159, R160): the measurements are captured, what waited for the boundary applies, and the pass computes;
its outputs apply at GOV_PASS_END. A boundary during a pass is no sample boundary: it is counted, and the sample goes on (R161). -/
def execSampleBoundary (powerMw vcoreMv : Nat) (s : State) : Host.Outcome State Fault Refusal :=
  if ¬ s.modeIn passModes then .next s
  else
    let next := s.f R.GV_CFG_SAMPLE_TICKS
    if s.gov.pass.isSome then
      done (({ s with gov.skipped := s.gov.skipped + 1 }.addF R.GV_STS_OVERRUNS).raise R.GV_EVT_OVERRUN)
    else
      let ticks := s.gov.ticks * (s.gov.skipped + 1)
      let s := { s with gov.samples := s.gov.samples + 1 }
      let s := (s.powerMeas powerMw vcoreMv).decayAll.estimateAll
      let ps := s.gov.committed.keysWhere fun _ b => b
      let t := s.firstBoundary.boundaryApply
      let out := t.passOut s ps powerMw ticks next
      let t := (t.mediaSample (4096 * s.gov.admUnits) ticks).envApply
      done { t with gov.pass := some out, gov.units := [], gov.admUnits := 0, gov.wrUnits := 0, gov.foldUnits := 0,
                    gov.ticks := next, gov.skipped := 0 }

/-! ### Step 7 -/

/-- A computed entry takes the place of a loop's, unless the loop was restarted meanwhile; what was written to the loop during
the pass stays. -/
def mergeLoop (old new : Loop) : Loop :=
  if old.since ≠ new.since then old
  else { new with req := old.req, miss := old.miss, manW := old.manW,
                  man0 := if old.manW then old.man0 else new.man0, man1 := if old.manW then old.man1 else new.man1 }

/-- One event of a pass. -/
def State.passEvent (s : State) (e : Nat × Nat × Nat) : State :=
  match e.1 with
  | 0 => s.raise R.GV_EVT_FALLBACK e.2.1 e.2.2
  | 1 => s.raise R.GV_EVT_RETURN_AUTO e.2.1
  | 2 => s.raiseLimited (2 ^ 30 + e.2.1) R.GV_EVT_SAT e.2.1
  | 4 => s.raise R.GV_EVT_PROFILE_APPLIED e.2.1
  | _ => s.raise R.GV_EVT_PRESET_CLEAR e.2.1

/-- A slice takes its grant (R168, R173); GOV in CLOSE_CAUSE follows CMD_INC (R141, Table 05-6). -/
def State.applyGrant (s : State) (n byteInc cmdInc : Nat) : State :=
  if (s.sl n).st = 0 then s
  else
    let off := (s.loop n).mode == 0
    let s := s.modSl n fun x => { x with byteInc := byteInc, cmdInc := cmdInc, cause := setBit x.cause 0 (!off && cmdInc == 0) }
    s.sluiceSync n

/-- The thermal and Millpond outputs act (R170, R171). -/
def State.applyDevice (s : State) : State :=
  let th := s.loop 4096
  let ml := s.loop 4097
  let s := s.each 32 fun s l => s.setF R.LN_EASY_EASY th.outA l
  let s := s.putF R.PW_DIE_DIE_BUDGET (min s.pwr.dieCap th.outB)
  { s with gov.pause := decide (0 < ml.outA), gov.drain := ml.outB }

/-- GOV_PASS_END (R160): every output applies in one handshake, causes follow, events are logged; LAST_PASS and MAX_PASS. -/
def execGovPassEnd (s : State) : Host.Outcome State Fault Refusal :=
  match s.gov.pass with
  | none => .next s
  | some p =>
    let s := { s with gov.pass := none }
    if ¬ s.modeIn passModes then .next s
    else
      let same := fun n => p.loops.any fun (m, l) => m == n && l.since == (s.loop n).since
      let grants := p.grants.filter fun (n, _, _) => same n
      let s := p.loops.foldl (fun (s : State) (n, l) => s.modLoop n fun o => mergeLoop o l) s
      let s := s.applyDevice
      let s := grants.foldl (fun (s : State) (n, b, c) => s.applyGrant n b c) s
      let d := s.clk.tb - p.start
      let s := (s.putF R.GV_PASS_LAST_PASS d).putF R.GV_PASS_MAX_PASS (max d (s.f R.GV_PASS_MAX_PASS))
      done (p.evs.foldl State.passEvent s)

/-- WRITE_PAUSE_END (R171): held writes become eligible. -/
def execWritePauseEnd (s : State) : Host.Outcome State Fault Refusal :=
  if s.gov.pause then done { s with gov.pause := false } else .next s

/-! ### Profile and loop commands -/

/-- The profile selected in a path's bank. -/
def State.pidx (s : State) (p : Path) : Nat := s.idxF p R.GV_PIDX_PROFILE

/-- GV_PROFILE_COMMIT (R181): the shadow copy is checked against Table 06-6 and waits for the boundary. Profiles 18 to 31 do not
exist, and nothing is committed for them. -/
def execGvProfileCommit (path : Path) (s : State) : Host.Outcome State Fault Refusal :=
  let p := s.pidx path
  if ¬ s.up ∨ 18 ≤ p then .next s
  else
    let word := fun w => s.gov.shadow.get (p * 256 + w)
    if ¬ profileOk p word then done (s.setF R.GV_PCMD_RESULT 1)
    else
      let c := (List.range 256).foldl (fun (t : Tab Nat) w => t.set (p * 256 + w) (word w)) s.gov.commit
      done ({ s with gov.commit := c, gov.committed := s.gov.committed.set p true }.setF R.GV_PCMD_RESULT 0)

/-- GV_PROFILE_LOAD: the live profile is copied into the shadow copy (GV_PCMD). -/
def execGvProfileLoad (path : Path) (s : State) : Host.Outcome State Fault Refusal :=
  let p := s.pidx path
  if ¬ s.up ∨ 18 ≤ p then .next s
  else
    let sh := (List.range 256).foldl (fun (t : Tab Nat) w => t.set (p * 256 + w) (s.prof p w)) s.gov.shadow
    done ({ s with gov.shadow := sh }.setF R.GV_PCMD_RESULT 0)

/-- The window address of GV_LDATA. -/
def lDataAddr : Nat := 0x100034

/-- GV_MODE_REQ_WRITE (R177): stored for the next boundary; a request of Off for loops 4,096 and 4,097 is a reserved encoding
(R157). A request of 0 replaces an earlier one. -/
def execGvModeReqWrite (path : Path) (req : Nat) (s : State) : Host.Outcome State Fault Refusal :=
  let n := s.idxF path R.GV_LIDX_LOOP
  if ¬ s.up ∨ 4098 ≤ n then .next s
  else if req % 4 = 3 ∧ 4096 ≤ n then done (s.invalidEnc lDataAddr (req % 4 * 4) path)
  else done (s.modLoop n fun l => { l with req := req % 4 })

/-- GV_MAN_U_WRITE (R177): stored, 0 to 1.0; another value is a reserved encoding (R13). -/
def execGvManUWrite (path : Path) (j : Nat) (value : Word) (s : State) : Host.Outcome State Fault Refusal :=
  let n := s.idxF path R.GV_LIDX_LOOP
  if ¬ s.up ∨ 4098 ≤ n ∨ 2 ≤ j then .next s
  else if 2 ^ 24 < value.toNat then done (s.invalidEnc lDataAddr value.toNat path)
  else
    done (s.modLoop n fun l =>
      if j = 0 then { l with manW := true, man0 := value.toNat } else { l with manW := true, man1 := value.toNat })

end Sys2Proof.Machine
end

