-- ==== Sys2Proof/Machine/Links.lean ====
section
/-! DEFINITION. Links.lean: the states of the device links (R49), mDNS announcements (R74), and what a link's change of state
does to its connections (Table 02-7). -/

namespace Sys2Proof.Machine

/-- The link is Up. -/
def State.linkUp (s : State) (l : Nat) : Bool := decide (l < 8) && s.linkState l == 2

/-- The modes in which the ports are on, or keep their links (Table 01-7). -/
def State.portsLive (s : State) : Bool := s.modeIn [.rebuild, .service, .readOnly, .sanitize, .feathered, .becalmed]

/-- The modes in which the ports serve hosts; Feathered serves them once left (R40). -/
def State.portsOn (s : State) : Bool := s.modeIn [.rebuild, .service, .readOnly, .sanitize]

/-- The breakout uses link k of port p (Table 02-1). -/
def State.linkUsed (s : State) (l : Nat) : Bool :=
  match s.f R.PT_CFG_BREAKOUT (l / 4) with
  | 0 => l % 4 == 0
  | 1 => decide (l % 4 < 2)
  | _ => true

/-- SPEED of a link that is Up (Table 02-1). -/
def State.linkSpeed (s : State) (l : Nat) : Nat := 3 - s.f R.PT_CFG_BREAKOUT (l / 4)

/-- The state that a link which is not enabled has; none: it is enabled (Table 02-3). A link that is disabled and that the breakout does
not use is Unused (DESIGN CHOICE, notes/assumptions/71). -/
def State.linkOff (s : State) (l : Nat) : Option Nat :=
  if ¬ s.linkUsed l then some 4
  else if ¬ s.on R.PT_CFG_ENABLE (l / 4) ∨ s.on R.PT_LINK_CTL_DISABLE (l / 4) (l % 4) then some 0
  else none

/-- LSTATE and SPEED; SPEED is given while the link is Up (notes/assumptions/30). -/
def State.setLink (s : State) (l st : Nat) : State :=
  (s.setF R.PT_LINK_STS_LSTATE st (l / 4) (l % 4)).setF R.PT_LINK_STS_SPEED (if st = 2 then s.linkSpeed l else 0) (l / 4) (l % 4)

/-- The event bits of link k. -/
def linkUpBit (k : Nat) : R.Fld := ([R.PT_EVT_LINK_UP_0, R.PT_EVT_LINK_UP_1, R.PT_EVT_LINK_UP_2, R.PT_EVT_LINK_UP_3][k]?).getD R.PT_EVT_LINK_UP_0
def linkDownBit (k : Nat) : R.Fld :=
  ([R.PT_EVT_LINK_DOWN_0, R.PT_EVT_LINK_DOWN_1, R.PT_EVT_LINK_DOWN_2, R.PT_EVT_LINK_DOWN_3][k]?).getD R.PT_EVT_LINK_DOWN_0

/-- The service instances that a link announces (R74): TCP, and RoCE where it is enabled. -/
def State.mdnsServices (s : State) (l : Nat) : List Nat := if s.on R.PT_CFG_ROCE_EN (l / 4) then [0, 1] else [0]

/-- The first announcement of a link; the second is due 1 s later (R74). -/
def State.announce (s : State) (l : Nat) : State :=
  if s.linkUp l ∧ (s.linkOf l).hasAddr ∧ s.on R.PT_DISC_CTL_MDNS_EN ∧ s.mode ≠ .trial then
    (s.modLink l fun x => { x with announced := true, annRepeat := true, services := s.mdnsServices l }).send .mdnsAnnounce l
      (s.mdnsServices l)
  else s

/-- No service of a link is announced. -/
def Link.quiet (x : Link) : Link := { x with announced := false, annRepeat := false, services := [] }

/-- Goodbyes for the services that a link has announced (Table 02-7). -/
def State.goodbye (s : State) (l : Nat) : State :=
  if (s.linkOf l).announced then (s.modLink l Link.quiet).send .mdnsGoodbye l (s.linkOf l).services else s

/-- A link's pauses end without effect: what they held is not sent (R51); a connection sends it again when its timer expires. -/
def State.dropHeldOn (s : State) (l : Nat) : State :=
  { s.modLink l (fun x => { x with paused := 0 }) with
    ctl.held := s.ctl.held.filter fun (m : Msg) => match m.tx with
      | some t => t.link != l
      | none => true }

/-- A link leaves Up (or Training) for a new state: LINK_DOWN, DOWN_COUNT at a transition to Down, and no service stays
announced. Its connections are as they were. -/
def State.linkLeaves (s : State) (l st : Nat) : State :=
  let was := s.linkUp l
  let s := s.setLink l st
  if ¬ was then s
  else
    let s := if st = 3 then s.addF R.PT_LINK_STS_DOWN_COUNT 1 (l / 4) (l % 4) else s
    let s := (s.modLink l Link.quiet).dropHeldOn l
    let s := s.setF R.CK_FREQ_FREQ_BAD (setBit (s.f R.CK_FREQ_FREQ_BAD) (l + 2) false)
    { s with clk.freqOk := setBit s.clk.freqOk (l + 2) false }.raise (linkDownBit (l % 4)) l noP noP (l / 4)

/-- Every Up link goes Down as for an unplanned loss (R70, R377 step 5); links in training stop. -/
def State.linksDown (s : State) : State :=
  let t := s.each 8 fun s l => if s.linkState l = 1 ∨ s.linkState l = 2 then s.linkLeaves l 3 else s
  t.discSync s

/-- Every connection on a link is ended by the controller: a RST or a DREQ each (Table 02-7, planned). -/
def State.endConns (s : State) (l : Nat) : State := (s.connsOn l).foldl (fun s c => s.close c true) s

/-- Enabled links begin training: at the entry to a mode with the ports on, and at the end of Becalmed (Table 13-5). -/
def State.portsTrain (s : State) : State :=
  s.each 8 fun s l => s.setLink l ((s.linkOff l).getD 1)

/-- The ports stop with nothing sent (Tables 14-6, 14-9; Table 01-7): links off, connections gone. -/
def State.portsStop (s : State) : State :=
  let s := s.each 8 fun s l => ((s.setLink l 0).modLink l Link.quiet).dropHeldOn l
  { s with clk.freqOk := s.clk.freqOk % 4 }

/-- The Headrace stops, nothing is posted, write slots and their data are discarded, and links stop without a word (step 2 of
Tables 14-6 and 14-9, R43). -/
def State.hostStop (s : State) : State :=
  { s.portsStop with
    gov.dev := true, conns := [], ctrls := [], queues := [], cmds := [], hop := { s.hop with slots := [], wq := [], rq := [], reserve := none },
    flash.cws := s.flash.cws.filter fun (_, w) => match w.purpose with
      | .job _ _ => true
      | _ => false }

/-- Link activity or a capsule in Feathered leads to Service (R40); DRAM comes back, and the lanes ramp from DIV 128 (R302). -/
def State.activity (s : State) : State :=
  if s.mode = .feathered then
    (s.dramResume.each 32 fun s l => if s.lstate l = 2 then s.setF R.LN_STS_DIV_CUR 128 l else s).move 0x0B .service
  else s

end Sys2Proof.Machine
end

