-- ==== Sys2Proof/Machine/Clock.lean ====
section
/-! DEFINITION. Clock.lean: references, the Reference Selector, the Time Base, the Pacer, and Becalmed (13). -/

namespace Sys2Proof.Machine

/-- The source is eligible by Table 13-1 (R361): REFA and REFB always, a link's recovered clock while the link is Up. -/
def State.srcEligible (s : State) (src : Nat) : Bool := src < 2 || (src < 10 && s.linkUp (src - 2))

/-- The source is live (R362). -/
def State.live (s : State) (src : Nat) : Bool :=
  s.srcEligible src && bit s.clk.qual src && !bit (s.f R.CK_LIVE_FIRED) src &&
    (s.f R.CK_SEL_SELECTED == 15 || s.f R.CK_SEL_SELECTED == src || bit s.clk.freqOk src)

/-- SELECTED: the source in use, or 15. -/
def State.selected (s : State) : Nat := s.f R.CK_SEL_SELECTED

/-- PRIO_s (R364). -/
def State.prio (s : State) (src : Nat) : Nat :=
  let F := [R.CK_PRIO0_PRIO_0, R.CK_PRIO0_PRIO_1, R.CK_PRIO0_PRIO_2, R.CK_PRIO0_PRIO_3, R.CK_PRIO0_PRIO_4,
    R.CK_PRIO0_PRIO_5, R.CK_PRIO0_PRIO_6, R.CK_PRIO0_PRIO_7, R.CK_PRIO1_PRIO_8, R.CK_PRIO1_PRIO_9]
  match F[src]? with
  | some F => s.f F
  | none => 15

/-- The best live source that satisfies p: lowest PRIO below 15, then lowest number (R364). -/
def State.bestSource (s : State) (p : Nat → Bool) : Option Nat :=
  (List.range 10).foldl (fun best src =>
    if s.live src && p src && s.prio src < 15 then
      match best with
      | some b => if s.prio src < s.prio b then some src else best
      | none => some src
    else best) none

/-- CK_LIVE.LIVE follows R362. -/
def State.liveUpdate (s : State) : State :=
  s.setF R.CK_LIVE_LIVE ((List.range 10).foldl (fun m src => setBit m src (s.live src)) 0)

/-- The lanes leave or take the Pacer (Tables 13-4 and 13-5): PACER and LOCKED of each lane. -/
def State.lanesPacer (s : State) (p : Bool) : State :=
  s.each 32 fun s l => (s.setF R.LN_STS_PACER (b2n p) l).setF R.LN_STS_LOCKED (b2n !p) l

/-- The PLL locks. -/
def State.setLocks (s : State) (v : Bool) : State :=
  ((s.setF R.CK_SEL_LOCK_LANE (b2n v)).setF R.CK_SEL_LOCK_DRAM (b2n v)).setF R.CK_SEL_LOCK_SERDES (if v then 3 else 0)

/-- The end of a holdover: LAST_HOLD and MAX_HOLD in units of 0.1 µs (R366). -/
def State.endHoldover (s : State) (start : Nat) : State :=
  let d := (s.clk.tb - start) / 150
  let s := (s.setF R.CK_SEL_HOLDOVER 0).putF R.CK_HOLD_LAST_HOLD d
  if d > s.f R.CK_HOLD_MAX_HOLD then s.putF R.CK_HOLD_MAX_HOLD d else s

/-- The Time Base moves to the Pacer (R371): a new span begins. From step 4 of Table 14-9 on the Pacer is off (R381). -/
def State.tbToPacer (s : State) : State :=
  ((s.setF R.CK_SEL_TB_PACER 1).setF R.CK_PACER_RUNNING (b2n !s.clk.held)).setF R.CK_PACER_SPAN_PACER_SPAN 0

/-- No source remains (R366, R377, R381): what follows depends on the mode. The steps of Table 13-4 up to step 5 are taken
in the handshake of step 1. -/
def State.loseAllRefs (s : State) (start : Nat) : State :=
  let from_ := s.mode
  let s := { s with clk.sw := none, clk.becDone := false, clk.resuming := false, clk.calActive := false }
  let s := (s.setF R.CK_SEL_SELECTED 15).setF R.CK_CSI_CSI_STALE 1
  let s := s.raise R.CK_EVT_NO_REF
  let s := s.endHoldover start
  let s := (s.setLocks false).tbToPacer
  if [Mode.service, .readOnly, .feathered].contains from_ then
    let s := { s with ctl.becalmedFrom := if from_ = Mode.readOnly then Mode.readOnly else Mode.service }
    let s := s.move 0x0C .becalmed
    let s := if from_ = .feathered then s
      else ((s.dramSelfRefresh.lanesPacer true).each 32 fun s l => s.setF R.LN_EASY_EASY 0 l).setF R.CK_PACER_LANES 1
    -- step 6: host staging is programmed to the Millpond as spills, and the tail after it
    s.linksDown.stageToSpills
  else if from_ = .becalmed then
    -- lost again during the resume: the flush is over, and step 7 of Table 13-4 stands
    { s.dramSelfRefresh.lanesPacer true with clk.becDone := true }
  else if s.modeIn [.discovery, .rebuild, .sanitize, .trial] then
    let s := (s.dramSelfRefresh.lanesPacer true).setF R.CK_PACER_LANES 1
    { s.linksDown with clk.stopped := true }
  else if s.mode = .holdupFlush then
    let s := (s.lanesPacer true).setF R.CK_PACER_LANES 1
    { s with pwr.flushOnPacer := true }
  else if s.mode = .thermalRest ∧ s.pwr.tripFlush ∧ ¬ s.pwr.flushEnded then
    { (s.lanesPacer true).setF R.CK_PACER_LANES 1 with pwr.flushOnPacer := true }
  else if s.modeIn [.bootstrap, .sealed] then s.trigIgnored 0x0C
  else if s.mode = .thermalRest then { s.setF R.CK_PACER_RUNNING 0 with clk.held := true }
  else s

/-- Step 2 of Table 13-2: the selector steers to the best live source; none remains: R366, "Losing every reference". -/
def State.steer (s : State) (kind : SwKind) (start : Nat) (not : Nat) (old : Nat) : State :=
  match s.bestSource (· ≠ not) with
  | some b =>
    let s := { s with clk.sw := some { kind := kind, start := start, released := false, old := old } }
    (s.setF R.CK_SEL_SELECTED b).setF R.CK_SEL_HOLDOVER 1
  | none => s.loseAllRefs start

/-- The selected source has stopped being live (R365), or the new source of a switch in progress has (R366). -/
def State.selectedLost (s : State) (src : Nat) : State :=
  match s.clk.sw with
  | some sw =>
    match sw.kind with
    | .select => ({ s with clk.sw := none }.setF R.CK_SEL_SELECTED 15).setF R.CK_SEL_HOLDOVER 0
    | .resume => ({ s with clk.sw := none }.setF R.CK_SEL_SELECTED 15).setF R.CK_SEL_HOLDOVER 0
    | k => s.steer k sw.start src sw.old
  | none =>
    let best := (s.bestSource (· ≠ src)).getD noP
    let s := s.raise R.CK_EVT_REF_LOST src best
    (s.setF R.CK_SEL_HOLDOVER 1).steer .unplanned s.clk.tb src src

/-- Becalmed is left, or stopped work continues: step 1 of Table 13-5 (R380, R381). -/
def State.resumeStart (s : State) : State :=
  match s.bestSource (· < 2) with
  | some b =>
    let s := { s with clk.sw := some { kind := .resume, start := s.clk.tb, released := true } }
    (s.setF R.CK_SEL_SELECTED b).raise R.CK_EVT_REF_BACK b
  | none => s

/-- With no source selected, the selector takes the best live source at once (R364), and the Time Base stays on the Pacer until its PLL locks; in Becalmed and in a stopped mode only
REFA or REFB, and in Becalmed only once step 7 of Table 13-4 is reached (R379, R380). -/
def State.selectIfNone (s : State) : State :=
  if s.f R.CK_SEL_SELECTED ≠ 15 then s
  else if s.mode = .becalmed then (if s.clk.becDone then s.resumeStart else s)
  else if s.clk.stopped then s.resumeStart
  else
    match s.bestSource (fun _ => true) with
    | some b =>
      let s := { s with clk.sw := some { kind := .select, start := s.clk.tb, released := true } }
      ((s.setF R.CK_SEL_TB_PACER 1).setF R.CK_SEL_SELECTED b).raise R.CK_EVT_REF_BACK b
    | none => s

/-- A source is no longer live: the selection follows (R362, R365). -/
def State.sourceStopped (s : State) (src : Nat) : State :=
  let s := { s with clk.freqOk := setBit s.clk.freqOk src false }
  let s := if s.f R.CK_SEL_SELECTED = src then s.selectedLost src else s
  s.selectIfNone.liveUpdate

/-- EDGE_SENTINEL_FIRE (R362): the source stops being live; the selected one leads to an unplanned switch (R365) or to the
loss of every reference (R377, R381). -/
def execEdgeSentinelFire (src : Nat) (s : State) : Host.Outcome State Fault Refusal :=
  if s.mode = .off ∨ 10 ≤ src then .next s
  else
    let s := s.setF R.CK_LIVE_FIRED (setBit (s.f R.CK_LIVE_FIRED) src true)
    let s := { s with clk.qual := setBit s.clk.qual src false }
    done (s.sourceStopped src)

/-- EDGE_SENTINEL_CLEAR (R362): the next edge clears the Sentinel; the 64-edge count starts anew. -/
def execEdgeSentinelClear (src : Nat) (s : State) : Host.Outcome State Fault Refusal :=
  if s.mode = .off ∨ 10 ≤ src then .next s
  else
    let s := s.setF R.CK_LIVE_FIRED (setBit (s.f R.CK_LIVE_FIRED) src false)
    done { s with clk.qual := setBit s.clk.qual src false }

/-- SOURCE_QUALIFIED (R362): 64 edges since the Sentinel cleared; with no source selected, the selector takes the best live
source at once (R364). -/
def execSourceQualified (src : Nat) (s : State) : Host.Outcome State Fault Refusal :=
  if s.mode = .off ∨ 10 ≤ src ∨ bit (s.f R.CK_LIVE_FIRED) src then .next s
  else
    let s := { s with clk.qual := setBit s.clk.qual src true }
    done s.liveUpdate.selectIfNone.liveUpdate

/-- One source's comparison of FREQ_CHECK (R363): `ppb` is its deviation from nominal relative to the selected source, in
parts per billion. -/
def State.freqCheckOne (s : State) (src : Nat) (ppb : Int) : State :=
  if s.f R.CK_SEL_SELECTED = src ∨ ¬ s.srcEligible src ∨ ¬ bit s.clk.qual src then s
  else
    let bad := ppb.natAbs > 1000000
    let was := bit (s.f R.CK_FREQ_FREQ_BAD) src
    let s := { s with clk.freqOk := setBit s.clk.freqOk src !bad }
    let s := s.setF R.CK_FREQ_FREQ_BAD (setBit (s.f R.CK_FREQ_FREQ_BAD) src bad)
    if bad && !was then s.raise R.CK_EVT_FREQ_BAD src else s

/-- FREQ_CHECK (R363): every other source is compared with the selected one; the onset of a failure is an event. -/
def execFreqCheck (ppb : List Int) (s : State) : Host.Outcome State Fault Refusal :=
  if s.mode = .off ∨ s.f R.CK_SEL_SELECTED = 15 then .next s
  else done (((List.range 10).zip ppb).foldl (fun s (src, d) => s.freqCheckOne src d) s).liveUpdate

/-- OLD_INPUT_RELEASE (R365): step 3 of Table 13-2. -/
def execOldInputRelease (s : State) : Host.Outcome State Fault Refusal :=
  match s.clk.sw with
  | some sw => if s.mode = .off then .next s else done { s with clk.sw := some { sw with released := true } }
  | none => .next s

/-- The phase step of R370 at step 4: a positive step skips ticks, a negative one holds the count. -/
def State.phaseStep (s : State) (step : Int) : State :=
  let st := max (-8) (min 8 step)
  let s := s.setF R.CK_STEP_LAST_STEP (toField 5 st)
  if 0 ≤ st then
    -- a lane that has used its slot of this Stroke keeps to it (R301)
    let k := (s.clk.tb + st.toNat) / Config.stroke + 1
    let s := s.each 32 fun s l => s.modLane l fun x => { x with stepStroke := if 0 < st then k else x.stepStroke }
    { s with clk.tb := s.clk.tb + st.toNat }
  else { s with clk.stepHold := s.clk.stepHold + (-st).toNat }

/-- The Time Base returns to the lane PLL with no step (R371, R380). -/
def State.tbFromPacer (s : State) : State :=
  let s := s.setF R.CK_SEL_TB_PACER 0
  if s.clk.calActive then s else s.setF R.CK_PACER_RUNNING 0

/-- The start of a Pacer calibration (R373). -/
def State.calStart (s : State) : State := ({ s with clk.calActive := true }).setF R.CK_PACER_RUNNING 1

/-- PLL_LOCKED (R365): step 4 of Table 13-2; the selection out of no source; or steps 2 to 5 of Table 13-5. -/
def execPllLocked (step : Int) (s : State) : Host.Outcome State Fault Refusal :=
  match s.clk.sw with
  | none => .next s
  | some sw =>
    if s.mode = .off ∨ ¬ sw.released then .next s
    else
      let s := { s with clk.sw := none }
      match sw.kind with
      | .unplanned | .planned =>
        let s := (s.endHoldover sw.start).phaseStep step
        let s := s.addF R.CK_STEP_SWITCHES
        done (s.raise R.CK_EVT_SWITCHED sw.old (s.f R.CK_SEL_SELECTED) (s.f R.CK_STEP_LAST_STEP))
      | .select => done { (s.setLocks true).tbFromPacer with clk.held := false }
      | .resume =>
        let s := ((s.setLocks true).tbFromPacer.lanesPacer false).setF R.CK_PACER_LANES 0
        let s := s.each 32 fun s l => s.setF R.LN_STS_DIV_CUR 128 l
        -- the change list of R378 stands applied in this model: `per` is what the DRAM tables hold
        -- a Trial entered with no source trains its DRAM now (R18, R38)
        let s := if s.mode = .trial ∧ s.cstate 0 < 2 then (s.dramTrain [] true).2 else s
        done { s.dramResume.calStart with clk.resuming := true, clk.stopped := false }

/-- PLL_LOCK_TIMEOUT (R366): the new source is treated as stopped; HOLD_LONG; a link source's link goes Down. -/
def execPllLockTimeout (s : State) : Host.Outcome State Fault Refusal :=
  match s.clk.sw with
  | none => .next s
  | some _ =>
    if s.mode = .off then .next s
    else
      let src := s.f R.CK_SEL_SELECTED
      let t := s.raise R.CK_EVT_HOLD_LONG src
      let t := { t with clk.qual := setBit t.clk.qual src false }
      let t := if 2 ≤ src ∧ src < 10 then t.linkLeaves (src - 2) 3 else t
      done ((t.sourceStopped src).discSyncOnce s)

/-- A planned switch to source b (R367): the PLLs enter holdover at step 2. -/
def State.plannedSwitch (s : State) (b : Nat) : State :=
  let s := { s with clk.sw := some { kind := .planned, start := s.clk.tb, released := false, old := s.selected } }
  (s.setF R.CK_SEL_SELECTED b).setF R.CK_SEL_HOLDOVER 1

/-- REVERT_TIMER (R368): with REVERT 1, the live source ranked above the selected one is taken by a planned switch. -/
def execRevertTimer (s : State) : Host.Outcome State Fault Refusal :=
  let sel := s.f R.CK_SEL_SELECTED
  if s.mode = .off ∨ ¬ s.on R.CK_CFG_REVERT ∨ sel = 15 ∨ s.clk.sw.isSome then .next s
  else
    match s.bestSource (fun _ => true) with
    | some b =>
      if b ≠ sel ∧ (s.prio b < s.prio sel ∨ (s.prio b = s.prio sel ∧ b < sel)) then done (s.plannedSwitch b).liveUpdate
      else .next s
    | none => .next s

/-- A write of 1 to SWITCH (R368). -/
def State.ckSwitchWrite (s : State) : State :=
  let sel := s.f R.CK_SEL_SELECTED
  if sel = 15 ∨ s.clk.sw.isSome then s
  else
    match s.bestSource (fun _ => true) with
    | some b => if b ≠ sel then (s.plannedSwitch b).liveUpdate else s
    | none => s

/-- CK_SWITCH (R368): a planned switch to the best live source, when that is not the selected one. -/
def execCkSwitch (s : State) : Host.Outcome State Fault Refusal :=
  if s.mode = .off then .next s else done s.ckSwitchWrite

/-- PRIO takes effect in the handshake of its write (R368): excluding the selected source stops it, and with no source
selected a source no longer excluded may be taken (R364). In Service, Read-Only and Feathered a write that leaves no live
source with a priority below 15 leads to Becalmed (R377). -/
def State.prioApplied (s : State) : State :=
  let sel := s.f R.CK_SEL_SELECTED
  let s := if sel ≠ 15 ∧ s.prio sel = 15 then s.selectedLost sel else s
  s.selectIfNone.liveUpdate

/-- CK_PRIO_WRITE (R368): a write of CK_PRIO0 or CK_PRIO1. -/
def execCkPrioWrite (hi : Bool) (value : Word) (s : State) : Host.Outcome State Fault Refusal :=
  if s.mode = .off then .next s
  else
    let v := value.toNat
    let s := if hi then (s.setF R.CK_PRIO1_PRIO_8 (bitsOf v 0 4)).setF R.CK_PRIO1_PRIO_9 (bitsOf v 4 4)
      else [R.CK_PRIO0_PRIO_0, R.CK_PRIO0_PRIO_1, R.CK_PRIO0_PRIO_2, R.CK_PRIO0_PRIO_3, R.CK_PRIO0_PRIO_4,
        R.CK_PRIO0_PRIO_5, R.CK_PRIO0_PRIO_6, R.CK_PRIO0_PRIO_7].foldl (fun s F => s.setF F (bitsOf v F.lo 4)) s
    done s.prioApplied

/-- BECALMED_FLUSH_DONE (R377): the rows of the flush and the Logbook tail are on flash; step 7 of Table 13-4: the Pacer stops
driving the lanes, and a board reference that has qualified is acted on (R379). -/
def execBecalmedFlushDone (_us : Nat) (s : State) : Host.Outcome State Fault Refusal :=
  if s.mode ≠ .becalmed ∨ s.clk.becDone then .next s
  else
    let s := { s.flushRows 8 with clk.becDone := true }
    done (s.setF R.CK_PACER_LANES 0).selectIfNone

/-- PACER_CAL_START (R373): a calibration starts while a source is selected. -/
def execPacerCalStart (s : State) : Host.Outcome State Fault Refusal :=
  if s.mode = .off ∨ s.f R.CK_SEL_SELECTED = 15 ∨ s.clk.calActive then .next s else done s.calStart

/-- The end of Becalmed, step 7 of Table 13-5: the mode returns and enabled ports begin link training. -/
def State.becalmedLeave (s : State) : State :=
  let s := { s with clk.resuming := false }
  if s.mode = .becalmed then (s.move 0x0D s.ctl.becalmedFrom).portsTrain else s

/-- PACER_CAL_DONE (R373): n transfers in 16,384 ticks set PACER_TPS, rounded down to Q8.8; the Pacer stops. -/
def execPacerCalDone (n : Nat) (s : State) : Host.Outcome State Fault Refusal :=
  if s.mode = .off ∨ ¬ s.clk.calActive ∨ n = 0 then .next s
  else
    let s := { s with clk.calActive := false, clk.calCsi := s.f R.CK_CSI_CSI, clk.calHot := ofField 16 (s.f R.TH_SUM_HOT) }
    let s := (s.putF R.CK_PACER_PACER_TPS (16384 * 256 / n)).setF R.CK_PACER_CALIBRATED 1
    let s := if s.f R.CK_SEL_SELECTED = 15 then s else s.setF R.CK_PACER_RUNNING 0
    done (if s.clk.resuming then s.becalmedLeave else s)

/-- CSI_MEASURE (R359): CSI is measured while a reference is selected; CSI_LOW when it falls below CSI_WARN. -/
def execCsiMeasure (csi : Nat) (s : State) : Host.Outcome State Fault Refusal :=
  if s.mode = .off ∨ s.f R.CK_SEL_SELECTED = 15 then .next s
  else
    let was := s.f R.CK_CSI_CSI
    let s := (s.putF R.CK_CSI_CSI csi).setF R.CK_CSI_CSI_STALE 0
    let w := s.f R.CK_CSI_CSI_WARN
    done (if s.f R.CK_CSI_CSI < w ∧ w ≤ was then s.raiseLimited 1 R.CK_EVT_CSI_LOW else s)

/-- One tick of the Time Base while no command waits (R369): on the lane PLL one tick, on the Pacer one transfer's worth
(R371), nothing while it is held (R381). -/
def State.tick (s : State) : State :=
  if s.mode = .off ∨ s.clk.held then s
  else if s.on R.CK_SEL_TB_PACER ∨ s.f R.CK_SEL_SELECTED = 15 then
    let adv := if s.on R.CK_PACER_CALIBRATED then s.f R.CK_PACER_PACER_TPS * (64 - s.f R.CK_CFG_PACER_GUARD)
      else 2 * 16384 + 14336
    let t := s.clk.frac + adv
    let s := (s.setF R.CK_SEL_TB_PACER 1).setF R.CK_PACER_RUNNING 1
    { s.addF R.CK_PACER_SPAN_PACER_SPAN (t / 16384) with clk.tb := s.clk.tb + t / 16384, clk.frac := t % 16384 }
  else if 0 < s.clk.stepHold then { s with clk.stepHold := s.clk.stepHold - 1 }
  else { s with clk.tb := s.clk.tb + 1 }

end Sys2Proof.Machine
end

