-- ==== Sys2Proof/Machine/Ports.lean ====
section
/-! DEFINITION. Ports.lean: the PORT commands: port and link control, link events, address tables, ARP and Neighbor Discovery,
PFC pauses, mDNS and discovery control (02). -/

namespace Sys2Proof.Machine

/-- The fields of the PORT block. -/
abbrev ptFields (r : R.Reg) : List R.Fld := fieldsOf (R.fieldsPT_0 ++ R.fieldsPT_1) r

/-- A link leaves Up for another state: its recovered clock stops being a source in the same handshake (R362). -/
def State.linkLeave (s : State) (l st : Nat) : State :=
  let was := s.linkUp l
  let s := s.linkLeaves l st
  if was then s.sourceStopped (l + 2) else s

/-- A link stops as planned (Table 02-7): goodbyes, a RST or DREQ on every connection, then the link's new state. -/
def State.linkPlanned (s : State) (l st : Nat) : State := ((s.goodbye l).endConns l).linkLeave l st

/-- A link's enables have changed: it stops as planned, or begins training (Table 02-3). -/
def State.linkEval (s : State) (l : Nat) : State :=
  if ¬ s.portsLive then s
  else
    match s.linkOff l with
    | some st => if s.linkState l = st then s else s.linkPlanned l st
    | none => if s.linkState l = 0 ∨ s.linkState l = 4 then s.setLink l 1 else s

/-- A write of PT_CFG (R45): while ENABLE is 1, a write that changes BREAKOUT is ignored whole, with an invalid-encoding event, and
MEDIA_TYPE keeps its value. -/
def State.ptCfgWrite (s : State) (p v : Nat) (path : Path) : State :=
  let en := s.on R.PT_CFG_ENABLE p
  if en ∧ bitsOf v R.PT_CFG_BREAKOUT.lo R.PT_CFG_BREAKOUT.w ≠ s.f R.PT_CFG_BREAKOUT p then s.invalidEnc (R.PT_CFG.at p 0) v path
  else
    let keep := fun (F : R.Fld) (x : Nat) => en && F == R.PT_CFG_MEDIA_TYPE && x != s.f F p
    let t := s.writeReg (ptFields R.PT_CFG) p 0 v path keep
    let t := (List.range 4).foldl (fun (t : State) k => t.linkEval (4 * p + k)) t
    t.discSync s

/-- PT_CFG_WRITE (R45). -/
def execPtCfgWrite (port : Nat) (value : Word) (s : State) (path : Path := .sideband) : Host.Outcome State Fault Refusal :=
  if s.mode = .off ∨ 2 ≤ port then .next s else done (s.ptCfgWrite port value.toNat path)

/-- DISABLE of a link set: it stops as planned (R66). -/
def State.linkDisable (s : State) (l : Nat) : State :=
  let t := s.setF R.PT_LINK_CTL_DISABLE 1 (l / 4) (l % 4)
  (t.linkEval l).discSync s

/-- LINK_DISABLE (R66): DISABLE is set; RST, DREQ and goodbyes, then Disabled. -/
def execLinkDisable (link : Nat) (s : State) : Host.Outcome State Fault Refusal :=
  if s.mode = .off ∨ 8 ≤ link then .next s else done (s.linkDisable link)

/-- RETRAIN (PT_LINK_CTL): the link trains again; its connections are held as for Down. Nothing trains without a reference
(R379). -/
def State.linkRetrain (s : State) (l : Nat) : State :=
  if ¬ s.portsLive ∨ s.mode = .becalmed then s
  else if s.linkState l = 2 then (s.linkLeave l 1).discSyncOnce s
  else if s.linkState l = 3 then s.setLink l 1
  else s

/-- LINK_RETRAIN (R49). -/
def execLinkRetrain (link : Nat) (s : State) : Host.Outcome State Fault Refusal :=
  if s.mode = .off ∨ 8 ≤ link then .next s else done (s.linkRetrain link)

/-- The staging words of a link's address entry take effect, as a planned address change (R48, Table 02-7): goodbyes, closure
of every connection, the new addresses, and new announcements (R74). -/
def State.addrCommit (s : State) (l : Nat) : State :=
  let t := (s.goodbye l).endConns l
  let t := t.modLink l fun x => { x with addr := (List.range 11).map fun w => x.stage.get w }
  (t.announce l).discSync s

/-- LINK_ADDRESS_COMMIT (R48): word 11 commits the entry that the path's index selects. -/
def execLinkAddressCommit (path : Path) (port : Nat) (s : State) : Host.Outcome State Fault Refusal :=
  if s.mode = .off ∨ 2 ≤ port then .next s
  else done (s.addrCommit (4 * port + s.idxF path R.PT_AIDX_LINK port))

/-- LINK_SIGNAL_DETECT (R49): a Down link enters Training; it is link activity in Feathered (R40). In Becalmed no link trains. -/
def execLinkSignalDetect (link : Nat) (s : State) : Host.Outcome State Fault Refusal :=
  if ¬ s.portsLive ∨ s.mode = .becalmed ∨ 8 ≤ link ∨ s.linkOff link ≠ none then .next s
  else
    let s := s.activity
    done (if s.linkState link = 3 then s.setLink link 1 else s)

/-- LINK_UP_TIMER (R49): the link reaches Up: LINK_UP, announcements, its entries in the Discovery log, its connections resume, and
its recovered clock is eligible (R361). -/
def execLinkUpTimer (link : Nat) (s : State) : Host.Outcome State Fault Refusal :=
  if ¬ s.portsLive ∨ s.mode = .becalmed ∨ s.clk.stopped ∨ 8 ≤ link ∨ s.linkState link ≠ 1 then .next s
  else
    let t := s.activity.setLink link 2
    let t := t.raise (linkUpBit (link % 4)) link noP noP (link / 4)
    let t := (t.announce link).discSync s
    done t.liveUpdate.selectIfNone.liveUpdate

/-- LINK_LOSS (R66): an Up link goes Down unplanned; its connections are held (R482). -/
def execLinkLoss (link : Nat) (s : State) : Host.Outcome State Fault Refusal :=
  if s.linkUp link then done ((s.linkLeave link 3).discSyncOnce s) else .next s

/-! ### Frames that the ports answer themselves -/

/-- A frame has arrived on a link that serves: activity in Feathered (R40). -/
def State.frame (s : State) (l : Nat) : Option State :=
  if s.linkUp l ∧ (s.portsOn ∨ s.mode = .feathered) then some s.activity else none

/-- The IPv6 addresses of a link (PT_ADATA words 2 to 10). -/
def Link.ipv6 (x : Link) : List Nat :=
  let w := fun i => (x.addr[i]?).getD 0
  let a := fun b => w b + w (b + 1) * 2 ^ 32 + w (b + 2) * 2 ^ 64 + w (b + 3) * 2 ^ 96
  (if bit (w 10) 16 then [a 2] else []) ++ (if bit (w 10) 17 then [a 6] else [])

/-- An IP packet is for this link (R48); none: for the address that the link or the connection has. -/
def Link.mine (x : Link) (dst : Option (Bool × Nat)) : Bool :=
  match dst with
  | none => true
  | some (true, a) => x.ipv6.contains a
  | some (false, a) => a != 0 && (x.addr[0]?).getD 0 == a

/-- The priority of a received frame (R50): the PCP of its VLAN tag, else bits [5:3] of its DSCP. -/
def rxPrio (r : RxFrame) : Nat := (r.tag.getD (r.dscp / 8)) % 8

/-- The traffic class that a received priority maps to (R50). -/
def State.tcOf (s : State) (port prio : Nat) : Nat :=
  let F := [R.PT_PRIO_MAP_TC_0, R.PT_PRIO_MAP_TC_1, R.PT_PRIO_MAP_TC_2, R.PT_PRIO_MAP_TC_3, R.PT_PRIO_MAP_TC_4, R.PT_PRIO_MAP_TC_5,
    R.PT_PRIO_MAP_TC_6, R.PT_PRIO_MAP_TC_7]
  match F[prio]? with
  | some f => s.f f port
  | none => 3

/-- A PFC pause is sent for a TC 0 or TC 1 priority with PFC_EN set whose receive buffer reaches XOFF (R51). -/
def State.xoff (s : State) (l : Nat) (r : RxFrame) : State :=
  if r.xoff ∧ s.tcOf (portOf l) (rxPrio r) < 2 ∧ bit (s.f R.PT_TC_CFG_PFC_EN (portOf l)) (rxPrio r) then s.send .pfcPause l [rxPrio r] else s

/-- What every frame meets on a link (R47, R48, R51): none, where the link does not serve; else the state, and whether the frame is
taken. One longer than the MTU with its headers, or than 9,216 bytes, is dropped and counted; one to another address is dropped. -/
def State.arrive (s : State) (l : Nat) (r : RxFrame) : Option (State × Bool) :=
  (s.frame l).map fun t =>
    if t.f R.PT_LINK_CTL_MTU (l / 4) (l % 4) < r.ip ∨ 9216 < r.ip + r.hdr then
      (t.modLink l fun x => { x with drops := x.drops + 1 }, false)
    else if ¬ (t.linkOf l).mine r.dst then (t, false)
    else ((t.xoff l r).sramWords r.sram fun s _ => s, true)

/-- A frame that no connection carries: `k` is what it does where it is taken. -/
def State.onLink (s : State) (l : Nat) (r : RxFrame) (k : State → State) : Host.Outcome State Fault Refusal :=
  match s.arrive l r with
  | none => .next s
  | some (t, ok) => done (if ok then k t else t)

/-- ARP_REQUEST (R48): answered for the link's own IPv4 address only. -/
def execArpRequest (link : Nat) (ip : Framed Nat) (s : State) : Host.Outcome State Fault Refusal :=
  s.onLink link ip.rx fun t => if ip.val ≠ 0 ∧ ((t.linkOf link).addr[0]?).getD 0 = ip.val then t.send .arpReply link [ip.val] else t

/-- NEIGHBOR_SOLICITATION (R48): answered for the link's own IPv6 addresses only. -/
def execNeighborSolicitation (link : Nat) (ip : Framed Nat) (s : State) : Host.Outcome State Fault Refusal :=
  s.onLink link ip.rx fun t => if (t.linkOf link).ipv6.contains ip.val then t.send .neighborAdv link [ip.val] else t

/-- PFC_PAUSE_RX (R51): a pause is honoured on every priority whose bit is set in PFC_EN. -/
def execPfcPauseRx (link prio : Nat) (s : State) : Host.Outcome State Fault Refusal :=
  match s.frame link with
  | none => .next s
  | some t =>
    done (if prio < 8 ∧ bit (s.f R.PT_TC_CFG_PFC_EN (link / 4)) prio then
      t.modLink link fun x => { x with paused := setBit x.paused prio true } else t)

/-- PFC_PAUSE_EXPIRY (R51): transmission on the priority goes on, with what the pause held. -/
def execPfcPauseExpiry (link prio : Nat) (s : State) : Host.Outcome State Fault Refusal :=
  if prio < 8 ∧ bit (s.linkOf link).paused prio then
    done ((s.modLink link fun x => { x with paused := setBit x.paused prio false }).releaseHeld link prio)
  else .next s

/-- MDNS_QUERY (R74): answered on a link with an address while MDNS_EN is 1. -/
def execMdnsQuery (link : Framed Nat) (s : State) : Host.Outcome State Fault Refusal :=
  s.onLink link.val link.rx fun t =>
    if t.on R.PT_DISC_CTL_MDNS_EN ∧ (t.linkOf link.val).hasAddr then t.send .mdnsAnswer link.val (t.mdnsServices link.val) else t

/-- MDNS_ANNOUNCE_REPEAT (R74): the second announcement, 1 s after the first. -/
def execMdnsAnnounceRepeat (link : Nat) (s : State) : Host.Outcome State Fault Refusal :=
  if (s.linkOf link).annRepeat ∧ s.linkUp link ∧ s.on R.PT_DISC_CTL_MDNS_EN then
    done ((s.modLink link fun x => { x with annRepeat := false, services := s.mdnsServices link }).send .mdnsAnnounce link
      (s.mdnsServices link))
  else .next s

/-- A write of PT_DISC_CTL: DISC_EN 0 closes discovery connections, MDNS_EN 0 sends goodbyes; MDNS_EN set to 1 announces nothing on
links that are Up already (DESIGN CHOICE, notes/assumptions/71). -/
def State.discCtlWrite (s : State) (v : Nat) (path : Path) : State :=
  let s := s.writeReg (ptFields R.PT_DISC_CTL) 0 0 v path
  let s := if s.on R.PT_DISC_CTL_DISC_EN then s
    else (s.conns.keysWhere fun _ c => c.alive && c.kind == .disc).foldl (fun s c => s.close c true) s
  if s.on R.PT_DISC_CTL_MDNS_EN then s else s.each 8 State.goodbye

/-- PT_DISC_CTL_WRITE (R71). -/
def execPtDiscCtlWrite (value : Word) (s : State) (path : Path := .sideband) : Host.Outcome State Fault Refusal :=
  if s.mode = .off then .next s else done (s.discCtlWrite value.toNat path)

/-- A write of PT_LINK_CTL: MTU, DISABLE and RETRAIN. -/
def State.linkCtlWrite (s : State) (l v : Nat) (path : Path) : State :=
  let t := s.writeReg (ptFields R.PT_LINK_CTL) (l / 4) (l % 4) v path
  let t := (t.linkEval l).discSync s
  if bit v 1 then t.linkRetrain l else t

/-- A write of PT_ADATA: a staging word, or with word 11 the commit. -/
def State.addrWrite (s : State) (p v : Nat) (path : Path) : State :=
  let l := 4 * p + s.idxF path R.PT_AIDX_LINK p
  let w := s.idxF path R.PT_AIDX_WORD p
  if w < 11 then s.modLink l fun x => { x with stage := x.stage.set w v }
  else if w = 11 ∧ bit v 0 then s.addrCommit l
  else s

/-- A read of PT_ADATA: the staging word; word 11 reads 0. -/
def State.addrRead (s : State) (p : Nat) (path : Path) : Nat :=
  (s.linkOf (4 * p + s.idxF path R.PT_AIDX_LINK p)).stage.get (s.idxF path R.PT_AIDX_WORD p)

end Sys2Proof.Machine
end

