-- ==== Sys2Proof/Machine/Restart.lean ====
section
/-! DEFINITION. Restart.lean: what a start begins with: the checks on signed objects (R411), Sealed (R420), the entry to
Bootstrap, power-off and power-on, planned closing, and the modes in which the register window answers (R454, R455). -/

namespace Sys2Proof.Machine

/-! ### Lifecycle and signed objects -/

/-- FU_LIFE.STATE of the LIFECYCLE bits (Table 15-2): 5 is invalid. -/
def lcState (raw : Nat) : Nat :=
  match raw with
  | 0b0000 => 0 | 0b0001 => 1 | 0b0011 => 2 | 0b0111 => 3 | 0b1111 => 4 | _ => 5

abbrev State.life (s : State) : Nat := lcState s.boot.fuses.lifecycle

/-- R411, checks 1 to 5 in order: the object verifies under the two key hashes that govern it. -/
def verifies (f : SignedFacts) (marker khRsa khSlh : Nat) (blank : Bool) : Bool :=
  f.present && f.marker == marker && (blank || (f.rsaHash == khRsa && f.slhHash == khSlh)) && f.rsaOk && f.slhOk && f.bodyOk

/-- R411 for an object that the fuses govern. -/
def State.rootVerifies (s : State) (f : SignedFacts) (marker : Nat) : Bool :=
  verifies f marker s.boot.fuses.khRsa s.boot.fuses.khSlh (s.life == 0)

/-- A new nonce (R416). -/
def State.newNonce (s : State) : State := { s with boot.nonce := s.ctl.freeCtr, ctl.freeCtr := s.ctl.freeCtr + 1 }

/-- The current nonce, 256 bits (BT_NONCE). -/
def State.nonceValue (s : State) : Nat := Config.random s.boot.nonce % 2 ^ 256

/-- Sealed begins (R420): its cause, and the recovery monitor where the cause has it started and it verifies. -/
def State.seal (s : State) (cause : Nat) : State :=
  let run := [1, 3, 4, 5].contains cause && s.rootVerifies s.boot.monFacts 0x53465702
  let s := { s with
    boot.monitor := run, boot.meas := s.boot.meas.set 4 (if run then s.boot.monFacts.headerHash else 0) }
  let s := (s.setF R.BT_STS_SEAL_CAUSE cause).setF R.BT_STS_STEP 0
  let s := (s.setF R.BT_STS_FETCH_ACTIVE (b2n run)).setF R.BT_STS_FETCH_BANK 0
  s.raise R.BT_EVT_SEALED cause

/-! ### Entry to Bootstrap -/

/-- Fields outside the counters of the always-on blocks that count since Bootstrap or hold what Bootstrap starts anew. -/
def bootCleared : List R.Fld :=
  [R.CK_STEP_SWITCHES, R.CK_HOLD_MAX_HOLD, R.CK_PACER_CALIBRATED, R.PW_EST_P_PEAK, R.GL_SB_STS_ALERTS, R.GL_CP_STS_CP_OK,
   R.GL_CP_STS_TAKEOVERS, R.GL_SRAM_STS_CORRECTED, R.TH_SNS_SUSPECT, R.TH_SNS_DEV_RUN, R.PW_STS_HU_EXPOSED, R.PW_STS_RESERVED_OK]

/-- Counters whose descriptions give no clearing (R452). -/
def bootKept : List R.Fld :=
  [R.RC_ERRCNT_SQ_OVERRUNS, R.RC_ERRCNT_CID_CONFLICTS, R.RC_CANCEL_ABORT_CMDS, R.RC_CANCEL_DISCARDED, R.HP_CNT_STALE_DISC,
   R.HP_CNT_ACCESS_NAKS, R.GV_STS_OVERRUNS, R.LN_RT_CNT_REFUSALS, R.LN_FAULTS_NORESP, R.LN_FAULTS_ORDER_FAULTS,
   R.DC_CNT_T1_COUNT, R.DC_CNT_T2_COUNT, R.DC_CNT_T3_COUNT, R.DC_CNT_RETRY_COUNT, R.DC_CNT_FAIL_UNCORR, R.DC_CNT_FAIL_MISDIRECT,
   R.DC_CNT_CRC_CRC_REJECTS, R.DR_ECC_UNCORR]

/-- The blocks of the always-on domain: CLOCK, THERM, POWER and GLOBAL. -/
def alwaysOn (a : Nat) : Bool :=
  decide (a < 0x1000) || (decide (0x30000 ≤ a) && decide (a < 0x60000))

/-- The field that a key of the register file names. -/
def fieldOf (key : Nat) : Option R.Fld :=
  (R.fieldsOfBlock (key / 32)).find? fun F => F.lo == key % 32 && (F.reg.locate (key / 32)).isSome

/-- A field keeps its value at an entry to Bootstrap without PORST_N (R452; notes/assumptions/31). -/
def keepsField (key : Nat) : Bool :=
  match fieldOf key with
  | none => true
  | some F =>
    match F.acc with
    | .ro | .ros => !bootCleared.contains F && (bootKept.contains F || alwaysOn (key / 32))
    | _ => true

/-- Steps 1 and 2 of Table 15-7: a nonce is drawn; a Revoked or invalid lifecycle leads to Sealed (R409). -/
def State.bootStart (s : State) : State :=
  let s := s.newNonce.setF R.BT_STS_STEP 3
  if s.life = 4 then (s.move 0x03 .sealed).seal 2
  else if s.life = 5 then (s.move 0x03 .sealed).seal 1
  else s

/-- The links that are Up leave it, and their clocks with them. -/
def State.linksEnd (s : State) : State := s.each 8 fun s l => if s.linkUp l then s.linkLeave l 0 else s

/-- Every part of the machine that starts anew at Bootstrap; the fuses, the NOR, the flash, the always-on blocks and what they
hold remain (notes/assumptions/31). -/
def State.cleared (s : State) (porst : Bool) : State :=
  let k := s.clk
  let fresh : Boot :=
    { fuses := s.boot.fuses, trialPend := s.boot.trialPend, nor := s.boot.nor, norObj := s.boot.norObj, identity := s.boot.identity,
      nonce := s.boot.nonce, monFacts := s.boot.monFacts }
  { pending := s.pending,
    fields := if porst then [] else s.fields.filter fun (k, _) => keepsField k,
    ctl := { s.ctl with rate := [] },
    log := if s.ctl.prev = 8 ∨ s.ctl.prev = 9 then {} else s.log,
    clk := if porst then { tb := k.tb }
      else { k with held := false, becDone := false, resuming := false, stopped := false, latch := [] },
    pwr := { thermLow := s.pwr.thermLow, supplyLost := s.pwr.supplyLost, cmp := s.pwr.cmp, porst := porst,
             env := if porst then [] else s.pwr.env },
    boot := if porst then fresh
      else { fresh with debugOpen := s.boot.debugOpen, deriveBlocked := s.boot.deriveBlocked, i3cAddr := s.boot.i3cAddr,
                        tap := s.boot.tap, norBuf := s.boot.norBuf, tokBuf := s.boot.tokBuf, pskStage := s.boot.pskStage },
    disk := s.disk,
    media := { flash := s.media.flash, logLast := s.media.logLast },
    dram := { power := s.dram.power + 1 }, cpus := { sramSpares := s.cpus.sramSpares } }

/-- The sideband address in use follows the fuse (FU_SBADDR), 0x1D while it is unprogrammed. -/
def State.sbReset (s : State) : State :=
  s.setF R.FU_SBADDR_SB_ADDR (if s.boot.fuses.sbAddr = 0 then 0x1D else s.boot.fuses.sbAddr)

/-- Bootstrap begins in mode Bootstrap (R418). With PORST_N asserted its sequence waits for the release. -/
def State.bootstrapEnter (s : State) (porst : Bool) : State :=
  if porst then ((s.linksEnd).cleared true).sbReset else ((s.linksEnd).cleared false).bootStart

/-- PORST_N is released in Bootstrap: the Time Base restarts at 0, the Event Log is empty, and the sequence begins (R369, R460). -/
def State.porstRestart (s : State) : State :=
  let s := (s.cleared true).sbReset
  ({ s with clk.tb := 0, log := {}, ctl.evq := [], pwr.porst := false }).bootStart

/-- Off: nothing keeps its content but flash, the NOR and the fuses (Table 01-8, Table 14-3). -/
def State.powerOff (s : State) : State :=
  { pending := s.pending,
    ctl := { mode := .off, prev := s.ctl.prev, trigger := s.ctl.trigger, out := s.ctl.out, freeCtr := s.ctl.freeCtr },
    boot := { fuses := s.boot.fuses, nor := s.boot.nor, norObj := s.boot.norObj, identity := s.boot.identity, monFacts := s.boot.monFacts },
    disk := s.disk, media := { flash := s.media.flash, logLast := s.media.logLast }, dram := { power := s.dram.power + 1 } }

/-- Power-on: PORST_N is released with the supplies good, and Bootstrap begins (Table 01-8). -/
def State.powerOn (s : State) : State :=
  ({ s with clk.tb := 0, log := {}, ctl.evq := [], ctl.mode := .bootstrap, ctl.prev := 0, ctl.trigger := 1 }).sbReset.bootStart

/-! ### Planned closing (R33) -/

/-- A change to Bootstrap from Service or Read-Only: staging and the tail go to flash with a CLOSE record (R33), and the hosts'
side stops. -/
def State.plannedClose (s : State) : State :=
  let s := { s with per.flushUs := 0, per.flushKind := 0, per.flushPacer := false }
  s.hostStop.flushMedia true

/-- Host staging and queued commands are discarded, no completion is posted (R416, REVOKE). -/
def State.dropStaging (s : State) : State :=
  { s with media.stage := [], media.jobs := [], media.tail := [], media.relocs := [] }

/-! ### Composite temperature (R401) -/

/-- HOT in whole kelvin, rounded down: 273.15 K above °C. -/
def State.kelvin (s : State) : Int := (ofField 16 (s.f R.TH_SUM_HOT) * 100 + 437040) / 1600

/-- Thresholds of a controller; THSEL 0: over, 1: under; kept as their value + 1 once set. -/
def Ctrl.threshold (c : Ctrl) (thsel : Nat) : Nat :=
  let v := c.feats.get (0x0400 + thsel)
  if v = 0 then (if thsel = 0 then 373 else 273) else v - 1

/-- The composite lies outside a controller's thresholds. -/
def State.tempOut (s : State) (k : Nat) : Bool :=
  let c := s.ctrl k
  decide ((c.threshold 0 : Int) < s.kelvin) || decide (s.kelvin < c.threshold 1)

/-- The composite crosses a threshold: OVER_TEMP, and at the onset of a controller's alarm an asynchronous event where it is
enabled (R401): SMART / health, temperature threshold, log page 0x02. -/
def State.tempCheck (s : State) : State :=
  let crossed := s.ctrls.keysWhere fun k c => c.alive && !c.disc && s.tempOut k && !c.tempAlarm
  let s := { s with ctrls := s.ctrls.mapAll fun k (c : Ctrl) => { c with tempAlarm := c.alive && !c.disc && s.tempOut k } }
  if crossed.isEmpty then s
  else crossed.foldl (fun (s : State) k => if bit ((s.ctrl k).feats.get 0x0B) 1 then s.asyncEvent k (1, 1, 2) else s)
    (s.raise R.TH_EVT_OVER_TEMP)

/-! ### Paths to the registers (R454, R455) -/

/-- A request of a path is served in this mode; `ro`: it reads registers of GLOBAL, FUSE or BOOT only. -/
def State.regMode (s : State) (p : Path) (ro : Bool := false) : Bool :=
  match p with
  | .sideband =>
    s.up && (ro || !(s.mode == .bootstrap || (s.mode == .sealed && [2, 6].contains (s.f R.BT_STS_SEAL_CAUSE))))
  | .ctrl c =>
    (s.ctrl c).alive && !(s.ctrl c).disc && (s.cfg (s.ctrl c).slice).mgmt &&
      s.modeIn [.rebuild, .service, .readOnly, .feathered, .sanitize]

end Sys2Proof.Machine
end

