-- ==== Sys2Proof/Machine/Power.lean ====
section
/-! DEFINITION. Power.lean: power loss, PORST_N, the flushes, hold-up arming, envelopes, the sensor grid and the thermal
trip (14, 01). -/

namespace Sys2Proof.Machine

/-- Entry to Hold-up Flush, steps 1 to 4 of Table 14-6 (R394). -/
def State.flushEntry (s : State) (t : Nat) : State :=
  let from_ := s.mode
  let s := { s with ctl.flushFrom := from_, pwr.flushEnded := false, pwr.flushOnPacer := s.on R.CK_SEL_TB_PACER }
  let s := s.move t .holdupFlush
  let s := s.hostStop.dropIdleRows.stageToSpills.dramOff
  (s.each 32 fun s l => s.setF R.LN_EASY_EASY 0 l).putF R.PW_DIE_DIE_BUDGET s.pwr.flushDies

/-- PORST_N_RELEASE (R369): the Time Base restarts at 0, the Event Log is cleared (R460), and Bootstrap begins. From Off it
is the power-on of Table 01-8. In a mode in which PORST_N was never asserted it has no row (R34). -/
def execPorstNRelease (s : State) : Host.Outcome State Fault Refusal :=
  if s.mode = .off then done s.powerOn
  else if s.mode = .bootstrap then done s.porstRestart
  else
    let s := if s.pwr.porst then { s with clk.tb := 0 } else s
    done (({ s with pwr.porst := false }).trigIgnored 0x01)

/-- PORST_N_ASSERT (R35): Hold-up Flush or Bootstrap by Table 01-8; in Hold-up Flush no effect until the flush is done. -/
def execPorstNAssert (s : State) : Host.Outcome State Fault Refusal :=
  if s.mode = .off then .next s
  else
    let s := { s with pwr.porst := true }
    if s.mode = .holdupFlush then done s
    else if flushModes.contains s.mode then done (s.flushEntry 0x13)
    else if s.mode = .thermalRest ∧ s.pwr.tripFlush ∧ ¬ s.pwr.flushEnded then done s
    else done ((s.move 0x13 .bootstrap).bootstrapEnter true)

/-- POWER_LOSS (R385): Hold-up Flush, or Off; a loss during a flush or a trip flush does not end it (R35, R405). -/
def execPowerLoss (s : State) : Host.Outcome State Fault Refusal :=
  if s.mode = .off then .next s
  else
    let s := ({ s with pwr.supplyLost := true }).setF R.PW_STS_PWRGD 0
    if s.mode = .holdupFlush then (if s.pwr.flushEnded then .next (s.move 0x14 .off).powerOff else done s)
    else if s.mode = .thermalRest ∧ s.pwr.shdn then done s
    else if flushModes.contains s.mode then done (s.flushEntry 0x12)
    else if s.mode = .thermalRest ∧ s.pwr.tripFlush ∧ ¬ s.pwr.flushEnded then done s
    else .next (s.move 0x12 .off).powerOff

/-- Steps 5 and 6 of Table 14-6 as they end: rows, spills and the Logbook tail are on flash, with a CLOSE record unless the
flush was entered from Rebuild (R33, R394, R395); the flush's duration is recorded. -/
def State.flushFinish (s : State) (kind us : Nat) : State :=
  let close := s.ctl.flushFrom ≠ .rebuild
  let s := { s with per.flushUs := min us 65535, per.flushKind := kind, per.flushPacer := s.pwr.flushOnPacer }
  let s := s.flushMedia close
  { s with pwr.flushEnded := true }

/-- FLUSH_DONE (R394): the flush ends; without power the part goes Off, otherwise it waits for 10 ms of good power. A flush whose energy ran
out before step 6 leaves what is on flash, and the next start is unclean (R398). -/
def execFlushDone (flush : FlushEnd) (s : State) : Host.Outcome State Fault Refusal :=
  if s.mode = .holdupFlush ∧ ¬ s.pwr.flushEnded then
    if ¬ flush.complete then .next (s.move 0x14 .off).powerOff
    else
    let lost := s.pwr.supplyLost
    let s := ((s.flushFinish 1 flush.us).setF R.PW_STS_HOLDUP_EN 0).disarm
    if lost then .next (s.move 0x14 .off).powerOff else done s
  else if s.mode = .off then .next s
  else done (s.trigIgnored 0x14)

/-- From step 4 of Table 14-9 on the Pacer is off: with no source selected the Time Base holds its value (R381). -/
def State.restHold (s : State) : State := { s with clk.held := s.on R.CK_SEL_TB_PACER || s.f R.CK_SEL_SELECTED == 15 }

/-- POWER_GOOD_TIMER (R34): power good for 10 ms after the flush; Bootstrap, or Thermal Rest with a trip latched. -/
def execPowerGoodTimer (s : State) : Host.Outcome State Fault Refusal :=
  if s.mode = .off then .next s
  else if s.mode = .holdupFlush then
    if ¬ s.pwr.flushEnded then .next s
    else
      let s := ({ s with pwr.supplyLost := false }).setF R.PW_STS_PWRGD 1
      if s.on R.TH_TRIP_LATCH then
        done { s.move 0x14 .thermalRest with pwr.tripFlush := false, pwr.flushEnded := true }.restHold
      else done ((s.move 0x14 .bootstrap).bootstrapEnter s.pwr.porst)
  else done (s.trigIgnored 0x14)

/-- HOLDUP_OK_RISE (R392): HOLDUP_OK rises; it counts only while HOLDUP_EN is high (R391). -/
def execHoldupOkRise (s : State) : Host.Outcome State Fault Refusal :=
  if s.mode = .off then .next s else done (s.setF R.PW_STS_HOLDUP_OK 1)

/-- HOLDUP_ARM_TIMER (R392): the three conditions hold; hold-up is armed, and ACK_RULE 1 applies to completions posted from
now on (R91, R22). -/
def execHoldupArmTimer (s : State) : Host.Outcome State Fault Refusal :=
  if s.mode = .off ∨ ¬ s.holdupEn ∨ ¬ s.on R.PW_STS_HOLDUP_OK ∨ s.on R.PW_STS_ARMED then .next s
  else
    let s := s.reserve
    if ¬ s.on R.PW_STS_RESERVED_OK then done s
    else
      let s := ((s.setF R.PW_STS_ARMED 1).setF R.RC_ACK_STS_ACK_RULE 1).addF R.RC_ACK_STS_RULE_CHANGES
      let s := (s.raise R.PW_EVT_ARMED).raise R.RC_EVT_ACK_RULE_CHG 1
      done s.postReady

/-- HOLDUP_OK_FALL (R392): hold-up disarms; every partial row spills (R393). -/
def execHoldupOkFall (s : State) : Host.Outcome State Fault Refusal :=
  if s.mode = .off then .next s
  else
    done (s.setF R.PW_STS_HOLDUP_OK 0).disarmSpill.afterRows

/-- A write of ENV_REQ (R390): the request waits for a sample boundary; a rising VCORE_MV is posted first, and PENDING is 1 until the supply
has followed. -/
def State.envReq (s : State) (env : Nat) : State :=
  let s := s.setF R.PW_ENV_ENV_REQ env
  let e := (s.pwr.env[env % 4]?).getD {}
  let now := ((s.pwr.env[s.f R.PW_ENV_ENV_ACTIVE]?).getD {}).vcoreMv
  let s := s.setF R.PW_ENV_PENDING (b2n (decide (now < e.vcoreMv)))
  if e.vcoreMv > now then (s.putF R.PW_ENV_VREQ_MV e.vcoreMv).raise R.PW_EVT_VREQ_CHG e.vcoreMv else s

/-- ENV_REQ_WRITE (R390). -/
def execEnvReqWrite (env : Nat) (s : State) : Host.Outcome State Fault Refusal :=
  if s.mode = .off then .next s else done (s.envReq env)

/-! ### The sensor grid -/

/-- The neighbours of sensor i: above, below, left, right (R399). -/
def neighbours (i : Nat) : List Nat :=
  (if 6 ≤ i then [i - 6] else []) ++ (if i < 18 then [i + 6] else []) ++ (if i % 6 ≠ 0 then [i - 1] else []) ++
    (if i % 6 ≠ 5 then [i + 1] else [])

/-- Insertion into a rising list. -/
def insertInt (x : Int) : List Int → List Int
  | [] => [x]
  | y :: r => if x ≤ y then x :: y :: r else y :: insertInt x r

/-- The median; of an even number the mean of the middle two (R400). -/
def median (l : List Int) : Option Int :=
  let a := l.foldr insertInt []
  let n := a.length
  if n = 0 then none
  else if n % 2 = 1 then a[n / 2]?
  else match a[n / 2 - 1]?, a[n / 2]? with
    | some x, some y => some ((x + y) / 2)
    | _, _ => none

/-- One sensor's reading (R400), against the readings of its valid neighbours. -/
def State.sensorOne (s0 : State) (temps : List Int) (s : State) (i : Nat) : State :=
  let t := (temps[i]?).getD 0
  let nb := (neighbours i).filter fun j => !s0.on R.TH_SNS_SUSPECT 0 j
  let med := median (nb.map fun j => (temps[j]?).getD 0)
  if s0.on R.TH_SNS_SUSPECT 0 i then
    match med with
    | some m => (s.setF R.TH_SNS_TEMP (toField 16 m) 0 i).setF R.TH_SNS_NOVALUE 0 0 i
    | none => s.setF R.TH_SNS_NOVALUE 1 0 i
  else
    let s := s.setF R.TH_SNS_TEMP (toField 16 t) 0 i
    match med with
    | some m =>
      if 2 ≤ nb.length then
        let run := if (t - m).natAbs > 128 then satInc 8 (s.f R.TH_SNS_DEV_RUN 0 i) else 0
        let s := s.setF R.TH_SNS_DEV_RUN run 0 i
        if 16 ≤ run then ((s.setF R.TH_SNS_SUSPECT 1 0 i).raise R.TH_EVT_SUSPECT i).setF R.TH_SNS_TEMP (toField 16 m) 0 i else s
      else s
    | none => s

/-- The readings of the valid sensors (R400). -/
def State.validTemps (s : State) : List Int :=
  ((List.range 24).filter fun i => !s.on R.TH_SNS_SUSPECT 0 i).map fun i => ofField 16 (s.f R.TH_SNS_TEMP 0 i)

/-- HOT and MEAN over valid sensors; without any, they keep their values. -/
def State.sensorSum (s : State) : State :=
  match s.validTemps with
  | [] => s
  | t :: r =>
    let hot := r.foldl max t
    let mean := (t + r.foldl (· + ·) 0) / ((r.length + 1 : Nat) : Int)
    (s.setF R.TH_SUM_HOT (toField 16 hot)).setF R.TH_SUM_MEAN (toField 16 mean)

/-- THERM_N follows HOT (R402). -/
def State.thermN (s : State) : State :=
  let hot := ofField 16 (s.f R.TH_SUM_HOT)
  if ¬ s.pwr.thermLow ∧ hot ≥ 16 * s.f R.TH_CFG_THERM_ON then
    ({ s with pwr.thermLow := true }).raise R.TH_EVT_THERM_LOW
  else if s.pwr.thermLow ∧ hot ≤ 16 * s.f R.TH_CFG_THERM_OFF ∧ ¬ s.on R.TH_TRIP_LATCH then
    { s with pwr.thermLow := false }
  else s

/-- Every valid sensor reads at most 95 °C, and at least one is valid (R406). -/
def State.coolNow (s : State) : Bool := !s.validTemps.isEmpty && s.validTemps.all (· ≤ 95 * 16)

/-- SENSOR_READING (R399): the grid is read; suspects (R400), HOT and MEAN, THERM_N (R402), the composite thresholds (R401),
the Bootstrap check of Table 01-8 and the progress of Thermal Rest follow. -/
def execSensorReading (temps : List Int) (s : State) : Host.Outcome State Fault Refusal :=
  if s.mode = .off then .next s
  else
    let s := (List.range 24).foldl (fun a i => State.sensorOne s temps a i) s
    let s := s.sensorSum.thermN.tempCheck
    -- no comparator then reads above its 118 °C threshold (notes/assumptions/32)
    let s := if s.coolNow then { s with pwr.cmp := 0 } else s
    if s.mode = .bootstrap then
      let s := { s with pwr.readings := min 32 (s.pwr.readings + 1) }
      if s.pwr.readings = 32 ∧ s.validTemps.any (· > 95 * 16) then
        let s := s.move 0x1A .thermalRest
        done { s with pwr.tripFlush := false, pwr.flushEnded := true }.restHold
      else done (if s.pwr.readings = 32 ∧ s.f R.BT_STS_STEP ≤ 3 then s.setF R.BT_STS_STEP 4 else s)
    else if s.mode = .thermalRest then
      let cool := if s.coolNow then s.pwr.coolReads + 1 else 0
      let s := { s with pwr.coolReads := cool, pwr.restReads := s.pwr.restReads + 1 }
      done ((s.setF R.TH_REST_COOL_MS (min 1024 (cool / 10))).putF R.TH_REST_REST_S (s.pwr.restReads / 10000))
    else done s

/-- COMPARATOR_DISAGREE_TIMER (R403): a comparator has disagreed with its triplet for 1 s. -/
def execComparatorDisagreeTimer (triplet : Nat) (s : State) : Host.Outcome State Fault Refusal :=
  if s.mode = .off ∨ 8 ≤ triplet then .next s
  else done ((s.setF R.TH_TRIP_DISAGREE (setBit (s.f R.TH_TRIP_DISAGREE) triplet true)).raise R.TH_EVT_DISAGREE triplet)

/-- Two comparators of triplet t read above the threshold (R403). -/
def voted (cmp t : Nat) : Bool :=
  let b := fun i => bit cmp (3 * t + i)
  (b 0 && b 1) || (b 0 && b 2) || (b 1 && b 2)

/-- THERMAL_TRIP (R404): a comparator reads above; with two of one triplet the trip latches. In Hold-up Flush the flush goes
on and SHDN_N is driven (R37); a second trip while LATCH is 1 has no effect (R405), and Thermal Rest has no row for another (R34). -/
def execThermalTrip (cmp : Nat) (s : State) : Host.Outcome State Fault Refusal :=
  if s.mode = .off ∨ 24 ≤ cmp then .next s
  else
    let s := { s with pwr.cmp := setBit s.pwr.cmp cmp true }
    if ¬ voted s.pwr.cmp (cmp / 3) ∨ s.on R.TH_TRIP_LATCH then done s
    else
      let fired := (List.range 8).foldl (fun m t => setBit m t (voted s.pwr.cmp t)) 0
      let s := ((s.setF R.TH_TRIP_FIRED fired).setF R.TH_TRIP_LATCH 1).setF R.TH_EVT_TRIP 1
      let s := { s with pwr.thermLow := true }
      if s.mode = .holdupFlush then done { s with pwr.shdn := true }
      else if s.mode = .thermalRest then done (s.trigIgnored 0x15)
      else
        let from_ := s.mode
        let flush := [Mode.service, .readOnly, .feathered, .becalmed, .sanitize].contains from_
        let s := { s with ctl.flushFrom := from_, pwr.tripFlush := flush, pwr.flushEnded := false,
                          pwr.flushOnPacer := s.on R.CK_SEL_TB_PACER, pwr.restMet := false, pwr.coolReads := 0,
                          pwr.restReads := 0 }
        let s := (s.move 0x15 .thermalRest).hostStop
        let s := if flush then { s with per.tripFired := fired }.dropIdleRows.stageToSpills else s
        done s.dramOff

/-- TRIP_FLUSH_DONE (R404): steps 4 and 5 of Table 14-9; after a supply loss the part is Off (R405), and a flush whose energy ran out
leaves what is on flash (R398). -/
def execTripFlushDone (flush : FlushEnd) (s : State) : Host.Outcome State Fault Refusal :=
  if s.mode ≠ .thermalRest ∨ s.pwr.flushEnded then .next s
  else if ¬ flush.complete ∧ s.pwr.supplyLost then .next (s.move 0x12 .off).powerOff
  else
    let (lost, porst) := (s.pwr.supplyLost, s.pwr.porst)
    let s := if s.pwr.tripFlush then s.flushFinish 2 flush.us else { s with pwr.flushEnded := true }
    let s := (s.setF R.PW_STS_HOLDUP_EN 0).disarm
    if lost then .next (s.move 0x12 .off).powerOff
    else if porst then done ((s.move 0x13 .bootstrap).bootstrapEnter true)
    else done { s with pwr.shdn := true }.restHold

/-- Thermal Rest ends: LATCH clears, SHDN_N and THERM_N rise; Bootstrap follows once PWRGD_IN is high (R406). -/
def State.restLeave (s : State) : State :=
  let s := (s.setF R.TH_TRIP_LATCH 0).raise R.TH_EVT_REST_END
  let s := { s with pwr.shdn := false, pwr.thermLow := false, clk.held := false, pwr.restMet := false }
  (s.move 0x16 .bootstrap).bootstrapEnter false

/-- THERMAL_REST_EXIT_TIMER (R406): every valid sensor has read 95 °C or less and no comparator above its threshold for 1 s; without PWRGD_IN the entry to Bootstrap waits. -/
def execThermalRestExitTimer (s : State) : Host.Outcome State Fault Refusal :=
  if s.mode = .off then .next s
  else if s.mode = .thermalRest then
    if ¬ s.pwr.flushEnded ∨ ¬ s.coolNow ∨ s.pwr.cmp ≠ 0 then .next s
    else
      if s.on R.PW_STS_PWRGD then done s.restLeave
      else done ({ s with pwr.restMet := true, pwr.shdn := false, pwr.thermLow := false }.setF R.TH_TRIP_LATCH 0)
  else done (s.trigIgnored 0x16)

/-- PWRGD_IN_RISE (R406): the supplies are good; a Thermal Rest that has met its exit conditions enters Bootstrap. -/
def execPwrgdInRise (s : State) : Host.Outcome State Fault Refusal :=
  if s.mode = .off then .next s
  else
    let s := ({ s with pwr.supplyLost := false }).setF R.PW_STS_PWRGD 1
    if s.mode = .thermalRest ∧ s.pwr.restMet then done s.restLeave else done s

/-! ### Triggers of one handshake (R36) -/

/-- The place of a command's trigger in the list of R36; a command outside the list comes after it. -/
def trigRank : Instr → Nat
  | .powerLoss | .porstNAssert => 0
  | .thermalTrip _ => 1
  | .tokenRevoke _ => 2
  | .edgeSentinelFire _ | .linkLoss _ => 3
  | .recipeEnd _ _ => 4
  | .featheredRequest | .managerControllerReset => 5
  | _ => 6

/-- Commands of one handshake stand at the front of the queue in the order of R36, those of one place in the order given; each next
one is then judged against the mode that the one before it left (Table 01-8). -/
def State.oneHandshake (s : State) (cs : List Instr) : State :=
  { s with pending := cs.mergeSort (fun a b => decide (trigRank a ≤ trigRank b)) ++ s.pending }

end Sys2Proof.Machine
end

