-- ==== Sys2Proof/Machine/Security.lean ====
section
/-! DEFINITION. Security.lean: signed objects, tokens, the NOR, the random generator, SPDM, the TLS PSK table, JTAG and the
I3C address (15, 18). -/

namespace Sys2Proof.Machine

/-- Every key slot zeroised (R416, R430, R436). -/
def State.zeroiseKeys (s : State) : State := { s with keys := s.keys.mapAll fun _ k => { k with valid := false, key := 0 } }

/-- What a NOR word holds that was not programmed by itself: erased, or a word of an object written whole (free value). -/
def norBase (l : List (Nat × Nat × Nat)) (w : Nat) : Nat :=
  match l.find? fun (a, n, _) => decide (a ≤ w ∧ w < a + n) with
  | some (_, _, k + 1) => Config.garbage (2 ^ 80 + k * 2 ^ 24 + w) % 2 ^ 32
  | _ => 0xFFFFFFFF

/-- A NOR word by word address. -/
def State.norWord (s : State) (w : Nat) : Nat := s.boot.nor.getD (norBase s.boot.norObj w) w

/-- A range of the NOR is erased (k = 0), or written whole with an object's bytes. -/
def State.norRange (s : State) (a n k : Nat) : State :=
  { s with boot.nor := s.boot.nor.filter (fun (x, _) => ¬ (a ≤ x ∧ x < a + n)), boot.norObj := (a, n, k) :: s.boot.norObj }

/-! ### Tokens (R416) -/

/-- The checks of R416 in the order of the RESULT codes of BT_TCMD; 0: accepted. -/
def State.tokenResult (s : State) (tok : TokenFacts) (lifeOk modeOk argOk : Bool) : Nat :=
  if ¬ s.rootVerifies tok.sig 0x53465705 then 1
  else if tok.uid ≠ s.boot.fuses.uid ∨ tok.nonce ≠ s.nonceValue then 2
  else if ¬ lifeOk then 3
  else if ¬ modeOk then 4
  else if ¬ argOk then 6
  else 0

/-- A submission can reach BT_TCMD: power, and not Sealed with cause 2 or 6 (Table 15-8). -/
def State.tokenPath (s : State) : Bool :=
  s.up && !(s.mode == .sealed && [2, 6].contains (s.f R.BT_STS_SEAL_CAUSE))

/-- A submitted token: RESULT, the event with OP and RESULT, the effect of an accepted one, and a new nonce (R416, R435). -/
def State.token (s : State) (op : Nat) (tok : TokenFacts) (lifeOk modeOk argOk : Bool) (eff : State → State) : State :=
  let r := s.tokenResult tok lifeOk modeOk argOk
  let s := s.setF R.BT_TCMD_RESULT r
  let s := if r = 0 then (eff s).raise R.BT_EVT_TOKEN_OK op 0 else s.raise R.BT_EVT_TOKEN_REFUSED op r
  s.newNonce

/-- TOKEN_PROVISION (R416). -/
def execTokenProvision (tok : TokenFacts) (s : State) : Host.Outcome State Fault Refusal :=
  if ¬ s.tokenPath then .next s
  else done <| s.token 1 tok (s.life == 0) (s.modeIn [.sealed, .trial]) true fun s =>
    let (sec, s) := s.drawRandom
    let (ids, s) := s.drawRandom
    let fu := s.boot.fuses
    let s := (s.norRange 0x4000 0x8000 (ids + 1)).norRange 0x804000 0x8000 (ids + 1)
    { s with boot.fuses := { fu with khRsa := fu.khRsa ||| tok.sig.rsaHash, khSlh := fu.khSlh ||| tok.sig.slhHash,
                                     devSecret := fu.devSecret ||| (sec % 2 ^ 256), lifecycle := fu.lifecycle ||| 0b0001 },
             boot.identity := ids + 1 }

/-- TOKEN_DEPLOY (R416): LIFECYCLE to Deployed; TRIAL_PEND clears (R417). -/
def execTokenDeploy (tok : TokenFacts) (s : State) : Host.Outcome State Fault Refusal :=
  if ¬ s.tokenPath then .next s
  else done <| s.token 2 tok (s.life == 1) true true fun s =>
    { s with boot.fuses.lifecycle := s.boot.fuses.lifecycle ||| 0b0011, boot.trialPend := false }

/-- TOKEN_RETURN (R416): LIFECYCLE to Returned, every key slot zeroised; in Service a change to Bootstrap follows. -/
def execTokenReturn (tok : TokenFacts) (s : State) : Host.Outcome State Fault Refusal :=
  if ¬ s.tokenPath then .next s
  else done <| s.token 3 tok (s.life == 1 || s.life == 2) (s.modeIn [.service, .sealed]) true fun s =>
    let s := { s.zeroiseKeys with boot.fuses.lifecycle := s.boot.fuses.lifecycle ||| 0b0111 }
    if s.mode = .service then (s.plannedClose.move 0x10 .bootstrap).bootstrapEnter false else s

/-- TOKEN_REVOKE (R416): LIFECYCLE to Revoked; what follows depends on the mode. Hold-up Flush and Thermal Rest have no row for it:
the trigger is ignored and logged (R34), and the next Bootstrap reads the fuses (R409). -/
def execTokenRevoke (tok : TokenFacts) (s : State) : Host.Outcome State Fault Refusal :=
  if ¬ s.tokenPath then .next s
  else done <| s.token 4 tok (s.life != 4) true true fun s =>
    let s := { s with boot.fuses.lifecycle := s.boot.fuses.lifecycle ||| 0b1111, boot.trialPend := false }
    if canMove s.mode 0x11 .sealed then
      (s.hostStop.dropStaging.dramOff.move 0x11 .sealed).seal 6
    else if s.mode = .bootstrap then { s with boot.revokePend := true }
    else if s.mode = .sealed then
      ({ s with boot.monitor := false }.setF R.BT_STS_FETCH_ACTIVE 0).setF R.BT_STS_SEAL_CAUSE 6
    else s.trigIgnored 0x11

/-- TOKEN_TRIAL (R416): sets TRIAL_PEND. -/
def execTokenTrial (tok : TokenFacts) (s : State) : Host.Outcome State Fault Refusal :=
  if ¬ s.tokenPath then .next s
  else done <| s.token 5 tok ([0, 1, 3].contains s.life) (s.modeIn [.sealed, .service, .trial]) true fun s =>
    { s with boot.trialPend := true }

/-- TOKEN_DEBUG_UNLOCK (R430): keys zeroised, derivation blocked, then DEBUG_OPEN. -/
def execTokenDebugUnlock (tok : TokenFacts) (s : State) : Host.Outcome State Fault Refusal :=
  if ¬ s.tokenPath then .next s
  else done <| s.token 6 tok (s.life != 4 && !s.boot.fuses.debugLock) (s.modeIn [.sealed, .trial]) true fun s =>
    { s.zeroiseKeys with boot.deriveBlocked := true, boot.debugOpen := true }.raise R.BT_EVT_DEBUG_OPEN

/-- The ARG of FUSE_SET is valid (Table 15-6): SB_ADDR only while unprogrammed, COUNT only above the present one, rsvd 0. -/
def State.fuseArgOk (s : State) (arg : List Nat) : Bool :=
  let a := fun i => (arg[i]?).getD 0
  a 0 < 8 && a 1 < 16 && a 2 < 128 && (a 2 == 0 || s.boot.fuses.sbAddr == 0) &&
    (a 3 == 0 || (s.count < a 3 && a 3 ≤ 128)) && (arg.drop 4).all (· == 0)

/-- TOKEN_FUSE_SET (R416): blows format, JTAG, lock, address or rollback fuses. -/
def execTokenFuseSet (tok : TokenFacts) (s : State) : Host.Outcome State Fault Refusal :=
  if ¬ s.tokenPath then .next s
  else done <| s.token 7 tok ([1, 2, 3].contains s.life) true (s.fuseArgOk tok.arg) fun s =>
    let a := fun i => (tok.arg[i]?).getD 0
    let fu := s.boot.fuses
    let fu := { fu with fmtForbid := fu.fmtForbid ||| a 0, jtag := fu.jtag ||| (a 1 % 4),
                        debugLock := fu.debugLock || bit (a 1) 2, sbLock := fu.sbLock || bit (a 1) 3,
                        sbAddr := fu.sbAddr ||| a 2 }
    let s := { s with boot.fuses := fu }
    let s := if a 2 = 0 then s else s.setF R.FU_SBADDR_SB_ADDR (a 2)
    if a 3 = 0 then s else s.raiseCount (a 3)

/-! ### The NOR (R412, R414, R421) -/

def State.setNor (s : State) (w v : Nat) : State := { s with boot.nor := s.boot.nor.setD 0xFFFFFFFF w (v % 2 ^ 32) }

/-- A directory record with count gen and preference p: its 16 words (R414). -/
def dirRecord (gen : Nat) (p : Bool) : List Nat :=
  let ws := [gen % 2 ^ 32, b2n p] ++ List.replicate 13 0
  ws ++ [crc32c ((ws.map wordBytes).flatten)]

/-- The governing directory record: highest GEN with a correct CRC32C in either directory; GEN and PREFER (R414). -/
def State.directory (s : State) : Option (Nat × Bool) :=
  let recs := (s.boot.nor.map fun (w, _) => w / 16).dedup.filter fun r => r < 1024 ∨ (0x80000 ≤ r ∧ r < 0x80400)
  recs.foldl (fun best r =>
    let ws := (List.range 16).map fun i => s.norWord (16 * r + i)
    let gen := (ws[0]?).getD 0
    let ok := crc32c (((ws.take 15).map wordBytes).flatten) == (ws[15]?).getD 0
    let p := bit ((ws[1]?).getD 0) 0
    if ok then
      match best with
      | some (g, q) => if g < gen then some (gen, p) else some (g, q)
      | none => some (gen, p)
    else best) none

/-- One directory gets a record: appended after its last one, or at the start of an erased directory (R414). -/
def State.dirAppend (s : State) (base : Nat) (rcd : List Nat) : State :=
  let used := (s.boot.nor.filter fun (w, _) => base ≤ w ∧ w < base + 16384).map fun (w, _) => (w - base) / 16 + 1
  let n := used.foldl max 0
  let s := if n < 1024 then s
    else { s with boot.nor := s.boot.nor.filter fun (w, _) => ¬ (base ≤ w ∧ w < base + 16384) }
  let n := if n < 1024 then n else 0
  ((List.range 16).zip rcd).foldl (fun s (i, v) => s.setNor (base + 16 * n + i) v) s

/-- PREFER set: a record with GEN raised by 1 goes to directory 0 and then to directory 1 (R414). -/
def State.setPrefer (s : State) (b : Bool) : State :=
  let gen := match s.directory with
    | some (g, _) => g + 1
    | none => 1
  let s := (s.dirAppend 0 (dirRecord gen b)).dirAppend 0x800000 (dirRecord gen b)
  s.setF R.BT_STS_PREFER (b2n b)

/-- BT_NCMD acts in this mode (R421, Table 15-8). -/
def State.norMode (s : State) : Bool :=
  s.mode == .trial || (s.mode == .sealed && !([2, 6] : List Nat).contains (s.f R.BT_STS_SEAL_CAUSE))

/-- A BT_NCMD command starts, or is refused with its RESULT (R421, R422). -/
def State.norStart (s : State) (cmd : Nat) : State :=
  let a := s.f R.BT_NADDR_ADDR
  let a := if cmd = 3 then a / 65536 * 65536 else a / 4096 * 4096
  if s.on R.BT_NCMD_BUSY then s.setF R.BT_NCMD_RESULT 1
  else if ¬ s.norMode then s.setF R.BT_NCMD_RESULT 2
  else if cmd ≠ 1 ∧ s.on R.BT_STS_FETCH_ACTIVE ∧ s.f R.BT_STS_FETCH_BANK = b2n (0x2000000 ≤ a) then
    (s.setF R.BT_NCMD_RESULT 3).raise R.BT_EVT_FETCH_BANK (b2n (0x2000000 ≤ a))
  else ({ s with boot.norOp := some (cmd, a) }).setF R.BT_NCMD_BUSY 1

/-- A NOR command ends (R422). -/
def State.norEnd (s : State) (ok : Bool) : State :=
  match s.boot.norOp with
  | none => s
  | some (cmd, a) =>
    let s := ({ s with boot.norOp := none }).setF R.BT_NCMD_BUSY 0
    if ¬ ok then s.setF R.BT_NCMD_RESULT 4
    else
      let s := s.setF R.BT_NCMD_RESULT 0
      let w := a / 4
      if cmd = 1 then s.each 1024 fun s i => { s with boot.norBuf := s.boot.norBuf.set i (s.norWord (w + i)) }
      else if cmd = 2 then s.each 1024 fun s i => s.setNor (w + i) (s.norWord (w + i) &&& s.boot.norBuf.get i)
      else s.norRange w 16384 0

/-- NOR_READ (R421): 4 KiB into the buffer; it waits while no source is selected (R376). -/
def execNorRead (s : State) : Host.Outcome State Fault Refusal :=
  if s.mode = .off then .next s
  else
    let t := s.norStart 1
    if s.on R.BT_NCMD_BUSY ∨ s.f R.CK_SEL_SELECTED = 15 then done t else done (t.norEnd true)

/-- NOR_PROGRAM (R421): the program of 4 KiB starts; NOR_OP_DONE ends it. -/
def execNorProgram (s : State) : Host.Outcome State Fault Refusal :=
  if s.mode = .off then .next s else done (s.norStart 2)

/-- NOR_ERASE (R421): the erase of 64 KiB starts; NOR_OP_DONE ends it. -/
def execNorErase (s : State) : Host.Outcome State Fault Refusal :=
  if s.mode = .off then .next s else done (s.norStart 3)

/-- NOR_OP_DONE (R422). -/
def execNorOpDone (ok : Bool) (s : State) : Host.Outcome State Fault Refusal :=
  if s.mode = .off ∨ s.f R.CK_SEL_SELECTED = 15 then .next s else done (s.norEnd ok)

/-! ### Random generator (R437) -/

/-- RNG_HEALTH_FAIL: the output is discarded and a reseed starts. -/
def execRngHealthFail (s : State) : Host.Outcome State Fault Refusal :=
  if s.mode = .off then .next s
  else done (((s.setF R.CR_RNG_READY 0).setF R.CR_RNG_TEST_FAIL 1).addF R.CR_RNG_RESEEDS)

/-- RNG_RESEED_DONE: the generator has passed its tests since the reseed. -/
def execRngReseedDone (s : State) : Host.Outcome State Fault Refusal :=
  if s.mode = .off then .next s else done ((s.setF R.CR_RNG_READY 1).setF R.CR_RNG_TEST_FAIL 0)

/-! ### SPDM (R429) -/

/-- The key of a responder state. -/
def viaKey : SpdmVia → Nat
  | .mctp => 0
  | .ctrl c => c + 1

/-- The responder answers on this transport in this mode (R418, R420, R429). -/
def State.spdmServed (s : State) : SpdmVia → Bool
  | .mctp => s.modeIn [.discovery, .rebuild, .service, .readOnly, .feathered, .becalmed, .sanitize, .trial] ||
      (s.mode == .sealed && s.boot.monitor)
  | .ctrl c => s.modeIn [.rebuild, .service, .readOnly, .feathered, .sanitize] && (s.ctrls.get c).alive

/-- A response on a transport; an unsigned one ends what vendor sub-command 2 may cover. -/
def State.spdmAnswer (s : State) (via : SpdmVia) (args data : List Nat) (upd : Spdm → Spdm) : State :=
  let s := { s with boot.spdm := s.boot.spdm.mod (viaKey via) upd }
  let s := match via with
    | .ctrl c => s.modCtrl c fun k => { k with secResp := args ++ data }
    | .mctp => s
  s.send .spdmResp (viaKey via) args data

/-- ERROR with its code: 1 InvalidRequest, 4 UnexpectedRequest. -/
def State.spdmError (s : State) (via : SpdmVia) (code : Nat) : State :=
  s.spdmAnswer via [0x7F, code] [] fun p => { p with signed := false }

/-- A request that needs the negotiation to have reached a phase. -/
def State.spdmAt (s : State) (via : SpdmVia) (phase : Nat) (k : State → State) : Host.Outcome State Fault Refusal :=
  if ¬ s.spdmServed via then .next s
  else if (s.boot.spdm.get (viaKey via)).phase < phase then done (s.spdmError via 4)
  else done (k s)

/-- SPDM_GET_VERSION (R429): version 1.3; the connection state starts anew. -/
def execSpdmGetVersion (via : SpdmVia) (s : State) : Host.Outcome State Fault Refusal :=
  s.spdmAt via 0 fun s => s.spdmAnswer via [0x04] [0x1300] fun _ => { phase := 1 }

/-- SPDM_GET_CAPABILITIES: certificates, challenge, signed measurements and chunks; no sessions, key exchange or PSK. -/
def execSpdmGetCapabilities (via : SpdmVia) (s : State) : Host.Outcome State Fault Refusal :=
  s.spdmAt via 1 fun s => s.spdmAnswer via [0x61] [0x20016] fun p => { p with phase := max p.phase 2, signed := false }

/-- SPDM_NEGOTIATE_ALGORITHMS: TPM_ALG_RSAPSS_3072 (bit 3) and TPM_ALG_SHA_384 (bit 1), or an error. -/
def execSpdmNegotiateAlgorithms (via : SpdmVia) (asym hash : Nat) (s : State) : Host.Outcome State Fault Refusal :=
  s.spdmAt via 2 fun s =>
    if bit asym 3 ∧ bit hash 1 then
      s.spdmAnswer via [0x63] [0x8, 0x2] fun p => { p with phase := 3, signed := false }
    else s.spdmError via 1

/-- The chain digest of slot 0, a free value (notes/assumptions/4). -/
def State.chainDigest (s : State) : Nat := Config.digest (s.boot.identity * 4 + 1)

/-- SPDM_GET_DIGESTS: slot 0 only. -/
def execSpdmGetDigests (via : SpdmVia) (s : State) : Host.Outcome State Fault Refusal :=
  s.spdmAt via 3 fun s => s.spdmAnswer via [0x01, 0x01] [s.chainDigest] fun p => { p with signed := false }

/-- SPDM_GET_CERTIFICATE: the RSA identity chain of slot 0. -/
def execSpdmGetCertificate (via : SpdmVia) (slot : Nat) (s : State) : Host.Outcome State Fault Refusal :=
  s.spdmAt via 3 fun s =>
    if slot = 0 then
      s.spdmAnswer via [0x02, 0] [Config.digest (s.boot.identity * 4 + 2)] fun p => { p with signed := false }
    else s.spdmError via 1

/-- A signed response: its signature is a free value over what it covers. -/
def State.spdmSigned (s : State) (via : SpdmVia) (args data : List Nat) (cover : Nat) : State :=
  s.spdmAnswer via args (data ++ [Config.digest cover]) fun p => { p with signed := true, covered := cover }

/-- SPDM_CHALLENGE (R429). -/
def execSpdmChallenge (via : SpdmVia) (slot nonce : Nat) (s : State) : Host.Outcome State Fault Refusal :=
  s.spdmAt via 3 fun s =>
    if slot = 0 then
      let (r, s) := s.drawRandom
      s.spdmSigned via [0x03, 0] [s.chainDigest, r] (nonce + r)
    else s.spdmError via 1

/-- Measurement 2: lifecycle, COUNT and the lock fuses as sensed at Bootstrap; 7: DEBUG_OPEN and the TAP, live (Table 15-12). -/
def State.measurement (s : State) (i : Nat) : Nat :=
  if i = 1 then Config.digest 1
  else if i = 7 then b2n s.boot.debugOpen + 2 * s.boot.tap
  else s.boot.meas.get i

/-- SPDM_GET_MEASUREMENTS: index 0 gives the number, 0xFF all, 1 to 9 one (Table 15-12). -/
def execSpdmGetMeasurements (via : SpdmVia) (index : Nat) (sign : Bool) (nonce : Nat) (s : State) :
    Host.Outcome State Fault Refusal :=
  s.spdmAt via 3 fun s =>
    let data := if index = 0 then some [9]
      else if index = 0xFF then some ((List.range 9).map fun i => s.measurement (i + 1))
      else if index ≤ 9 then some [s.measurement index]
      else none
    match data with
    | none => s.spdmError via 1
    | some d =>
      if sign then
        let (r, s) := s.drawRandom
        s.spdmSigned via [0x60, index] (d ++ [r]) (nonce + r)
      else s.spdmAnswer via [0x60, index] d fun p => { p with signed := false }

/-- SPDM_CHUNK_SEND: the chunks of a large request in order. -/
def execSpdmChunkSend (via : SpdmVia) (seq : Nat) (last : Bool) (data : List Nat) (s : State) :
    Host.Outcome State Fault Refusal :=
  s.spdmAt via 2 fun s =>
    let p := s.boot.spdm.get (viaKey via)
    if seq ≠ p.chunkSeq then
      (s.spdmError via 1).spdmAnswer via [0x05, seq] [] fun p => { p with chunkSeq := 0, chunkIn := [] }
    else if last then
      s.spdmAnswer via [0x05, seq] [] fun p => { p with chunkSeq := 0, chunkIn := [], signed := false }
    else s.spdmAnswer via [0x05, seq] [] fun p => { p with chunkSeq := seq + 1, chunkIn := p.chunkIn ++ data, signed := false }

/-- SPDM_CHUNK_GET: one chunk of a large response, or an error when none is left. -/
def execSpdmChunkGet (via : SpdmVia) (seq : Nat) (s : State) : Host.Outcome State Fault Refusal :=
  s.spdmAt via 2 fun s =>
    match (s.boot.spdm.get (viaKey via)).chunkOut with
    | [] => s.spdmError via 4
    | d :: r => s.spdmAnswer via [0x06, seq, b2n r.isEmpty] [d] fun p => { p with chunkOut := r, signed := false }

/-- SPDM_VENDOR_SLH_CHAIN: vendor sub-command 1 returns the SLH-DSA identity chain, as a large response. -/
def execSpdmVendorSlhChain (via : SpdmVia) (s : State) : Host.Outcome State Fault Refusal :=
  s.spdmAt via 3 fun s =>
    let c := Config.digest (s.boot.identity * 4 + 3)
    s.spdmAnswer via [0x7E, 1] [c] fun p => { p with signed := false, chunkOut := [c] }

/-- SPDM_VENDOR_SLH_SIGNATURE: vendor sub-command 2; without a signed response just before it, UnexpectedRequest. -/
def execSpdmVendorSlhSignature (via : SpdmVia) (s : State) : Host.Outcome State Fault Refusal :=
  s.spdmAt via 3 fun s =>
    let p := s.boot.spdm.get (viaKey via)
    if p.signed then s.spdmAnswer via [0x7E, 2] [Config.digest (p.covered * 2 + 1)] fun p => { p with signed := false }
    else s.spdmError via 4

/-! ### PSK table (R431), JTAG (R430) and the I3C address (R472) -/

/-- The staging copy as an entry. -/
def State.pskStaged (s : State) : Psk :=
  let w := fun i => s.boot.pskStage.get i
  { valid := bit (w 48) 31, hash := w 48 % 4,
    identity := (List.range 48).foldl (fun a i => a + w i * 2 ^ (32 * i)) 0,
    key := (List.range (if w 48 % 4 = 1 then 8 else 12)).foldl (fun a i => a + w (49 + i) * 2 ^ (32 * i)) 0 }

/-- A commit of the PSK staging copy to an entry. -/
def State.pskCommit (s : State) (p : Path) : State :=
  let e := s.idxF p R.BT_PSKIDX_ENTRY
  let k := s.pskStaged
  if (s.per.psk.keysWhere fun j x => x.valid && x.identity == k.identity && j != e) ≠ [] then s.setF R.BT_PSKCMD_RESULT 1
  else if ¬ (k.hash = 1 ∨ k.hash = 2) ∨ k.identity = 0 then s.setF R.BT_PSKCMD_RESULT 2
  else ({ s with per.psk := s.per.psk.set e k }.setF R.BT_PSKCMD_RESULT 0).recordPsk e

def State.pskInvalidate (s : State) (p : Path) : State :=
  let e := s.idxF p R.BT_PSKIDX_ENTRY
  ({ s with per.psk := s.per.psk.set e {} }.setF R.BT_PSKCMD_RESULT 0).recordPsk e

/-- PSK_COMMIT (R431). -/
def execPskCommit (path : Path) (s : State) : Host.Outcome State Fault Refusal :=
  if s.regMode path then done (s.pskCommit path) else .next s

/-- PSK_INVALIDATE (R431). -/
def execPskInvalidate (path : Path) (s : State) : Host.Outcome State Fault Refusal :=
  if s.regMode path then done (s.pskInvalidate path) else .next s

/-- JTAG_INSTRUCTION (R430): BYPASS and IDCODE always; boundary scan unless JTAG_MODE bit 1; debug and internal scan while
DEBUG_OPEN, or with JTAG_MODE 0 the boundary instructions only. A closed instruction selects BYPASS. -/
def execJtagInstruction (i : JtagInstr) (s : State) : Host.Outcome State Fault Refusal :=
  if s.mode = .off then .next s
  else
    let jm := if s.boot.debugOpen then 0 else s.boot.fuses.jtag
    let sel := match i with
      | .bypass => 0
      | .idcode => 1
      | .boundary => if bit jm 1 then 0 else 2
      | .debug => if s.boot.debugOpen then 3 else 0
    done (({ s with boot.tap := sel }).send .jtagOut 0 [sel] (if sel = 1 then [Config.unstated 0 % 2 ^ 32] else []))

/-- I3C_ENTDAA (R472): the controller's dynamic address is assigned; the bus found is I3C. -/
def execI3cEntdaa (addr : Nat) (s : State) : Host.Outcome State Fault Refusal :=
  if s.mode = .off then .next s
  else done ((({ s with boot.i3cAddr := some (addr % 128) }).setF R.GL_SB_STS_BUS 1).send .i3cAck 0 [addr % 128])

/-- I3C_SETDASA (R472): the dynamic address is assigned from the static one, which is FU_SBADDR. -/
def execI3cSetdasa (stat addr : Nat) (s : State) : Host.Outcome State Fault Refusal :=
  if s.mode = .off then .next s
  else if stat ≠ s.f R.FU_SBADDR_SB_ADDR then .next s
  else done ((({ s with boot.i3cAddr := some (addr % 128) }).setF R.GL_SB_STS_BUS 1).send .i3cAck 0 [addr % 128])

end Sys2Proof.Machine
end

