-- ==== Sys2Proof/Machine/Transport.lean ====
section
/-! DEFINITION. Transport.lean: what hosts send on the transports: connections, TLS, PDUs and capsules, RDMA operations and
acknowledgements (02, 03, 04). -/

namespace Sys2Proof.Machine

/-! ### Opening a connection (R53, R55) -/

/-- Connections that an I/O or an admin context may still be needed for. -/
def State.hostConns (s : State) : Nat := s.conns.count fun _ c => c.alive && c.kind != .disc
def State.discConns (s : State) : Nat := s.conns.count fun _ c => c.alive && c.kind == .disc

/-- Contexts of the I/O pool and of the admin pool that are taken, or that a queue pair set up for one will take (R53). -/
def State.ioConns (s : State) : Nat := s.conns.count fun _ c => c.alive && (c.kind == .io || (c.kind == .unbound && c.want == 1))
def State.admConns (s : State) : Nat := s.conns.count fun _ c => c.alive && (c.kind == .admin || (c.kind == .unbound && c.want == 2))

/-- A connection is set up with the port's timers (PT_TRANS_CFG) and its path MTU (Table 02-6); it sends at the rate of its link. -/
def State.connOpen (s : State) (c link dport : Nat) (rdma : Bool) (kind : ConnKind) (want : Nat) (v6 : Bool) : State :=
  let p := portOf link
  let x : Conn :=
    { alive := true, rdma := rdma, kind := kind, link := link, dport := dport, want := want, v6 := v6,
      giveup := s.f R.PT_TRANS_CFG_GIVEUP p, retryCnt := s.f R.PT_TRANS_CFG_RETRY_CNT p, rtoMin := s.f R.PT_TRANS_CFG_RTO_MIN p,
      rtoMs := s.f R.PT_TRANS_CFG_RTO_MIN p, bufs := 1, pmtu := 1024 * 2 ^ s.f R.PT_TRANS_CFG_PMTU p,
      rate := if rdma then 50000 * 2 ^ s.linkSpeed link else 0, window := 65536 }
  { s with conns := s.conns.set c x }

/-- A full pool refuses a connection: CONN_LIMIT (R53). -/
def State.connLimit (s : State) (link : Nat) : State := s.raise R.PT_EVT_CONN_LIMIT noP noP noP (portOf link)

/-- A frame opens a connection over IPv6: by its destination, or on a link with no IPv4 address. -/
def State.overV6 (s : State) (link : Nat) (r : RxFrame) : Bool :=
  match r.dst with
  | some (v6, _) => v6
  | none => ((s.linkOf link).addr[0]?).getD 0 == 0

/-- A SYN is answered (Table 02-5): window scale, MSS from the link MTU, SACK, timestamps, and the window. -/
def State.synAck (s : State) (c link : Nat) : State :=
  let mtu := s.f R.PT_LINK_CTL_MTU (link / 4) (link % 4)
  s.send .tcpSynAck c [7, mtu - (if (s.conn c).v6 then 60 else 40), 1, 1, (s.conn c).window]

/-- TCP_SYN (R53): port 4420 for NVM subsystems, 8009 for the discovery controller (R55); any other port, a full pool and a
discovery controller that is off answer with a RST. -/
def execTcpSyn (conn : Nat) (link : Nat) (dport : Framed Nat) (s : State) : Host.Outcome State Fault Refusal :=
  s.onLink link dport.rx fun t =>
    if (t.conn conn).alive ∨ ¬ (t.linkOf link).hasAddr then t
    else if dport.val = 4420 then
      if 20480 ≤ t.hostConns then (t.send .tcpRst conn (link := some link)).connLimit link
      else (t.connOpen conn link dport.val false .unbound 0 (t.overV6 link dport.rx)).synAck conn link
    else if dport.val = 8009 ∧ t.on R.PT_DISC_CTL_DISC_EN then
      if 64 ≤ t.discConns then (t.send .tcpRst conn (link := some link)).connLimit link
      else (t.connOpen conn link dport.val false .disc 0 (t.overV6 link dport.rx)).synAck conn link
    else t.send .tcpRst conn (link := some link)

/-- What a frame of a connection, or of one that has closed, brings: its link is Up and takes it (R47, R48). A CE mark on RDMA produces
a CNP (Table 02-6). -/
def State.onFrame (s : State) (c : Nat) (rdma : Bool) (r : RxFrame) (k : State → Conn → State) : Host.Outcome State Fault Refusal :=
  let cn := s.conn c
  if cn.rdma ≠ rdma ∨ ¬ (cn.alive ∨ cn.gone) then .next s
  else s.onLink cn.link r fun t => k (if rdma ∧ r.ce ∧ cn.alive then t.send .cnp c else t) cn

/-- A frame of a live connection. -/
def State.onConn (s : State) (c : Nat) (rdma : Bool) (r : RxFrame) (k : State → Conn → State) : Host.Outcome State Fault Refusal :=
  if (s.conn c).alive then s.onFrame c rdma r k else .next s

/-! ### Acknowledgements and retransmission (R482, R123) -/

/-- The slots that messages carry. -/
def slotsIn (l : List Unacked) : List Nat := l.filterMap fun u => u.slot.map fun t => t.slot

/-- The peer has acknowledged all but `rest` of what is outstanding on a connection: the Draining slots of which nothing is outstanding
any more are freed (Table 04-4). -/
def State.ackTo (s : State) (c : Nat) (rest : List Unacked) (slots : List Nat) : State :=
  let all := slots ++ slotsIn (s.conn c).sent
  let s := s.modConn c fun x => { x with sent := rest }
  (all.dedup.filter fun n => !(slotsIn rest).contains n).foldl (fun (s : State) n => s.slotAcked c n) s

/-- TCP_ACK_RX (R482): the first `n` messages outstanding and those of the slots named are acknowledged, or, without `rest`, all of
them; the Draining slots that it covers are freed. -/
def execTcpAckRx (conn : Nat) (slots : List Nat) (ack : TcpAck) (s : State) : Host.Outcome State Fault Refusal :=
  s.onConn conn false ack.rx fun s cn =>
    let left := if ack.rest then (cn.sent.drop ack.n).filter fun u => !(slotsIn [u]).any slots.contains else []
    (s.ackTo conn left slots).modConn conn fun x => { x with rtoMs := x.rtoMin }

/-- One message goes out again; slot data is read again from its slot and decrypted again (R123). -/
def State.sendAgain (s : State) (c : Nat) (u : Unacked) : State :=
  let (data, s) := match u.slot with
    | some t =>
      let x := s.slot t.slot
      let bs := max 1 (s.blkSize t.ns)
      s.slotRead t (((u.args[1]?).getD 0 - x.offset) / bs) (((u.args[2]?).getD 0) / bs)
    | none => (u.data, s)
  let m : Msg := { kind := u.kind, dst := c, args := u.args, data := data, tx := s.txMark u.kind c none }
  { s with ctl := s.ctl.post m (s.pauseHolds m) }

/-- Everything outstanding on a connection is sent again, oldest first, where its link is Up. -/
def State.retransmit (s : State) (c : Nat) : State :=
  if s.linkUp (s.conn c).link then ((s.conn c).sent).foldl (fun (s : State) u => s.sendAgain c u) s else s

/-- TCP_RST_RX (R67). -/
def execTcpRstRx (conn : Framed Nat) (s : State) : Host.Outcome State Fault Refusal :=
  s.onConn conn.val false conn.rx fun s _ => s.close conn.val

/-- TCP_FIN_RX (R67): answered with a FIN. -/
def execTcpFinRx (conn : Framed Nat) (s : State) : Host.Outcome State Fault Refusal :=
  s.onConn conn.val false conn.rx fun s _ => (s.close conn.val).send .tcpFin conn.val

/-- TCP_RTO_EXPIRY (R56): the outstanding data is sent again and the timeout doubles, to 2 s. -/
def execTcpRtoExpiry (conn : Nat) (s : State) : Host.Outcome State Fault Refusal :=
  let cn := s.conn conn
  if cn.alive ∧ ¬ cn.rdma ∧ cn.unacked then
    done ((s.retransmit conn).modConn conn fun x => { x with rtoMs := min 2000 (2 * x.rtoMs) })
  else .next s

/-- TCP_GIVEUP_EXPIRY (R482): GIVEUP has passed without an acknowledgement of outstanding data. -/
def execTcpGiveupExpiry (conn : Nat) (s : State) : Host.Outcome State Fault Refusal :=
  let cn := s.conn conn
  if cn.alive ∧ ¬ cn.rdma ∧ cn.unacked then done (s.close conn true) else .next s

/-! ### TLS (R57, R58) -/

/-- A handshake fails: an alert, closure, TLS_FAIL. -/
def State.tlsFail (s : State) (c : Nat) : State :=
  let p := portOf (s.conn c).link
  ((s.close c).send .tlsAlert c).raise R.PT_EVT_TLS_FAIL noP noP noP p

/-- A connection without TLS on a port that requires it is closed with a RST (R58). -/
def State.tlsRefuse (s : State) (c : Nat) : State :=
  let p := portOf (s.conn c).link
  (s.close c true).raise R.PT_EVT_TLS_FAIL noP noP noP p

/-- The first bytes of a connection are no ClientHello where the port requires TLS (R58). -/
def State.tlsLacks (s : State) (cn : Conn) : Bool := !cn.icDone && cn.tls == 0 && s.on R.PT_CFG_TLS_REQ (portOf cn.link)

/-- The entry of the PSK table with a ClientHello's identity (R431); none unwraps while the derivation of its wrap key is blocked
(R410, R430). -/
def State.pskOf (s : State) (identity : Nat) : Option Psk :=
  if s.boot.deriveBlocked then none
  else (s.per.psk.find? fun (_, k) => k.valid && k.identity == identity).map Prod.snd

/-- The cipher suite whose hash is the PSK's, where the client offers it: 0 AES-128 with SHA-256, 1 AES-256 with SHA-384 (R57, R431). -/
def Psk.suite (k : Psk) (h : Hello) : Option Nat :=
  if k.hash = 1 ∧ h.aes128 then some 0 else if k.hash = 2 ∧ h.aes256 then some 1 else none

/-- The group that a handshake uses: 0 none (psk_ke), 1 x25519, 2 secp384r1; none: no mode is left. With both modes offered it is
psk_dhe_ke, and with both groups x25519 (DESIGN CHOICE, notes/assumptions/71). -/
def State.tlsGroup (s : State) (port : Nat) (h : Hello) : Option Nat :=
  if h.pskDheKe && h.x25519 then some 1
  else if h.pskDheKe && h.p384 then some 2
  else if h.pskKe && !s.on R.PT_CFG_TLS_DHE_REQ port then some 0
  else none

/-- TLS_CLIENT_HELLO (R57): a PSK-only handshake starts. -/
def execTlsClientHello (conn : Nat) (hello : Framed Hello) (s : State) : Host.Outcome State Fault Refusal :=
  s.onConn conn false hello.rx fun s cn =>
    if cn.tls ≠ 0 ∨ cn.icDone then s
    else if ¬ hello.val.isTls then (if s.tlsLacks cn then s.tlsRefuse conn else s)
    else
      match (s.pskOf hello.val.identity).bind fun k => k.suite hello.val, s.tlsGroup (portOf cn.link) hello.val with
      | some suite, some group =>
        if hello.val.binderOk then
          let (r, s) := s.drawRandom
          (s.modConn conn fun x => { x with tls := 1, suite := suite, group := group }).send .tlsServerHello conn [suite, group] [r]
        else s.tlsFail conn
      | _, _ => s.tlsFail conn

/-- TLS_CLIENT_FINISHED (R57). -/
def execTlsClientFinished (conn : Nat) (ok : Framed Bool) (s : State) : Host.Outcome State Fault Refusal :=
  s.onConn conn false ok.rx fun s cn =>
    if cn.tls ≠ 1 then s else if ok.val then s.modConn conn fun x => { x with tls := 2 } else s.tlsFail conn

/-- TLS_KEY_UPDATE (R57): the traffic keys go on to their next generation. -/
def execTlsKeyUpdate (conn : Framed Nat) (s : State) : Host.Outcome State Fault Refusal :=
  s.onConn conn.val false conn.rx fun s cn => if cn.tls = 2 then s.modConn conn.val fun x => { x with tlsGen := x.tlsGen + 1 } else s

/-! ### PDUs (R56) -/

/-- A fatal transport error whose Fatal Error Status the manual does not give. -/
def State.fatalOpen (s : State) (c : Nat) : State :=
  let s := s.close c
  if (s.conn c).rdma then s else s.send .c2hTermReq c

/-- ICREQ (R56): answered with the values of Table 02-5; a second one is a PDU out of sequence, as R56 has it of other PDUs out of
place (DESIGN CHOICE, notes/assumptions/71). -/
def execIcreq (conn : Nat) (req : Framed IcReq) (s : State) : Host.Outcome State Fault Refusal :=
  s.onConn conn false req.rx fun s cn =>
    if cn.tls = 1 then s
    else if s.tlsLacks cn then s.tlsRefuse conn
    else if cn.icDone then s.fatal conn 0x02
    else if req.val.malformed ∨ req.val.pfv ≠ 0 ∨ 31 < req.val.hpda then s.fatalOpen conn
    else
      ((s.modConn conn fun x => { x with icDone := true, hdgst := req.val.hdgst, ddgst := req.val.ddgst, maxr2t := req.val.maxr2t }).send
        .icResp conn [0, 0, b2n req.val.hdgst, b2n req.val.ddgst, 65536]).tcpAcks conn

/-- H2CTERMREQ (R67). -/
def execH2ctermreq (conn : Framed Nat) (s : State) : Host.Outcome State Fault Refusal :=
  s.onConn conn.val false conn.rx fun s cn => if s.tlsLacks cn then s.tlsRefuse conn.val else s.close conn.val

/-! ### Capsules (R81 to R86) -/

/-- The management commands of Tables 03-3 and 03-8. -/
def mgmtOpcs : List Nat := [0x0D, 0x10, 0x11, 0x15, 0x84, 0xC1, 0xC2, 0xC6]

/-- The admin opcodes of Table 03-3. -/
def adminOpcs : List Nat := [0x02, 0x06, 0x08, 0x09, 0x0A, 0x0C, 0x18, 0x19, 0x1A, 0x80, 0x81, 0x82] ++ mgmtOpcs

/-- The opcodes that the discovery controller supports (R71). -/
def discOpcs : List Nat := [0x02, 0x06, 0x09, 0x0A, 0x0C, 0x18]

/-- The I/O opcodes of Table 03-6. -/
def ioOpcs : List Nat := [0x00, 0x01, 0x02, 0x08, 0x09, 0x0C, 0x79, 0x7A, 0x7D]

/-- The Fabrics commands of Table 03-3 by type: Property Set and Get, Connect, Authentication Send and Receive, Disconnect. -/
def fabricsTypes (q : Nat) : List Nat := if q < adminBase then [0x01, 0x05, 0x06, 0x08] else [0x00, 0x01, 0x04, 0x05, 0x06, 0x08]

/-- The queue's controller supports the command (R71, R98, R100). -/
def State.supported (s : State) (q : Nat) (e : Sqe) : Bool :=
  let k := s.ctrl (s.queue q).cntlid
  if e.opc = 0x7F then (fabricsTypes q).contains e.fctype
  else if q < adminBase then ioOpcs.contains e.opc
  else if k.disc then discOpcs.contains e.opc
  else adminOpcs.contains e.opc && (!mgmtOpcs.contains e.opc || (s.cfg k.slice).mgmt)

/-- Buffer that a capsule occupies until its data has moved: its 64 bytes and in-capsule data (R84). -/
def capsuleBytes (e : Sqe) : Nat := 64 + if e.sgl = .inCapsule then e.dlen else 0

/-- Capsule buffer of a port: 3,584 KiB for I/O and 512 KiB for admin capsules (R84), those of discovery connections among them (DESIGN
CHOICE, notes/assumptions/71). -/
def State.hrRoom (s : State) (port : Nat) (admin : Bool) (n : Nat) : Bool :=
  decide (s.hrBytes port admin + n ≤ (if admin then 512 else 3584) * 1024)

/-- A Connect capsule: CONNECT_ADMIN and CONNECT_IO carry it with its data. -/
def isConnect (e : Sqe) : Bool := e.opc == 0x7F && e.fctype == 0x01

/-- A parsed capsule takes its entry and joins its queue; an admin or Fabrics command is dispatched on parsing (R81, R86), and
`ord` keeps the order of parsing (R455). A command that the controller does not support fails with Invalid Command Opcode, and a
Connect, on a queue that is connected, with Command Sequence Error (R82). -/
def State.parse (s : State) (c e : Nat) (sqe : Sqe) : State :=
  let cn := s.conn c
  let q := cn.queue
  let now := decide (adminBase ≤ q) || sqe.opc == 0x7F
  let cm : Cmd :=
    { alive := true, queue := q, conn := c, cntlid := cn.cntlid, slice := cn.slice, epoch := (s.sl cn.slice).epoch, sqe := sqe,
      phase := if now then .dispatched else .waiting, tArr := s.clk.tb, tDisp := if now then s.clk.tb else 0,
      hb := capsuleBytes sqe, port := portOf cn.link, ord := if now then s.hop.nextOrd else 0 }
  let s := { s with cmds := s.cmds.set e cm, hop.nextOrd := if now then s.hop.nextOrd + 1 else s.hop.nextOrd }
  let s := if now then s else s.modQueue q fun x => { x with waiting := x.waiting ++ [e] }
  let s := s.bpUpdate
  if isConnect sqe then s.failCmd e 0x0C else if s.supported q sqe then s else s.failCmd e 0x01

/-- A CapsuleCmd that finds no entry or no buffer stays in the TCP receive stream, and a SEND gets an RNR NAK with a timer of 0.16 ms,
counted on its port (R63, R85). -/
def State.capsuleWaits (s : State) (c : Nat) : State :=
  if (s.conn c).rdma then (s.send .rnrNak c [160]).addF R.PT_BP_STS_RNR_COUNT 1 (portOf (s.conn c).link) else s

/-- A command-table entry and room in the capsule buffer are free for a capsule of a queue (R81, R84). -/
def State.capsuleFits (s : State) (c : Nat) (sqe : Sqe) : Bool :=
  s.hrRoom (portOf (s.conn c).link) (decide (adminBase ≤ (s.conn c).queue)) (capsuleBytes sqe) && (s.freeEntry (s.conn c).queue).isSome

/-- A command capsule on a connected queue (R83): overrun, no entry or buffer, identifier conflict, then parsing. -/
def State.capsule (s : State) (c : Nat) (sqe : Sqe) : State :=
  let cn := s.conn c
  let q := cn.queue
  let x := s.queue q
  if x.sqsize + 1 ≤ (s.outstanding q).length then
    ((s.addF R.RC_ERRCNT_SQ_OVERRUNS).raise R.RC_EVT_SQ_OVERRUN q).fatalOpen c
  else if ¬ s.capsuleFits c sqe then s.capsuleWaits c
  else if (s.outstanding q).any fun k => (s.cmd k).sqe.cid == sqe.cid then
    let s := (s.addF R.RC_ERRCNT_CID_CONFLICTS).raise R.RC_EVT_CID_CONFLICT q
    let s := s.logError cn.cntlid sqe.cid 0x03 0xFFFF
    let s := s.modQueue q fun x => { x with sqhd := (x.sqhd + 1) % (x.sqsize + 1), posted := (x.posted + 1) % 2 ^ 32 }
    s.send .completion c ([sqe.cid, (s.queue q).sqhd, 0x03, 1, 0, 0] ++ invalidates sqe)
  else s.parse c ((s.freeEntry q).getD 0) sqe

/-- CAPSULE_CMD (R83): on TCP a capsule that finds no entry stays in the receive stream (R85); before the Connect has completed,
only a Connect may come (R56). -/
def execCapsuleCmd (conn : Nat) (sqe : Sqe) (rx : RxFrame) (s : State) : Host.Outcome State Fault Refusal :=
  s.onConn conn false rx fun s cn =>
    if cn.tls = 1 then s
    else if s.tlsLacks cn then s.tlsRefuse conn
    else if ¬ cn.icDone ∨ (¬ cn.connected ∧ ¬ isConnect sqe) then s.fatal conn 0x02
    else if ¬ cn.connected then s
    else (s.capsule conn sqe).tcpAcks conn

/-- An H2CData PDU is placed by the checks of Table 04-6 in order. -/
def State.h2cPlace (s : State) (conn : Nat) (cn : Conn) (pdu : H2CPdu) : State :=
  let n := pdu.ttag % 16384
  let x := s.slot n
  let bad := fun (fes : Nat) => (s.raise R.HP_EVT_BAD_TTAG cn.slice).fatal conn fes
  if pdu.ttag / 16384 % 4 ≠ (s.sl cn.slice).epoch % 4 then s.stale cn.slice
  else if x.state ≠ .granted ∨ x.conn ≠ conn then bad 0x01
  else if pdu.datao < x.offset ∨ x.offset + x.length < pdu.datao + pdu.datal ∨ 65536 < pdu.datal then bad 0x04
  else if cn.ddgst ∧ ¬ pdu.digestOk then bad 0x01
  else (s.modSlot n fun x => x.put (pdu.datao - x.offset) pdu.datal pdu.data).slotFilled n

/-- A slot that a closed connection held is Fenced: what still arrives for it is judged (R124, R126). -/
def State.fencedOf (s : State) (c n : Nat) : Bool := (s.slot n).state == .fenced && (s.slot n).conn == c

/-- H2CDATA (R115); the ACK that follows carries the window of R61. Of a connection that a slice reset closed, the PDU is judged against
the Fenced slot (R126). -/
def execH2cdata (conn : Nat) (pdu : H2CPdu) (rx : RxFrame) (s : State) : Host.Outcome State Fault Refusal :=
  s.onFrame conn false rx fun s cn =>
    if ¬ cn.alive then
      if s.fencedOf conn (pdu.ttag % 16384) ∧ pdu.ttag / 16384 % 4 ≠ (s.sl cn.slice).epoch % 4 then s.stale cn.slice else s
    else if s.tlsLacks cn then s.tlsRefuse conn
    else if ¬ cn.connected then s.fatal conn 0x02
    else (s.h2cPlace conn cn pdu).tcpAcks conn

/-! ### RDMA (R60, R117, R118) -/

/-- What a queue pair is set up for, by the QID of its private data (R60): 1 I/O, 2 admin or discovery. -/
def cmWant (pd : CmPrivate) : Nat := if pd.qid = 0 then 2 else 1

/-- No context is left for a queue pair (R53): its pool is full; one of QID 0 may be for the discovery controller too. -/
def State.cmFull (s : State) (want : Nat) : Bool :=
  if want = 1 then decide (16384 ≤ s.ioConns) || decide (20480 ≤ s.hostConns)
  else decide (4096 ≤ s.admConns) && (decide (64 ≤ s.discConns) || !s.on R.PT_DISC_CTL_DISC_EN)

/-- CM_REQ (R60): service port 4420; ROCE_EN 0 or another port gives reason 8, a full pool reason 1 (R53). -/
def execCmReq (conn : Nat) (link : Nat) (req : CmRequest) (s : State) : Host.Outcome State Fault Refusal :=
  s.onLink link req.rx fun t =>
    let want := cmWant req.pd
    if (t.conn conn).alive ∨ ¬ (t.linkOf link).hasAddr then t
    else if ¬ t.on R.PT_CFG_ROCE_EN (portOf link) ∨ req.port ≠ 4420 then t.send .cmRej conn [8] (link := some link)
    else if t.cmFull want then (t.send .cmRej conn [1] (link := some link)).connLimit link
    else (t.connOpen conn link req.port true .unbound want (t.overV6 link req.rx)).send .cmRep conn

/-- CM_DREQ (R67). -/
def execCmDreq (conn : Framed Nat) (s : State) : Host.Outcome State Fault Refusal :=
  s.onConn conn.val true conn.rx fun s _ => s.close conn.val

/-- A SEND or WRITE of the host is acknowledged; the AETH advertises the credits (R61, R118). -/
def State.rdmaAcks (s : State) (c : Nat) : State := if (s.conn c).alive then s.send .rdmaAck c [s.advert c] else s

/-- RDMA_SEND_CAPSULE (R60): a capsule that finds no entry is answered with an RNR NAK (R85); a CE mark produces a CNP. -/
def execRdmaSendCapsule (conn : Nat) (sqe : Sqe) (ce : Bool) (rx : RxFrame) (s : State) : Host.Outcome State Fault Refusal :=
  s.onConn conn true { rx with ce := rx.ce || ce } fun s cn =>
    if ¬ cn.connected then (if isConnect sqe then s.rdmaAcks conn else s.close conn)
    else
      let t := s.capsule conn sqe
      if s.capsuleFits conn sqe then t.rdmaAcks conn else t

/-- CNP_RX (R60): one more step of rate reduction, by the image's reaction parameters: the new rate is below the old one. -/
def execCnpRx (conn : Framed Nat) (s : State) : Host.Outcome State Fault Refusal :=
  s.onConn conn.val true conn.rx fun s _ => s.modConn conn.val fun x =>
    { x with cnps := x.cnps + 1, rate := if x.rate = 0 then 0 else Config.cnpRate s.boot.image.cnp x.rate % x.rate }

/-- A NAK with Remote Access Error; the queue pair enters the error state (R117). -/
def State.accessNak (s : State) (c : Nat) : State :=
  let sl := (s.conn c).slice
  (((s.close c).send .accessNak c).addF R.HP_CNT_ACCESS_NAKS).raise R.HP_EVT_ACCESS_NAK sl

/-- The data and descriptor ranges of the Hopper window (Table 04-7). -/
def dataVa : Nat := 0x0001000000000000
def ownerVa : Nat := 0x0002000000000000

/-- The rkey is the Hopper key of the queue pair's slice, on any queue pair of that slice (R117). -/
def State.rkeyOk (s : State) (cn : Conn) (rkey : Nat) : Bool :=
  cn.connected && (cn.kind == .io || cn.kind == .admin) && rkey == (s.sl cn.slice).hkey

/-- A slot is Granted to a queue pair by a Slot Grant capsule (Table 04-5). -/
def State.slotGranted (s : State) (c n : Nat) : Bool :=
  (s.slot n).state == .granted && (s.slot n).conn == c && s.slotGrantOn (s.conn c)

/-- Where an address of the window lies: a data byte of a slot, or the descriptor word of one (R117); none: outside both ranges, or
across a stride or a descriptor, or no 4-byte write of word 0. -/
def hopPlace (va len : Nat) : Option (Bool × Nat × Nat) :=
  if dataVa ≤ va ∧ va < dataVa + 2 ^ 17 * 0x40000 then
    if (va - dataVa) % 0x40000 + len ≤ 0x40000 then some (false, (va - dataVa) / 0x40000, (va - dataVa) % 0x40000) else none
  else if ownerVa ≤ va ∧ va < ownerVa + 2 ^ 17 * 16 ∧ (va - ownerVa) % 16 = 0 ∧ len = 4 then some (true, (va - ownerVa) / 16, 0)
  else none

/-- Data bytes below LENGTH of a slot Granted to the queue pair land in it, and enter it with its owner word; the others are discarded. A
WRITE that lies partly beyond LENGTH counts once in STALE_DISC, and its low part lands (DESIGN CHOICE, notes/assumptions/72). -/
def State.hopData (s : State) (c n off len data : Nat) : State :=
  let cn := s.conn c
  let x := s.slot n
  if ¬ s.slotGranted c n ∨ x.length ≤ off then s.stale cn.slice
  else
    let k := min len (x.length - off)
    let s := s.modSlot n fun x => { x with content := putBytes x.content off k data }
    if k < len then s.stale cn.slice else s

/-- An owner word is accepted when the slot is Granted to the same queue pair, OWNER is 0 and EPOCH is the slot's; every byte of LENGTH
then enters (R118). -/
def State.hopOwner (s : State) (c n value : Nat) : State :=
  if s.slotGranted c n ∧ ¬ bit value 0 ∧ bitsOf value 8 8 = (s.slot n).epoch then
    (s.modSlot n fun x => { x with arrived := [(0, x.length)] }).slotFilled n
  else s.stale (s.conn c).slice

/-- A host RDMA WRITE to the window (R117, R118): NAKed, or acknowledged at the transport. On a queue pair that a slice reset closed it
is judged against its Fenced slot (R126). -/
def State.hopWrite (s : State) (c : Nat) (cn : Conn) (rkey va len data : Nat) : State :=
  match hopPlace va len with
  | none => if cn.alive then s.accessNak c else s
  | some (owner, n, off) =>
    if ¬ cn.alive then (if s.fencedOf c n then s.stale cn.slice else s)
    else if ¬ s.rkeyOk cn rkey then s.accessNak c
    else (if owner then s.hopOwner c n data else s.hopData c n off len data).rdmaAcks c

/-- HOPPER_DATA_WRITE (R118). -/
def execHopperDataWrite (conn : Nat) (wr : HopWrite) (rx : RxFrame) (s : State) : Host.Outcome State Fault Refusal :=
  s.onFrame conn true rx fun s cn => s.hopWrite conn cn wr.rkey wr.va wr.len wr.data

/-- OWNER_WORD_WRITE (R118). -/
def execOwnerWordWrite (conn : Nat) (rkey : Nat) (va : Nat) (len : Nat) (value : Framed Word) (s : State) : Host.Outcome State Fault Refusal :=
  s.onFrame conn true value.rx fun s cn => s.hopWrite conn cn rkey va len value.val.toNat

/-- HOST_RDMA_READ_OR_ATOMIC (R117). -/
def execHostRdmaReadOrAtomic (conn : Nat) (va : Framed Nat) (s : State) : Host.Outcome State Fault Refusal :=
  s.onConn conn true va.rx fun s _ => s.accessNak conn

/-- The READ of an outstanding list: its length. -/
def readLen (l : List Unacked) (rid : Nat) : Nat :=
  match l.find? fun u => u.kind == .rdmaRead && u.args.head? == some rid with
  | some u => (u.args[3]?).getD 0
  | none => 0

/-- The last packet of a READ's response: it acknowledges the READ and all that was sent before it (R482). -/
def State.rdmaReadDone (s : State) (c : Nat) (cn : Conn) (rid : Nat) : State :=
  let s := s.modConn c fun x => { x with reads := x.reads.tail, got := 0, retries := 0 }
  s.ackTo c ((cn.sent.dropWhile fun u => !(u.kind == .rdmaRead && u.args.head? == some rid)).tail) []

/-- RDMA_READ_RESPONSE (R114, R118): `pkts` packets, or with 0 all that are left, of the response to the oldest outstanding READ, in order
and with a correct ICRC; each enters its slot as it arrives. One whose slot is no longer Granted to the queue pair is discarded and
counted with its last packet, after its queue pair has closed too; a response that matches no READ, or is out of order or corrupt,
stays with the transport. -/
def execRdmaReadResponse (conn : Nat) (rid : Nat) (icrcOk : Bool) (resp : ReadData) (s : State) :
    Host.Outcome State Fault Refusal :=
  s.onFrame conn true resp.rx fun s cn =>
    match cn.reads with
    | (r, n) :: _ =>
      if r ≠ rid ∨ ¬ icrcOk then s
      else if ¬ cn.alive then (s.modConn conn fun x => { x with reads := x.reads.tail, got := 0 }).stale cn.slice
      else
        let total := readLen cn.sent rid
        let len := if resp.pkts = 0 then total - cn.got else min (resp.pkts * cn.pmtu) (total - cn.got)
        let last := decide (total ≤ cn.got + len)
        let here := (s.slot n).state == .granted && (s.slot n).conn == conn
        let s := if last then s.rdmaReadDone conn cn rid else s.modConn conn fun x => { x with got := cn.got + len, retries := 0 }
        if here then (s.modSlot n fun x => x.put cn.got len resp.data).slotFilled n
        else if last then s.stale cn.slice
        else s
    | [] => s

/-- RDMA_ACK_RX (R123, R482): the first `n` requests outstanding and the WRITE of the slot are acknowledged, and a Draining slot is freed;
a READ ends with its response. -/
def execRdmaAckRx (conn : Nat) (ack : RdmaAck) (s : State) : Host.Outcome State Fault Refusal :=
  s.onConn conn true ack.rx fun s cn =>
    let left := (cn.sent.take ack.n).filter (fun u => u.kind == .rdmaRead) ++ cn.sent.drop ack.n
    (s.ackTo conn (left.filter fun u => !(slotsIn [u]).contains ack.slot) [ack.slot]).modConn conn fun x => { x with retries := 0 }

/-- RDMA_ACK_TIMEOUT (R66): what is outstanding is sent again, or with its retries used the queue pair fails. -/
def execRdmaAckTimeout (conn : Nat) (s : State) : Host.Outcome State Fault Refusal :=
  let cn := s.conn conn
  if cn.alive ∧ cn.rdma ∧ cn.unacked then
    if cn.retries < cn.retryCnt then done ((s.retransmit conn).modConn conn fun x => { x with retries := x.retries + 1 })
    else done (s.close conn)
  else .next s

end Sys2Proof.Machine
end

