-- ==== Sys2Proof/Machine/Connect.lean ====
section
/-! DEFINITION. Connect.lean: the Fabrics commands: Connect with the Voxbel negotiation (R75 to R78), the binding to a slice
(R134), the checks of an I/O Connect (R481), Disconnect and the controller properties. -/

namespace Sys2Proof.Machine

/-! ### Responses -/

/-- A response on a connection that has no queue yet. -/
def State.connectResp (s : State) (c cid status dw0 : Nat) : State :=
  s.send .completion c [cid, 0, status, b2n (dnrOf status), dw0, 0]

/-- Connect Invalid Parameters with the offset of the field: in the Connect data, or in the command. -/
def State.connectInvalid (s : State) (c cid off : Nat) (data : Bool := true) : State :=
  s.connectResp c cid 0x182 (off + 65536 * b2n data)

/-- A Connect on a queue that is connected already is a capsule of that queue (R83), which fails with Command Sequence Error (R82). -/
def State.connectAgain (s : State) (c cid : Nat) : State :=
  s.capsule c { opc := 0x7F, fctype := 0x01, cid := cid, sgl := .inCapsule, dlen := 1024 }

/-- A Connect brings a frame: its connection is ready for one (R56, R58); `k` is what it does. -/
def State.onConnect (s : State) (c : Nat) (r : RxFrame) (k : State → Conn → State) : Host.Outcome State Fault Refusal :=
  let cn := s.conn c
  if ¬ cn.alive then .next s
  else s.onFrame c cn.rdma r fun s cn =>
    if cn.rdma then (k s cn).rdmaAcks c
    else if cn.tls = 1 then s
    else if s.tlsLacks cn then s.tlsRefuse c
    else if ¬ cn.icDone then s.fatal c 0x02
    else k s cn

/-- A pool of connection contexts is full: the connection closes with CONN_LIMIT (R53). -/
def State.connectFull (s : State) (c : Nat) : State :=
  let l := (s.conn c).link
  (s.close c true).connLimit l

/-- On TCP an ACK follows, with the window of the connection's kind (Table 02-5). -/
def State.tcpAcksOf (s : State) (c : Nat) : State := if (s.conn c).rdma then s else s.tcpAcks c

/-- A queue and its connection are joined; the Connect took the queue's first entry. -/
def State.queueMake (s : State) (c key cid cntlid slice qid sqsize : Nat) (kind : ConnKind) : State :=
  let cn := s.conn c
  let q : Queue :=
    { valid := true, cntlid := cntlid, rdma := cn.rdma, link := cn.link, conn := c, slice := slice, qid := qid, sqsize := sqsize,
      sqhd := 1 % (sqsize + 1), posted := 1 }
  let s := { s with queues := s.queues.set key q }
  let s := s.modConn c fun x =>
    { x with kind := kind, connected := true, cntlid := cntlid, qid := qid, queue := key, slice := slice, bufs := sqsize + 1 }
  ((s.send .completion c [cid, q.sqhd, 0, 0, cntlid, 0]).bpConn c).tcpAcksOf c

/-! ### Voxbel (R75 to R77) -/

def vxPresent (v : Voxbel) : Bool := v.marker == 0x56424C31

/-- The Voxbel block breaks R76. -/
def vxBad (v : Voxbel) : Bool := decide (v.maxVer < v.minVer) || decide (0x13 < v.minVer) || decide (v.maxVer < 0x10)

/-- The features on for a controller: claimed, in FEAT_MASK, introduced by the agreed version, suiting the transport (R76). -/
def State.vxFeatures (s : State) (v : Voxbel) (rdma : Bool) : Nat :=
  let ver := min v.maxVer 0x13
  (List.range 4).foldl (fun m b =>
    setBit m b (bit v.claims b && bit (s.f R.PT_VX_CTL_FEAT_MASK) b && decide (0x10 + b ≤ ver) && (b != 1 || rdma))) 0

/-- Bytes 768 to 783 of Connect data. -/
def vxBytes (v : Voxbel) : List Nat :=
  let le := fun (n : Nat) => (List.range 4).map fun i => n / 256 ^ i % 256
  le v.marker ++ [v.minVer % 256, v.maxVer % 256, 0, 0] ++ le v.claims ++ le v.origin

/-- The first byte in which an I/O Connect's block differs from the admin Connect's (R77). -/
def vxDiff (a b : Voxbel) : Option Nat :=
  ((List.range 16).find? fun i => ((vxBytes a)[i]?).getD 0 != ((vxBytes b)[i]?).getD 0).map (768 + ·)

def State.vxReject (s : State) (c : Nat) : State :=
  s.raise R.PT_EVT_VX_REJECT (s.conn c).link noP noP (portOf (s.conn c).link)

/-! ### Admin Connect -/

/-- The binding of R134: the slice, or a status and the offset that it reports. -/
def State.bindSlice (s : State) (r : ConnectReq) (feats : Nat) : Except (Nat × Nat) Nat :=
  let via := bit feats 0 && bit r.vx.origin 31
  match (if via then some (r.vx.origin % 2 ^ 20) else (s.originLookup r.hostnqn).map fun e => e.origin) with
  | none => .error (0x184, 0)
  | some oid =>
    match s.originSlice oid with
    | none => .error (0x184, 0)
    | some n =>
      if oid = 0 ∨ (s.sl n).st = 3 then .error (0x184, 0)
      else if (s.sl n).st = 2 then .error (0x181, 0)
      else if via ∧ ¬ (s.cfg n).vxOrigin ∧ (s.originLookup r.hostnqn).map (fun e => e.origin) ≠ some oid then .error (0x184, 0)
      else if r.subnqn ≠ (s.cfg n).subnqn then .error (0x182, 256)
      else if (s.cfg n).ctrlQuota ≤ s.ctrlUsed n then .error (0x182, if via then 780 else 512)
      else .ok n

/-- The lowest CNTLID from base on that no controller and no queue of an ended one uses. -/
def State.freeCntlid (s : State) (base : Nat) : Nat :=
  let used := fun (k : Nat) => (s.ctrl k).alive || s.queues.any fun (_, q) => q.valid && q.cntlid == k
  ((List.range 4096).find? fun i => !used (base + i)).map (base + ·) |>.getD (base + 4096)

/-- A new NVMe controller; its bank of index registers starts at the reset values (R456). -/
def State.ctrlMake (s : State) (k : Nat) (x : Ctrl) : State :=
  { s with ctrls := s.ctrls.set k x, idx := s.idx.filter fun (key, _) => key / 2 ^ 40 != k + 1 }

/-- The Origin Table entry that holds a host NQN, or none (R136, R154). -/
def State.originEntry (s : State) (nqn : Nat) : Nat :=
  ((s.per.origins.find? fun (_, e) => e.valid && nqnOf e.nqn == nqnOf nqn).map Prod.fst).getD noP

/-- An admin Connect on a connection of port 4420: SQSIZE (R82), Voxbel (R76), KATO (R68), then the binding (R134). The manual orders
the steps of the binding only; the order of the three checks before it is a DESIGN CHOICE (notes/assumptions/39). -/
def State.connectNvm (s : State) (c cid : Nat) (r : ConnectReq) : State :=
  let cn := s.conn c
  if ¬ (1 ≤ r.sqsize ∧ r.sqsize ≤ 15) then s.connectInvalid c cid 44 false
  else if vxPresent r.vx ∧ vxBad r.vx then (s.vxReject c).connectInvalid c cid 772
  else if r.katoMs < 1000 ∨ 3600000 < r.katoMs then s.connectInvalid c cid 48 false
  else
    let feats := if vxPresent r.vx then s.vxFeatures r.vx cn.rdma else 0
    match s.bindSlice r feats with
    | .error (st, off) =>
      let s := s.raise R.SL_EVT_BIND_FAIL (s.originEntry r.hostnqn)
      if st = 0x182 then s.connectInvalid c cid off else s.connectResp c cid st 0
    | .ok n =>
      let key := firstFree adminBase s.queues
      let k := s.freeCntlid 0
      if adminBase + 4096 ≤ key ∨ 4096 ≤ k then s.connectFull c
      else
        let s := s.ctrlMake k
          { alive := true, slice := n, hostnqn := r.hostnqn, hostid := r.hostid, subnqn := r.subnqn, vx := r.vx,
            vxVer := if vxPresent r.vx then min r.vx.maxVer 0x13 else 0, vxFeat := feats, rdma := cn.rdma, adminConn := c,
            katoMs := r.katoMs }
        s.queueMake c key cid k n 0 r.sqsize .admin

/-- A Connect to the discovery controller (R71): KATO 0 is accepted (R68). A Voxbel block in it is ignored: R76 speaks of Connects to
NVMe controllers with features (DESIGN CHOICE, notes/assumptions/71). -/
def State.connectDisc (s : State) (c cid : Nat) (r : ConnectReq) : State :=
  let cn := s.conn c
  if ¬ s.on R.PT_DISC_CTL_DISC_EN then s.close c true
  else if ¬ r.discovery then s.connectInvalid c cid 256
  else if ¬ (1 ≤ r.sqsize ∧ r.sqsize ≤ 15) then s.connectInvalid c cid 44 false
  else if r.katoMs ≠ 0 ∧ (r.katoMs < 1000 ∨ 3600000 < r.katoMs) then s.connectInvalid c cid 48 false
  else if cn.kind ≠ .disc ∧ 64 ≤ s.discConns then s.connectFull c
  else
    let k := s.freeCntlid 4096
    let key := firstFree (adminBase + 4096) s.queues
    let s := s.ctrlMake k
      { alive := true, disc := true, hostnqn := r.hostnqn, hostid := r.hostid, subnqn := r.subnqn, rdma := cn.rdma, adminConn := c,
        katoMs := r.katoMs, slice := 4096 }
    s.queueMake c key cid k 4096 0 r.sqsize .disc

/-- CONNECT_ADMIN (R134): QID 0. -/
def execConnectAdmin (conn : Nat) (cid : Nat) (req : Framed ConnectReq) (s : State) : Host.Outcome State Fault Refusal :=
  if req.val.qid ≠ 0 then .next s
  else s.onConnect conn req.rx fun s cn =>
    if cn.connected then s.connectAgain conn cid
    else if cn.kind = .disc ∨ (cn.rdma ∧ req.val.discovery) then s.connectDisc conn cid req.val
    else s.connectNvm conn cid req.val

/-! ### I/O Connect (R481) -/

/-- The first of HOSTID, SUBNQN and HOSTNQN that differs from the admin Connect's. -/
def idsDiff (k : Ctrl) (r : ConnectReq) : Option Nat :=
  if r.hostid ≠ k.hostid then some 0 else if r.subnqn ≠ k.subnqn then some 256 else if r.hostnqn ≠ k.hostnqn then some 512 else none

/-- The QID is in use on its controller, or a deleted queue still holds it (R82, R97). -/
def State.qidUsed (s : State) (k qid : Nat) : Bool :=
  s.queues.any fun (q, x) => x.valid && decide (q < adminBase) && x.cntlid == k && x.qid == qid

/-- The checks of R481 in order, and the I/O queue. Of SQSIZE and QID, which R481 names in one step, SQSIZE is checked first (DESIGN
CHOICE, notes/assumptions/39). -/
def State.connectIo (s : State) (c cid : Nat) (r : ConnectReq) : State :=
  let k := s.ctrl r.cntlid
  if ¬ k.alive ∨ k.disc then s.connectInvalid c cid 16
  else
    match idsDiff k r with
    | some off => s.connectInvalid c cid off
    | none =>
      let st := (s.sl k.slice).st
      if st = 2 then s.connectResp c cid 0x181 0
      else if st ≠ 1 then s.connectResp c cid 0x184 0
      else
        match (if vxPresent r.vx then vxDiff k.vx r.vx else none) with
        | some off => (s.vxReject c).connectInvalid c cid off
        | none =>
          if r.sqsize < 15 ∨ s.f R.RC_CFG_IOQ_MQES < r.sqsize then s.connectInvalid c cid 44 false
          else if 1024 < r.qid ∨ s.qidUsed r.cntlid r.qid then s.connectInvalid c cid 42 false
          else if (s.cfg k.slice).qQuota ≤ s.qUsed k.slice then s.connectInvalid c cid 16
          else
            let key := firstFree 0 s.queues
            let n := s.conns.count fun _ (x : Conn) => x.alive && x.kind == .io
            if 16384 ≤ key ∨ 16384 ≤ n then s.connectFull c
            else s.queueMake c key cid r.cntlid k.slice r.qid r.sqsize .io

/-- CONNECT_IO (R481): QID 1 and above. -/
def execConnectIo (conn : Nat) (cid : Nat) (req : Framed ConnectReq) (s : State) : Host.Outcome State Fault Refusal :=
  if req.val.qid = 0 then .next s
  else s.onConnect conn req.rx fun s cn =>
    if cn.connected then s.connectAgain conn cid
    else if cn.kind = .disc then s.connectInvalid conn cid 256
    else s.connectIo conn cid req.val

/-! ### Other Fabrics commands -/

/-- A Fabrics command of a type, dispatched, its own step not yet run. -/
def State.fabricsCmd (s : State) (c ty : Nat) : Bool :=
  let cm := s.cmd c
  cm.alive && cm.phase == .dispatched && cm.sqe.opc == 0x7F && cm.sqe.fctype == ty

/-- The step of a Fabrics command; none is fused (R89). -/
def State.fabricsStep (s : State) (c ty : Nat) (k : Cmd → State) : Host.Outcome State Fault Refusal :=
  if s.fabricsCmd c ty then done (if (s.cmd c).sqe.fuse ≠ 0 then s.failCmd c 0x02 else k (s.cmd c)) else .next s

/-- DISCONNECT (R69): it completes, and the connection closes. -/
def execDisconnect (cmd : Nat) (s : State) : Host.Outcome State Fault Refusal :=
  s.fabricsStep cmd 0x08 fun cm => if cm.mute then s.complete cmd else (s.complete cmd).close cm.conn

/-- Controller Status: RDY follows CC.EN, and a shutdown notified by CC.SHN is complete. -/
def csts (cc : Nat) : Nat := b2n (bit cc 0) + (if bitsOf cc 14 2 = 0 then 0 else 8)

/-- PROPERTY_GET (R98): CAP, VS, CC and CSTS; the bits of CAP are FREE constants (notes/assumptions/33). -/
def execPropertyGet (cmd : Nat) (s : State) : Host.Outcome State Fault Refusal :=
  s.fabricsStep cmd 0x04 fun cm =>
    let cc := (s.ctrl cm.cntlid).cc
    let v := match cm.sqe.cdw11.toNat with
      | 0x00 => some (Config.unstated 1 % 2 ^ 64)
      | 0x08 => some 0x00020100
      | 0x14 => some cc
      | 0x1C => some (csts cc)
      | _ => none
    match v with
    | some v => s.complete cmd 0 (v % 2 ^ 32) (v / 2 ^ 32)
    | none => s.failCmd cmd 0x02

/-- PROPERTY_SET (R98): CC; clearing EN resets the controller: its I/O connections close (notes/assumptions/34). -/
def execPropertySet (cmd : Nat) (s : State) : Host.Outcome State Fault Refusal :=
  s.fabricsStep cmd 0x00 fun cm =>
    if cm.sqe.cdw11.toNat ≠ 0x14 then s.failCmd cmd 0x02
    else
      let old := (s.ctrl cm.cntlid).cc
      let v := cm.sqe.cdw12.toNat
      let s := s.modCtrl cm.cntlid fun k => { k with cc := v }
      let s := if bit old 0 ∧ ¬ bit v 0 then
          let s := (s.conns.keysWhere fun _ (x : Conn) => x.alive && x.kind == .io && x.connected && x.cntlid == cm.cntlid).foldl
            (fun (s : State) c => s.close c true) s
          let s := (s.ctrl cm.cntlid).aers.foldl (fun (s : State) e => s.freeCmd e) s
          s.modCtrl cm.cntlid fun k => { k with aers := [], aevs := [] }
        else s
      s.complete cmd

/-- AUTHENTICATION_SEND fails (R59, Table 03-3). -/
def execAuthenticationSend (cmd : Nat) (s : State) : Host.Outcome State Fault Refusal :=
  s.fabricsStep cmd 0x05 fun _ => s.failCmd cmd 0x02

/-- AUTHENTICATION_RECEIVE fails (R59, Table 03-3). -/
def execAuthenticationReceive (cmd : Nat) (s : State) : Host.Outcome State Fault Refusal :=
  s.fabricsStep cmd 0x06 fun _ => s.failCmd cmd 0x02

end Sys2Proof.Machine
end

