-- ==== Sys2Proof/Machine/IoCmds.lean ====
section
/-! DEFINITION. IoCmds.lean: the I/O commands of Table 03-6 and the zone actions of Table 07-5. -/

namespace Sys2Proof.Machine

/-- An I/O command's own step: it is ready, passes the common checks, and goes on in its namespace; it fails with the status of
a check, or waits (nothing happens). -/
def State.ioStep (s : State) (c : Nat) (ops : List Nat) (k : State → Nat → State) : Host.Outcome State Fault Refusal :=
  if s.ioReady c ops then
    match s.ioCheck c with
    | .error st => done (s.failCmd c st)
    | .ok n => done (k (s.modCmd c fun x => { x with ns := n, lba := sqeLba x.sqe, nlb := sqeNlb x.sqe }) n)
  else .next s

/-- FLUSH (R92): it completes without any media operation; NSID FFFFFFFFh names every attached namespace. -/
def execFlush (cmd : Nat) (s : State) : Host.Outcome State Fault Refusal :=
  if s.ioReady cmd [0x00] then
    if (s.cmd cmd).sqe.nsid = 0xFFFFFFFF ∧ (s.cmd cmd).sqe.fuse = 0 ∧ s.mode ≠ .sanitize ∧ s.per.san ≠ 3 then done (s.complete cmd)
    else
      match s.ioCheck cmd with
      | .error st => done (s.failCmd cmd st)
      | .ok _ => done (s.complete cmd)
  else .next s

/-! ### Writes -/

/-- A placement identifier that names no handle takes handle 0 and is logged (R210). -/
def State.pidCheck (s : State) (c n : Nat) : State :=
  let q := (s.cmd c).sqe
  if q.cdw12.toNat / 2 ^ 20 % 16 = 2 ∧ s.per.fdp.get (s.poolFmt (s.per.ns.get n).pool) ∧
      (s.per.ns.get n).handles.length ≤ q.cdw13.toNat / 65536 then
    (s.fdpEvent 0x3 n 0).raise R.MD_ZEVT_PID_INVALID (s.per.ns.get n).nsid
  else s

/-- A write requests its first slot; in-capsule data takes its slot at once where it can, in the round of R128 (R110, R120). -/
def State.writeGo (s : State) (c : Nat) : State :=
  let s := (s.running c).placeWant c
  let sl := (s.cmd c).slice
  if (s.cmd c).sqe.sgl = .inCapsule ∧ (s.hop.wq.get sl).head? = some c then (s.writeTurn sl).getD s else s

/-- WRITE (R20, R193): checked against its zone or its namespace; it then requests its slots. -/
def execWrite (cmd : Nat) (s : State) : Host.Outcome State Fault Refusal :=
  s.ioStep cmd [0x01] fun s n =>
    let q := (s.cmd cmd).sqe
    match s.sglCheck cmd (sqeNlb q * s.blkSize n) false with
    | some st => s.failCmd cmd st
    | none =>
      if ¬ s.lbaOk n (sqeLba q) (sqeNlb q) then s.failCmd cmd 0x80
      else if (s.per.ns.get n).zoned then
        let z := s.zoneAt n (sqeLba q)
        let st := s.zoneWriteCheck n z (sqeLba q % s.zsze n) (sqeNlb q)
        if st ≠ 0 then s.failCmd cmd st else (s.zoneAdvance n z (sqeNlb q)).writeGo cmd
      else (s.pidCheck cmd n).writeGo cmd

/-- ZONE_APPEND (R193): it writes at the zone's write pointer and returns it as its first LBA. -/
def execZoneAppend (cmd : Nat) (s : State) : Host.Outcome State Fault Refusal :=
  s.ioStep cmd [0x7D] fun s n =>
    let q := (s.cmd cmd).sqe
    match s.sglCheck cmd (sqeNlb q * s.blkSize n) false with
    | some st => s.failCmd cmd st
    | none =>
      if ¬ s.lbaOk n (sqeLba q) 1 then s.failCmd cmd 0x80
      else if sqeLba q % s.zsze n ≠ 0 then s.failCmd cmd 0x02
      else
        let z := s.zoneAt n (sqeLba q)
        let wp := (s.zone z).wp
        let st := s.zoneWriteCheck n z wp (sqeNlb q)
        if st ≠ 0 then s.failCmd cmd st
        else
          let first := sqeLba q + wp
          ((s.modCmd cmd fun x => { x with lba := first, dw0 := first }).zoneAdvance n z (sqeNlb q)).writeGo cmd

/-- WRITE_ZEROES (R100, R213): a conventional range is unmapped and recorded; in a zone, zero blocks are staged at the write
pointer, once host staging has room for them (R137). -/
def execWriteZeroes (cmd : Nat) (s : State) : Host.Outcome State Fault Refusal :=
  s.ioStep cmd [0x08] fun s n =>
    let q := (s.cmd cmd).sqe
    let nlb := sqeNlb q
    if ¬ s.lbaOk n (sqeLba q) nlb then s.failCmd cmd 0x80
    else if (s.per.ns.get n).zoned then
      let z := s.zoneAt n (sqeLba q)
      let st := s.zoneWriteCheck n z (sqeLba q % s.zsze n) nlb
      if 2097152 < nlb * s.blkSize n then s.failCmd cmd 0x02
      else if st ≠ 0 then s.failCmd cmd st
      else if ¬ s.stageRoom (s.cmd cmd).slice (nlb * s.blkSize n) then (s.pressure (s.cmd cmd).slice).afterRows
      else
        let s := (s.zoneAdvance n z nlb).running cmd
        let s := s.stageRun cmd 0 nlb ((s.cmdKey cmd).getD 0) 0
        let s := s.modCmd cmd fun x => { x with staged := nlb }
        let s := s.spillNow cmd
        let s := s.pressure (s.cmd cmd).slice
        (s.stagedAll cmd).postReady.afterRows
    else ((s.running cmd).unmap n (sqeLba q) nlb).completeRecorded cmd

/-- DATASET_MANAGEMENT (R213): Deallocate clears map entries and is recorded before its completion; other attributes are
ignored (Table 03-6). -/
def execDatasetManagement (cmd : Nat) (s : State) : Host.Outcome State Fault Refusal :=
  s.ioStep cmd [0x09] fun s n =>
    let q := (s.cmd cmd).sqe
    let rs := q.ranges.take (q.cdw10.toNat % 256 + 1)
    match s.sglCheck cmd (16 * (q.cdw10.toNat % 256 + 1)) false with
    | some st => s.failCmd cmd st
    | none =>
      if rs.any fun (lba, nlb) => !s.lbaOk n lba nlb then s.failCmd cmd 0x80
      else if q.cdw11.toNat.testBit 2 then
        (rs.foldl (fun (s : State) (lba, nlb) => s.unmap n lba nlb) (s.running cmd)).completeRecorded cmd
      else s.complete cmd

/-! ### Reads -/

/-- A zone of the range is Offline (Table 07-4). -/
def State.offlineIn (s : State) (n lba nlb : Nat) : Bool :=
  (s.per.ns.get n).zoned && s.per.zones.any fun (z, x) =>
    x.ns == n && x.zs == .offline && decide (s.zoneAt n lba ≤ z) && decide (z ≤ s.zoneAt n (lba + nlb - 1))

/-- READ (R24): it joins its slice's read queue; at its head, with slots at hand, it starts at once, in the round of R128. `sram`: words
of the Millrace and of the tables that its look-ups, if it starts, read with symbols in error (R121, R442). -/
def execRead (cmd : Nat) (sram : List SramErr) (s : State) : Host.Outcome State Fault Refusal :=
  s.ioStep cmd [0x02] fun s n =>
    let q := (s.cmd cmd).sqe
    let nlb := sqeNlb q
    match s.sglCheck cmd (nlb * s.blkSize n) true with
    | some st => s.failCmd cmd st
    | none =>
      if ¬ s.lbaOk n (sqeLba q) nlb then s.failCmd cmd 0x80
      else if s.offlineIn n (sqeLba q) nlb then s.failCmd cmd 0x1BB
      else
        let dl := s.readDeadline cmd
        let s := (s.running cmd).modCmd cmd fun x => { x with deadline := dl, src := List.replicate nlb .media }
        let sl := (s.cmd cmd).slice
        let s := { s with hop.rq := s.hop.rq.mod sl (· ++ [cmd]) }
        if (s.hop.rq.get sl).head? = some cmd then ((s.readTurn sl sram).getD s).afterRows else s

/-- VERIFY (R100, R140): it reads and decodes the units charged so far; the further pieces follow as they are charged. -/
def execVerify (cmd : Nat) (s : State) : Host.Outcome State Fault Refusal :=
  s.ioStep cmd [0x0C] fun s n =>
    let q := (s.cmd cmd).sqe
    let nlb := sqeNlb q
    if ¬ s.lbaOk n (sqeLba q) nlb then s.failCmd cmd 0x80
    else if s.offlineIn n (sqeLba q) nlb then s.failCmd cmd 0x1BB
    else
      let dl := s.readDeadline cmd
      let s := (s.running cmd).modCmd cmd fun x => { x with deadline := dl, src := List.replicate nlb .media }
      (s.startBlocks cmd 0 ((s.cmd cmd).units / s.nsUnits n)).afterRows

/-! ### Zone Management Send (Table 07-5) -/

/-- The zones of a namespace. -/
def State.zonesOf (s : State) (n : Nat) : List Nat := s.per.zones.keysWhere fun _ x => x.ns == n

/-- The one zone that a command names, or a status. -/
def State.zoneNamed (s : State) (c n : Nat) : Except Nat Nat :=
  let lba := sqeLba (s.cmd c).sqe
  if ¬ s.lbaOk n lba 1 then .error 0x80
  else if lba % s.zsze n ≠ 0 then .error 0x02
  else .ok (s.zoneAt n lba)

/-- The lifetime class that an Open gives, with feature bit 2 (R207). -/
def State.openHint (s : State) (c : Nat) : Option Nat :=
  let cm := s.cmd c
  if bit (s.ctrl cm.cntlid).vxFeat 2 then some (cm.sqe.cdw14.toNat % 4) else none

/-- A zone becomes Explicitly Opened, with the hint. -/
def State.zoneOpenTo (s : State) (z : Nat) (hint : Option Nat) : State :=
  let was := (s.zone z).zs
  let s := match hint with
    | some h => s.modZone z fun x => { x with life := h }
    | none => s
  let s := s.modZone z fun x => { x with zs := .explOpen }
  (if was = .empty then s.zoneShell z else s).record .zone z

/-- ZONE_OPEN (R190, R207): the zone, or with Select All every Closed zone, becomes Explicitly Opened. -/
def execZoneOpen (cmd : Nat) (s : State) : Host.Outcome State Fault Refusal :=
  if sqeZsa (s.cmd cmd).sqe ≠ 3 then .next s
  else s.ioStep cmd [0x79] fun s n =>
    let hint := s.openHint cmd
    if sqeAll (s.cmd cmd).sqe then
      (((s.zonesOf n).filter fun z => (s.zone z).zs == .closed).foldl (fun (s : State) z => s.zoneOpenTo z hint) s).complete cmd
    else
      match s.zoneNamed cmd n with
      | .error st => s.failCmd cmd st
      | .ok z =>
        match (s.zone z).zs with
        | .full => s.failCmd cmd 0x1BF
        | .readOnly => s.failCmd cmd 0x1BA
        | .offline => s.failCmd cmd 0x1BB
        | .none => s.failCmd cmd 0x02
        | .empty => if s.mayActivate n then (s.zoneOpenTo z hint).complete cmd else s.failCmd cmd 0x1BD
        | .implOpen => (s.zoneOpenTo z hint).complete cmd
        | .closed => (s.zoneOpenTo z hint).complete cmd
        | .explOpen => (s.zoneOpenTo z hint).complete cmd

/-- An opened zone closes; at ZSLBA it becomes Empty. -/
def State.zoneCloseTo (s : State) (z : Nat) : State := if (s.zone z).wp = 0 then s.zoneEmpty z else s.zoneTo z .closed

/-- ZONE_CLOSE (R190, R192). -/
def execZoneClose (cmd : Nat) (s : State) : Host.Outcome State Fault Refusal :=
  if sqeZsa (s.cmd cmd).sqe ≠ 1 then .next s
  else s.ioStep cmd [0x79] fun s n =>
    if sqeAll (s.cmd cmd).sqe then
      (((s.zonesOf n).filter fun z => (s.zone z).zs == .implOpen || (s.zone z).zs == .explOpen).foldl State.zoneCloseTo s).complete cmd
    else
      match s.zoneNamed cmd n with
      | .error st => s.failCmd cmd st
      | .ok z =>
        match (s.zone z).zs with
        | .empty => s.failCmd cmd 0x1BF
        | .full => s.failCmd cmd 0x1BF
        | .readOnly => s.failCmd cmd 0x1BA
        | .offline => s.failCmd cmd 0x1BB
        | .none => s.failCmd cmd 0x02
        | .closed => s.complete cmd
        | .implOpen => (s.zoneCloseTo z).complete cmd
        | .explOpen => (s.zoneCloseTo z).complete cmd

/-- The partial row at a zone's written end is padded with zero blocks to a whole row (R201). -/
def State.zonePad (s : State) (z : Nat) : State :=
  let x := s.zone z
  let u := s.nsUnits x.ns
  let row := s.streamRow z
  let tail := x.wp * u % row
  if tail = 0 then s
  else
    let s := (List.range ((row - tail) / u)).foldl (fun (s : State) k =>
      s.stageBlock { stream := z, row := x.wp * u / row, unit := tail + k * u, units := u, slice := 4096, cmd := 2 ^ 20,
                     blk := { units := u } }) s
    s.rowCheck z (x.wp * u / row)

/-- A zone becomes Full by Finish, and its partial row is padded (R201). -/
def State.zoneFinishTo (s : State) (z : Nat) : State :=
  let tail := (s.zone z).wp * s.nsUnits (s.zone z).ns % s.streamRow z
  (((s.modZone z fun x => { x with zs := .full, padded := x.padded || decide (0 < tail) }).record .zone z).zonePad z).zoneShellFull z

/-- ZONE_FINISH (R201): it completes once the Logbook records the new state. -/
def execZoneFinish (cmd : Nat) (s : State) : Host.Outcome State Fault Refusal :=
  if sqeZsa (s.cmd cmd).sqe ≠ 2 then .next s
  else s.ioStep cmd [0x79] fun s n =>
    if sqeAll (s.cmd cmd).sqe then
      ((((s.zonesOf n).filter fun z => (s.zone z).active).foldl State.zoneFinishTo (s.running cmd)).completeRecorded cmd).afterRows
    else
      match s.zoneNamed cmd n with
      | .error st => s.failCmd cmd st
      | .ok z =>
        match (s.zone z).zs with
        | .readOnly => s.failCmd cmd 0x1BA
        | .offline => s.failCmd cmd 0x1BB
        | .none => s.failCmd cmd 0x02
        | .full => s.complete cmd
        | .empty => ((s.running cmd).zoneTo z .full).completeRecorded cmd
        | .implOpen => (((s.running cmd).zoneFinishTo z).completeRecorded cmd).afterRows
        | .explOpen => (((s.running cmd).zoneFinishTo z).completeRecorded cmd).afterRows
        | .closed => (((s.running cmd).zoneFinishTo z).completeRecorded cmd).afterRows

/-- ZONE_RESET (R202): dispatched, it holds later writes to its zones until it takes effect. -/
def execZoneReset (cmd : Nat) (s : State) : Host.Outcome State Fault Refusal :=
  if sqeZsa (s.cmd cmd).sqe ≠ 4 then .next s
  else s.ioStep cmd [0x79] fun s n =>
    let wait := fun (zs : List Nat) => (s.running cmd).modCmd cmd fun x => { x with zs := zs }
    if sqeAll (s.cmd cmd).sqe then
      let zs := (s.zonesOf n).filter fun z => (s.zone z).active || (s.zone z).zs == .full
      if zs.isEmpty then s.complete cmd else wait zs
    else
      match s.zoneNamed cmd n with
      | .error st => s.failCmd cmd st
      | .ok z =>
        match (s.zone z).zs with
        | .readOnly => s.failCmd cmd 0x1BA
        | .offline => s.failCmd cmd 0x1BB
        | .none => s.failCmd cmd 0x02
        | .empty => s.complete cmd
        | .full => wait [z]
        | .implOpen => wait [z]
        | .explOpen => wait [z]
        | .closed => wait [z]

/-- A write to a zone dispatched before a Reset has not ended (R202). -/
def State.zoneBusy (s : State) (z : Nat) : Bool :=
  s.cmds.any fun (k, d) =>
    d.alive && isWriteOpc d.sqe.opc && (d.phase == .running || d.phase == .durable) && s.cmdZone k == some z

/-- ZONE_RESET_EFFECT (R202): no earlier write is left; each zone that may still be reset becomes Empty, and the command
completes once the Logbook records it. A zone that became Read Only meanwhile gives the status of Table 07-5. -/
def execZoneResetEffect (cmd : Nat) (s : State) : Host.Outcome State Fault Refusal :=
  let cm := s.cmd cmd
  if cm.alive ∧ cm.sqe.opc = 0x79 ∧ cm.phase = .running ∧ ¬ cm.zs.isEmpty ∧ ¬ cm.zs.any s.zoneBusy ∧ s.modeIn [.service, .readOnly] then
    let bad := cm.zs.any fun z => (s.zone z).zs == .readOnly
    let s := (cm.zs.filter fun z => (s.zone z).active || (s.zone z).zs == .full).foldl State.zoneEmpty s
    let s := s.modCmd cmd fun x => { x with zs := [] }
    if bad ∧ ¬ sqeAll cm.sqe then done (s.failCmd cmd 0x1BA).afterRows
    else done (s.completeRecorded cmd).afterRows
  else .next s

/-- A Read Only zone goes Offline and its shell joins the erase queue (R204). -/
def State.zoneOfflineTo (s : State) (z : Nat) : State :=
  ((s.zoneDrop z).modZone z fun x => { x with zs := .offline, shellValid := false, shell := 0, spilled := false }).record .zone z

/-- ZONE_OFFLINE (R204). -/
def execZoneOffline (cmd : Nat) (s : State) : Host.Outcome State Fault Refusal :=
  if sqeZsa (s.cmd cmd).sqe ≠ 5 then .next s
  else s.ioStep cmd [0x79] fun s n =>
    if sqeAll (s.cmd cmd).sqe then
      (((s.zonesOf n).filter fun z => (s.zone z).zs == .readOnly).foldl State.zoneOfflineTo s).complete cmd
    else
      match s.zoneNamed cmd n with
      | .error st => s.failCmd cmd st
      | .ok z =>
        match (s.zone z).zs with
        | .readOnly => (s.zoneOfflineTo z).complete cmd
        | .offline => s.complete cmd
        | .none => s.failCmd cmd 0x02
        | _ => s.failCmd cmd 0x1BF

/-- ZONE_SET_DESC_EXT (R205): it fails, as every Zone Send Action without a row of Table 07-5 does. -/
def execZoneSetDescExt (cmd : Nat) (s : State) : Host.Outcome State Fault Refusal :=
  if 1 ≤ sqeZsa (s.cmd cmd).sqe ∧ sqeZsa (s.cmd cmd).sqe ≤ 5 then .next s
  else s.ioStep cmd [0x79] fun s _ => s.failCmd cmd 0x02

/-! ### Zone Management Receive (R205) -/

/-- The zone state that a filter of Zone Receive Action Specific selects; none: every zone. -/
def zoneFilter : Nat → Option (Option ZState)
  | 0 => some none
  | 1 => some (some .empty)
  | 2 => some (some .implOpen)
  | 3 => some (some .explOpen)
  | 4 => some (some .closed)
  | 5 => some (some .full)
  | 6 => some (some .readOnly)
  | 7 => some (some .offline)
  | _ => none

/-- The fields of a zone's descriptor: ZT, ZS, ZCAP, ZSLBA, write pointer, and the attributes ZFC, FZR, RZR and ZDEV (R205). -/
def State.zoneDesc (s : State) (n z : Nat) : List Nat :=
  let x := s.zone z
  let lba := x.zoneNo * s.zsze n
  let wp := if x.zs = .full ∨ x.zs = .readOnly ∨ x.zs = .offline then 2 ^ 64 - 1 else lba + x.wp
  [2, zsNum x.zs, s.zcap n, lba, wp, 0, 0, 0, 0]

/-- The report of the zones that a filter selects from the zone of SLBA on: header count and descriptors that fit. -/
def State.zoneReport (s : State) (c n : Nat) : State :=
  let q := (s.cmd c).sqe
  let bytes := (q.cdw12.toNat + 1) * 4
  match zoneFilter (q.cdw13.toNat / 256 % 256) with
  | none => s.failCmd c 0x02
  | some f =>
    if ¬ s.lbaOk n (sqeLba q) 1 then s.failCmd c 0x80
    else
      match s.sglCheck c bytes true with
      | some st => s.failCmd c st
      | none =>
        let zs := (s.zonesOf n).filter fun z => decide (s.zoneAt n (sqeLba q) ≤ z) &&
          match f with
          | some st => (s.zone z).zs == st
          | none => true
        let fit := zs.take ((bytes - 64) / 64)
        let count := if q.cdw13.toNat.testBit 16 then fit.length else zs.length
        let kind := if (s.conn (s.cmd c).conn).rdma then MK.rdmaWrite else MK.c2hData
        let s := if (s.cmd c).mute then s
          else s.send kind (s.cmd c).conn [q.cid, 0, bytes] (count :: (fit.map (s.zoneDesc n)).flatten)
        s.complete c

/-- REPORT_ZONES (R205); a Zone Receive Action other than the two reports fails with Invalid Field in Command. -/
def execReportZones (cmd : Nat) (s : State) : Host.Outcome State Fault Refusal :=
  if sqeZsa (s.cmd cmd).sqe = 1 then .next s
  else s.ioStep cmd [0x7A] fun s n => if sqeZsa (s.cmd cmd).sqe ≠ 0 then s.failCmd cmd 0x02 else s.zoneReport cmd n

/-- EXTENDED_REPORT_ZONES (R205): a descriptor extension size of 0 makes it the same report. -/
def execExtendedReportZones (cmd : Nat) (s : State) : Host.Outcome State Fault Refusal :=
  if sqeZsa (s.cmd cmd).sqe ≠ 1 then .next s
  else s.ioStep cmd [0x7A] fun s n => s.zoneReport cmd n

end Sys2Proof.Machine
end

