-- ==== Sys2Proof/Machine/Admin.lean ====
section
/-! DEFINITION. Admin.lean: the admin commands of Table 03-3 that need no boot object: features, log pages, Identify,
asynchronous events, namespaces, Format NVM, directives, security protocols, Sanitize. Data returned to a host is the fields that
the manual fixes, in the order that each docstring gives. -/

namespace Sys2Proof.Machine

/-! ### The step of an admin command -/

/-- The modes in which admin commands are served (Table 01-7, R42). -/
def adminModes : List Mode := [.rebuild, .service, .readOnly, .feathered, .sanitize]

/-- The step of an admin command of one opcode; no command is fused (R89). -/
def State.admStep (s : State) (c opc : Nat) (k : State → Cmd → Ctrl → State) : Host.Outcome State Fault Refusal :=
  if s.admCmd c opc ∧ s.modeIn adminModes then
    done (if (s.cmd c).sqe.fuse ≠ 0 then s.failCmd c 0x02 else k s (s.cmd c) (s.ctrl (s.cmd c).cntlid))
  else .next s

/-- A command that acts on I/O is held in Rebuild (R42), and waits for Service in Feathered. -/
def State.ioStepHeld (s : State) : Bool := s.modeIn [.rebuild, .feathered]

/-- The data pointer of a command that returns data (R99); then k. -/
def State.withData (s : State) (c : Nat) (k : State → State) : State :=
  match s.sglCheck c 0 true with
  | some st => s.failCmd c st
  | none => k s

/-- The data, and the completion. -/
def State.answer (s : State) (c : Nat) (args data : List Nat) : State := (s.adminData c args data).complete c

/-- The crew formats that the device has: its endurance groups (Table 03-5). -/
def State.groups (s : State) : List Nat := [1, 2, 3].filter fun g => (List.range 64).any fun c => s.fmt c == g

/-- Namespaces, by key, that satisfy a condition, in order of NSID above a bound: at most 1,024. -/
def State.nsList (s : State) (above : Nat) (p : Nat → Ns → Bool) : List Nat :=
  (((s.per.ns.filter fun (n, x) => x.alive && decide (above < x.nsid) && p n x).map fun (_, x) => x.nsid).mergeSort
    fun a b => decide (a ≤ b)).take 1024

/-- The namespace of an NSID, whatever it is attached to. -/
def State.nsAny (s : State) (nsid : Nat) : Option Nat :=
  (s.per.ns.find? fun (_, x) => x.alive && x.nsid == nsid).map Prod.fst

/-! ### Identify (R78, R90, R99, R101, R191, R401, R425) -/

/-- Identify Namespace: NSID, NSZE, NCAP, formats less 1, FLBAS, the two LBADS, DLFEAT, then NSFEAT 0: NAWUN, NAWUPF and NABSN are not
supported and read 0 (R90). -/
def State.idNs (s : State) (n : Nat) : List Nat :=
  let x := s.per.ns.get n
  [x.nsid, x.nsze, x.nsze, 1, b2n x.big, 12, 14, 1, 0, 0, 0, 0]

/-- Identify Controller: CNTLID, CNTRLTYPE, MDTS, AERL, VWC, NN, WCTEMP, CCTEMP, FWUG, firmware slots, FNA, CRDT, bytes 3072
and 3076–3079 (R78), SUBNQN, AWUN and AWUPF (R90), IOCCSZ (Table 02-5), and the asynchronous events supported, by their bit of feature
0x0B: namespace attributes, zone descriptors, and on the discovery controller its log page. -/
def idCtrl (cntlid : Nat) (k : Ctrl) : List Nat :=
  [cntlid, if k.disc then 2 else 1, 9, 3, 0, 4096, 373, 383, 1, 2, 0, 0, k.vxVer, k.vxFeat, k.subnqn, 0, 0, 516,
    if k.disc then 2 ^ 31 else 2 ^ 8 + 2 ^ 27]

/-- The data structure that a CNS selects, or a status. -/
def State.identifyData (s : State) (cm : Cmd) (k : Ctrl) : Except Nat (List Nat) :=
  let q := cm.sqe
  let cns := q.cdw10.toNat % 256
  let csi := q.cdw11.toNat / 2 ^ 24
  let mine := s.nsOf cm.cntlid q.nsid
  let attached := fun (n : Nat) => k.attached.contains n
  let withNs := fun (o : Option Nat) (f : Nat → Except Nat (List Nat)) => match o with
    | none => Except.error 0x0B
    | some n => f n
  let csiOf := fun (n : Nat) => if (s.per.ns.get n).zoned then 2 else 0
  if k.disc then (if cns = 0x01 then .ok (idCtrl cm.cntlid k) else .error 0x02)
  else if [0x10, 0x11, 0x12, 0x13].contains cns ∧ ¬ (s.cfg k.slice).mgmt then .error 0x01
  else
    match cns with
    | 0x00 => withNs mine fun n => .ok (s.idNs n)
    | 0x01 => .ok (idCtrl cm.cntlid k)
    | 0x02 => .ok (s.nsList q.nsid fun n _ => attached n)
    | 0x03 => withNs mine fun n => .ok [4, csiOf n]
    | 0x05 => withNs mine fun n =>
        if csi ≠ csiOf n then .error 0x02
        else if csi = 0 then .ok [0]
        else
          let m := max (s.cfg (s.per.ns.get n).owner).zoneQuota 1 - 1
          .ok [2, 0, 1, m, m, 1048576, 0, 262144, 0]
    | 0x06 => if csi = 0 then .ok [0] else if csi = 2 then .ok [2, 9] else .error 0x02
    | 0x07 => if csi = 0 ∨ csi = 2 then .ok (s.nsList q.nsid fun n _ => attached n && csiOf n == csi) else .error 0x02
    | 0x08 => withNs mine fun _ => .ok [1]
    | 0x1C => .ok [5]
    | 0x10 => .ok (s.nsList q.nsid fun _ _ => true)
    | 0x11 => withNs (s.nsAny q.nsid) fun n => .ok (s.idNs n)
    | 0x12 => withNs (s.nsAny q.nsid) fun n =>
        .ok (s.ctrls.keysWhere fun j c => c.alive && !c.disc && decide (q.cdw10.toNat / 65536 ≤ j) && c.attached.contains n)
    | 0x13 => .ok (s.ctrls.keysWhere fun j c => c.alive && !c.disc && decide (q.cdw10.toNat / 65536 ≤ j))
    | _ => .error 0x02

/-- IDENTIFY (R98): the data structure of its CNS. -/
def execIdentify (cmd : Nat) (s : State) : Host.Outcome State Fault Refusal :=
  s.admStep cmd 0x06 fun s cm k =>
    match s.identifyData cm k with
    | .error st => s.failCmd cmd st
    | .ok d => s.withData cmd fun s => s.answer cmd [0x06, cm.sqe.cdw10.toNat % 256] d

/-! ### Abort, Keep Alive, Asynchronous Event Request -/

/-- ABORT (R95): it completes with bit 0 of Dword 0 set and is counted. -/
def execAbort (cmd : Nat) (s : State) : Host.Outcome State Fault Refusal :=
  s.admStep cmd 0x08 fun s _ _ => (s.addF R.RC_CANCEL_ABORT_CMDS).complete cmd 0 1

/-- KEEP_ALIVE (R68): the timer restarts; its expiry is the environment's KEEP_ALIVE_EXPIRY. -/
def execKeepAlive (cmd : Nat) (s : State) : Host.Outcome State Fault Refusal :=
  s.admStep cmd 0x18 fun s _ _ => s.complete cmd

/-- ASYNC_EVENT_REQUEST (R98): it takes an event that waits, or is held; a fifth fails. -/
def execAsyncEventRequest (cmd : Nat) (s : State) : Host.Outcome State Fault Refusal :=
  s.admStep cmd 0x0C fun s cm k =>
    if 4 ≤ k.aers.length then s.failCmd cmd 0x105
    else
      match k.aevs with
      | e :: r => (s.modCtrl cm.cntlid fun x => { x with aevs := r }).complete cmd 0 (e.1 + 256 * e.2.1 + 65536 * e.2.2)
      | [] => (s.running cmd).modCtrl cm.cntlid fun x => { x with aers := x.aers ++ [cmd] }

/-! ### Features (Table 03-4) -/

/-- The features that a controller supports. -/
def fids (disc : Bool) : List Nat :=
  if disc then [0x0B, 0x0F] else [0x01, 0x02, 0x04, 0x05, 0x07, 0x0B, 0x0E, 0x0F, 0x16, 0x1D, 0x1E]

/-- A feature value is stored for the controller. -/
def State.setFeat (s : State) (k fid v : Nat) : State := s.modCtrl k fun c => { c with feats := c.feats.set fid v }

/-- A pending Discovery Log Page Change goes out once its event is enabled (R73). -/
def State.discPending (s : State) (k : Nat) : State :=
  let c := s.ctrl k
  if c.disc ∧ c.discChange ∧ ¬ c.discSent ∧ bit (c.feats.get 0x0B) 31 then
    (s.modCtrl k fun c => { c with discSent := true }).asyncEvent k (2, 0xF0, 0x70)
  else s

/-- SET_FEATURES (R98, R68, R210, R401). -/
def execSetFeatures (cmd : Nat) (s : State) : Host.Outcome State Fault Refusal :=
  s.admStep cmd 0x09 fun s cm k =>
    let q := cm.sqe
    let fid := q.cdw10.toNat % 256
    let v := q.cdw11.toNat
    let me := cm.cntlid
    let w := fun i => ((q.words[i]?).map BitVec.toNat).getD 0
    let withSgl := fun (len : Nat) (t : State) => match s.sglCheck cmd len false with
      | some st => s.failCmd cmd st
      | none => t.complete cmd
    if bit q.cdw10.toNat 31 then s.failCmd cmd 0x10D
    else if ¬ (fids k.disc).contains fid then s.failCmd cmd 0x02
    else
      match fid with
      | 0x02 => if v % 32 ≠ 0 then s.failCmd cmd 0x02 else s.complete cmd
      | 0x04 =>
        let sel := v / 2 ^ 20 % 4
        let t := v % 65536
        let ok := if sel = 0 then decide (273 ≤ t ∧ t ≤ 398) else decide (sel = 1 ∧ t ≤ 373)
        if v / 65536 % 16 ≠ 0 ∨ ¬ ok then s.failCmd cmd 0x02
        else ((s.setFeat me (0x0400 + sel) (t + 1)).tempCheck).complete cmd
      | 0x05 => if v % 2 ^ 17 ≠ 0 then s.failCmd cmd 0x02 else s.complete cmd
      | 0x07 => s.failCmd cmd 0x0C
      | 0x0B => ((s.setFeat me 0x0B v).discPending me).complete cmd
      | 0x0E => withSgl 8 (s.modCtrl me fun c => { c with tsVal := (w 0 + 2 ^ 32 * w 1) % 2 ^ 48, tsTb := s.clk.tb })
      | 0x16 => withSgl 512 (s.setFeat me 0x16 ((List.range 128).foldl (fun a i => a + w i * 2 ^ (32 * i)) 0))
      | 0x0F =>
        if (v = 0 ∧ k.disc) ∨ (1000 ≤ v ∧ v ≤ 3600000) then (s.modCtrl me fun c => { c with katoMs := v }).complete cmd
        else s.failCmd cmd 0x02
      | 0x1D =>
        let g := v % 65536
        if ¬ s.groups.contains g ∨ q.cdw12.toNat / 256 % 256 ≠ 0 then s.failCmd cmd 0x02
        else if s.per.ns.any fun (_, n) => n.alive && !n.zoned && s.poolFmt n.pool == g then s.failCmd cmd 0x0C
        else ({ s with per.fdp := s.per.fdp.set g (bit q.cdw12.toNat 0) }.recordCfg 4 g [q.cdw12.toNat % 2]).complete cmd
      | _ => (s.setFeat me fid v).complete cmd

/-- A feature's value: current (SEL 0), or its default (SEL 1; nothing is saved, so SEL 2 gives it too). -/
def State.featValue (s : State) (k : Ctrl) (fid cdw11 : Nat) (cur : Bool) : Except Nat Nat :=
  match fid with
  | 0x04 =>
    let sel := cdw11 / 2 ^ 20 % 4
    if cdw11 / 65536 % 16 ≠ 0 ∨ 1 < sel then .error 0x02
    else .ok (if cur then k.threshold sel else if sel = 0 then 373 else 273)
  | 0x07 => .ok (1023 + 1023 * 65536)
  | 0x0F => .ok (if cur then k.katoMs else Config.unstated 2 % 2 ^ 32)
  | 0x1D =>
    let g := cdw11 % 65536
    if s.groups.contains g then .ok (if cur then b2n (s.per.fdp.get g) else 0) else .error 0x02
  | _ => .ok (if cur then k.feats.get fid else 0)

/-- GET_FEATURES (R98): SEL 3 gives the capabilities, changeable and not saveable. -/
def execGetFeatures (cmd : Nat) (s : State) : Host.Outcome State Fault Refusal :=
  s.admStep cmd 0x0A fun s cm k =>
    let q := cm.sqe
    let fid := q.cdw10.toNat % 256
    let sel := q.cdw10.toNat / 256 % 8
    if ¬ (fids k.disc).contains fid ∨ 3 < sel then s.failCmd cmd 0x02
    else if sel = 3 then s.complete cmd 0 (if fid = 0x07 then 0 else 4)
    else if fid = 0x0E then
      s.withData cmd fun s =>
        let ms := if sel = 0 then (k.tsVal + (s.clk.tb - k.tsTb) / Config.ticksPerMs) % 2 ^ 48 else 0
        s.answer cmd [0x0A, 0x0E] [ms]
    else if fid = 0x16 then s.withData cmd fun s => s.answer cmd [0x0A, 0x16] [if sel = 0 then k.feats.get 0x16 else 0]
    else
      match s.featValue k fid q.cdw11.toNat (sel == 0) with
      | .error st => s.failCmd cmd st
      | .ok v => s.complete cmd 0 v

/-! ### Log pages (Table 03-5) -/

/-- The log pages that a controller supports. -/
def lids (disc : Bool) : List Nat :=
  if disc then [0x70] else [0x00, 0x01, 0x02, 0x03, 0x04, 0x05, 0x09, 0x20, 0x21, 0x22, 0x23, 0x81, 0xBF, 0xC0]

/-- The bytes of a number, lowest first. -/
def leBytes (n v : Nat) : List Nat := (List.range n).map fun i => v / 256 ^ i % 256

/-- Ticks that a slice's Sluice has been Closed since SINCE, saturating at 64 bits (R480). -/
def State.closedTicks (s : State) (n : Nat) : Nat :=
  let x := s.sl n
  min (x.closedTicks + (if x.closedSince = 0 then 0 else s.clk.tb + 1 - x.closedSince)) (2 ^ 64 - 1)

/-- Slice Latency Summary: 512 bytes (Table 06-11). -/
def State.latencySummary (s : State) (n : Nat) : List Nat :=
  let l := s.gov.loops.get n
  let e := fun i => (l.est[i]?).getD 0
  let rd := bit l.estValid 0
  let wr := bit l.estValid 1
  leBytes 2 n ++ [(s.cfg n).latClass % 16, l.estValid % 4] ++ leBytes 4 (if rd then e 0 else 0) ++ leBytes 4 (if rd then e 1 else 0) ++
    leBytes 4 (if wr then e 2 else 0) ++ leBytes 4 (if wr then e 3 else 0) ++ leBytes 4 l.missPass ++ leBytes 8 (s.closedTicks n) ++
    leBytes 8 l.since ++ leBytes 8 l.passTb ++ List.replicate 464 0

/-- SSTAT of BT_SAN and log page 0x81 (R434). -/
def sstat (san : Nat) : Nat := if san = 4 then 3 else san

/-- SPROG out of 65,536. -/
def State.sprog (s : State) : Nat :=
  if s.per.san = 1 then 65535
  else if s.media.sanTotal = 0 then 0 else min (65536 * s.media.sanDone / s.media.sanTotal) 65535

/-- Critical Warning: bit 1, temperature (R401); bit 3, the media is read only. -/
def State.critical (s : State) (me : Nat) : Nat := 2 * b2n (s.tempOut me) + 8 * b2n (s.mode == .readOnly)

/-- Address family and address of a link address entry: IPv4, else the first valid IPv6 address. -/
def linkAddress (a : List Nat) : Nat × Nat :=
  let w := fun i => (a[i]?).getD 0
  let six := fun i => w i + w (i + 1) * 2 ^ 32 + w (i + 2) * 2 ^ 64 + w (i + 3) * 2 ^ 96
  if w 0 ≠ 0 then (1, w 0) else if bit (w 10) 16 then (2, six 2) else (2, six 6)

/-- A page's fields, or a status. 0x00: LIDs. 0x01: (CID, status, location) of each entry, newest first. 0x03: slot booted + 1,
next slot + 1 or 0, the two VERSIONs. 0x04: NSIDs, 0xFFFF_FFFF when they pass 1,024. 0x05: opcodes. 0x20: FDP configurations,
reclaim groups, handles, handle type, reclaim unit size in MiB. 0x21: handle numbers in use. 0x23: (type, NSID, handle). 0x70:
LOG_GEN, entries, then of each the transport (1 RDMA, 3 TCP), address family, TREQ, port ID, service port (R55), SUBNQN, address. 0x81: SPROG, SSTAT, action, AUSE. 0xBF: count, zone numbers. -/
def State.logPage (s : State) (cm : Cmd) (k : Ctrl) (lid : Nat) : Except Nat (List Nat) :=
  let q := cm.sqe
  let g := q.cdw11.toNat / 65536
  let ofGroup := fun (x : Except Nat (List Nat)) => if s.groups.contains g then x else Except.error 0x02
  match lid with
  | 0x00 => .ok (lids k.disc)
  | 0x01 => .ok ((k.errs.map fun e => [e.cid, e.status, e.loc]).flatten)
  | 0x02 => if q.nsid = 0 ∨ q.nsid = 0xFFFFFFFF then .ok [s.critical cm.cntlid, s.kelvin.toNat] else .error 0x02
  | 0x03 =>
    let b := s.f R.BT_STS_BANK_BOOTED
    let p := s.f R.BT_STS_PREFER
    .ok [b + 1, if p = b then 0 else p + 1, s.f R.BT_FWVER_VERSION 0 0, s.f R.BT_FWVER_VERSION 0 1]
  | 0x04 => .ok (if 1024 < k.changedNs.length then [0xFFFFFFFF] else k.changedNs)
  | 0x05 => .ok (adminOpcs ++ [0x7F] ++ ioOpcs)
  | 0x09 => ofGroup (.ok [])
  | 0x20 => ofGroup (.ok [1, 1, 64, 1, zoneCapUnits g / 256])
  | 0x21 => ofGroup (.ok ((s.per.ns.filter fun (_, n) => n.alive && !n.zoned && s.poolFmt n.pool == g).flatMap fun (_, n) => n.handles))
  | 0x22 => ofGroup (.ok [])
  | 0x23 => ofGroup (.ok (((s.media.fdpEv.filter fun (_, n, _) => n / 8192 == g).map fun (t, n, h) =>
      [t, (s.per.ns.get (n % 8192)).nsid, h]).flatten))
  | 0x70 =>
    let es := s.discEntries k.hostnqn
    .ok (s.f R.PT_DISC_CTL_LOG_GEN :: es.length :: es.flatMap fun (l, a, roce, tls, nqn) =>
      [if roce then 1 else 3, (linkAddress a).1, b2n tls, l, 4420, nqn, (linkAddress a).2])
  | 0x81 => .ok [s.sprog, sstat s.per.san, s.per.sanAct, b2n s.per.sanAuse]
  | 0xBF =>
    match s.nsOf cm.cntlid q.nsid with
    | none => .error 0x0B
    | some n =>
      let l := s.media.czl.get n
      .ok (if 511 < l.length then [0xFFFF] else l.length :: l)
  | _ => .ok (s.latencySummary k.slice)

/-- First byte and length of field `i` of a page, of value `v` (PRESUMED, the layouts of NVMe Base 2.1 and the NVMe-oF discovery log page;
notes/assumptions/75; Slice Latency Summary by Table 06-11). -/
def logPlace (lid i v : Nat) : Nat × Nat :=
  match lid with
  | 0x00 => (4 * v, 4)
  | 0x01 => (i / 3 * 64 + 10 + 2 * (i % 3), 2)
  | 0x02 => match i with
    | 0 => (0, 1)
    | 1 => (1, 2)
    | _ => (3, 509)
  | 0x03 => if i < 2 then (0, 1) else (8 * (i - 1), 8)
  | 0x04 => (4 * i, 4)
  | 0x05 => if i < 21 then (4 * v, 4) else (1024 + 4 * v, 4)
  | 0x09 => (0, 512)
  | 0x20 => ((([(0, 2), (20, 4), (24, 2), (44, 1), (32, 8)] : List (Nat × Nat))[i]?).getD (0, 0))
  | 0x21 => (8 + 8 * v, 8)
  | 0x22 => (0, 64)
  | 0x23 => (64 + i / 3 * 64 + ((([0, 12, 2] : List Nat)[i % 3]?).getD 0), ((([1, 4, 2] : List Nat)[i % 3]?).getD 0))
  | 0x70 =>
    if i < 2 then (8 * i, 8)
    else
      let e := 1024 * ((i - 2) / 7 + 1)
      let (p, w) := (([(0, 1), (1, 1), (3, 1), (4, 2), (32, 32), (256, 256), (512, 256)] : List (Nat × Nat))[(i - 2) % 7]?).getD (0, 0)
      (e + p, w)
  | 0x81 => ((([(0, 2), (2, 2), (4, 1), (5, 1)] : List (Nat × Nat))[i]?).getD (0, 0))
  | 0xBF => if i = 0 then (0, 2) else (8 + 8 * i, 8)
  | _ => (i, 1)

/-- The fields of a page that a read at an offset returns, each cut to the bytes that the read covers (Table 03-3: offsets supported). -/
def logCut (lid off bytes : Nat) (d : List Nat) : List Nat :=
  (d.zipIdx.filterMap fun (v, i) =>
    let (p, w) := logPlace lid i v
    let (lo, hi) := (max off p, min (off + bytes) (p + w))
    if lo < hi then some (v / 256 ^ (lo - p) % 256 ^ (hi - lo)) else none)

/-- What a read with RAE cleared does to the page (R73, R204). -/
def State.logRead (s : State) (cm : Cmd) (lid : Nat) : State :=
  match lid with
  | 0x04 => s.modCtrl cm.cntlid fun c => { c with changedNs := [] }
  | 0x70 => s.modCtrl cm.cntlid fun c => { c with discChange := false, discSent := false }
  | 0xBF =>
    match s.nsOf cm.cntlid cm.sqe.nsid with
    | none => s
    | some n =>
      { s with media.czl := s.media.czl.set n [], media.cznOut := s.media.cznOut.set (cm.cntlid * 8192 + n) false }
  | _ => s

/-- GET_LOG_PAGE (R98, R480): the page, with its offset and length. SMART, endurance and FDP statistics hold counts that the
manual does not fix: a FREE VALUE follows their fields (notes/assumptions/3). -/
def execGetLogPage (cmd : Nat) (s : State) : Host.Outcome State Fault Refusal :=
  s.admStep cmd 0x02 fun s cm k =>
    let q := cm.sqe
    let lid := q.cdw10.toNat % 256
    let bytes := (q.cdw10.toNat / 65536 + 65536 * (q.cdw11.toNat % 65536) + 1) * 4
    let off := q.cdw12.toNat + 2 ^ 32 * q.cdw13.toNat
    if 2097152 < bytes then s.failCmd cmd 0x02
    else if ¬ (lids k.disc).contains lid then s.failCmd cmd 0x109
    else if lid = 0xC0 ∧ 512 < off + bytes then s.failCmd cmd 0x02
    else
      match s.logPage cm k lid with
      | .error st => s.failCmd cmd st
      | .ok d =>
        s.withData cmd fun s =>
          let (d, s) := if [0x02, 0x09, 0x22].contains lid then (fun (p : Nat × State) => (d ++ [p.1], p.2)) s.drawGarbage else (d, s)
          let s := if bit q.cdw10.toNat 15 then s else s.logRead cm lid
          s.answer cmd [0x02, lid, off, bytes] (logCut lid off bytes d)

/-! ### Namespaces (R184, R185, R186) -/

/-- NSZE of every conventional namespace, bytes. -/
def State.convBytes (s : State) : Nat :=
  s.per.ns.foldl (fun a (_, n) => if n.alive ∧ ¬ n.zoned then a + n.nsze * (if n.big then 16384 else 4096) else a) 0

/-- The conventional limit (R211): min(16 TiB, map region × 512). -/
def State.convLimit (s : State) : Nat := min (2 ^ 44) (s.boot.image.mapGib * 2 ^ 30 * 512)

/-- The first free run of n Zone Table entries (R215). -/
def State.zoneRun (s : State) (n : Nat) : Option Nat :=
  let used := ((s.per.ns.filter fun (_, x) => x.alive && x.zoned).map fun (_, x) =>
    (x.zbase, x.nsze / (if x.big then 262144 else 1048576))).mergeSort fun a b => decide (a.1 ≤ b.1)
  let at_ := used.foldl (fun (p : Nat × Bool) (b, k) => if p.2 ∨ p.1 + n ≤ b then (p.1, true) else (max p.1 (b + k), false)) (0, false)
  if at_.1 + n ≤ 524288 then some at_.1 else none

/-- KEYS_USED of a slice (R150). -/
def State.keysUsed (s : State) (n : Nat) : Nat := s.keys.count fun _ k => k.valid && k.slice == n

/-- A key slot takes a key; the lowest free one (R150). -/
def State.keyLoad (s : State) (k : KeySlot) : State :=
  { s with keys := s.keys.set (firstFree 0 (s.keys.filter fun (_, x) => x.valid)) k }

/-- Shells that a namespace reserves (R185). -/
def State.createShells (s : State) (x : NsCreate) (big : Bool) (handles : Nat) : Nat :=
  let size := if big then 16384 else 4096
  if x.csi = 2 then x.nsze / (if big then 262144 else 1048576)
  else
    ceilDiv (x.nsze * size * (100 + s.boot.image.convOp)) (100 * zoneCapUnits (s.poolFmt x.pool) * 4096) + handles

/-- The handles that a conventional namespace takes: its list with FDP, else exactly one (R210). -/
def State.nsHandles (s : State) (x : NsCreate) : List Nat :=
  if x.csi = 2 then [] else if s.per.fdp.get (s.poolFmt x.pool) ∧ ¬ x.handles.isEmpty then x.handles else [0]

/-- The checks of Table 07-2 in order; 0: none holds. -/
def State.nsCheck (s : State) (x : NsCreate) : Nat :=
  let zoned := x.csi = 2
  let big := x.flbas % 16 = 1
  let zsze := if big then 262144 else 1048576
  let hs := s.nsHandles x
  if (x.csi ≠ 0 ∧ x.csi ≠ 2) ∨ x.ncap ≠ x.nsze ∨ 1 < x.flbas ∨ 8 ≤ x.pool ∨ (s.poolCrews x.pool).isEmpty ∨ (s.sl x.owner).st ≠ 1 ∨
      x.nsze = 0 ∨ (zoned ∧ (x.nsze % zsze ≠ 0 ∨ ¬ x.handles.isEmpty)) ∨ 64 < x.handles.length then 0x02
  else if 4096 ≤ s.per.ns.count fun _ n => n.alive then 0x116
  else if ¬ zoned ∧ s.convLimit < s.convBytes + x.nsze * (if big then 16384 else 4096) then 0x115
  else if s.freeShells x.pool < s.createShells x big hs.length then 0x115
  else if zoned ∧ (s.zoneRun (x.nsze / zsze)).isNone then 0x115
  else if ¬ zoned ∧ (s.cfg x.owner).zoneQuota < s.zonesUsed x.owner + hs.length then 0x115
  else if (s.cfg x.owner).keyQuota ≤ s.keysUsed x.owner then 0x115
  else 0

/-- The Millpond shells of a pool above its floor that hold no live data leave it at once (R255): an erased one goes back to the pool. -/
def State.millRoom (s : State) (p : Nat) : State :=
  (s.millOf p).foldl (fun (s : State) x =>
    if (s.millOf p).length ≤ s.mpFloorShells p ∨ 0 < s.svalid x ∨ s.media.jobs.any (fun j => j.shell == x + 1) then s
    else if (s.shell x).st = 1 then (s.modShell x fun h => { h with kind := 0 }).record .shell x
    else s.releaseShell x) s

/-- A namespace begins: the lowest free internal index and NSID, its zones Empty, its key (R184, R150); the Millpond makes
room for its reservation. The result is its NSID. -/
def State.nsMake (s : State) (x : NsCreate) : Nat × State :=
  let zoned := decide (x.csi = 2)
  let big := decide (x.flbas % 16 = 1)
  let nz := if zoned then x.nsze / (if big then 262144 else 1048576) else 0
  let n := firstFree 1 (s.per.ns.filter fun (_, y) => y.alive)
  let nsid := ((List.range 4097).find? fun i => decide (1 ≤ i) && (s.nsAny i).isNone).getD 0
  let base := (s.zoneRun nz).getD 0
  let hs := s.nsHandles x
  let (key, s) := s.drawRandom
  let y : Ns := { alive := true, nsid := nsid, zoned := zoned, big := big, nsze := x.nsze, pool := x.pool, owner := x.owner,
                  kpio := x.kpio, handles := hs, resv := s.createShells x big hs.length, zbase := if zoned then base else 0, key := key }
  let s := { s with per.ns := s.per.ns.set n y }
  let s := s.each nz fun s i => { s with per.zones := s.per.zones.set (base + i) { zs := .empty, ns := n, zoneNo := i } }
  (nsid, ((s.keyLoad { valid := true, slice := x.owner, ns := n, key := key }).record .ns n).millRoom x.pool)

/-- NS_CREATE (R184): Namespace Management with SEL 0. -/
def execNsCreate (cmd : Nat) (s : State) : Host.Outcome State Fault Refusal :=
  if s.ioStepHeld ∨ (s.cmd cmd).sqe.cdw10.toNat % 16 = 1 then .next s
  else s.admStep cmd 0x0D fun s cm _ =>
    if s.mode = .sanitize then s.failCmd cmd 0x1D
    else if cm.sqe.cdw10.toNat % 16 ≠ 0 then s.failCmd cmd 0x02
    else
      match s.sglCheck cmd 4096 false with
      | some st => s.failCmd cmd st
      | none =>
        let x := { cm.sqe.create with csi := cm.sqe.cdw11.toNat / 2 ^ 24 }
        let st := s.nsCheck x
        if st = 0x115 then (s.raise R.MD_ZEVT_NS_NOSPACE).failCmd cmd st
        else if st ≠ 0 then s.failCmd cmd st
        else
          let (nsid, s) := s.nsMake x
          s.complete cmd 0 nsid

/-- An I/O command on a namespace is under way. -/
def State.nsBusy (s : State) (n : Nat) : Bool :=
  s.cmds.any fun (_, c) => c.alive && decide (c.queue < adminBase) && (c.phase == .running || c.phase == .durable) && c.ns == n

/-- What a namespace holds leaves it: zones, or the map; what stands in staging, in row jobs and in the Millpond is discarded, and
its shells join the erase queue (R186). A handle's shell left partly written is an FDP event (R210). -/
def State.nsEmpty (s : State) (n : Nat) : State :=
  let x := s.per.ns.get n
  if x.zoned then ((s.zonesOf n).filter fun z => (s.zone z).zs != .empty).foldl State.zoneEmpty s
  else
    let mine := fun (st : Nat) => decide (2 ^ 20 ≤ st) && (st - 2 ^ 20) / 64 == n
    let s := s.dropJobs fun j => mine j.stream && (j.kind == .direct || j.kind == .fold || j.kind == .reloc)
    let old := (s.per.spills.filter fun p => mine p.stream).map fun p => p.shell
    let s := { s with
      media.stage := s.media.stage.filter (fun (b : StBlk) => !mine b.stream),
      media.fill := s.media.fill.filter (fun (k, _) => !mine k),
      media.lostBlk := s.media.lostBlk.filter (fun (k, _) => k / 2 ^ 48 != n),
      per.spills := s.per.spills.filter (fun p => !mine p.stream),
      per.map := s.per.map.mapAll fun k e => if k / 2 ^ 33 = n then { epoch := e.epoch } else e }
    let shells := s.per.shells.keysWhere fun _ h => (h.st == 2 || h.st == 3) && h.kind == 2 && h.owner % 4096 + 1 == n
    let part := (List.range x.handles.length).filter fun h =>
      let y := s.media.hshell.get (handleStream n h)
      y != 0 && decide (0 < (s.shell (y - 1)).rows) && (s.shell (y - 1)).st == 2
    let s := part.foldl (fun (s : State) h => s.fdpEvent 0x0 n h) s
    let s := { s with media.hshell := s.media.hshell.filter fun (k, _) => !(mine k || (decide (2 ^ 30 ≤ k) && mine (k - 2 ^ 30))) }
    let s := (s.media.relocs.keysWhere fun _ r => r.alive && shells.contains r.src).foldl State.abandon s
    let s := s.record .ns n
    (old.dedup.foldl State.millRelease s) |> fun s => shells.foldl State.releaseShell s

/-- A namespace's attribute changes for the controllers that it is attached to: Changed Namespace List, and a notice where it is
enabled (bit 8 of the configuration). -/
def State.nsChanged (s : State) (k nsid : Nat) : State :=
  let c := s.ctrl k
  let s := s.modCtrl k fun c => { c with changedNs := if c.changedNs.contains nsid then c.changedNs else c.changedNs ++ [nsid] }
  if c.changedNs.isEmpty ∧ bit (c.feats.get 0x0B) 8 then s.asyncEvent k (2, 0, 4) else s

/-- A namespace ends: keys zeroised, detached, emptied, its reservation and Zone Table run released at once (R152, R186). -/
def State.nsEnd (s : State) (n : Nat) : State :=
  let nsid := (s.per.ns.get n).nsid
  let s := s.nsEmpty n
  let who := s.ctrls.keysWhere fun _ c => c.alive && c.attached.contains n
  let s := { s with
    keys := s.keys.filter (fun (_, k) => !(k.valid && k.ns == n)),
    per.zones := s.per.zones.filter (fun (_, z) => z.ns != n),
    per.ns := s.per.ns.set n {},
    per.map := s.per.map.filter (fun (k, _) => k / 2 ^ 33 != n),
    media.czl := s.media.czl.set n [],
    media.cznOut := s.media.cznOut.filter (fun (k, _) => k % 8192 != n),
    ctrls := s.ctrls.mapAll fun _ (c : Ctrl) => { c with attached := c.attached.filter (· ≠ n) } }
  (who.foldl (fun (s : State) k => s.nsChanged k nsid) s).record .ns n

/-- The step of a command that acts on whole namespaces: it holds later I/O to them, and waits for the I/O under way (R186,
R202). -/
def State.nsWait (s : State) (c : Nat) (ns : List Nat) (k : State → State) : State :=
  if ns.any s.nsBusy then (s.running c).modCmd c fun x => { x with zs := ns.map (2 ^ 20 + ·) }
  else k (s.modCmd c fun x => { x with zs := [] })

/-- A command that waits in nsWait may go on. -/
def State.nsWaiting (s : State) (c opc : Nat) : Bool :=
  let cm := s.cmd c
  cm.alive && decide (adminBase ≤ cm.queue) && cm.phase == .running && cm.sqe.opc == opc && !cm.zs.isEmpty && s.modeIn adminModes

/-- NS_DELETE (R186): Namespace Management with SEL 1; NSID FFFFFFFFh names every namespace. -/
def execNsDelete (cmd : Nat) (s : State) : Host.Outcome State Fault Refusal :=
  let q := (s.cmd cmd).sqe
  let ns := if q.nsid = 0xFFFFFFFF then s.per.ns.keysWhere fun _ x => x.alive else ((s.nsAny q.nsid).map fun n => [n]).getD []
  let go := fun (s : State) => s.nsWait cmd ns fun s => ((ns.foldl State.nsEnd s).complete cmd).afterRows
  if s.ioStepHeld ∨ q.cdw10.toNat % 16 ≠ 1 then .next s
  else if s.nsWaiting cmd 0x0D then done (go s)
  else s.admStep cmd 0x0D fun s _ _ =>
    if s.mode = .sanitize then s.failCmd cmd 0x1D
    else if q.nsid ≠ 0xFFFFFFFF ∧ ns.isEmpty then s.failCmd cmd 0x0B
    else go s

/-- NS_ATTACHMENT (R98): SEL 0 attaches, 1 detaches; a controller of another slice, or no live one, fails the whole command, and
the Error Information entry gives the offset of the first such entry. -/
def execNsAttachment (cmd : Nat) (s : State) : Host.Outcome State Fault Refusal :=
  s.admStep cmd 0x15 fun s cm _ =>
    let q := cm.sqe
    let sel := q.cdw10.toNat % 16
    -- the controller list: words hold 16-bit CNTLIDs, the first is their number
    let half := fun (i : Nat) => ((q.words[i / 2]?).map BitVec.toNat).getD 0 / 65536 ^ (i % 2) % 65536
    let list := (List.range (min (half 0) 2047)).map fun i => half (i + 1)
    match s.nsAny q.nsid with
    | none => s.failCmd cmd 0x0B
    | some n =>
      let x := s.per.ns.get n
      let bad := fun (k : Nat) => !(s.ctrl k).alive || (s.ctrl k).disc || (s.ctrl k).slice != x.owner
      if 1 < sel then s.failCmd cmd 0x02
      else
        match s.sglCheck cmd 4096 false with
        | some st => s.failCmd cmd st
        | none =>
          match list.findIdx? bad with
          | some i => s.complete cmd 0x02 0 0 (2 + 2 * i)
          | none =>
            let s := list.foldl (fun (s : State) k =>
              let has := (s.ctrl k).attached.contains n
              if has = (sel == 0) then s
              else
                let s := s.modCtrl k fun c =>
                  { c with attached := if sel = 0 then c.attached ++ [n] else c.attached.filter (· ≠ n) }
                s.nsChanged k x.nsid) s
            s.complete cmd

/-! ### Format NVM (R186) -/

/-- One namespace is formatted: keys first with SES 2, contents, then the block size; what it releases is Awaiting erase. -/
def State.nsFormat (s : State) (ses : Nat) (big : Bool) (n : Nat) : State :=
  let s := if ses = 2 then
      let (r, s) := s.drawRandom
      { s with per.ns := s.per.ns.mod n fun x => { x with key := r },
               keys := s.keys.mapAll fun _ k => if k.valid ∧ k.ns = n then (if k.inj then {} else { k with key := r }) else k }
    else s
  let s := s.nsEmpty n
  let x := s.per.ns.get n
  let nsze := if x.big = big then x.nsze
    else if x.zoned then x.nsze / (if x.big then 262144 else 1048576) * (if big then 262144 else 1048576)
    else if big then x.nsze / 4 else x.nsze * 4
  { s with per.ns := s.per.ns.set n { x with big := big, nsze := nsze } }.record .ns n

/-- The format takes effect; with SES 1 it completes once every shell released has been erased. -/
def State.formatGo (s : State) (c ses : Nat) (big : Bool) (ns : List Nat) : State :=
  let before := s.per.shells.keysWhere fun _ h => h.st == 4
  let s := ns.foldl (fun (s : State) n => s.nsFormat ses big n) (s.running c)
  let freed := (s.per.shells.keysWhere fun _ h => h.st == 4).filter fun x => !before.contains x
  if ses = 1 ∧ ¬ freed.isEmpty then { s with media.fmtWait := s.media.fmtWait ++ [(c, freed)] }.afterRows
  else (s.completeRecorded c).afterRows

/-- FORMAT_NVM (R186): SES in Dword 10 [11:9], the LBA format in [3:0]; NSID FFFFFFFFh names every attached namespace.
One in progress when its controller is deleted goes on with its namespaces (Table 03-2). -/
def execFormatNvm (cmd : Nat) (s : State) : Host.Outcome State Fault Refusal :=
  let cm := s.cmd cmd
  let q := cm.sqe
  let w := q.cdw10.toNat
  let ns := if cm.zs.isEmpty then s.formatNs cm else (cm.zs.map fun z => z - 2 ^ 20).filter fun n => (s.per.ns.get n).alive
  let go := fun (s : State) => s.nsWait cmd ns fun s => s.formatGo cmd (w / 512 % 8) (w % 16 == 1) ns
  if s.ioStepHeld then .next s
  else if s.nsWaiting cmd 0x80 then done (go s)
  else s.admStep cmd 0x80 fun s _ _ =>
    if s.mode = .sanitize then s.failCmd cmd 0x1D
    else if q.nsid ≠ 0xFFFFFFFF ∧ ns.isEmpty then s.failCmd cmd 0x0B
    else if 2 < w / 512 % 8 ∨ 1 < w % 16 ∨ w / 4096 % 4 ≠ 0 ∨ w / 32 % 8 ≠ 0 then s.failCmd cmd 0x02
    else if s.mode = .readOnly then s.failCmd cmd 0x20
    else go s

/-! ### Directives (Table 03-3) -/

/-- Identify (type 0) or Data Placement (type 2). -/
def dirType (q : Sqe) : Nat := q.cdw11.toNat / 256 % 256

/-- FDP is on for the namespace that a directive names. -/
def State.dirFdp (s : State) (n : Nat) : Bool := !(s.per.ns.get n).zoned && s.per.fdp.get (s.poolFmt (s.per.ns.get n).pool)

/-- DIRECTIVE_SEND (R98): Identify's Enable operation names Data Placement, which FDP alone turns on and off; any other
operation fails. -/
def execDirectiveSend (cmd : Nat) (s : State) : Host.Outcome State Fault Refusal :=
  s.admStep cmd 0x19 fun s cm _ =>
    let q := cm.sqe
    match s.nsOf cm.cntlid q.nsid with
    | none => s.failCmd cmd 0x0B
    | some n =>
      let en := bit q.cdw12.toNat 0
      if dirType q = 0 ∧ q.cdw11.toNat % 256 = 1 ∧ q.cdw12.toNat / 256 % 256 = 2 ∧ en = s.dirFdp n then s.complete cmd
      else s.failCmd cmd 0x02

/-- DIRECTIVE_RECEIVE (R98): Identify's Return Parameters: directives supported, enabled, and kept over a controller reset (bit 0
Identify, bit 2 Data Placement). -/
def execDirectiveReceive (cmd : Nat) (s : State) : Host.Outcome State Fault Refusal :=
  s.admStep cmd 0x1A fun s cm _ =>
    let q := cm.sqe
    match s.nsOf cm.cntlid q.nsid with
    | none => s.failCmd cmd 0x0B
    | some n =>
      if dirType q = 0 ∧ q.cdw11.toNat % 256 = 1 then
        s.withData cmd fun s => s.answer cmd [0x1A] [5, 1 + 4 * b2n (s.dirFdp n), 4 * b2n (s.dirFdp n)]
      else s.failCmd cmd 0x02

/-! ### Security protocols (R429, R432) -/

/-- The security protocols of Table 03-3. -/
def secProtocols : List Nat := [0x00, 0x01, 0x02, 0xE8]

/-- SECURITY_SEND (R98): the protocol is one of Table 03-3; what it carries acts by its own row. -/
def execSecuritySend (cmd : Nat) (s : State) : Host.Outcome State Fault Refusal :=
  s.admStep cmd 0x81 fun s cm _ =>
    let p := cm.sqe.cdw10.toNat / 2 ^ 24
    if p = 0 ∨ ¬ secProtocols.contains p then s.failCmd cmd 0x02
    else
      match s.sglCheck cmd 0 false with
      | some st => s.failCmd cmd st
      | none => s.complete cmd

/-- SECURITY_RECEIVE (R98): the protocols, or the response that the last Security Send left. -/
def execSecurityReceive (cmd : Nat) (s : State) : Host.Outcome State Fault Refusal :=
  s.admStep cmd 0x82 fun s cm k =>
    let p := cm.sqe.cdw10.toNat / 2 ^ 24
    if ¬ secProtocols.contains p then s.failCmd cmd 0x02
    else s.withData cmd fun s =>
      if p = 0 then s.answer cmd [0x82, p] secProtocols
      else (s.modCtrl cm.cntlid fun c => { c with secResp := [] }).answer cmd [0x82, p] k.secResp

/-- A TCG response: kept for Security Receive, and sent. -/
def State.tcg (s : State) (k : Nat) (resp : List Nat) : State :=
  (s.modCtrl k fun c => { c with secResp := resp }).send .tcgResp k resp

/-- A Key Per I/O method on a controller: its namespace is attached and has KPIO on (R151, R432). Method statuses: 0 SUCCESS, 7
INSUFFICIENT_SPACE, 12 INVALID_PARAMETER. -/
def State.kpio (s : State) (cntlid nsid tag : Nat) (k : State → Nat → State) : Host.Outcome State Fault Refusal :=
  if ¬ ((s.ctrl cntlid).alive ∧ s.modeIn adminModes) then .next s
  else
    match s.nsOf cntlid nsid with
    | none => done (s.tcg cntlid [12])
    | some n => if ¬ (s.per.ns.get n).kpio ∨ 255 < tag then done (s.tcg cntlid [12]) else done (k s n)

/-- The slot of an injected key. -/
def State.keyAt (s : State) (n tag : Nat) : Option Nat :=
  (s.keys.find? fun (_, k) => k.valid && k.inj && k.ns == n && k.tag == tag).map Prod.fst

/-- KPIO_INJECT_KEY (R432): a key under a tag; a tag that is loaded takes the new key. -/
def execKpioInjectKey (cntlid nsid tag key : Nat) (s : State) : Host.Outcome State Fault Refusal :=
  s.kpio cntlid nsid tag fun s n =>
    let sl := (s.per.ns.get n).owner
    let x : KeySlot := { valid := true, inj := true, slice := sl, ns := n, tag := tag, key := key }
    match s.keyAt n tag with
    | some i => ({ s with keys := s.keys.set i x }).tcg cntlid [0]
    | none => if (s.cfg sl).keyQuota ≤ s.keysUsed sl then s.tcg cntlid [7] else (s.keyLoad x).tcg cntlid [0]

/-- KPIO_CLEAR_KEY (R432). -/
def execKpioClearKey (cntlid nsid tag : Nat) (s : State) : Host.Outcome State Fault Refusal :=
  s.kpio cntlid nsid tag fun s n =>
    match s.keyAt n tag with
    | some i => ({ s with keys := s.keys.set i {} }).tcg cntlid [0]
    | none => s.tcg cntlid [12]

/-- TCG_LEVEL0_DISCOVERY (R432): the namespaces attached that have Key Per I/O on. -/
def execTcgLevel0Discovery (cntlid : Nat) (s : State) : Host.Outcome State Fault Refusal :=
  if ¬ ((s.ctrl cntlid).alive ∧ s.modeIn adminModes) then .next s
  else done (s.tcg cntlid (s.nsList 0 fun n x => x.kpio && (s.ctrl cntlid).attached.contains n))

/-! ### Sanitize (R433, R434) -/

/-- SANACT of a Sanitize command. -/
def sanAct (q : Sqe) : Nat := q.cdw10.toNat % 8

/-- Steps 1 to 3 of Table 15-14: the MODE record, mode Sanitize, the completion, and what follows. -/
def State.sanitize (s : State) (c act : Nat) : State :=
  if s.mode = .sanitize then (s.trigIgnored 0x0E).failCmd c 0x1D
  else
    let s := { s with per.san := 2, per.sanAct := act, per.sanAuse := bit (s.cmd c).sqe.cdw10.toNat 3, media.sanTotal := 0,
                      media.sanDone := 0 }
    let s := ((s.record .mode 2).tailOut).move 0x0E .sanitize
    (s.complete c).sanitizeRun.afterRows

/-- SANITIZE_BLOCK_ERASE (R433): SANACT 2; Overwrite and the reserved actions fail. -/
def execSanitizeBlockErase (cmd : Nat) (s : State) : Host.Outcome State Fault Refusal :=
  if s.ioStepHeld ∨ [1, 4].contains (sanAct (s.cmd cmd).sqe) then .next s
  else s.admStep cmd 0x84 fun s cm _ =>
    if sanAct cm.sqe ≠ 2 ∧ s.mode ≠ .sanitize then s.failCmd cmd 0x02 else s.sanitize cmd 2

/-- SANITIZE_CRYPTO_ERASE (R433): SANACT 4. -/
def execSanitizeCryptoErase (cmd : Nat) (s : State) : Host.Outcome State Fault Refusal :=
  if s.ioStepHeld ∨ sanAct (s.cmd cmd).sqe ≠ 4 then .next s
  else s.admStep cmd 0x84 fun s _ _ => s.sanitize cmd 4

/-- SANITIZE_EXIT_FAILURE (R433): SANACT 1 ends failure mode after a failed sanitize with AUSE 1. -/
def execSanitizeExitFailure (cmd : Nat) (s : State) : Host.Outcome State Fault Refusal :=
  if s.ioStepHeld ∨ sanAct (s.cmd cmd).sqe ≠ 1 then .next s
  else s.admStep cmd 0x84 fun s _ _ =>
    if s.mode = .sanitize then s.failCmd cmd 0x1D
    else if s.per.san ≠ 3 then s.complete cmd
    else if ¬ s.per.sanAuse then s.failCmd cmd 0x02
    else ({ s with per.san := 4 }.record .mode 4).complete cmd

end Sys2Proof.Machine
end

