-- ==== Sys2Proof/Machine/Start.lean ====
section
/-! DEFINITION. Start.lean: what Discovery does: the image check (R423), the registers that the image supplies, the load of what
the Logbook records (R276), the lane probe (R284 to R286), the crews (R223, R244), first formatting (R270), and the slices. -/

namespace Sys2Proof.Machine

def within (lo hi x : Nat) : Bool := decide (lo ≤ x) && decide (x ≤ hi)

def ascending (l : List Nat) : Bool := (l.zip l.tail).all fun (a, b) => decide (a ≤ b)
def ascendingInt (l : List Int) : Bool := (l.zip l.tail).all fun (a, b) => decide (a ≤ b)

/-! ### The image check (R423) -/

/-- The slots that a recipe set must define (R288). -/
def slotsNeeded : List Nat := [0, 1, 2, 3, 4, 5, 6, 8, 9, 15, 16, 17, 18]

/-- The slots that program or erase (Table 10-6). -/
def strokeSlots : List Nat := [15, 16, 17, 18]

/-- The slots in which a CMD state may carry a byte outside Table 10-3 (R283). -/
def freeCmdSlots : List Nat := [3, 4, 7, 9, 13, 14, 16, 18]

/-- The command bytes of Table 10-3. -/
def onfiCmds : List Nat := [0xFF, 0xFA, 0x90, 0xEC, 0xEE, 0xEF, 0xD4, 0xD5, 0x70, 0x78, 0x00, 0x30, 0x32, 0x31, 0x3F, 0x06, 0xE0,
  0x80, 0x10, 0x11, 0x60, 0xD0, 0xD1, 0xF9, 0xD9]

/-- The operation of a recipe state is one of Table 10-8, with its argument in the range given there. -/
def stateArgOk (w : Nat) : Bool :=
  match w % 256 with
  | 0x02 => within 1 6 (bitsOf w 8 3)
  | 0x04 => within 1 4 (bitsOf w 8 3)
  | 0x05 => decide (1 ≤ bitsOf w 8 24)
  | 0x06 => decide (64 ≤ bitsOf w 8 16)
  | 0x09 => within 1 6 (bitsOf w 8 3)
  | n => within 1 13 n

/-- The CMD byte of a state is one that R283 allows in its slot. The equivalent commands of a JESD230 die are in JESD230 and are
not checked: DESIGN CHOICE (notes/assumptions/70). -/
def cmdOk (iface slot w : Nat) : Bool :=
  w % 256 != 1 || iface == 2 || freeCmdSlots.contains slot || onfiCmds.contains (bitsOf w 8 8)

/-- A recipe keeps R289 and R291: its states, their branches, its durations, and the STROKE of a program or erase. -/
def opOk (iface : Nat) (o : RecipeOp) : Bool :=
  within 1 64 o.states.length &&
    (o.states.all fun (w, b) => stateArgOk w && cmdOk iface o.slot w && decide (bitsOf b 0 6 < o.states.length) &&
      decide (bitsOf b 8 6 < o.states.length)) &&
    decide (o.tExp ≤ o.tMax) &&
    if strokeSlots.contains o.slot then
      decide (o.tMax ≤ 18000000) && o.states.any fun (w, _) => w % 256 == 1 && bitsOf w 16 1 == 1
    else decide (o.tMax ≤ 1500000)

/-- A recipe set is one that the controller supports (R283, R287 to R291, R470, Tables 10-5 and 10-7). -/
def recipeOk (r : RecipeSet) : Bool :=
  decide (r.iface < 3) && within 375 3000 r.rateMax && decide (r.rateMax ≤ Config.ifaceRateMax r.iface) && r.planes == 4 &&
    r.bits == 4 && r.spare == 2048 && r.page == 16384 && r.rows == 384 && within 1 8192 r.blocks &&
    slotsNeeded.all (fun n => r.ops.any fun o => o.slot == n && o.present) &&
    r.ops.all fun o => decide (o.start < 64) && decide (o.slot < 32) && (!o.present || opOk r.iface o)

/-- A curve set keeps the ranges of Table 11-5. -/
def curveOk (c : CurveSet) : Bool :=
  ascending c.peEdges && c.peEdges.all (· < 2 ^ 18) && ascending c.ageEdges && ascendingInt c.tempEdges && decide (c.tempDef ≤ 3) &&
    within 1 15 c.softDelta && decide (c.entries.length ≤ 1024) && c.cells.all fun (f, n) => decide (f < 1024) && decide (n < 16)

/-- An envelope keeps the ranges of Table 14-4. -/
def envelopeOk (e : Envelope) : Bool :=
  within 600 800 e.vcoreMv && e.vcoreMv % 5 == 0 && within 16 128 e.divFloor && within 32 2048 e.dieCap && within 10 44 e.pLimitW &&
    within 1 20 e.wrGbps

/-- A slot pool is partitioned lawfully (R107): classes 0 to 3 of 4, 16, 64 and 256 KiB. -/
def partitionOk (cl : List Nat) (mib maxCount : Nat) : Bool :=
  let n := fun i => (cl[i]?).getD 0
  decide (1 ≤ n 0) && decide (1 ≤ n 1) && decide (1 ≤ n 2) && decide (1 ≤ n 3) &&
    n 0 * 4 + n 1 * 16 + n 2 * 64 + n 3 * 256 == mib * 1024 && decide (n 0 + n 1 + n 2 + n 3 ≤ maxCount)

/-- A DRAM population of Table 12-1. -/
def populationOk (g : Image) : Bool :=
  match g.nch, g.density32, g.ranks2, g.capGib with
  | 1, false, true, 32 | 1, true, false, 32 | 2, false, false, 32 | 2, false, true, 64 | 2, true, false, 64 | 4, false, false, 64
  | 4, false, true, 128 | 4, true, false, 128 => true
  | _, _, _, _ => false

/-- The word of a profile in an image. -/
def imageProf (g : Image) (n : Nat) : Prof := fun w =>
  match g.profiles.find? fun (p, i, _) => p == n && i == w with
  | some (_, _, v) => v.toNat
  | none => 0

/-- The crew of an image: format and pool. -/
def imageCrew (g : Image) (c : Nat) : Nat × Option Nat := (g.crews[c]?).getD (0, none)

/-- The crews of a pool have one format (R183). -/
def poolsAgree (g : Image) : Bool :=
  (List.range 8).all fun p =>
    let fs := (g.crews.filter fun (f, q) => q == some p && f != 0).map Prod.fst
    fs.all fun f => f == (fs.head?).getD 0

/-- The fields of the Media section, the ports, the lanes and the codes lie in their ranges. -/
def mediaOk (g : Image) : Bool :=
  within 16 512 g.spareSeat && within 7 28 g.convOp && within 8 64 g.mpPct && within 1 65535 g.idleMbps && within 16 256 g.logShells &&
    within 100 10000 g.logHoldUs && within 1 16 g.relocMin && within g.relocMin 64 g.relocRes && within 24 720 g.patrolH &&
    within 50 100000 g.dwellUs && decide (g.idleTimeoutS ≤ 3600) && decide (g.mpHome < 8) &&
    (List.range 5).all (fun i => bitsOf g.codes (2 * i) 2 != 3) &&
    g.divTarget.all (within 16 128) && g.slotOff.all (· ≤ 2047) && g.slotLen.all (within 32 2048) &&
    g.ptCfg.all (fun v => bitsOf v 1 2 != 3 && bitsOf v 3 2 != 3) && g.crews.all (fun (f, p) => decide (f ≤ 3) && decide (p.getD 0 < 8))

/-! ### Registers that the image supplies -/

/-- Registers "from Idolob image", the envelopes, and the link addresses in force (Table 15-9). -/
def State.imageRegs (s : State) (g : Image) : State :=
  let s := s.each 2 fun s p =>
    let v := (g.ptCfg[p]?).getD 0
    ((s.setF R.PT_CFG_ENABLE v p).setF R.PT_CFG_BREAKOUT (v / 2) p).setF R.PT_CFG_MEDIA_TYPE (v / 8) p
  let s := ((s.setF R.HP_POOL_WPOOL_MIB g.wpoolMib).setF R.HP_POOL_RPOOL_MIB g.rpoolMib).setF R.HP_RBASE_BASE_MIB g.rbaseMib
  let s := s.each 4 fun s c =>
    (s.setF R.HP_WCLASS_COUNT ((g.wclass[c]?).getD 0) 0 c).setF R.HP_RCLASS_COUNT ((g.rclass[c]?).getD 0) 0 c
  let s := ((s.setF R.GV_CFG_SAMPLE_TICKS g.sampleTicks).setF R.MD_ZCFG_DWELL_US g.dwellUs).setF R.MD_CONV_CONV_OP g.convOp
  let s := ((s.setF R.MD_MP_CFG_MP_PCT g.mpPct).setF R.MD_MP_CFG_IDLE_MBPS g.idleMbps).setF R.MD_LOG_STS_LOG_SHELLS g.logShells
  let s := s.each 32 fun s l =>
    ((s.setF R.LN_CFG_DIV_TARGET ((g.divTarget[l]?).getD 16) l).setF R.LN_STROKE_SLOT_OFF ((g.slotOff[l]?).getD (64 * l)) l).setF
      R.LN_STROKE_SLOT_LEN ((g.slotLen[l]?).getD 64) l
  let s := ((s.setF R.DR_GCFG_WIDTH (Nat.log2 g.nch)).setF R.DR_GCFG_GRAIN_EXP g.grainExp).setF R.DR_GCFG_DENSITY (b2n g.density32)
  let s := ((s.setF R.DR_GCFG_RANKS (b2n g.ranks2)).setF R.DR_GCFG_RATE g.rate).setF R.DR_GCFG_CAP_GIB g.capGib
  let s := (s.setF R.PW_HU_CFG_HU_EN (b2n g.huEn)).setF R.PW_HU_CFG_VMON_TRIP g.vmonTrip
  let e := (g.envelopes[g.envReq]?).getD {}
  let s := ((s.setF R.PW_ENV_ENV_REQ g.envReq).setF R.PW_ENV_ENV_ACTIVE g.envReq).setF R.PW_ENV_VREQ_MV e.vcoreMv
  let s := (s.setF R.TH_CFG_THERM_ON g.thermOn).setF R.TH_CFG_THERM_OFF g.thermOff
  { s with
    pwr.env := g.envelopes, pwr.flushDies := g.flushDies, pwr.divFloor := e.divFloor, pwr.dieCap := e.dieCap,
    gov.ticks := g.sampleTicks, boot.image := g,
    links := g.linkAddrs.foldl (fun (t : Tab Link) (l, ws) =>
      let a := ws.map BitVec.toNat
      let st : Tab Nat := (List.range 11).foldl (fun (t : Tab Nat) i => t.set i ((a[i]?).getD 0)) []
      t.mod l fun x => { x with addr := a, stage := st }) s.links }

/-- The image check (R423): every field lies within the ranges and limits that the manual states for it. -/
def State.imageCheck (s : State) (g : Image) : Bool :=
  let t := { s.imageRegs g with slices := [] }
  let cfgs := g.slices.map Prod.snd
  let sum := fun (f : SliceCfg → Nat) => cfgs.foldl (fun a c => a + f c) 0
  let oids := (cfgs.map fun c => c.origin).filter (· ≠ 0)
  decide (g.recipes.length ≤ 16) && g.recipes.all recipeOk && g.curves.length == g.recipes.length && g.curves.all curveOk &&
    (List.range 18).all (fun n => profileOk n (imageProf g n)) && within 60 115 g.thermOn && within 50 (g.thermOn - 1) g.thermOff &&
    poolsAgree g && within 15000 240000 g.sampleTicks && g.envelopes.length == 4 && g.envelopes.all envelopeOk &&
    decide (g.envReq < 4) && within 400 950 g.vmonTrip && within 32 512 g.flushDies &&
    g.slices.all (fun (n, _) => decide (n < 4096)) && cfgs.all t.cfgRange && cfgs.any (fun c => c.mgmt) &&
    decide (sum (fun c => c.zoneQuota) ≤ 4096) && decide (sum (fun c => c.keyQuota) ≤ 8192) && oids.dedup.length == oids.length &&
    within 8 32 g.wpoolMib && within 1024 16384 g.rpoolMib && partitionOk g.wclass g.wpoolMib 16384 &&
    partitionOk g.rclass g.rpoolMib 114688 && decide (g.rbaseMib + g.rpoolMib ≤ g.capGib * 1024) && populationOk g &&
    decide (g.rate < 3) && decide (g.grainExp ≤ 8) && mediaOk g

/-! ### Load (Table 09-11) -/

/-- Shells of the Logbook, the Tally and the anchor stand where their rows on flash end (steps 1 and 2). -/
def State.ringRows (s : State) : State :=
  (s.per.logShells ++ s.per.tallyShells ++ s.per.anchors).foldl (fun s x =>
    let n := s.media.flash.foldl (fun a (k, _) => if k / 1024 = x then max a (k % 1024 + 1) else a) 0
    s.modShell x fun h =>
      if h.st = 4 ∨ h.st = 5 then h
      else { h with rows := n, slc := true, st := if n = 0 then 1 else if 384 ≤ n then 3 else 2 }) s

/-- The jobs that ran when the device stopped are queued again; a destination that is still owned by one is released
(Table 09-8). -/
def State.requeue (s : State) : State :=
  let old := s.per.jobs
  let s := { s with per.jobs := [] }
  old.foldl (fun s (_, o, src, dst) =>
    let s := s.modShell src fun h => { h with reloc := false }
    let held := dst ≠ 0 ∧ (s.shell (dst - 1)).kind = 7 ∧ ((s.shell (dst - 1)).st = 2 ∨ (s.shell (dst - 1)).st = 3)
    let s := if held then (s.releaseShell (dst - 1)).raise R.MD_EVT_ORPHANS (crewOf (dst - 1)) noP (dst - 1) else s
    if (s.shell src).st = 2 ∨ (s.shell src).st = 3 then s.queueReloc o src else s) s

/-- Other causes of relocation that the tables show: short, torn or aged shells, and crews that are not Healthy. -/
def State.requeueShells (s : State) : State :=
  let s := (s.per.shells.keysWhere fun _ h => (h.st == 2 || h.st == 3) && (h.kind == 1 || h.kind == 2) && (h.short || h.torn)).foldl
    (fun s x => s.queueReloc 2 x) s
  let s := (s.per.shells.keysWhere fun _ h => (h.st == 2 || h.st == 3) && (h.kind == 1 || h.kind == 2) && h.refresh).foldl
    (fun s x => s.queueReloc 3 x) s
  (List.range 64).foldl (fun (s : State) c => if (s.crew c).st = 3 ∨ (s.crew c).st = 4 then s.evacuate c else s) s

/-- The open shell of each handle, after a start: the lowest; a second one of the same handle takes no further row. -/
def State.handleOpen (s : State) : State :=
  (s.per.shells.keysWhere fun _ h => h.st == 2 && h.kind == 2).foldl (fun s x =>
    let st := handleStream ((s.shell x).owner % 4096 + 1) ((s.shell x).owner / 4096)
    if s.media.hshell.get st = 0 then { s with media.hshell := s.media.hshell.set st (x + 1) }
    else s.modShell x fun h => { h with st := 3 }) s

/-- A data block whose write was interrupted ends a zone's run: the write pointer stands at the end of the leading durable run
(R90); what was opened or became Full by writing takes its state from there after an unclean stop (R196). Spilled parts beyond the
write pointer hold nothing, and a zone that ends Empty loses its hint (R207). -/
def State.zoneSettle (s : State) (unclean : Bool) (z : Nat) : State :=
  let x := s.zone z
  let d := s.zoneDurable z
  let cap := s.zcap x.ns
  let put := fun (zs : ZState) (wp : Nat) =>
    if x.zs = zs ∧ x.wp = wp then s
    else ((s.modZone z fun x =>
        { x with zs := zs, wp := wp, durable := min d wp, life := if zs = .empty then 0 else x.life }).record .zone z).spillsCut z
          (wp * s.nsUnits x.ns)
  match x.zs with
  | .implOpen | .explOpen | .closed =>
    let zs := if d = 0 then .empty else if d = cap then .full else if unclean then .closed else x.zs
    if x.wp = d ∧ ¬ unclean then s else put zs d
  | .full =>
    if d < x.wp then
      if x.wp = cap then put (if d = 0 then .empty else .closed) d
      else (put .full d).zonePad z
    else if x.padded then s.zonePad z
    else s
  | _ => s

/-- A zone that ended Empty gives back a shell that holds none of its rows. -/
def State.zoneSettleAll (s : State) (unclean : Bool) : State :=
  (s.per.zones.keysWhere fun _ x => x.zs != .none && x.zs != .empty).foldl (fun (s : State) z =>
    let s := s.zoneSettle unclean z
    let x := s.zone z
    if x.zs = .empty ∧ x.shellValid then
      ((s.modZone z fun x => { x with shellValid := false, shell := 0, rows := 0, padded := false }).record .zone z).releaseShell x.shell
    else s) s

/-- What the Logbook holds is loaded (steps 1 to 4 of Table 09-11): its ring is the list of the governing anchor row (R270), and the
Ledger clock resumes from the newest CLOCK record (R246). -/
def State.loadDisk (s : State) : State :=
  let d := s.disk
  let mill := d.shells.foldl (fun a (_, h) => if h.kind = 3 then max a (h.owner + 1) else a) 1
  let s := { s with
    per := { d with slices := d.slNext.foldl (fun (t : Tab SliceCfg) (n, c) => t.set n c) d.slices, slNext := [],
                    logShells := s.anchorList.getD d.logShells, clock := d.clockRec },
    media.seq := d.endSeq + 1, media.seqFlash := d.endSeq, media.nextMill := mill }
  s.ringRows

/-- The reads of a start for one shell's rows (the anchor, the Logbook, the Tally, and the scan of R277): each codeword is decided by R236
with the deadline of R237 and counted. They take no time of their own here (DESIGN CHOICE, notes/assumptions/76). -/
def State.startReads (s : State) (x : Nat) (rows : List Nat) : State :=
  let c := crewOf x
  let slc := (s.shell x).slc
  let deadline := s.mmDeadline
  rows.foldl (fun (s : State) _ =>
    (List.range (rowUnits (s.fmt c) slc)).foldl (fun (s : State) i =>
      let seat := (unitPlace (s.fmt c) slc i).1
      match s.decide236 x seat slc [] deadline with
      | .direct => s.stat c 0
      | .wait np => s.stat c (if np then 3 else 4)
      | .path k _ => s.stat c (if k = .localP then 1 else 2)
      | .unrecovered => (s.stat c 6).raise R.SH_EVT_RA_UNRECOV c seat x) s) s

/-- The reads of steps 1 to 4 of Table 09-11: every programmed row of the anchor, the Logbook and the Tally. -/
def State.loadReads (s : State) : State :=
  (s.per.anchors ++ s.per.logShells ++ s.per.tallyShells).foldl (fun (s : State) x => s.startReads x (List.range (s.shell x).rows)) s

/-- Discovery after a Trial session treats every crew as empty (R44): namespaces, zones, shells and the Logbook's own shells are
gone. What else was recorded stays; a crew's change of state is recorded (R225). -/
def State.dropTrial (s : State) : State :=
  if ¬ s.per.trialSession then s
  else
    let was := (List.range 64).filter fun c => (s.crew c).st == 2
    let s := { s with
      per := { s.per with
        ns := [], zones := [], map := [], shells := [], spills := [], logShells := [], anchors := [], tallyShells := [], tally := [],
        tallyAt := [], jobs := [], formatted := false, trialSession := false, closed := false, crews := s.per.crews.mapAll fun _ (c : Crew) =>
          { c with format := 0, shells := 0, pool := 0, inPool := false, st := if c.st = 2 then 1 else c.st } },
      media.flash := [], media.logLast := [] }
    was.foldl (fun (s : State) c => s.record .crew c) s

/-! ### The lane probe (R284 to R286) -/

/-- The first recipe set that serves a die (R285). -/
def matchSet (g : Image) (d : DieFound) : Option Nat :=
  if ¬ d.ppOk then none
  else g.recipes.findIdx? fun r => d.id &&& r.idMask == r.idMatch &&& r.idMask && (d.ppRev &&& r.revMask) != 0

/-- Insertion by die number. -/
def dieInsert (d : DieFound) : List DieFound → List DieFound
  | [] => [d]
  | e :: r => if d.die ≤ e.die then d :: e :: r else e :: dieInsert d r

/-- The dies of a lane in ascending order with the set that each is matched to: one interface (R286), at most four sets
(Table 15-9). -/
def laneMatch (g : Image) (ds : List DieFound) : List (DieFound × Option Nat) :=
  (ds.foldl (fun (acc : List (DieFound × Option Nat) × Option Nat × List Nat) d =>
    let (out, iface, sets) := acc
    match matchSet g d with
    | none => (out ++ [(d, none)], iface, sets)
    | some i =>
      let f := ((g.recipes[i]?).getD {}).iface
      if iface.getD f ≠ f ∨ (¬ sets.contains i ∧ 4 ≤ sets.length) then (out ++ [(d, none)], iface, sets)
      else (out ++ [(d, some i)], some f, if sets.contains i then sets else sets ++ [i])) ([], none, [])).1

/-- One lane's probe. -/
def State.probeLane (s : State) (p : Probe) (l : Nat) : State :=
  let g := s.boot.image
  let ds := laneMatch g ((p.dies.filter fun d => d.lane == l && decide (d.die < 64)).foldr dieInsert [])
  let s := ds.foldl (fun (s : State) (d, m) =>
    let die : Die := { present := true, matched := m.isSome, set := m.getD 0, id := d.id, ppRev := d.ppRev }
    let s := { s with flash.dies := s.flash.dies.set (l * 64 + d.die) die }
    if m.isNone then s.raise R.LN_EVT_UNMATCHED d.die noP noP l else s) s
  let sets := ds.filterMap fun (_, m) => m.bind fun i => g.recipes[i]?
  match sets with
  | [] => s.setF R.LN_STS_LSTATE 0 l
  | r :: _ =>
    let rate := sets.foldl (fun a r => min a r.rateMax) 3000
    let s := (s.setF R.LN_STS_IFACE (r.iface + 1) l).setF R.LN_STS_DIV_MIN (max 16 (ceilDiv 48000 (max 1 rate))) l
    let s := ((s.setF R.LN_STS_DIV_CUR 128 l).setF R.LN_STS_LSTATE 2 l).setF R.LN_STS_LOCKED (s.f R.CK_SEL_LOCK_LANE) l
    s.modLane l fun x => { x with cal := [], trained := x.trained + 1 }

/-! ### Crews (R17, R223 to R226, R244) -/

/-- The fuses permit a format (R223). -/
def State.permits (s : State) (f : Nat) : Bool := !bit s.boot.fuses.fmtForbid (f - 1)

/-- A crew is empty (R223): none of its shells holds valid data, those of the Logbook, the Tally and the anchor among them, and no
namespace reserves a shell on it. -/
def State.crewEmpty (s : State) (c : Nat) : Bool :=
  let k := s.crew c
  !(k.inPool && s.per.ns.any fun (_, n) => n.alive && n.pool == k.pool) &&
    !s.per.shells.any fun (x, h) => crewOf x == c && (4 ≤ h.kind && h.kind ≤ 6 ||
      ((h.st == 2 || h.st == 3) && h.kind != 0 && (h.kind != 3 || decide (0 < s.svalid x))))

/-- A crew takes a format (R223, R244), or is Excluded. -/
def State.formatCrew (s : State) (p : Probe) (c f : Nat) (pool : Option Nat) : State :=
  let bads : Tab (List Nat) := (List.range 32).foldl (fun (t : Tab (List Nat)) k =>
    match p.dies.find? fun d => d.lane == k && d.die == c with
    | some d => t.set k (((List.range 8192).filter d.bad.contains))
    | none => t) []
  let ok := (List.range 32).all fun k => (s.die c k).present && (s.die c k).matched
  let least := (List.range 32).foldl (fun a k => min a (s.dieBlocks c k - (bads.get k).length)) 8192
  let shells := least - s.boot.image.spareSeat
  if ¬ s.permits f ∨ ¬ ok ∨ shells < 1024 then
    ((s.modCrew c fun k => { st := if k.st = 4 ∨ k.st = 3 then k.st else 1, failed := k.failed }).record .crew c).raise
      R.SH_EVT_CREW_EXCLUDED c
  else
    let s := { s with
      per.shells := s.per.shells.filter (fun (x, _) => crewOf x != c),
      per.ledger := s.per.ledger.filter (fun (k, _) => k / 8192 / 32 != c),
      media.flash := s.media.flash.filter fun (k, _) => crewOf (k / 1024) != c }
    (s.modCrew c fun k =>
      { format := f, st := if k.st = 3 ∨ k.st = 4 then k.st else 2, pool := pool.getD 0, inPool := pool.isSome, shells := shells,
        failed := k.failed, bad := bads }).record .crew c

/-- A crew at Discovery; every change of its state is recorded (R225). A position without a format where no die responds, or
none that matched (R285), is Absent (Table 08-3). -/
def State.crewStart (s : State) (p : Probe) (c : Nat) : State :=
  let k := s.crew c
  let (f, pool) := imageCrew s.boot.image c
  let differs := k.format ≠ f ∨ k.inPool ≠ pool.isSome ∨ (k.inPool ∧ pool ≠ some k.pool)
  let here := (List.range 32).any fun l => (s.die c l).present && (s.die c l).matched
  if k.format = 0 then
    if ¬ here then (if k.st = 1 then (s.modCrew c fun k => { k with st := 0 }).record .crew c else s)
    else if f = 0 then (if k.st = 0 then (s.modCrew c fun k => { k with st := 1 }).record .crew c else s)
    else s.formatCrew p c f pool
  else
    let s := if ¬ differs then s
      else if ¬ s.crewEmpty c then s.raise R.SH_EVT_FMT_KEEP c
      else if f = 0 then (s.modCrew c fun k => { st := if k.st = 3 ∨ k.st = 4 then k.st else 1, failed := k.failed }).record .crew c
      else s.formatCrew p c f pool
    if (s.crew c).format = 0 then s
    else (List.range 32).foldl (fun (s : State) l => if (s.die c l).present ∧ (s.die c l).matched then s else s.seatFail c l) s

/-! ### First formatting of the device (R256, R270, R316) -/

/-- n shells, one from each of the Healthy crews in turn, lowest Erased first. -/
def State.roundRobin (s : State) (kind : Nat) (n : Nat) : List Nat × State :=
  let crews := (List.range 64).filter fun c => (s.crew c).st == 2
  if crews.isEmpty then ([], s)
  else
    (List.range n).foldl (fun (acc : List Nat × State) i =>
      match ((crews[i % crews.length]?).bind acc.2.erasedShell) with
      | some x => (acc.1 ++ [x], acc.2.modShell x fun h => { h with kind := kind })
      | none => acc) ([], s)

/-- Tally shells: a ring of at least twice the Tally's size (R275): the Ledger, the tables and the page map. -/
def State.tallyCount (s : State) : Nat := ceilDiv (2 * (512 + s.boot.image.mapGib * 1024)) 624

/-- The device is formatted: the anchor is shell 0 of the four lowest Healthy crews, then the Logbook and the Tally take theirs. What
each shell is, and the code assignment, are recorded (R248, R316). -/
def State.deviceFormat (s : State) : State :=
  let anchors := (((List.range 64).filter fun c => (s.crew c).st == 2).take 4).map (· * 8192)
  let s := anchors.foldl (fun (s : State) x => s.openShell x 6 0 true) s
  let (log, s) := s.roundRobin 4 s.boot.image.logShells
  let (tal, s) := s.roundRobin 5 s.tallyCount
  let s := { s with per := { s.per with
    anchors := anchors, logShells := log, tallyShells := tal, codes := s.boot.image.codes, formatted := true } }
  let s := (anchors ++ log ++ tal).foldl (fun (s : State) x => s.record .shell x) s
  (s.recordCfg 5 0 [s.per.codes]).anchorUpdate

/-! ### Keys of a lifecycle class (R410) -/

/-- At the first Discovery in Returned, every namespace and PSK recorded before goes; else the recorded namespace keys unwrap,
unless derivation is blocked (R430). -/
def State.unwrapKeys (s : State) : State :=
  if s.life = 3 ∧ s.per.wrapClass = 0 then
    let s := (s.per.ns.keysWhere fun _ n => n.alive).foldl State.nsEnd s
    let psk := s.per.psk.keysWhere fun _ p => p.valid
    let s := psk.foldl (fun (s : State) e => ({ s with per.psk := s.per.psk.set e {} }).recordPsk e) s
    ({ s with per.wrapClass := 1 }).recordCfg 8 0 [1]
  else if s.boot.deriveBlocked then s
  else (s.per.ns.keysWhere fun _ n => n.alive).foldl (fun (s : State) n =>
    let x := s.per.ns.get n
    s.keyLoad { valid := true, slice := x.owner, ns := n, key := x.key }) s

/-! ### Slices and loops (R132, R157) -/

/-- The slices become Active: those recorded, with the Hopper keys that they keep (R117), or at the first Discovery those of the
image with its Origin Table entries. -/
def State.slicesStart (s : State) : State :=
  if s.per.slUsed.isEmpty then
    let s := s.boot.image.origins.foldl (fun (s : State) (e, o) =>
      ({ s with per.origins := s.per.origins.set e o }).recordOrigin e) s
    s.boot.image.slices.foldl (fun (s : State) (n, c) => s.sliceMake n c) s
  else
    (s.per.slUsed.keysWhere fun _ b => b).foldl (fun (s : State) n =>
      let s := s.modSl n fun x => { x with st := 1, hkey := s.per.hkeys.get n, cause := 0, pend := none, resets := 0 }
      ((s.tokensFull n).sliceLoopStart n).sluiceSync n) s

/-- The profiles in force, the thermal and Millpond loops before their first sample, and the budgets of Discovery (R157, R162). -/
def State.govStart (s : State) : State :=
  let s := if s.per.profiles.isEmpty then
      { s with per.profiles := s.boot.image.profiles.foldl (fun (t : Tab Nat) (p, w, v) => t.set (p * 256 + w) v.toNat) [] }
    else s
  let s := s.modLoop 4097 fun _ => { mode := 3 }
  s.putF R.PW_DIE_DIE_BUDGET (min s.pwr.dieCap (bitsOf (s.prof 16 137) 0 12))

/-! ### The flush before (R407) -/

/-- PW_FLUSH, FLUSH_OVER, and the entries of a trip, from the Logbook. -/
def State.flushReport (s : State) : State :=
  let p := s.per
  let s := ((s.setF R.PW_FLUSH_LAST_US p.flushUs).setF R.PW_FLUSH_KIND p.flushKind).setF R.PW_FLUSH_ON_PACER (b2n p.flushPacer)
  let limit := if p.flushPacer then 24000 else if p.flushKind = 2 then 15000 else 12000
  let s := if p.flushKind ≠ 0 ∧ limit < p.flushUs then s.raise R.PW_EVT_FLUSH_OVER p.flushUs else s
  if p.tripFired = 0 then s
  else
    let s := s.setF R.TH_TRIP_FIRED p.tripFired
    let s := ((List.range 8).filter fun t => bit p.tripFired t).foldl (fun (s : State) t => s.raise R.TH_EVT_TRIP t) s
    { s with per.tripFired := 0 }

/-- Discovery (R284 to R286, R331, R276): the start is clean when the Logbook ends in a close record (R33); the image is in force, the lanes are probed, the recorded state is loaded, the crews
take their states, and DRAM trains. -/
def State.discover (s : State) (g : Image) (p : Probe) : State :=
  let s := (s.imageRegs g).loadDisk
  let clean := s.disk.closed
  let s := { s with boot.clean := clean, media.unclean := !clean, media.loadStart := s.clk.tb }.setF R.MD_REBUILD_STEP (b2n clean)
  let s := s.dropTrial
  let s := (List.range 32).foldl (fun (s : State) l => s.probeLane p l) s
  let s := ((List.range 64).foldl (fun (s : State) c => s.crewStart p c) s).loadReads
  let s := if s.per.formatted then
      (if s.per.codes ≠ g.codes then s.each 32 fun s l => if s.lstate l = 0 then s else s.raise R.DC_EVT_CODE_KEEP noP noP noP l else s)
    else s.deviceFormat
  let (ok, s) := s.dramTrain p.dramBad p.topologyOk
  (({ s with boot.trainFail := !ok }).govStart).flushReport

end Sys2Proof.Machine
end

