-- ==== Sys2Proof/Machine/Boot.lean ====
section
/-! DEFINITION. Boot.lean: the Bootstrap sequence (R418 to R423), the ends of Discovery and Rebuild (R276, Table 01-8), Trial,
Feathered, restarts, and firmware update (R425 to R427). -/

namespace Sys2Proof.Machine

/-! ### Bootstrap (Table 15-7) -/

/-- Bootstrap waits at or before step 4. -/
def State.bootWaits (s : State) : Bool := s.mode == .bootstrap && !s.pwr.porst && decide (s.f R.BT_STS_STEP ≤ 4)

/-- BOOT_REF_WAIT_TIMER (R19): neither REFA nor REFB is live; the wait is logged each second. -/
def execBootRefWaitTimer (s : State) : Host.Outcome State Fault Refusal :=
  if ¬ s.bootWaits ∨ s.live 0 ∨ s.live 1 then .next s else done (s.raise R.CK_EVT_REF_WAIT)

/-- Bootstrap ends in Sealed (Table 01-8). -/
def State.bootSeal (s : State) (cause : Nat) : State := (s.move 0x03 .sealed).seal cause

/-- A later step of Bootstrap; a REVOKE token accepted meanwhile ends it in Sealed (R416). -/
def State.bootStep (s : State) (k : State → State) : State := if s.boot.revokePend then s.bootSeal 6 else k s

/-- BOOT_REFERENCE_READY (R418, steps 4 to 6): the NOR meets R412, the directory is read, and the images are next. -/
def execBootReferenceReady (norOk : Bool) (s : State) : Host.Outcome State Fault Refusal :=
  if ¬ s.bootWaits ∨ ¬ (s.live 0 ∨ s.live 1) then .next s
  else
    done <| s.bootStep fun s =>
      if ¬ norOk then s.bootSeal 7
      else
        let prefer := match s.directory with
          | some (_, p) => p
          | none => false
        ((s.setF R.BT_STS_PREFER (b2n prefer)).setF R.BT_STS_STEP 6).setF R.CR_RNG_READY 1

/-- A firmware image verifies with SVN at or above COUNT (step 6). -/
def State.imageOk (s : State) (f : SignedFacts) : Bool := s.rootVerifies f 0x53465701 && decide (s.count ≤ f.svn)

/-- The active-die budget of Trial is DIE_MAX of the profile recorded last (R162); 2,048 where none is (notes/assumptions/40). -/
def State.trialDies (s : State) : Nat :=
  let dieMax := bitsOf (s.disk.profiles.get (16 * 256 + 137)) 0 12
  min s.pwr.dieCap (if dieMax = 0 then 2048 else dieMax)

/-- The parts come up for test use; the population is the reference build's, since no Idolob image has been taken
(notes/assumptions/40). -/
def State.trialRegs (s : State) : State :=
  let s := ((s.setF R.DR_GCFG_WIDTH 2).setF R.DR_GCFG_GRAIN_EXP 4).setF R.DR_GCFG_DENSITY 1
  ((s.setF R.DR_GCFG_RATE 2).setF R.DR_GCFG_CAP_GIB 128).putF R.PW_DIE_DIE_BUDGET s.trialDies

/-- Trial begins: TRIAL_PEND clears (R417) and the session is recorded (R44). With no source selected, DRAM waits for one (R18, R38). -/
def State.trialEnter (s : State) : State :=
  let s : State := (({ s with boot.trialPend := false, disk.trialSession := true, disk.closed := false }.move 0x17 .trial).setF
    R.BT_STS_STEP 0).trialRegs
  if s.selected = 15 then { s with clk.stopped := true } else (s.dramTrain [] true).2

/-- The lifecycle allows Trial (Table 15-2). -/
def State.trialAllowed (s : State) : Bool := [0, 1, 3].contains s.life

/-- Measurement 2: the lifecycle and lock fuses, raw; 8: the banks, raw (Table 15-12). -/
def State.meas2 (s : State) : Nat :=
  let fu := s.boot.fuses
  fu.lifecycle + 2 ^ 4 * s.count + 2 ^ 12 * b2n fu.debugLock + 2 ^ 13 * fu.jtag + 2 ^ 15 * fu.fmtForbid + 2 ^ 18 * b2n fu.sbLock
def State.meas8 (s : State) : Nat :=
  s.f R.BT_STS_BANK_BOOTED + 2 * s.f R.BT_STS_PREFER + 4 * s.f R.BT_STS_FALLBACK + 8 * s.f R.BT_STS_IDL_BANK

/-- The image of bank b runs (steps 6 and 7). -/
def State.bankBooted (s : State) (b : Nat) (f : SignedFacts) (fallback : Bool) : State :=
  let s := (s.setF R.BT_FWVER_VERSION f.version 0 b).setF R.BT_STS_BANK_BOOTED b
  let s := if fallback then (s.setF R.BT_STS_FALLBACK 1).raise R.BT_EVT_FALLBACK b else s
  let s := { s with boot.imgOk := setBit s.boot.imgOk b true }
  let s := (s.setF R.BT_VER_FW_SVN f.svn).setF R.BT_VER_IDL_MINOR_MAX f.idlMinorMax
  if s.boot.trialPend ∧ s.trialAllowed then s.trialEnter
  else if s.life = 0 then s.bootSeal 3
  else
    let s := s.setF R.BT_STS_STEP 8
    { s with
      boot.otherPending := !fallback, boot.svns := none,
      boot.meas := ((s.boot.meas.set 2 s.meas2).set 3 f.headerHash).set 4
        (if s.rootVerifies s.boot.monFacts 0x53465702 then s.boot.monFacts.headerHash else 0) }

/-- BOOT_IMAGE_VERIFIED (R418, steps 6 and 7; R419): the preferred image, else the other one; none: Sealed. The
NOR is read with REFA or REFB live only (R19). -/
def execBootImageVerified (a b monitor : SignedFacts) (s : State) : Host.Outcome State Fault Refusal :=
  if s.mode ≠ .bootstrap ∨ s.f R.BT_STS_STEP ≠ 6 ∨ ¬ (s.live 0 ∨ s.live 1) then .next s
  else
    done <| ({ s with boot.monFacts := monitor }).bootStep fun s =>
      let p := s.f R.BT_STS_PREFER
      let fst := if p = 0 then a else b
      let snd := if p = 0 then b else a
      if s.imageOk fst then s.bankBooted p fst false
      else
        let s := (s.setF R.BT_FWVER_VERSION 0 0 p).raise R.BT_EVT_IMAGE_FAIL p
        if s.imageOk snd then s.bankBooted (1 - p) snd true
        else ((s.setF R.BT_FWVER_VERSION 0 0 (1 - p)).raise R.BT_EVT_IMAGE_FAIL (1 - p)).bootSeal 4

/-- An Idolob copy is acceptable (R423). -/
def State.copyOk (s : State) (c : IdolobCopy) : Bool :=
  s.rootVerifies c.cert 0x53465704 && (c.certUid == 0 || c.certUid == s.boot.fuses.uid) &&
    verifies c.header 0x53465703 c.ownerRsa c.ownerSlh (s.life == 0) && c.major == 2 &&
    decide (c.minor ≤ s.f R.BT_VER_IDL_MINOR_MAX) && c.sectionsOk && s.imageCheck c.image

/-- Step 9: a copy is in use, the measurements are fixed, and Discovery begins. -/
def State.copyTaken (s : State) (k : Nat) (c : IdolobCopy) (p : Probe) : State :=
  let s := ((s.setF R.BT_STS_IDL_BANK k).setF R.BT_VER_IDL_MINOR c.minor).setF R.BT_VER_IDL_MAJOR c.major
  let s := { s with boot.meas := ((s.boot.meas.set 5 c.header.bodyHash).set 6 c.cert.headerHash).set 8 s.meas8 }
  let s := (s.move 0x02 .discovery).setF R.BT_STS_STEP 0
  s.discover c.image p

/-- BOOT_IDOLOB_ACCEPTED (R418, steps 8 and 9; R423): the copy with the higher GEN, copy 0 among equals, else the other.
The NOR is read with REFA or REFB live only (R19). -/
def execBootIdolobAccepted (c0 c1 : IdolobCopy) (probe : Probe) (s : State) : Host.Outcome State Fault Refusal :=
  if s.mode ≠ .bootstrap ∨ s.f R.BT_STS_STEP ≠ 8 ∨ ¬ (s.live 0 ∨ s.live 1) then .next s
  else
    done <| s.bootStep fun s =>
      let k := if c0.gen < c1.gen then 1 else 0
      let fst := if k = 0 then c0 else c1
      let snd := if k = 0 then c1 else c0
      if s.copyOk fst then s.copyTaken k fst probe
      else
        let s := s.raise R.BT_EVT_IDL_FAIL k
        if s.copyOk snd then s.copyTaken (1 - k) snd probe
        else (s.raise R.BT_EVT_IDL_FAIL (1 - k)).bootSeal 5

/-- SECOND_IMAGE_VERIFY (R419): after Discovery has begun, the image not booted; measurement 9, and the SVNs of R428. -/
def execSecondImageVerify (other : SignedFacts) (s : State) : Host.Outcome State Fault Refusal :=
  if ¬ s.boot.otherPending ∨ s.modeIn [.off, .bootstrap, .sealed, .trial, .holdupFlush, .thermalRest] then .next s
  else
    let b := 1 - s.f R.BT_STS_BANK_BOOTED
    let s := { s with boot.otherPending := false }
    if s.imageOk other then
      let s := s.setF R.BT_FWVER_VERSION other.version 0 b
      done { s with
        boot.imgOk := setBit s.boot.imgOk b true, boot.meas := s.boot.meas.set 9 other.headerHash,
        boot.svns := some (s.f R.BT_VER_FW_SVN, other.svn) }
    else
      let s := (s.setF R.BT_FWVER_VERSION 0 0 b).raise R.BT_EVT_IMAGE_FAIL b
      done { s with boot.meas := s.boot.meas.set 9 0, boot.svns := none }

/-! ### The ends of Discovery and Rebuild (R276, Table 01-8) -/

/-- The load ends (step 8): a CLOCK record; MD_REBUILD. -/
def State.loadEnd (s : State) : State :=
  let s := s.record .clock 0
  (s.setF R.MD_REBUILD_STEP 0).putF R.MD_REBUILD_ELAPSED_MS ((s.clk.tb - s.media.loadStart) / 1500000)

/-- The spare check at the end of a start. -/
def State.spareReport (s : State) : State :=
  (s.setF R.MD_RO_STS_POOL_SHORT s.poolShort).setF R.MD_RO_STS_LOG_SHORT (b2n s.logShort)

/-- DISCOVERY_DONE (R276): a clean start ends in Service or in the Sanitize it was stopped in; another goes on in Rebuild. -/
def execDiscoveryDone (s : State) : Host.Outcome State Fault Refusal :=
  if s.mode = .off then .next s
  else if s.mode ≠ .discovery then done (s.trigIgnored 0x04)
  else if s.boot.trainFail ∨ s.clk.stopped then .next s
  else
    let t := s.slicesStart.unwrapKeys
    if s.boot.clean then
      let t := ((t.handleOpen.zoneSettleAll false).requeue.requeueShells).loadEnd.spareReport
      let t := if s.per.san = 2 then (t.move 0x07 .sanitize).portsTrain.sanitizeRun
        else (t.move 0x04 .service).portsTrain.spareCheck
      done (t.discSync s)
    else
      let t := { t with media.loadStart := s.clk.tb }.setF R.MD_REBUILD_STEP 1
      done ((t.move 0x05 .rebuild).portsTrain.discSync s)

/-- A unit's page metadata is newer than its map entry: its EPOCH is ahead, mod 256 (R277; half the range counts as ahead: DESIGN CHOICE,
notes/assumptions/77). -/
def State.unitNewer (s : State) (fr : FRow) (i n unit : Nat) : Bool :=
  match fr.epochs.find? fun (u, _) => u == i with
  | some (_, e) => within 1 127 ((e + 256 - (s.per.map.get (mapKey n unit)).epoch) % 256)
  | none => false

/-- The units of a block that the scan finds newer are mapped to the row (R277). -/
def State.adoptUnits (s : State) (fr : FRow) (u : Nat) (b : Blk) (x at_ : Nat) (slc : Bool) : State :=
  (List.range b.units).foldl (fun (s : State) k =>
    let unit := b.lba * b.units + k
    if s.unitNewer fr (u + k) b.ns unit then s.mapSet b.ns unit x (at_ + u + k) slc else s) s

/-- What the scan found on one open shell: the rows adopted, a torn end, and for a zone the end of its adopted blocks. -/
structure ScanRow where
  shell : Nat := 0
  rows : Nat := 0
  torn : Bool := false
  wp : Nat := 0
deriving DecidableEq, Repr, Inhabited

/-- The row at the end of what the scan adopted so far (R277, R278): it is adopted when its owner is the shell's and every unit is
available or recoverable; one partly programmed makes the shell torn, and the scan ends there. The Boolean: the scan goes on. -/
def State.scanRow (s : State) (bad : List ScanBad) (a : ScanRow × Bool) : ScanRow × Bool :=
  let (r, go) := a
  let h := s.shell r.shell
  let row := h.rows + r.rows
  let fr := s.media.flash.get (flashKey r.shell row)
  if ¬ go ∨ fr.done = 0 ∨ fr.owner ≠ h.owner then (r, false)
  else
    let fmt := s.fmt (crewOf r.shell)
    let seats := List.range 32
    let partly := seats.any fun k => !s.lostUnit r.shell k && !bit fr.done k
    let un := seats.filter fun k => !bit fr.done k || s.lostUnit r.shell k || bad.contains ⟨r.shell, row, k⟩
    let adopt := un.all fun k => (planPath fmt un k).isSome
    let ends := fr.blks.foldl (fun m (_, b) => if b.ns = 0 then m else max m (b.lba % s.zsze b.ns + 1)) r.wp
    ({ r with rows := r.rows + b2n adopt, torn := partly, wp := if adopt then ends else r.wp }, adopt && !partly)

/-- The scan of the shells that replay leaves Open (R277), in ascending order. -/
def State.scan (s : State) (bad : List ScanBad) : List ScanRow :=
  (s.per.shells.keysWhere fun _ h => h.st == 2 && ([1, 2, 3] : List Nat).contains h.kind).map fun x =>
    ((List.range (384 - (s.shell x).rows)).foldl (fun a _ => s.scanRow bad a) ({ shell := x }, true)).1

/-- The data rows of a shell that the scan adopts (R277): from the recorded end on, in row order. -/
def State.adoptRow (s : State) (x row : Nat) : State :=
  let h := s.shell x
  let fr := s.media.flash.get (flashKey x row)
  match h.kind with
  | 2 =>
    let base := row * rowUnits (s.fmt (crewOf x)) false
    fr.blks.foldl (fun (s : State) (u, b) =>
      if b.ns = 0 then s else s.adoptUnits fr u b x base false) s
  | 3 =>
    fr.blks.foldl (fun (s : State) (u, b) =>
      let n := s.per.ns.get b.ns
      if b.ns = 0 ∨ ¬ n.alive then s
      else if n.zoned then
        let z := n.zbase + b.lba / s.zsze b.ns
        let off := b.lba % s.zsze b.ns * b.units
        let r := s.streamRow z
        let sp : Spill := { stream := z, row := off / max 1 r, unit := off % max 1 r, count := b.units, shell := x, mrow := row, munit := u }
        if sp.row < (s.zone z).rows then s else { s with per.spills := s.per.spills ++ [sp] }
      else s.adoptUnits fr u b x (row * rowUnits (s.fmt (crewOf x)) true) true) s
  | _ => s

/-- What the scan found on one open shell is applied (R277, R278). -/
def State.adopt (s : State) (r : ScanRow) : State :=
  let x := r.shell
  let h := s.shell x
  if h.st ≠ 2 ∨ ¬ ([1, 2, 3] : List Nat).contains h.kind then s
  else
    let last := min 384 (h.rows + r.rows)
    let s := ((List.range (last - h.rows)).map (h.rows + ·)).foldl (fun s row => s.adoptRow x row) s
    let s := s.modShell x fun h => { h with rows := last, torn := h.torn || r.torn, st := if last = 384 ∨ r.torn then 3 else h.st }
    let s := if h.kind = 1 then
        s.modZone h.owner fun z => { z with rows := max z.rows last, shell := x, shellValid := true, durable := max z.durable r.wp }
      else s
    let s := if r.torn then (s.raise R.MD_EVT_TORN (crewOf x) noP x) else s
    let s := if r.torn ∧ h.kind = 1 then s.queueReloc 2 x else s
    -- rows after the adopted ones are never used
    let s := { s with media.flash := s.media.flash.filter fun (k, _) => !(k / 1024 == x && decide (last ≤ k % 1024)) }
    if last = h.rows ∧ ¬ r.torn then s else s.record .shell x

/-- An open zone shell whose rows were adopted extends its zone to the end that the scan gives. -/
def State.scanWp (s : State) (r : ScanRow) : State :=
  let h := s.shell r.shell
  if h.kind = 1 ∧ (s.zone h.owner).wp < r.wp ∧ (s.zone h.owner).active then s.modZone h.owner fun z => { z with wp := r.wp } else s

/-- The row reads of the scan: the rows found beyond those recorded of each shell, and a torn one (R276). -/
def State.scanReads (s : State) (scan : List ScanRow) : State :=
  scan.foldl (fun (t : State) r =>
    t.startReads r.shell ((List.range (r.rows + b2n r.torn)).map ((t.shell r.shell).rows + ·))) s

/-- REBUILD_DONE (R276, R196): the open shells are scanned, `bad` their units that cannot be read, what the scan adopts is applied, orphans are released, and the mode follows Table 01-8. -/
def execRebuildDone (bad : List ScanBad) (s : State) : Host.Outcome State Fault Refusal :=
  if s.mode = .off then .next s
  else if s.mode ≠ .rebuild then done (s.trigIgnored 0x06)
  else if s.clk.stopped then .next s
  else
    let scan := s.scan bad
    let t := scan.foldl State.adopt (s.scanReads scan)
    let t := scan.foldl State.scanWp t
    let t := ((t.requeue.handleOpen.zoneSettleAll true).requeueShells).loadEnd.spareReport
    if t.per.san = 2 then done ((t.move 0x07 .sanitize).sanitizeRun.afterRows)
    else if t.spareOk then done (({ t with per.roEntry := false }.move 0x06 .service).afterRows)
    else
      let t := ({ t with per.roEntry := true }.record .mode 3).raise R.MD_EVT_READ_ONLY
      done ((t.move 0x08 .readOnly).afterRows)

/-! ### Feathered (R39, R40) -/

/-- The Millpond loop is in Standby, or in Manual with MAN_U1 = 0 (R172). -/
def State.millRests (s : State) : Bool :=
  let l := s.gov.loops.get 4097
  l.mode == 3 || (l.mode == 1 && l.man1 == 0)

/-- The conditions of R39; the lanes are off in Feathered, so none of their recipes runs either. -/
def State.mayRest (s : State) : Bool :=
  !(s.cmds.any fun (_, c) => c.alive) && s.media.stage.isEmpty && s.media.tail.isEmpty &&
    !(s.media.jobs.any fun j => j.kind == .log || j.running != 0 || j.done != 0) && s.per.san != 2 &&
    !((List.range 32).any fun l => s.retraining l || (s.lane l).rtWait) && s.millRests && s.activeDies == 0

/-- Feathered begins: the links stay, the lanes are off, DRAM is in self-refresh (Table 01-7). -/
def State.rest (s : State) (t : Nat) : State := (s.move t .feathered).dramSelfRefresh

/-- FEATHERED_IDLE_TIMEOUT (R39). -/
def execFeatheredIdleTimeout (s : State) : Host.Outcome State Fault Refusal :=
  if s.mode = .off then .next s
  else if s.mode ≠ .service then done (s.trigIgnored 0x09)
  else if s.boot.image.idleTimeoutS = 0 ∨ ¬ s.mayRest then .next s
  else done (s.rest 0x09)

/-- FEATHERED_REQUEST (R39): without the conditions the request completes with "not entered" (0), else with 1. -/
def execFeatheredRequest (s : State) : Host.Outcome State Fault Refusal :=
  if s.mode = .off then .next s
  else if s.mode ≠ .service then done ((s.trigIgnored 0x0A).send .fmEnter 0 [0])
  else if ¬ s.mayRest then done (s.send .fmEnter 0 [0])
  else done ((s.rest 0x0A).send .fmEnter 0 [1])

/-! ### Trial, the monitor, and restarts (Table 01-8) -/

/-- TRIAL_REQUEST (R44): authenticated by a TRIAL token, which set TRIAL_PEND (R416); in the lifecycles that allow Trial. -/
def execTrialRequest (s : State) : Host.Outcome State Fault Refusal :=
  if s.mode = .off then .next s
  else if s.mode ≠ .bootstrap then done (s.trigIgnored 0x17)
  else if s.pwr.porst ∨ ¬ s.boot.trialPend ∨ ¬ s.trialAllowed then .next s
  else done s.trialEnter

/-- TRIAL_EXIT_REQUEST (R44): Bootstrap follows. -/
def execTrialExitRequest (s : State) : Host.Outcome State Fault Refusal :=
  if s.mode = .off then .next s
  else if s.mode ≠ .trial then done (s.trigIgnored 0x18)
  else done ((s.move 0x18 .bootstrap).bootstrapEnter false)

/-- MONITOR_RESTART_REQUEST (R420): the recovery monitor, where it runs, restarts the device. -/
def execMonitorRestartRequest (s : State) : Host.Outcome State Fault Refusal :=
  if s.mode = .off then .next s
  else if s.mode ≠ .sealed then done (s.trigIgnored 0x19)
  else if ¬ s.boot.monitor then .next s
  else done ((s.move 0x19 .bootstrap).bootstrapEnter false)

/-- A restart from Service or Read-Only: the planned closing, then Bootstrap (R33). -/
def State.restart (s : State) : State := (s.plannedClose.move 0x10 .bootstrap).bootstrapEnter false

/-- MANAGER_CONTROLLER_RESET (R34). -/
def execManagerControllerReset (s : State) : Host.Outcome State Fault Refusal :=
  if s.mode = .off then .next s
  else if s.modeIn [.service, .readOnly] then done s.restart
  else done (s.trigIgnored 0x10)

/-- FW_ACTIVATION_RESET (R426): the completion of a CA 3 commit has passed to the transport; under the monitor this is its
restart request. -/
def execFwActivationReset (s : State) : Host.Outcome State Fault Refusal :=
  if s.mode = .off ∨ ¬ s.boot.fwReset then .next s
  else if s.modeIn [.service, .readOnly] then done s.restart
  else if s.mode = .sealed ∧ s.boot.monitor then done ((s.move 0x19 .bootstrap).bootstrapEnter false)
  else done ({ s with boot.fwReset := false }.trigIgnored 0x10)

/-! ### Firmware update (R425, R426) -/

/-- A download piece of `len` bytes at `off` (R425): each begins where the last ended; 4 KiB pieces but the last one; 16 MiB in all. The
status, 0 for success. -/
def State.fwPiece (s : State) (len off : Nat) : Nat × State :=
  if off ≠ s.boot.fwLen then (0x114, s)
  else if off % 4096 ≠ 0 ∨ 2 ^ 24 < off + len then (0x02, s)
  else (0, { s with boot.fwLen := off + len })

/-- An admin command ends with a status. -/
def State.endWith (r : Nat × State) (cmd : Nat) : State := if r.1 = 0 then r.2.complete cmd else r.2.failCmd cmd r.1

/-- A firmware command under the recovery monitor ends: the status goes back to its sender (R425, Table 15-8). The monitor runs from
the NOR, whose accesses wait while no reference is selected (R376). -/
def State.monFw (s : State) (r : Nat × State) : Host.Outcome State Fault Refusal :=
  if s.mode = .sealed ∧ s.boot.monitor ∧ ¬ s.clk.stopped then done (r.2.send .monResp 0 [r.1]) else .next s

/-- FIRMWARE_IMAGE_DOWNLOAD (R425): an admin command, or one that the recovery monitor takes. -/
def execFirmwareImageDownload (cmd : Nat) (mon : Option MonFw) (s : State) : Host.Outcome State Fault Refusal :=
  match mon with
  | some m => s.monFw (s.fwPiece ((m.cdw10.toNat + 1) * 4) (m.cdw11.toNat * 4))
  | none =>
    s.admStep cmd 0x11 fun s cm _ =>
      let len := (cm.sqe.cdw10.toNat + 1) * 4
      match s.sglCheck cmd len false with
      | some st => s.failCmd cmd st
      | none => State.endWith (s.fwPiece len (cm.sqe.cdw11.toNat * 4)) cmd

/-- What Firmware Commit may store: its region in bytes, from its start. -/
inductive FwPlace where
  | image (bank : Nat)
  | idolob (copy : Nat)
  | monitor
deriving DecidableEq, Repr

/-- First NOR word and words of a place (Table 15-5). -/
def FwPlace.region : FwPlace → Nat × Nat
  | .image b => ((if b = 0 then 0x200000 else 0x2200000) / 4, 14 * 2 ^ 18)
  | .idolob c => ((if c = 0 then 0x1000000 else 0x3000000) / 4, 8 * 2 ^ 18)
  | .monitor => (0x30000 / 4, 1856 * 256)

/-- The object verifies for its place, and fits (step 1 of R426). -/
def State.fwVerifies (s : State) : FwObject → Bool
  | .none => false
  | .firmware f len => s.imageOk f && decide (len ≤ 14 * 2 ^ 20)
  | .idolob c len => s.copyOk c && decide (len ≤ 8 * 2 ^ 20)
  | .monitor f len => s.rootVerifies f 0x53465702 && decide (len ≤ 1856 * 1024)

/-- The region is erased and written; what was known of its old content goes (step 2 of R426). A read-back that differs leaves a
region that does not verify (R447). -/
def State.fwWrite (s : State) (p : FwPlace) (obj : FwObject) (readBack : Bool) : State :=
  let (a, n) := p.region
  let s := { s with ctl.freeCtr := s.ctl.freeCtr + 1 }.norRange a n (s.ctl.freeCtr + 1)
  match p, obj with
  | .image b, .firmware f _ =>
    if readBack then { (s.setF R.BT_FWVER_VERSION f.version 0 b) with boot.imgOk := setBit s.boot.imgOk b true }
    else { s with boot.imgOk := setBit s.boot.imgOk b false }
  | .monitor, .monitor f _ => { s with boot.monFacts := if readBack then f else {} }
  | _, _ => s

/-- Firmware Commit (R426, Table 15-10): the checks, the write, and the action of CA. Any commit empties the buffer. The status, 0 for
success. -/
def State.fwCommit (s : State) (cdw10 : Nat) (obj : FwObject) (readBack : Bool) : Nat × State :=
  let fs := cdw10 % 8
  let ca := cdw10 / 8 % 8
  let empty := s.boot.fwLen == 0
  let s := { s with boot.fwLen := 0 }
  let bank := if fs = 0 then 1 - s.f R.BT_STS_BANK_BOOTED else fs - 1
  let isMon := match obj with
    | .monitor _ _ => true
    | _ => false
  let isFw := match obj with
    | .firmware _ _ => true
    | _ => false
  if s.mode = .sanitize then (0x1D, s)
  else if 4 ≤ ca then (0x02, s)
  else if 2 < fs then (0x106, s)
  else if ca = 2 then
    if !empty && !isFw && obj != .none then (0x02, s)
    else if ¬ bit s.boot.imgOk bank then (0x107, s)
    else (0, s.setPrefer (bank = 1))
  else if isMon && (fs == 2 || s.mode != .service) then (0x106, s)
  else if empty || !s.fwVerifies obj then (0x107, s)
  else
    let place := match obj with
      | .monitor _ _ => FwPlace.monitor
      | .idolob _ _ => FwPlace.idolob bank
      | _ => FwPlace.image bank
    let s := s.fwWrite place obj readBack
    if ¬ readBack then (0x107, s)
    else
      let s := if isFw && ca != 0 then s.setPrefer (bank = 1) else s
      let s := s.raise R.BT_EVT_FW_COMMIT bank
      (0, { s with boot.fwReset := decide (ca = 3 ∧ s.mode ≠ .sealed) })

/-- FIRMWARE_COMMIT (R426): an admin command, or one that the recovery monitor takes; under the monitor, CA 3 is followed by its restart
request. `readBack`: the written region reads back as the buffered object. -/
def execFirmwareCommit (cmd : Nat) (obj : FwObject) (readBack : Bool) (mon : Option MonFw) (s : State) :
    Host.Outcome State Fault Refusal :=
  match mon with
  | some m => s.monFw (s.fwCommit m.cdw10.toNat obj readBack)
  | none => s.admStep cmd 0x10 fun s cm _ => State.endWith (s.fwCommit cm.sqe.cdw10.toNat obj readBack) cmd

/-! ### NVMe-MI (R98) -/

/-- NVME_MI_MESSAGE: served on the sideband only; what a response holds is a FREE VALUE (notes/assumptions/3). -/
def execNvmeMiMessage (tag opc : Nat) (_data : List Nat) (s : State) : Host.Outcome State Fault Refusal :=
  if ¬ s.modeIn [.discovery, .rebuild, .service, .readOnly, .feathered, .becalmed, .sanitize, .trial] then .next s
  else
    let (r, s) := s.drawGarbage
    done (s.send .miResp 0 [tag, opc] [r])

end Sys2Proof.Machine
end

