-- ==== Sys2Proof/Machine/Faults.lean ====
section
/-! DEFINITION. Faults.lean: control processors that stop, and the takeover of their work (R444, R445, R450). -/

namespace Sys2Proof.Machine

/-- A control processor stops, and stays stopped until Bootstrap (R444). -/
def State.cpStop (s : State) (cp cause : Nat) : State :=
  let s := { s with cpus.stopped := setBit s.cpus.stopped cp true, cpus.pending := s.cpus.pending + 1 }
  let s := (s.setF R.GL_CP_STS_CP_OK (setBit (s.f R.GL_CP_STS_CP_OK) cp false)).setF R.GL_CP_STS_LAST_CP cp
  (s.setF R.GL_CP_STS_CAUSE cause).raise R.GL_FLT_EVT_CP_FAULT cp cause

/-- LOCKSTEP_MISMATCH (R444): one of the 12 processors that runs stops. -/
def execLockstepMismatch (cp : Nat) (s : State) : Host.Outcome State Fault Refusal :=
  if s.mode = .off ∨ 12 ≤ cp ∨ bit s.cpus.stopped cp then .next s else done (s.cpStop cp 0)

/-- WATCHDOG_EXPIRY (R444): its heartbeat is 1 ms overdue. -/
def execWatchdogExpiry (cp : Nat) (s : State) : Host.Outcome State Fault Refusal :=
  if s.mode = .off ∨ 12 ≤ cp ∨ bit s.cpus.stopped cp then .next s else done (s.cpStop cp 1)

/-- TAKEOVER_DONE (R445): the work of a stopped processor has moved to one that runs; relocation jobs that have not committed are abandoned and
queued again. An admin command in progress restarts: its step is a command of its own. -/
def execTakeoverDone (s : State) : Host.Outcome State Fault Refusal :=
  if s.mode = .off ∨ s.cpus.pending = 0 ∨ ¬ s.cpUp then .next s
  else
    let s := { s with cpus.pending := s.cpus.pending - 1 }
    let s := (s.addF R.GL_CP_STS_TAKEOVERS).raise R.GL_FLT_EVT_CP_MOVED (s.f R.GL_CP_STS_LAST_CP)
    let s := (s.media.relocs.keysWhere fun _ r => r.alive && r.started).foldl State.abandon s
    done s.afterRows

end Sys2Proof.Machine
end

