-- ==== Sys2Proof/Machine/Views.lean ====
section
/-! DEFINITION. Views.lean: the power domains (Table 14-3), what the registers and data ports show of the state that no register
field holds (each chapter's register tables), and a register read in one handshake (R9 to R12, R452, R456, R458). -/

namespace Sys2Proof.Machine

/-! ### Power domains (R386, Table 14-3) -/

/-- The hold-up flush or the flush of a trip runs. -/
def State.flushing (s : State) : Bool :=
  (s.mode == .holdupFlush && !s.pwr.flushEnded) || (s.mode == .thermalRest && s.pwr.tripFlush && !s.pwr.flushEnded)

/-- A die of the lane matched (R286). -/
def State.laneMatched (s : State) (l : Nat) : Bool := (List.range 64).any fun c => (s.die c l).matched

/-- State of a domain: 0 Off, 1 On, 2 Retain (Table 14-3). In Trial, where the test firmware's requests decide, it is as in
Discovery (DESIGN CHOICE, notes/assumptions/41). -/
def State.domain (s : State) (d : Nat) : Nat :=
  let run := s.modeIn runModes || s.mode == .trial
  let boot := s.mode == .bootstrap || s.mode == .sealed
  let fea := s.mode == .feathered
  let bec := s.mode == .becalmed
  let media := run || s.flushing || (bec && !s.clk.becDone)
  let b := fun (x : Bool) => if x then 1 else 0
  if ¬ s.up ∨ 96 ≤ d then 0
  else if d < 64 then b (media && s.laneMatched (d % 32))
  else if d < 72 then b media
  else if d < 76 then
    if s.cstate (d - 72) = 0 then 0 else if run then 1 else if fea || bec then 2 else 0
  else if d < 78 then b ((run || fea) && s.on R.PT_CFG_ENABLE (d - 76))
  else if d < 80 then if run || fea then 1 else if bec then 2 else 0
  else if d = 80 then b (run || boot || fea || bec)
  else if d < 84 then if run then 1 else if fea || bec then 2 else 0
  else if d < 88 then b run
  else if d < 92 then b (run || fea || bec || s.flushing || (boot && d == 88))
  else if d < 95 then if run then 1 else if fea || bec then 2 else 0
  else b (s.on R.CK_PACER_RUNNING && (run || boot || bec || s.flushing))

/-- The domain of a block's registers; none: it is always on. The manual names the domains of the lanes, decoders, DRAM channels,
ports, Hopper, queue contexts and Governor; the others are DEDUCED (notes/assumptions/41). -/
def blockDomain (a : Nat) : Option Nat :=
  if 0x80000 ≤ a ∧ a < 0xA0000 then some (76 + (a - 0x80000) / 0x10000)
  else if 0xC0000 ≤ a ∧ a < 0xE1000 then some 92
  else if 0x100000 ≤ a ∧ a < 0x101000 then some 94
  else if 0x120000 ≤ a ∧ a < 0x141000 then some 81
  else if 0x200000 ≤ a ∧ a < 0x400000 then some ((a - 0x200000) / 0x10000)
  else if 0x400000 ≤ a ∧ a < 0x440000 then some (32 + (a - 0x400000) / 0x2000)
  else if 0x480000 ≤ a ∧ a < 0x4C0000 then some (72 + (a - 0x480000) / 0x10000)
  else none

/-- The block of an address is Off. -/
def State.blockOff (s : State) (a : Nat) : Bool :=
  match blockDomain a with
  | some d => s.domain d == 0
  | none => false

/-- The data registers of the table ports, by the address in instance 0, and the domain of the array behind each, where it is not
the block's own: the Event Log in cluster 0 (R460), the link address table in the transport engines, the Ledger, Shell Table and
Zone Table in DRAM. -/
def dataPorts : List (Nat × Option Nat) :=
  [(0x3C, some 80), (0x80034, some 78), (0xC0024, none), (0xD0044, none), (0xE0004, none), (0xE0014, none), (0x100024, none),
   (0x100034, none), (0x100044, none), (0x120024, none), (0x140004, some 72), (0x14000C, some 72), (0x140814, some 72),
   (0x200024, none), (0x20002C, none), (0x480044, none), (0x48007C, none), (0x480084, none), (0x480098, none)]

/-- A register is a data port, and its array's domain is Off (R458). -/
def State.arrayOff (s : State) (r : R.Reg) (i : Nat) : Bool :=
  match dataPorts.find? fun (a, _) => a == r.addr with
  | some (_, some d) => s.domain d == 0
  | some (_, none) => s.blockOff (r.at i 0)
  | none => false

/-! ### Slices (Table 05-12) -/

/-- A configuration word written to a set; status words and rsvd words are not written. -/
def cfgPut (c : SliceCfg) (w v : Nat) : SliceCfg :=
  match w with
  | 0 => { c with mgmt := bit v 2, listedAll := bit v 3, vxOrigin := bit v 4, latClass := bitsOf v 16 4 }
  | 1 => { c with origin := v % 2 ^ 20 }
  | 2 => { c with qQuota := v % 2 ^ 15, ctrlQuota := bitsOf v 16 13 }
  | 3 => { c with wsqKib := v % 2 ^ 16 }
  | 4 => { c with rsqMib := v % 2 ^ 15 }
  | 5 => { c with mrqKib := v % 2 ^ 16 }
  | 6 => { c with zoneQuota := v % 2 ^ 13, keyQuota := bitsOf v 16 14 }
  | 7 => { c with guarBw := v % 2 ^ 16, ceilBw := bitsOf v 16 16 }
  | 8 => { c with guarKiops := v % 2 ^ 16, ceilKiops := bitsOf v 16 16 }
  | 9 => { c with ceilInfl := v % 2 ^ 20 }
  | 10 => { c with cmdDepth := v % 2 ^ 16, byteDepth := bitsOf v 16 16 }
  | _ =>
    if 64 ≤ w ∧ w < 128 then
      let p := 2 ^ (32 * (w - 64))
      { c with subnqn := c.subnqn - bitsOf c.subnqn (32 * (w - 64)) 32 * p + v % 2 ^ 32 * p }
    else c

/-- Queues of a slice whose head command waits and is not eligible (Table 05-5). -/
def State.waitingHeads (s : State) (n : Nat) : List Nat :=
  (s.queuesOf n).filter fun q => !(s.queue q).waiting.isEmpty && !s.eligible q

/-- SLUICE (Table 05-5). -/
def State.sluice (s : State) (n : Nat) : Nat :=
  if s.closeCause n ≠ 0 then 2 else if (s.waitingHeads n).isEmpty then 0 else 1

/-- WAIT_CAUSE: what the waiting heads wait for. -/
def State.waitCauses (s : State) (n : Nat) : Nat :=
  (s.waitingHeads n).foldl (fun m q =>
    match (s.queue q).waiting with
    | c :: _ => m ||| s.waitCause n (isWriteOpc (s.cmd c).sqe.opc)
    | [] => m) 0

/-- A word of the slice's entry; `shadow`: of the shadow set, whose status words read live (Table 05-12). -/
def State.sliceWord (s : State) (n w : Nat) (shadow : Bool) : Nat :=
  let x := s.sl n
  let c := if shadow then s.shadow.get n else s.cfg n
  match w with
  | 0 => cfgWord c 0 + x.st % 4 + x.epoch % 256 * 256
  | 16 => s.qUsed n % 2 ^ 15 + s.ctrlUsed n % 2 ^ 13 * 2 ^ 16
  | 17 => s.slotUse false n % 2 ^ 16
  | 18 => s.slotUse true n % 2 ^ 25
  | 19 => s.mrUsed n % 2 ^ 16
  | 20 => s.zonesUsed n % 2 ^ 13 + s.keysUsed n % 2 ^ 14 * 2 ^ 16
  | 21 => s.inflight n % 2 ^ 20
  | 22 => s.taggedOps n % 2 ^ 18
  | 23 => s.sluice n + s.closeCause n % 16 * 16 + s.waitCauses n % 16 * 256 + b2n x.pend.isSome * 2 ^ 12 + x.resets % 2 ^ 16 * 2 ^ 16
  | 24 => toField 32 x.cmdTok
  | 25 => toField 32 x.byteTok
  | 26 => x.cmdInc % 2 ^ 24
  | 27 => x.byteInc % 2 ^ 24
  | _ => cfgWord c w

/-! ### Queues and slots (03, 04) -/

/-- A word of a queue context (RC_QDATA). -/
def State.queueWord (s : State) (idx : Nat) (admin : Bool) (w : Nat) : Nat :=
  let k := if admin then adminBase + idx else idx
  let q := s.queue k
  if (admin && decide (4096 ≤ idx)) || !q.valid then 0
  else
    match w with
    | 0 => q.cntlid % 2 ^ 16 + 2 ^ 16 + b2n q.rdma * 2 ^ 17 + q.link % 8 * 2 ^ 18
    | 1 => q.slice % 2 ^ 12 + q.qid % 2 ^ 16 * 2 ^ 16
    | 2 => q.sqsize % 2 ^ 8 + (s.outstanding k).length % 2 ^ 9 * 2 ^ 16
    | 3 => q.posted % 2 ^ 32
    | 4 => q.sqhd % 2 ^ 8
    | 5 => b2n q.deleting
    | _ => 0

/-- STATE of a slot (Table 04-3). -/
def SlotState.num : SlotState → Nat
  | .free => 0 | .granted => 1 | .filled => 2 | .loading => 3 | .sending => 4 | .draining => 5 | .fenced => 6 | .clearing => 7

/-- A descriptor word of a slot (Table 04-3); OWNER is the host while the slot is Granted (R111). -/
def State.slotWord (s : State) (n w : Nat) : Nat :=
  match s.slotInfo n with
  | none => 0
  | some (rd, c) =>
    let x := s.slot n
    if x.state = .free then (if w = 0 then c * 2 ^ 28 + b2n rd * 2 ^ 30 else 0)
    else
      match w with
      | 0 => b2n (x.state == .granted) + x.state.num * 2 + x.epoch % 256 * 256 + x.slice % 4096 * 2 ^ 16 + c * 2 ^ 28 + b2n rd * 2 ^ 30
      | 1 => x.length % 2 ^ 19
      | 2 => x.cmd % 2 ^ 18
      | _ => x.offset % 2 ^ 22

/-! ### The Governor (Tables 06-5, 06-10) -/

/-- A word of a loop's entry. -/
def State.loopWord (s : State) (n w : Nat) : Nat :=
  if 4098 ≤ n then 0
  else
    let l := s.loop n
    let e := fun (v : List Int) i => toField 32 ((v[i]?).getD 0)
    match w with
    | 0 => l.mode % 4 + l.req % 4 * 4 + b2n l.fallback * 16 + b2n l.sat * 32 + b2n l.plausible * 64 + l.masked % 16 * 256
    | 1 => l.badRun % 256 + l.goodRun % 256 * 256 + l.fallbacks % 2 ^ 16 * 2 ^ 16
    | 2 => toField 32 l.man0
    | 3 => toField 32 l.man1
    | 10 => toField 32 l.z0
    | 11 => toField 32 l.z1
    | 12 => toField 32 l.u0
    | 13 => toField 32 l.u1
    | 14 => toField 32 l.upl0
    | 15 => toField 32 l.upl1
    | 28 => l.outA % 2 ^ 23
    | 29 => if n < 4096 then 0 else l.outB % 2 ^ 16
    | 30 => if n = 4097 then 0 else l.outC % 2 ^ 32
    | 31 => if n < 4096 then l.miss % 2 ^ 32 else 0
    | _ =>
      if 4 ≤ w ∧ w < 10 then e l.x (w - 4)
      else if 16 ≤ w ∧ w < 20 then e l.y (w - 16)
      else if 20 ≤ w ∧ w < 24 then e l.rho (w - 20)
      else if 24 ≤ w ∧ w < 28 ∧ n < 4096 then (l.est[w - 24]?).getD 0 % 2 ^ 32
      else 0

/-! ### Media (Tables 07-9, 08-6, 09-1, 09-2) -/

/-- Units of [a, a + n) that lie in [b, b + m). -/
def overlap (a n b m : Nat) : Nat := min (a + n) (b + m) - max a b

/-- VALID of the block that a seat holds of a shell: its live 4 KiB units (R245). -/
def State.blockValid (s : State) (x seat : Nat) : Nat :=
  let h := s.shell x
  let f := s.fmt (crewOf x)
  match posOfSeat f seat with
  | none => 0
  | some d =>
    let u := seatUnits h.slc
    let inRow := fun n => overlap 0 n (d * u) u
    (s.per.map.foldl (fun a (_, e) =>
      if e.mapped ∧ e.shell = x ∧ e.unit % rowUnits f h.slc / u = d then a + 1 else a) 0) +
    (s.per.spills.foldl (fun a p =>
      if p.shell = x ∧ isZoneStream p.stream ∧ ¬ p.pad then a + overlap p.munit p.count (d * u) u else a) 0) +
    (if h.kind = 1 then
      let n := s.zoneLive h.owner
      n / rowUnits f false * u + inRow (n % rowUnits f false)
    else 0)

/-- A word of a Ledger entry (Table 09-1). -/
def State.ledgerWord (s : State) (e w : Nat) : Nat :=
  let n := e % 8192
  let seat := e / 8192 % 32
  let crew := e / 8192 / 32
  let x := crew * 8192 + n
  let l := s.ledgerAt crew seat n
  let bound := decide (n < (s.crew crew).shells) && l.set
  let used := bound && l.bstate == 2
  if w = 2 then (if used then s.blockValid x seat % 2 ^ 15 else 0) else (s.ledgerWords e)[if w = 3 then 2 else w]?.getD 0

/-- A word of a Shell Table entry (Table 09-2). -/
def State.shellWord (s : State) (x w : Nat) : Nat :=
  if s.sstate x = 0 then 0 else (s.shellWords x)[w]?.getD 0 + if w = 3 then s.svalid x % 2 ^ 20 * 2 ^ 9 else 0

/-- A crew's statistics word (Table 08-6); word 9 counts the crew's short shells. -/
def State.crewWord (s : State) (c w : Nat) : Nat :=
  if w = 9 then s.per.shells.count fun x h => crewOf x == c && h.short
  else if w ≤ 10 then s.media.stats.get (c * 16 + w) else 0

/-- Spare blocks of a seat: slots from SHELLS on whose BSTATE is spare. -/
def State.spares (s : State) (c seat : Nat) : Nat :=
  let b := (s.crew c).shells
  ((List.range (8192 - b)).filter fun i => (s.ledgerAt c seat (b + i)).bstate == 4).length

/-- MIN_SPARE of a crew. -/
def State.minSpare (s : State) (c : Nat) : Nat :=
  if (s.crew c).shells = 0 then 0
  else ((List.range 32).filter fun k => !s.failedSeat c k).foldl (fun m k => min m (s.spares c k)) 1023

/-- The crews of a pool, as a mask. -/
def State.poolMask (s : State) (p : Nat) : Nat :=
  (List.range 64).foldl (fun m c => setBit m c ((s.crew c).inPool && (s.crew c).pool == p)) 0

/-- Codewords of a lane's tile (DC_STS). -/
def State.tileCws (s : State) (l : Nat) (p : Cw → Bool) : Nat := s.flash.cws.count fun _ w => w.alive && w.seat == l && p w

/-! ### Lanes and DRAM (Tables 10-14, 12) -/

/-- The place of a die's recipe set in its lane's recipe store, 0 to 3: the sets stand there as the dies that they serve come, by die number
(DESIGN CHOICE, notes/assumptions/49). -/
def State.storeSet (s : State) (l c : Nat) : Nat :=
  if (s.die c l).matched then
    ((((List.range 64).filter fun d => (s.die d l).matched).map fun d => (s.die d l).set).eraseDups.idxOf (s.die c l).set) % 4
  else 0

/-- A die word (Table 10-14). A die that has given no reading shows TEMP 0 and the largest TEMP_AGE (DESIGN CHOICE,
notes/assumptions/42). -/
def State.dieWord (s : State) (l c w : Nat) : Nat :=
  let d := s.die c l
  match w with
  | 0 => b2n d.present + b2n d.matched * 2 + b2n (s.failedSeat c l) * 4 + s.storeSet l c * 256
  | 1 => d.id % 2 ^ 32
  | 2 => d.id / 2 ^ 32 % 2 ^ 16 + d.ppRev % 2 ^ 16 * 2 ^ 16
  | 3 =>
    if d.tempSample.isNone then 65535 * 2 ^ 16
    else toField 16 d.temp + min ((s.clk.tb - d.tempTb) / Config.ticksPerMs) 65535 * 2 ^ 16
  | 4 => min d.timeouts 65535
  | _ => 0

/-! ### The Event Log, fuses and keys -/

/-- A word of an Event Log entry (Table 17-4). -/
def logWord (e : LogEntry) (w : Nat) : Nat :=
  match w with
  | 0 => e.tb % 2 ^ 32
  | 1 => e.tb / 2 ^ 32 % 2 ^ 32
  | 2 => e.code % 2 ^ 16 + e.sev % 4 * 2 ^ 16 + e.mode % 16 * 2 ^ 24
  | 3 => e.seq % 2 ^ 32
  | 4 => e.p0 % 2 ^ 32
  | 5 => e.p1 % 2 ^ 32
  | 6 => e.p2 % 2 ^ 32
  | _ => e.p3 % 2 ^ 32

/-- A descriptor word of a key slot (CR_KSDATA). -/
def State.keyWord (s : State) (n w : Nat) : Nat :=
  let k := s.keys.get n
  if ¬ k.valid then 0
  else if w = 0 then 1 + b2n k.inj * 2 + k.slice % 4096 * 2 ^ 8 + (k.ns - 1) % 4096 * 2 ^ 20
  else if k.inj then k.tag % 256 else 0

/-- VMON, mV: a FREE VALUE at each tick (notes/assumptions/3). -/
def State.vmon (s : State) : Nat := Config.garbage (2 ^ 91 + s.clk.tb) % 4096

/-- An event register of an instance holds a set bit. -/
def State.evtSet (s : State) (a : Nat) : Bool := s.fields.any fun (k, v) => k / 32 == a && v != 0

/-! ### The fields that show state -/

/-- Fields of GLOBAL, FUSE, BOOT, CLOCK and POWER. -/
def State.viewLow (s : State) (p : Path) (a lo k : Nat) : Option Nat :=
  match a, lo with
  | 0x8, 0 => some s.mode.num
  | 0x8, 4 => some s.ctl.prev
  | 0x8, 8 => some s.ctl.trigger
  | 0x8, 16 => some s.ctl.changes
  | 0x14, _ => some s.evtSum
  | 0x1C, _ => some ((List.range 32).foldl (fun m l => setBit m l (s.evtSet (0x200040 + l * 0x10000))) 0)
  | 0x20, _ => some ((List.range 32).foldl (fun m l => setBit m l (s.evtSet (0x400060 + l * 0x2000))) 0)
  | 0x24, 0 => some ((List.range 4).foldl (fun m n => setBit m n (s.evtSet (0x4800A0 + n * 0x10000))) 0)
  | 0x24, _ => some ((List.range 2).foldl (fun m n => setBit m n (s.evtSet (0x80078 + n * 0x10000))) 0)
  | 0x30, 0 => some (s.log.seq % 4096)
  | 0x30, _ => some (min (s.log.seq / 4096) 65535)
  | 0x34, _ => some (s.log.seq % 2 ^ 32)
  | 0x3C, _ => some (logWord (s.log.ring.get (s.idxF p R.GL_ELIDX_ENTRY)) (s.idxF p R.GL_ELIDX_WORD))
  | 0x100, 16 => some (min (s.cpus.sramSpares.foldl (fun a (_, n) => a + n) 0) 255)
  | 0x100, 24 => some (8 - s.cpus.sramSpares.foldl (fun a (_, n) => max a n) 0)
  | 0x10000, 0 => some s.life
  | 0x10000, 3 => some (b2n s.boot.trialPend)
  | 0x10000, _ => some s.boot.fuses.lifecycle
  | 0x10004, _ => some s.count
  | 0x10008, 0 => some (b2n s.boot.fuses.debugLock)
  | 0x10008, 1 => some s.boot.fuses.jtag
  | 0x10008, 3 => some (b2n s.boot.fuses.sbLock)
  | 0x10008, 4 => some s.boot.fuses.fmtForbid
  | 0x10008, _ => some (b2n s.boot.debugOpen)
  | 0x10010, _ => some (s.boot.fuses.uid % 2 ^ 32)
  | 0x10014, _ => some (s.boot.fuses.uid / 2 ^ 32 % 2 ^ 32)
  | 0x10040, _ => some (if k < 12 then bitsOf s.boot.fuses.khRsa (32 * k) 32 else bitsOf s.boot.fuses.khSlh (32 * (k - 12)) 32)
  | 0x20020, _ => some (bitsOf s.nonceValue (32 * k) 32)
  | 0x20044, _ => some (if s.idxF p R.BT_TIDX_WORD < 4292 then s.boot.tokBuf.get (s.idxF p R.BT_TIDX_WORD) else 0)
  | 0x20058, _ => some (s.boot.norBuf.get (s.idxF p R.BT_NIDX_WORD))
  | 0x20064, _ => some (s.pskWord (s.idxF p R.BT_PSKIDX_ENTRY) (s.idxF p R.BT_PSKIDX_WORD))
  | 0x20070, 0 => some (sstat s.per.san)
  | 0x20070, 2 => some s.per.sanAct
  | 0x20070, 5 => some (b2n s.per.sanAuse)
  | 0x20070, _ => some s.sprog
  | 0x30020, _ => some (s.clk.tb % 2 ^ 32)
  | 0x30024, _ => some (s.clk.tb / 2 ^ 32 % 2 ^ 32)
  | 0x50000, 5 => some (b2n (decide (s.vmon < s.f R.PW_HU_CFG_VMON_TRIP)))
  | 0x50008, 0 => some s.vmon
  | 0x50014, 16 => some s.activeDies
  | 0x50020, _ => some ((List.range 32).foldl (fun m b => setBit m b (s.domain (32 * k + b) != 0)) 0)
  | 0x50030, _ => some ((List.range 32).foldl (fun m b => setBit m b (s.domain (32 * k + b) == 2)) 0)
  | _, _ => none

/-- Fields of PORT, RACE, HOPPER, SLICE and GOV. -/
def State.viewMid (s : State) (p : Path) (a lo i k : Nat) : Option Nat :=
  match a, lo with
  | 0x80034, _ => some (s.addrRead i p)
  | 0x80060, 0 => some (s.conns.count fun _ c => c.alive && c.kind == .io && portOf c.link == i)
  | 0x80060, _ => some (s.conns.count fun _ c => c.alive && c.kind == .admin && portOf c.link == i)
  | 0x80064, 0 => some (s.conns.count fun _ c => c.alive && c.kind == .io && portOf c.link == i && c.bp)
  | 0xC0004, _ => some s.ioUsed
  | 0xC0008, _ => some s.admUsed
  | 0xC0010, 0 => some (ceilDiv (s.hrBytes k false) 1024)
  | 0xC0010, _ => some (ceilDiv (s.hrBytes k true) 1024)
  | 0xC0024, _ => some (s.queueWord (s.idxF p R.RC_QIDX_QUEUE) (s.idxF p R.RC_QIDX_ADMIN != 0) (s.idxF p R.RC_QIDX_WORD))
  | 0xD0010, 16 => some (s.freeCount false k)
  | 0xD0030, _ => some (s.freeCount true k)
  | 0xD0044, _ => some (s.slotWord (s.idxF p R.HP_DIDX_SLOT) (s.idxF p R.HP_DIDX_WORD))
  | 0xD0054, 0 => some (s.hop.wq.count fun _ l => !l.isEmpty)
  | 0xD0054, _ => some (s.hop.rq.count fun _ l => !l.isEmpty)
  | 0xE0004, _ => some (s.sliceWord (s.tidx p) (s.idxF p R.SL_TIDX_WORD) (s.idxF p R.SL_TIDX_VIEW != 0))
  | 0xE0014, _ => some (s.originWord (s.idxF p R.SL_OIDX_ENTRY) (s.idxF p R.SL_OIDX_WORD))
  | 0xE0020, 0 => some (s.slices.count fun _ x => x.st == 1)
  | 0xE0020, _ => some (s.slices.count fun _ x => x.st == 2 || x.st == 3)
  | 0xE0024, 0 => some (s.liveSlices.foldl (fun t n => t + (s.cfg n).zoneQuota) 0)
  | 0xE0024, _ => some (s.liveSlices.foldl (fun t n => t + (s.cfg n).keyQuota) 0)
  | 0x100004, 0 => some (b2n (s.modeIn passModes))
  | 0x10000C, _ => some (s.gov.samples % 2 ^ 32)
  | 0x100010, _ => some (s.gov.samples / 2 ^ 32 % 2 ^ 32)
  | 0x100024, _ =>
    let n := s.pidx p
    let w := s.idxF p R.GV_PIDX_WORD
    some (if 18 ≤ n then 0 else profBits n w (if s.idxF p R.GV_PIDX_VIEW = 0 then s.prof n w else s.gov.shadow.get (n * 256 + w)))
  | 0x100028, 4 => some (b2n (s.gov.committed.get (s.pidx p)))
  | 0x100034, _ => some (s.loopWord (s.idxF p R.GV_LIDX_LOOP) (s.idxF p R.GV_LIDX_WORD))
  | 0x100044, _ =>
    some (s.gov.hist.get (s.idxF p R.GV_HIDX_SLICE * 128 + 64 * s.idxF p R.GV_HIDX_DIR + s.idxF p R.GV_HIDX_BUCKET))
  | 0x100048, 0 => some (s.gov.loops.count fun _ l => l.mode == 1)
  | 0x100048, _ => some (s.gov.loops.count fun _ l => l.fallback)
  | _, _ => none

/-- Fields of SHELL and MEDIA. -/
def State.viewMedia (s : State) (p : Path) (a lo k : Nat) : Option Nat :=
  match a, lo with
  | 0x120004, b => some (b2n !(bit s.boot.fuses.fmtForbid b))
  | 0x120024, _ => some (s.crewWord (s.idxF p R.SH_CIDX_CREW) (s.idxF p R.SH_CIDX_WORD))
  | 0x120030, 0 =>
    some (s.flash.cws.foldl (fun m (n, w) => if w.alive ∧ w.phase = 4 then m ||| (1 <<< (n % 8)) else m) 0)
  | 0x120030, _ => some (s.flash.cws.count fun _ w => w.alive && (w.phase == 3 || w.phase == 4))
  | 0x120100, 0 => some (s.crew k).format
  | 0x120100, 2 => some (s.crew k).st
  | 0x120100, 10 => some (s.effBudget k)
  | 0x120100, 16 => some (s.crew k).pool
  | 0x120100, 19 => some (b2n (s.crew k).inPool)
  | 0x120200, _ => some (s.crew k).failed
  | 0x120300, _ => some ((List.range 32).foldl (fun m x => setBit m x (s.busy k x)) 0)
  | 0x140004, _ => some (s.ledgerWord (s.idxF p R.MD_LIDX_ENTRY) (s.idxF p R.MD_LIDX_WORD))
  | 0x14000C, _ => some (s.shellWord (s.idxF p R.MD_SIDX_SHELL) (s.idxF p R.MD_SIDX_WORD))
  | 0x14001C, 0 => some (min (s.per.shells.count fun _ h => h.kind == 3) 65535)
  | 0x14002C, 8 => some s.relocActive
  | 0x14002C, 16 => some (min (s.media.relocs.count fun _ r => r.alive && !r.started) 65535)
  | 0x140030, 9 => some s.logFreeCount
  | 0x140034, _ => some (s.lastSeq % 2 ^ 32)
  | 0x140038, _ => some (s.lastSeq / 2 ^ 32 % 2 ^ 32)
  | 0x140040, 4 => some (b2n s.media.unclean)
  | 0x140044, _ => some (s.per.clock % 2 ^ 32)
  | 0x140100, 0 => some (s.crew k).shells
  | 0x140100, _ => some (s.minSpare k)
  | 0x140200, _ => some (s.per.shells.count fun x h => crewOf x == k && h.st == 5)
  | 0x140814, _ => some (s.zoneWord (s.idxF p R.MD_ZIDX_ENTRY) (s.idxF p R.MD_ZIDX_WORD))
  | 0x140818, 0 =>
    some (s.per.zones.count (fun _ z => z.active) +
      s.per.ns.foldl (fun t (_, n) => if n.alive ∧ ¬ n.zoned then t + n.handles.length else t) 0)
  | 0x140818, _ => some (s.per.zones.count fun _ z => z.spilled)
  | 0x14081C, 0 => some (ceilDiv s.convBytes (2 ^ 30))
  | 0x140820, _ => some (s.poolMask k % 2 ^ 32)
  | 0x140824, _ => some (s.poolMask k / 2 ^ 32)
  | 0x140860, b => some (s.poolFmt (b / 2))
  | 0x140880, _ => some (min (s.freeShells k) (2 ^ 19 - 1))
  | _, _ => none

/-- Fields of LANE, DEC, DRAM and CRYPTO. LOAD is a FREE VALUE for each Governor sample: the manual gives no rule for it
(notes/assumptions/3). -/
def State.viewHigh (s : State) (p : Path) (a lo i : Nat) : Option Nat :=
  match a, lo with
  | 0x200024, _ => some (s.dieWord i (s.idxF p R.LN_DIDX_DIE i) (s.idxF p R.LN_DIDX_WORD i))
  | 0x20002C, _ =>
    let w := s.idxF p R.LN_CIDX_WORD i
    some (s.calWord i (s.idxF p R.LN_CIDX_TARGET i) w)
  | 0x400004, b => some (s.per.codes / 2 ^ b)
  | 0x400008, 0 => some (s.tileCws i fun w => w.phase == 2)
  | 0x400008, _ => some (s.tileCws i fun w => decide (0 < w.step))
  | 0x480044, _ =>
    let e := (s.chan i).remap.get (s.idxF p R.DR_RMIDX_ENTRY i)
    some (if s.idxF p R.DR_RMIDX_WORD i = 0 then e % 2 ^ 32 else e / 2 ^ 32)
  | 0x480070, 4 => some 0
  | 0x48007C, _ => some ((s.chan i).trnErr.get (s.idxF p R.DR_TRN_EIDX_DQ i))
  | 0x480084, _ =>
    let q := s.idxF p R.DR_CIDX_DQ i
    some (if q < 90 then s.delayWord i q else 0)
  | 0x480098, _ => some (s.dram.lb.get (s.idxF p R.DR_LB_IDX_WORD))
  | 0x500000, 0 => some ((List.range 4).foldl (fun m g => setBit m g (s.domain (84 + g) == 1)) 0)
  | 0x500000, _ => some (if s.domain 84 = 1 then Config.garbage (2 ^ 90 + s.gov.samples) % 101 else 0)
  | 0x500004, 0 => some (s.keys.count fun _ k => k.valid)
  | 0x500004, _ => some (s.keys.count fun _ k => k.valid && !k.inj)
  | 0x500024, _ => some (s.keyWord (s.idxF p R.CR_KSIDX_SLOT) (s.idxF p R.CR_KSIDX_WORD))
  | _, _ => none

/-- What a field shows of the state, where no register field holds it. -/
def State.view (s : State) (p : Path) (F : R.Fld) (i k : Nat) : Option Nat :=
  let a := F.reg.addr
  if a < 0x60000 then s.viewLow p a F.lo k
  else if a < 0x110000 then s.viewMid p a F.lo i k
  else if a < 0x150000 then s.viewMedia p a F.lo k
  else s.viewHigh p a F.lo i

/-- RO and ROS fields that come from the image, the Logbook, the fuses or training: their domain's state does not change them
(R452). -/
def sourced (F : R.Fld) : Bool :=
  ([R.HP_POOL, R.HP_RBASE, R.HP_RCLASS, R.MD_POOL_LO, R.MD_POOL_HI, R.MD_POOLFMT, R.SH_FMTPERM, R.SH_FAILMAP, R.MD_CLOCK,
    R.LN_STROKE, R.DC_CODE, R.DR_GCFG, R.PT_VX_CTL] : List R.Reg).contains F.reg ||
  ([R.HP_WCLASS_COUNT, R.MD_CONV_CONV_OP, R.SH_CREW_FORMAT, R.SH_CREW_STATE, R.SH_CREW_POOL, R.MD_MP_CFG_MP_PCT,
    R.MD_LOG_STS_LOG_SHELLS, R.MD_SPARE_SHELLS] : List R.Fld).contains F

/-- A field as a read shows it (R10, R452, R458). -/
def State.readField (s : State) (p : Path) (F : R.Fld) (i k : Nat) : Nat :=
  let off := s.blockOff (F.reg.at i k)
  let held := if F.reg.banked then s.idxF p F i else s.f F i k
  if F.acc = .wo then 0
  else if s.arrayOff F.reg i then 0
  else
    match s.view p F i k with
    | some v =>
      if off && !sourced F && (F.acc == .ro || F.acc == .ros) && !(dataPorts.any fun (a, _) => a == F.reg.addr) then
        (if F == R.HP_WCLASS_FREE then s.classCount false k else if F == R.HP_RFREE_FREE then s.classCount true k else F.reset)
      else v % 2 ^ F.w
    | none => if off && F.acc == .ro && !sourced F then F.reset else held

/-- A register's word (R12: rsvd bits read 0). -/
def State.regWord (s : State) (p : Path) (fs : List R.Fld) (i k : Nat) : Nat :=
  fs.foldl (fun a F => a + s.readField p F i k * 2 ^ F.lo) 0

/-- The register that an address names: its fields, instance and index. -/
def regAt (a : Nat) : Option (List R.Fld × Nat × Nat) :=
  let fs := R.fieldsOfBlock a
  match fs.find? fun F => (F.reg.locate a).isSome with
  | some F =>
    match F.reg.locate a with
    | some (i, k) => some (fieldsOf fs F.reg, i, k)
    | none => none
  | none => none

/-- The registers that hold the lower words of 64-bit values, whose upper words stand at the next address (R11). -/
def lowWords : List Nat :=
  [0x10010, 0x30020, 0x10000C, 0x140034, 0x480064, 0x500010] ++ (List.range 32).map fun l => 0x400028 + 0x2000 * l

/-- The live word at an address; 0 where no register stands (R451). -/
def State.liveWord (s : State) (p : Path) (a : Nat) : Nat :=
  match regAt a with
  | some (fs, i, k) => s.regWord p fs i k
  | none => 0

/-- The key of a latched upper word: one latch for each path (DEDUCED, notes/assumptions/43). -/
def latchKey (p : Path) (a : Nat) : Nat := pathBank p * 2 ^ 24 + a

/-- A register is read in one handshake: a lower word latches its upper word, and the next read of the upper word returns that
(R11). TRIAL reads 0 outside Trial (R452); the window of the test firmware itself is not described and reads 0 in Trial too
(notes/assumptions/44). -/
def State.regRead (s : State) (p : Path) (a : Nat) : Nat × State :=
  if lowWords.contains a then
    (s.liveWord p a, { s with clk.latch := s.clk.latch.set (latchKey p (a + 4)) (s.liveWord p (a + 4) + 1) })
  else if lowWords.contains (a - 4) && decide (4 ≤ a) then
    let v := s.clk.latch.get (latchKey p a)
    if v = 0 then (s.liveWord p a, s) else (v - 1, { s with clk.latch := s.clk.latch.set (latchKey p a) 0 })
  else (s.liveWord p a, s)

end Sys2Proof.Machine
end

