-- ==== Sys2Proof/Machine/RegAccess.lean ====
section
/-! DEFINITION. RegAccess.lean: a register write in one handshake with its effect, and the paths to the registers: REG_WRITE, the
Register Window, Set Register and Get Register, Get Event Log, and the Alert Response Address (R9 to R14, R103, R104,
R453 to R459). -/

namespace Sys2Proof.Machine

/-- The state that a command's own step leaves. -/
def after (o : Host.Outcome State Fault Refusal) (s : State) : State :=
  match o with
  | .next t => t
  | _ => s

/-! ### A token in the token buffer (Tables 15-3, 15-4) -/

/-- A number made of the words [lo, lo + n) of the token buffer. -/
def State.tokNum (s : State) (lo n : Nat) : Nat :=
  (List.range n).foldl (fun a i => a + s.boot.tokBuf.get (lo + i) * 2 ^ (32 * i)) 0

/-- What the checks of R411 find on the buffer's content: hashes and the outcome of the signature checks are FREE VALUES of the
content (notes/assumptions/4). -/
def State.tokenFacts (s : State) : TokenFacts :=
  let all := s.tokNum 0 4292
  { sig :=
      { marker := s.tokNum 0 1, rsaHash := Config.digest (8 * s.tokNum 32 96 + 1), slhHash := Config.digest (8 * s.tokNum 128 12 + 2),
        rsaOk := Config.digest (8 * all + 3) % 2 == 1, slhOk := Config.digest (8 * all + 4) % 2 == 1, bodyOk := true },
    uid := s.tokNum 2 2, nonce := s.tokNum 4 8, arg := ((List.range 4).map fun i => wordBytes (s.boot.tokBuf.get (12 + i))).flatten }

/-- BT_TCMD: the token in the buffer is submitted (R416). An OP that Table 15-6 does not list has no lifecycle that allows it
(DESIGN CHOICE, notes/assumptions/45). -/
def State.tokenSubmit (s : State) : State :=
  let k := s.tokenFacts
  match s.boot.tokBuf.get 1 % 65536 with
  | 1 => after (execTokenProvision k s) s
  | 2 => after (execTokenDeploy k s) s
  | 3 => after (execTokenReturn k s) s
  | 4 => after (execTokenRevoke k s) s
  | 5 => after (execTokenTrial k s) s
  | 6 => after (execTokenDebugUnlock k s) s
  | 7 => after (execTokenFuseSet k s) s
  | op => if s.tokenPath then (s.token op k false true true fun s => s).settle else s

/-- The token registers: reached from a controller in Service only (R416). -/
def tokenPort (a : Nat) : Bool := a == 0x20040 || a == 0x20044 || a == 0x20048

/-- Token registers through a controller's path outside Service read 0 and ignore writes (DEDUCED, notes/assumptions/45). -/
def State.pathBlind (s : State) (p : Path) (a : Nat) : Bool := p != .sideband && tokenPort a && s.mode != .service

/-! ### Writes that act (each register's table) -/

/-- A command field: 0 and the values that name no command are reserved encodings (R13). -/
def State.command (s : State) (a v : Nat) (p : Path) (acts : List (Nat × (State → Host.Outcome State Fault Refusal))) (c : Nat) :
    State :=
  match acts.find? fun x => x.1 == c with
  | some (_, f) => after (f s) s
  | none => s.invalidEnc a v p

/-- A written bit that starts a command. -/
def State.onBit (s : State) (v b : Nat) (f : State → Host.Outcome State Fault Refusal) : State :=
  if bit v b then after (f s) s else s

/-- The words of a staging buffer hold a written word, where it has such a word. -/
def stageWord (t : Tab Nat) (n w v : Nat) : Tab Nat := if w < n then t.set w v else t

/-- PW_HU_CFG: HOLDUP_EN follows HU_EN (R391), and its fall disarms hold-up (R392). -/
def State.huCfgWrite (s : State) (fs : List R.Fld) (v : Nat) (p : Path) : State :=
  let was := s.holdupEn
  let s := s.writeReg fs 0 0 v p
  let s := s.setF R.PW_STS_HOLDUP_EN (b2n s.holdupEn)
  if was && !s.holdupEn then s.disarmSpill.afterRows else s

/-- A pair of fields with a rule between them: a write that breaks it keeps both values. -/
def pairKeep (A B : R.Fld) (bad : Bool) : R.Fld → Nat → Bool := fun F _ => bad && (F == A || F == B)

/-- TH_CFG: THERM_ON 60 to 115, THERM_OFF 50 to THERM_ON − 1. -/
def thBad (v : Nat) : Bool :=
  let a := bitsOf v 0 8
  let b := bitsOf v 8 8
  a < 60 || 115 < a || b < 50 || a ≤ b

/-- RC_CMDTAB_THR: XON_K below XOFF_K, XOFF_K at most 192. -/
def thrBad (v : Nat) : Bool :=
  let off := bitsOf v 0 8
  off ≤ bitsOf v 8 8 || 192 < off

/-- MD_GC_CFG: GC_START 2 to 32, GC_STOP GC_START + 1 to 64. -/
def gcBad (v : Nat) : Bool :=
  let a := bitsOf v 0 6
  let b := bitsOf v 8 7
  a < 2 || 32 < a || b ≤ a || 64 < b

/-- A write to FUSE, BOOT, CLOCK, THERM or POWER whose register acts; none: the fields store by their access codes. -/
def State.putLow (s : State) (p : Path) (fs : List R.Fld) (a v : Nat) : Option State :=
  match a with
  | 0x1000C => some (if s.boot.fuses.sbLock then s else s.setF R.FU_SBADDR_SB_ADDR v)
  | 0x20044 => some { s with boot.tokBuf := stageWord s.boot.tokBuf 4292 (s.idxF p R.BT_TIDX_WORD) v }
  | 0x20048 => some (if bit v 0 then s.tokenSubmit else s)
  | 0x20058 => some { s with boot.norBuf := s.boot.norBuf.set (s.idxF p R.BT_NIDX_WORD) v }
  | 0x2005C => some (s.command a v p [(1, execNorRead), (2, execNorProgram), (3, execNorErase)] (bitsOf v 0 2))
  | 0x20064 => some { s with boot.pskStage := stageWord s.boot.pskStage 61 (s.idxF p R.BT_PSKIDX_WORD) v }
  | 0x20068 => some (s.command a v p [(1, execPskCommit p), (2, execPskInvalidate p)] (bitsOf v 0 2))
  | 0x30008 => some (after (execCkPrioWrite false (BitVec.ofNat 32 v) s) s)
  | 0x3000C => some (after (execCkPrioWrite true (BitVec.ofNat 32 v) s) s)
  | 0x30014 => some (s.onBit v 0 execCkSwitch)
  | 0x40084 => some (s.writeReg fs 0 0 v p (pairKeep R.TH_CFG_THERM_ON R.TH_CFG_THERM_OFF (thBad v)))
  | 0x50004 => some (s.huCfgWrite fs v p)
  | 0x5000C => some (after (execEnvReqWrite (v % 4) s) s)
  | _ => none

/-- A write to PORT, RACE, SLICE or GOV whose register acts. -/
def State.putMid (s : State) (p : Path) (fs : List R.Fld) (a i k v : Nat) : Option State :=
  match a with
  | 0x80000 => some (s.ptCfgWrite i v p)
  | 0x80020 => some (s.linkCtlWrite (4 * i + k) v p)
  | 0x80034 => some (s.addrWrite i v p)
  | 0x80074 => some (s.discCtlWrite v p)
  | 0xC000C => some (s.writeReg fs 0 0 v p (pairKeep R.RC_CMDTAB_THR_XOFF_K R.RC_CMDTAB_THR_XON_K (thrBad v))).bpUpdate
  | 0xE0004 => some { s with shadow := s.shadow.mod (s.tidx p) fun c => cfgPut c (s.idxF p R.SL_TIDX_WORD) v }
  | 0xE0008 =>
    some (s.command a v p [(1, execSlCreate p), (2, execSlModify p), (3, execSlReset p), (4, execSlDelete p), (5, execSlLoad p)]
      (bitsOf v 0 3))
  | 0xE0014 => some { s with originStage := stageWord s.originStage 65 (s.idxF p R.SL_OIDX_WORD) v }
  | 0xE0018 => some (s.command a v p [(1, execOriginCommit p), (2, execOriginInvalidate p)] (bitsOf v 0 2))
  | 0xE0400 => some (after (execSlHoldWrite k (BitVec.ofNat 32 v) s) s)
  | 0x100024 =>
    let n := s.pidx p
    some (if n < 18 then { s with gov.shadow := s.gov.shadow.set (n * 256 + s.idxF p R.GV_PIDX_WORD) (profBits n (s.idxF p R.GV_PIDX_WORD) v) } else s)
  | 0x100028 => some (s.command a v p [(1, execGvProfileCommit p), (2, execGvProfileLoad p)] (bitsOf v 0 2))
  | 0x100034 =>
    match s.idxF p R.GV_LIDX_WORD with
    | 0 => some (after (execGvModeReqWrite p (bitsOf v 2 2) s) s)
    | 2 => some (after (execGvManUWrite p 0 (BitVec.ofNat 32 v) s) s)
    | 3 => some (after (execGvManUWrite p 1 (BitVec.ofNat 32 v) s) s)
    | _ => some s
  | _ => none

/-- A write to SHELL, MEDIA, LANE or DEC whose register acts. -/
def State.putMedia (s : State) (p : Path) (fs : List R.Fld) (a i k v : Nat) : Option State :=
  match a with
  | 0x120010 => some (after (execShForceWrite (BitVec.ofNat 32 v) s) s)
  | 0x120100 =>
    let x := bitsOf v 8 2
    some (if x = 1 ∨ (x = 2 ∧ s.fmt k = 3) then s.setF R.SH_CREW_BUSY_BUDGET x 0 k else s.invalidEnc (R.SH_CREW.at 0 k) v p)
  | 0x140028 => some (s.writeReg fs 0 0 v p (pairKeep R.MD_GC_CFG_GC_START R.MD_GC_CFG_GC_STOP (gcBad v)))
  | 0x200004 => some (s.onBit v 0 (execLnRetrain i))
  | 0x400050 => some ((s.writeReg fs i 0 v p).onBit v 0 (execSelftestStart i))
  | _ => none

/-- The free values that a training run of a register write measures (R355, notes/assumptions/3). -/
def State.trainErrors (s : State) : List Nat × State :=
  ((List.range 80).map fun q => Config.garbage (2 ^ 92 + s.ctl.freeCtr * 128 + q) % 2 ^ 32,
   { s with ctl.freeCtr := s.ctl.freeCtr + 1 })

/-- A write to DRAM whose register acts. -/
def State.putDram (s : State) (p : Path) (fs : List R.Fld) (a i v : Nat) : Option State :=
  match a with
  | 0x480034 =>
    let s := (s.writeReg fs i 0 v p).onBit v 5 (execDrClear i)
    some (if bit v 4 then (s.markDev i (s.f R.DR_MARK_DEV i) true) else s)
  | 0x480044 =>
    let w := 2 * s.idxF p R.DR_RMIDX_ENTRY i + s.idxF p R.DR_RMIDX_WORD i
    some (s.modChan i fun x => { x with rmStage := x.rmStage.set w v })
  | 0x480048 => some (s.command (R.DR_RMCMD.at i 0) v p [(1, execRemapInstall p i), (2, execRemapRemove p i)] (bitsOf v 0 2))
  | 0x480058 => some (((s.writeReg fs 0 0 v p).onBit v 0 execScrubStart).onBit v 1 execScrubStop)
  | 0x480070 =>
    let s := s.writeReg fs i 0 v p
    some (if bit v 0 then
        let (es, s) := s.trainErrors
        after (execTrainingRun i es s p) s
      else s)
  | 0x480084 =>
    let q := s.idxF p R.DR_CIDX_DQ i
    some (if s.modeIn [.discovery, .trial] ∧ q < 90 then
        s.modChan i fun x => { x with delays := x.delays.set q (v % 2 ^ 24 + 1) }
      else s)
  | 0x480098 => some { s with dram.lb := stageWord s.dram.lb 40 (s.idxF p R.DR_LB_IDX_WORD) v }
  | 0x48009C =>
    some (s.command a v p [(1, execLbRawRead), (2, execLbRawWrite), (3, execLbDataOnlyWrite), (4, execLbCheckOnlyWrite),
      (5, execLbPoisonWrite), (6, execLbCorrectedRead)] (bitsOf v 0 3))
  | _ => none

/-- What a written word does at a register: the register's own effect, or its fields' by their access codes (R10, R12, R13). -/
def State.regEffect (s : State) (p : Path) (fs : List R.Fld) (a i k v : Nat) : State :=
  let own :=
    if a < 0x60000 then s.putLow p fs a v
    else if a < 0x110000 then s.putMid p fs a i k v
    else if a < 0x480000 then s.putMedia p fs a i k v
    else s.putDram p fs a i v
  match own with
  | some t => t
  | none => s.writeReg fs i k v p

/-- A register is written in one handshake. An address with no register ignores the write (R104, R451), and so does a data port
whose array's domain is Off (R458). -/
def State.regPut (s : State) (p : Path) (a v : Nat) : State :=
  match regAt a with
  | some (fs, i, k) =>
    match fs with
    | F :: _ =>
      if s.arrayOff F.reg i || s.pathBlind p a then s else (s.regEffect p fs F.reg.addr i k v).settle
    | [] => s
  | none => s

/-- A write at an aligned address of the window: TRIAL outside Trial takes no write, and the write is an access fault (R452). -/
def State.windowPut (s : State) (p : Path) (a v : Nat) : State :=
  if 0xF00000 ≤ a then (if s.mode = .trial then s else (s.accessFault a p).settle) else s.regPut p a v

/-- A read at an aligned address of the window. -/
def State.windowGet (s : State) (p : Path) (a : Nat) : Nat × State := if s.pathBlind p a then (0, s) else s.regRead p a

/-- Words written at rising addresses from a, one handshake each (R104, R453). -/
def State.putWords (s : State) (p : Path) (a : Nat) : List Nat → State
  | [] => s
  | v :: r => (s.windowPut p a v).putWords p (a + 4) r

/-- n words read at rising addresses from a, one handshake each. -/
def State.getWords (s : State) (p : Path) (a : Nat) : Nat → List Nat × State
  | 0 => ([], s)
  | n + 1 =>
    let (v, s) := s.windowGet p a
    let (r, s) := s.getWords p (a + 4) n
    (v :: r, s)

/-! ### REG_WRITE (R9, R10) -/

/-- REG_WRITE: a path that the mode does not serve writes nothing (R454, R455); another width or alignment has no effect and logs
an access fault (R9). -/
def execRegWrite (path : Path) (addr width : Nat) (value : Word) (s : State) : Host.Outcome State Fault Refusal :=
  if ¬ s.regMode path then .next s
  else if width ≠ 4 ∨ addr % 4 ≠ 0 then done (s.accessFault addr path)
  else done (s.windowPut path addr value.toNat)

/-! ### The Register Window (R453, R454) -/

/-- The request is not valid (R454). -/
def windowBad (r : WindowReq) (op : Nat) : Bool :=
  r.op != op || r.count == 0 || 16 < r.count || !r.lenOk || r.addr % 4 != 0 || 0xFFFFFC < r.addr + 4 * (r.count - 1) ||
    (op == 2 && r.data.length != r.count)

/-- Every register of the range stands in GLOBAL, FUSE or BOOT. -/
def windowLow (r : WindowReq) : Bool :=
  let e := r.addr + 4 * (r.count - 1)
  e < 0x1000 || (0x10000 ≤ r.addr && e < 0x10100) || (0x20000 ≤ r.addr && e < 0x20100)

/-- The response of a request: OP, TAG, STATUS, then the data. -/
def State.windowReply (s : State) (r : WindowReq) (status : Nat) (data : List Nat := []) : State :=
  s.send .windowResp 0 [r.op, r.tag, status] data

/-- A served request is counted. -/
def State.windowCount (s : State) : State := s.addF R.GL_SB_STS_WINDOW_REQS

/-- REGISTER_WINDOW_READ (R453). Requests take no time here, so none is busy (notes/assumptions/46). -/
def execRegisterWindowRead (req : WindowReq) (s : State) : Host.Outcome State Fault Refusal :=
  if ¬ s.up then .next s
  else if windowBad req 1 then done ((s.accessFault req.addr .sideband).windowReply req 1)
  else if ¬ s.regMode .sideband (windowLow req) then done (s.windowReply req 2)
  else
    let (ds, t) := s.getWords .sideband req.addr req.count
    done (t.windowCount.windowReply req 0 ds)

/-- REGISTER_WINDOW_WRITE (R453). -/
def execRegisterWindowWrite (req : WindowReq) (s : State) : Host.Outcome State Fault Refusal :=
  if ¬ s.up then .next s
  else if windowBad req 2 then done ((s.accessFault req.addr .sideband).windowReply req 1)
  else if ¬ s.regMode .sideband then done (s.windowReply req 2)
  else done ((s.putWords .sideband req.addr (req.data.map fun (w : Word) => w.toNat)).windowCount.windowReply req 0)

/-! ### Set Register, Get Register, Get Event Log (R103, R104) -/

/-- An earlier-parsed Set Register or Get Register still waits for its turn (R455). -/
def State.regTurn (s : State) (c : Nat) : Bool :=
  !s.cmds.any fun (_, d) =>
    d.alive && decide (adminBase ≤ d.queue) && d.phase == .dispatched && (d.sqe.opc == 0xC1 || d.sqe.opc == 0xC2) &&
      decide (d.ord < (s.cmd c).ord)

/-- First address, count, and the checks of R104; a misaligned address is an access fault too (R9). Then k. -/
def State.regCommand (s : State) (c : Nat) (cm : Cmd) (read : Bool) (k : Nat → Nat → State) : State :=
  let a := cm.sqe.cdw10.toNat % 2 ^ 24
  let n := cm.sqe.cdw11.toNat % 64 + 1
  if a % 4 ≠ 0 then (s.accessFault a (.ctrl cm.cntlid)).failCmd c 0x02
  else if 0xFFFFFC < a + 4 * (n - 1) then s.failCmd c 0x02
  else
    match s.sglCheck c (4 * n) read with
    | some st => s.failCmd c st
    | none => k a n

/-- SET_REGISTER (R103, R104). -/
def execSetRegister (cmd : Nat) (s : State) : Host.Outcome State Fault Refusal :=
  if ¬ s.regTurn cmd then .next s
  else s.admStep cmd 0xC1 fun s cm _ =>
    s.regCommand cmd cm false fun a n =>
      ((s.putWords (.ctrl cm.cntlid) a ((List.range n).map fun i => ((cm.sqe.words[i]?).getD 0).toNat)).complete cmd)

/-- GET_REGISTER (R104). -/
def execGetRegister (cmd : Nat) (s : State) : Host.Outcome State Fault Refusal :=
  if ¬ s.regTurn cmd then .next s
  else s.admStep cmd 0xC2 fun s cm _ =>
    s.regCommand cmd cm true fun a n =>
      let (ds, t) := s.getWords (.ctrl cm.cntlid) a n
      t.answer cmd [a, n] ds

/-- GET_EVENT_LOG (R103, R460): entries of the ring from an index that wraps at 4,095, eight words each. -/
def execGetEventLog (cmd : Nat) (s : State) : Host.Outcome State Fault Refusal :=
  s.admStep cmd 0xC6 fun s cm _ =>
    let i := cm.sqe.cdw10.toNat % 4096
    let n := cm.sqe.cdw11.toNat % 128 + 1
    match s.sglCheck cmd (32 * n) true with
    | some st => s.failCmd cmd st
    | none =>
      s.answer cmd [i, n] (((List.range n).map fun j =>
        (List.range 8).map fun w => logWord (s.log.ring.get ((i + j) % 4096)) w).flatten)

/-! ### The Alert Response Address (R459) -/

/-- ALERT_RESPONSE: on SMBus, while SB_ALERT_N is asserted, the controller answers with its sideband address. -/
def execAlertResponse (s : State) : Host.Outcome State Fault Refusal :=
  if s.up ∧ ¬ s.on R.GL_SB_STS_BUS ∧ s.ctl.sbAlert then done (s.send .alertResp 0 [s.f R.FU_SBADDR_SB_ADDR]) else .next s

end Sys2Proof.Machine
end

