-- ==== Sys2Proof/Machine/Dispatch.lean ====
section
/-! DEFINITION. Dispatch.lean: one arm per command. -/

namespace Sys2Proof.Machine

/-- The effect of a command on everything but the queue (spec/opcode_table.json). -/
def exec (i : Instr) (s : State) : Host.Outcome State Fault Refusal :=
  match i with
  | .porstNRelease => Sys2Proof.Machine.execPorstNRelease s
  | .porstNAssert => Sys2Proof.Machine.execPorstNAssert s
  | .powerLoss => Sys2Proof.Machine.execPowerLoss s
  | .flushDone flush => Sys2Proof.Machine.execFlushDone flush s
  | .powerGoodTimer => Sys2Proof.Machine.execPowerGoodTimer s
  | .holdupOkRise => Sys2Proof.Machine.execHoldupOkRise s
  | .holdupArmTimer => Sys2Proof.Machine.execHoldupArmTimer s
  | .holdupOkFall => Sys2Proof.Machine.execHoldupOkFall s
  | .thermalTrip cmp => Sys2Proof.Machine.execThermalTrip cmp s
  | .tripFlushDone flush => Sys2Proof.Machine.execTripFlushDone flush s
  | .thermalRestExitTimer => Sys2Proof.Machine.execThermalRestExitTimer s
  | .sensorReading temps => Sys2Proof.Machine.execSensorReading temps s
  | .comparatorDisagreeTimer triplet => Sys2Proof.Machine.execComparatorDisagreeTimer triplet s
  | .envReqWrite env => Sys2Proof.Machine.execEnvReqWrite env s
  | .edgeSentinelFire src => Sys2Proof.Machine.execEdgeSentinelFire src s
  | .sourceQualified src => Sys2Proof.Machine.execSourceQualified src s
  | .freqCheck ppb => Sys2Proof.Machine.execFreqCheck ppb s
  | .oldInputRelease => Sys2Proof.Machine.execOldInputRelease s
  | .pllLocked step => Sys2Proof.Machine.execPllLocked step s
  | .pllLockTimeout => Sys2Proof.Machine.execPllLockTimeout s
  | .revertTimer => Sys2Proof.Machine.execRevertTimer s
  | .ckSwitch => Sys2Proof.Machine.execCkSwitch s
  | .ckPrioWrite hi value => Sys2Proof.Machine.execCkPrioWrite hi value s
  | .becalmedFlushDone us => Sys2Proof.Machine.execBecalmedFlushDone us s
  | .pacerCalStart => Sys2Proof.Machine.execPacerCalStart s
  | .pacerCalDone n => Sys2Proof.Machine.execPacerCalDone n s
  | .csiMeasure csi => Sys2Proof.Machine.execCsiMeasure csi s
  | .sampleBoundary powerMw vcoreMv => Sys2Proof.Machine.execSampleBoundary powerMw vcoreMv s
  | .govPassEnd => Sys2Proof.Machine.execGovPassEnd s
  | .writePauseEnd => Sys2Proof.Machine.execWritePauseEnd s
  | .sluiceRefill => Sys2Proof.Machine.execSluiceRefill s
  | .sluiceAdmit slice queue => Sys2Proof.Machine.execSluiceAdmit slice queue s
  | .sluicePieceCharge cmd => Sys2Proof.Machine.execSluicePieceCharge cmd s
  | .gvProfileCommit path => Sys2Proof.Machine.execGvProfileCommit path s
  | .gvProfileLoad path => Sys2Proof.Machine.execGvProfileLoad path s
  | .gvModeReqWrite path req => Sys2Proof.Machine.execGvModeReqWrite path req s
  | .gvManUWrite path j value => Sys2Proof.Machine.execGvManUWrite path j value s
  | .slCreate path => Sys2Proof.Machine.execSlCreate path s
  | .slModify path => Sys2Proof.Machine.execSlModify path s
  | .slReset path => Sys2Proof.Machine.execSlReset path s
  | .resetFenceWaitEnd slice => Sys2Proof.Machine.execResetFenceWaitEnd slice s
  | .taggedOpsZero slice => Sys2Proof.Machine.execTaggedOpsZero slice s
  | .resetSlowTimer slice => Sys2Proof.Machine.execResetSlowTimer slice s
  | .slDelete path => Sys2Proof.Machine.execSlDelete path s
  | .slLoad path => Sys2Proof.Machine.execSlLoad path s
  | .slHoldWrite n value => Sys2Proof.Machine.execSlHoldWrite n value s
  | .originCommit path => Sys2Proof.Machine.execOriginCommit path s
  | .originInvalidate path => Sys2Proof.Machine.execOriginInvalidate path s
  | .ptCfgWrite port value => Sys2Proof.Machine.execPtCfgWrite port value s
  | .linkDisable link => Sys2Proof.Machine.execLinkDisable link s
  | .linkRetrain link => Sys2Proof.Machine.execLinkRetrain link s
  | .linkAddressCommit path port => Sys2Proof.Machine.execLinkAddressCommit path port s
  | .linkSignalDetect link => Sys2Proof.Machine.execLinkSignalDetect link s
  | .linkUpTimer link => Sys2Proof.Machine.execLinkUpTimer link s
  | .linkLoss link => Sys2Proof.Machine.execLinkLoss link s
  | .arpRequest link ip => Sys2Proof.Machine.execArpRequest link ip s
  | .neighborSolicitation link ip => Sys2Proof.Machine.execNeighborSolicitation link ip s
  | .pfcPauseRx link prio => Sys2Proof.Machine.execPfcPauseRx link prio s
  | .tcpSyn conn link dport => Sys2Proof.Machine.execTcpSyn conn link dport s
  | .tcpAckRx conn slots ack => Sys2Proof.Machine.execTcpAckRx conn slots ack s
  | .tcpRstRx conn => Sys2Proof.Machine.execTcpRstRx conn s
  | .tcpFinRx conn => Sys2Proof.Machine.execTcpFinRx conn s
  | .tcpRtoExpiry conn => Sys2Proof.Machine.execTcpRtoExpiry conn s
  | .tcpGiveupExpiry conn => Sys2Proof.Machine.execTcpGiveupExpiry conn s
  | .icreq conn req => Sys2Proof.Machine.execIcreq conn req s
  | .capsuleCmd conn sqe rx => Sys2Proof.Machine.execCapsuleCmd conn sqe rx s
  | .h2cdata conn pdu rx => Sys2Proof.Machine.execH2cdata conn pdu rx s
  | .h2ctermreq conn => Sys2Proof.Machine.execH2ctermreq conn s
  | .tlsClientHello conn hello => Sys2Proof.Machine.execTlsClientHello conn hello s
  | .tlsKeyUpdate conn => Sys2Proof.Machine.execTlsKeyUpdate conn s
  | .cmReq conn link req => Sys2Proof.Machine.execCmReq conn link req s
  | .cmDreq conn => Sys2Proof.Machine.execCmDreq conn s
  | .rdmaSendCapsule conn sqe ce rx => Sys2Proof.Machine.execRdmaSendCapsule conn sqe ce rx s
  | .cnpRx conn => Sys2Proof.Machine.execCnpRx conn s
  | .hopperDataWrite conn wr rx => Sys2Proof.Machine.execHopperDataWrite conn wr rx s
  | .ownerWordWrite conn rkey va len value => Sys2Proof.Machine.execOwnerWordWrite conn rkey va len value s
  | .rdmaReadResponse conn rid icrcOk resp => Sys2Proof.Machine.execRdmaReadResponse conn rid icrcOk resp s
  | .rdmaAckRx conn ack => Sys2Proof.Machine.execRdmaAckRx conn ack s
  | .rdmaAckTimeout conn => Sys2Proof.Machine.execRdmaAckTimeout conn s
  | .queueRelease queue => Sys2Proof.Machine.execQueueRelease queue s
  | .keepAliveExpiry cntlid => Sys2Proof.Machine.execKeepAliveExpiry cntlid s
  | .mdnsQuery link => Sys2Proof.Machine.execMdnsQuery link s
  | .mdnsAnnounceRepeat link => Sys2Proof.Machine.execMdnsAnnounceRepeat link s
  | .ptDiscCtlWrite value => Sys2Proof.Machine.execPtDiscCtlWrite value s
  | .connectAdmin conn cid req => Sys2Proof.Machine.execConnectAdmin conn cid req s
  | .connectIo conn cid req => Sys2Proof.Machine.execConnectIo conn cid req s
  | .disconnect cmd => Sys2Proof.Machine.execDisconnect cmd s
  | .propertyGet cmd => Sys2Proof.Machine.execPropertyGet cmd s
  | .propertySet cmd => Sys2Proof.Machine.execPropertySet cmd s
  | .authenticationSend cmd => Sys2Proof.Machine.execAuthenticationSend cmd s
  | .authenticationReceive cmd => Sys2Proof.Machine.execAuthenticationReceive cmd s
  | .getLogPage cmd => Sys2Proof.Machine.execGetLogPage cmd s
  | .identify cmd => Sys2Proof.Machine.execIdentify cmd s
  | .abort cmd => Sys2Proof.Machine.execAbort cmd s
  | .setFeatures cmd => Sys2Proof.Machine.execSetFeatures cmd s
  | .getFeatures cmd => Sys2Proof.Machine.execGetFeatures cmd s
  | .asyncEventRequest cmd => Sys2Proof.Machine.execAsyncEventRequest cmd s
  | .nsCreate cmd => Sys2Proof.Machine.execNsCreate cmd s
  | .nsDelete cmd => Sys2Proof.Machine.execNsDelete cmd s
  | .nsAttachment cmd => Sys2Proof.Machine.execNsAttachment cmd s
  | .firmwareImageDownload cmd mon => Sys2Proof.Machine.execFirmwareImageDownload cmd mon s
  | .firmwareCommit cmd obj readBack mon => Sys2Proof.Machine.execFirmwareCommit cmd obj readBack mon s
  | .fwActivationReset => Sys2Proof.Machine.execFwActivationReset s
  | .keepAlive cmd => Sys2Proof.Machine.execKeepAlive cmd s
  | .directiveSend cmd => Sys2Proof.Machine.execDirectiveSend cmd s
  | .directiveReceive cmd => Sys2Proof.Machine.execDirectiveReceive cmd s
  | .formatNvm cmd => Sys2Proof.Machine.execFormatNvm cmd s
  | .securitySend cmd => Sys2Proof.Machine.execSecuritySend cmd s
  | .securityReceive cmd => Sys2Proof.Machine.execSecurityReceive cmd s
  | .sanitizeBlockErase cmd => Sys2Proof.Machine.execSanitizeBlockErase cmd s
  | .sanitizeCryptoErase cmd => Sys2Proof.Machine.execSanitizeCryptoErase cmd s
  | .sanitizeExitFailure cmd => Sys2Proof.Machine.execSanitizeExitFailure cmd s
  | .setRegister cmd => Sys2Proof.Machine.execSetRegister cmd s
  | .getRegister cmd => Sys2Proof.Machine.execGetRegister cmd s
  | .getEventLog cmd => Sys2Proof.Machine.execGetEventLog cmd s
  | .flush cmd => Sys2Proof.Machine.execFlush cmd s
  | .write cmd => Sys2Proof.Machine.execWrite cmd s
  | .read cmd sram => Sys2Proof.Machine.execRead cmd sram s
  | .writeZeroes cmd => Sys2Proof.Machine.execWriteZeroes cmd s
  | .datasetManagement cmd => Sys2Proof.Machine.execDatasetManagement cmd s
  | .verify cmd => Sys2Proof.Machine.execVerify cmd s
  | .zoneOpen cmd => Sys2Proof.Machine.execZoneOpen cmd s
  | .zoneClose cmd => Sys2Proof.Machine.execZoneClose cmd s
  | .zoneFinish cmd => Sys2Proof.Machine.execZoneFinish cmd s
  | .zoneReset cmd => Sys2Proof.Machine.execZoneReset cmd s
  | .zoneResetEffect cmd => Sys2Proof.Machine.execZoneResetEffect cmd s
  | .zoneOffline cmd => Sys2Proof.Machine.execZoneOffline cmd s
  | .zoneSetDescExt cmd => Sys2Proof.Machine.execZoneSetDescExt cmd s
  | .reportZones cmd => Sys2Proof.Machine.execReportZones cmd s
  | .extendedReportZones cmd => Sys2Proof.Machine.execExtendedReportZones cmd s
  | .zoneAppend cmd => Sys2Proof.Machine.execZoneAppend cmd s
  | .kpioInjectKey cntlid nsid tag key => Sys2Proof.Machine.execKpioInjectKey cntlid nsid tag key s
  | .kpioClearKey cntlid nsid tag => Sys2Proof.Machine.execKpioClearKey cntlid nsid tag s
  | .tcgLevel0Discovery cntlid => Sys2Proof.Machine.execTcgLevel0Discovery cntlid s
  | .spdmGetVersion via => Sys2Proof.Machine.execSpdmGetVersion via s
  | .spdmGetCapabilities via => Sys2Proof.Machine.execSpdmGetCapabilities via s
  | .spdmNegotiateAlgorithms via asym hash => Sys2Proof.Machine.execSpdmNegotiateAlgorithms via asym hash s
  | .spdmGetDigests via => Sys2Proof.Machine.execSpdmGetDigests via s
  | .spdmGetCertificate via slot => Sys2Proof.Machine.execSpdmGetCertificate via slot s
  | .spdmChallenge via slot nonce => Sys2Proof.Machine.execSpdmChallenge via slot nonce s
  | .spdmGetMeasurements via index sign nonce => Sys2Proof.Machine.execSpdmGetMeasurements via index sign nonce s
  | .spdmChunkSend via seq last data => Sys2Proof.Machine.execSpdmChunkSend via seq last data s
  | .spdmChunkGet via seq => Sys2Proof.Machine.execSpdmChunkGet via seq s
  | .spdmVendorSlhChain via => Sys2Proof.Machine.execSpdmVendorSlhChain via s
  | .spdmVendorSlhSignature via => Sys2Proof.Machine.execSpdmVendorSlhSignature via s
  | .slotGrant slice => Sys2Proof.Machine.execSlotGrant slice s
  | .readSlotsTake take => Sys2Proof.Machine.execReadSlotsTake take s
  | .readReserveTimer slice => Sys2Proof.Machine.execReadReserveTimer slice s
  | .stagingAdmit slot => Sys2Proof.Machine.execStagingAdmit slot s
  | .aesStaged slot sram => Sys2Proof.Machine.execAesStaged slot sram s
  | .slotCleared slot => Sys2Proof.Machine.execSlotCleared slot s
  | .readMergeDone slot => Sys2Proof.Machine.execReadMergeDone slot s
  | .slotSent slot poison => Sys2Proof.Machine.execSlotSent slot poison s
  | .spillDwellTimer zone => Sys2Proof.Machine.execSpillDwellTimer zone s
  | .spillHoldMaxTimer zone => Sys2Proof.Machine.execSpillHoldMaxTimer zone s
  | .programStart crew seat => Sys2Proof.Machine.execProgramStart crew seat s
  | .eraseStart crew seat => Sys2Proof.Machine.execEraseStart crew seat s
  | .busGrant lane die strobe data => Sys2Proof.Machine.execBusGrant lane die strobe data s
  | .strokeSlotOpen lane => Sys2Proof.Machine.execStrokeSlotOpen lane s
  | .recipeWaitExpiry lane die => Sys2Proof.Machine.execRecipeWaitExpiry lane die s
  | .pollInterval lane die status => Sys2Proof.Machine.execPollInterval lane die status s
  | .recipeEnd lane die => Sys2Proof.Machine.execRecipeEnd lane die s
  | .logHoldTimer => Sys2Proof.Machine.execLogHoldTimer s
  | .relocJobStart => Sys2Proof.Machine.execRelocJobStart s
  | .tallySegmentStart => Sys2Proof.Machine.execTallySegmentStart s
  | .ledgerClockMinute => Sys2Proof.Machine.execLedgerClockMinute s
  | .ledgerClockRecord => Sys2Proof.Machine.execLedgerClockRecord s
  | .patrolRead shell row seat page => Sys2Proof.Machine.execPatrolRead shell row seat page s
  | .codewordDecoded lane cw res => Sys2Proof.Machine.execCodewordDecoded lane cw res s
  | .parityRebuildDone cw => Sys2Proof.Machine.execParityRebuildDone cw s
  | .selftestStart lane => Sys2Proof.Machine.execSelftestStart lane s
  | .selftestDone lane fails defect => Sys2Proof.Machine.execSelftestDone lane fails defect s
  | .easyIntervalEnd lane die => Sys2Proof.Machine.execEasyIntervalEnd lane die s
  | .divStep lane => Sys2Proof.Machine.execDivStep lane s
  | .tempReadTimer lane raw => Sys2Proof.Machine.execTempReadTimer lane raw s
  | .retrainAgeTimer lane => Sys2Proof.Machine.execRetrainAgeTimer lane s
  | .retrainRecheckTimer lane => Sys2Proof.Machine.execRetrainRecheckTimer lane s
  | .lnRetrain lane => Sys2Proof.Machine.execLnRetrain lane s
  | .retrainTrainingDone lane failed cal => Sys2Proof.Machine.execRetrainTrainingDone lane failed cal s
  | .laneRecoveryDone lane ok => Sys2Proof.Machine.execLaneRecoveryDone lane ok s
  | .shForceWrite value => Sys2Proof.Machine.execShForceWrite value s
  | .busyBudgetWrite crew value => Sys2Proof.Machine.execBusyBudgetWrite crew value s
  | .dramRefresh ch => Sys2Proof.Machine.execDramRefresh ch s
  | .dramMr4Poll ch doubled => Sys2Proof.Machine.execDramMr4Poll ch doubled s
  | .dramRetrainWindow ch => Sys2Proof.Machine.execDramRetrainWindow ch s
  | .dramRetrainWindowEnd ch ns => Sys2Proof.Machine.execDramRetrainWindowEnd ch ns s
  | .dramAgePromote ch => Sys2Proof.Machine.execDramAgePromote ch s
  | .dramRequestIssue ch req => Sys2Proof.Machine.execDramRequestIssue ch req s
  | .dramReadComplete ch flip => Sys2Proof.Machine.execDramReadComplete ch flip s
  | .drMark ch dev => Sys2Proof.Machine.execDrMark ch dev s
  | .drClear ch => Sys2Proof.Machine.execDrClear ch s
  | .remapInstall path ch => Sys2Proof.Machine.execRemapInstall path ch s
  | .remapRemove path ch => Sys2Proof.Machine.execRemapRemove path ch s
  | .scrubStart => Sys2Proof.Machine.execScrubStart s
  | .scrubStop => Sys2Proof.Machine.execScrubStop s
  | .scrubLine flip => Sys2Proof.Machine.execScrubLine flip s
  | .dramPatrolStep => Sys2Proof.Machine.execDramPatrolStep s
  | .trainingRun ch errors => Sys2Proof.Machine.execTrainingRun ch errors s
  | .trainRetryTimer found => Sys2Proof.Machine.execTrainRetryTimer found s
  | .lbRawRead => Sys2Proof.Machine.execLbRawRead s
  | .lbRawWrite => Sys2Proof.Machine.execLbRawWrite s
  | .lbDataOnlyWrite => Sys2Proof.Machine.execLbDataOnlyWrite s
  | .lbCheckOnlyWrite => Sys2Proof.Machine.execLbCheckOnlyWrite s
  | .lbPoisonWrite => Sys2Proof.Machine.execLbPoisonWrite s
  | .lbCorrectedRead => Sys2Proof.Machine.execLbCorrectedRead s
  | .lockstepMismatch cp => Sys2Proof.Machine.execLockstepMismatch cp s
  | .watchdogExpiry cp => Sys2Proof.Machine.execWatchdogExpiry cp s
  | .takeoverDone => Sys2Proof.Machine.execTakeoverDone s
  | .bootRefWaitTimer => Sys2Proof.Machine.execBootRefWaitTimer s
  | .bootReferenceReady norOk => Sys2Proof.Machine.execBootReferenceReady norOk s
  | .bootImageVerified a b monitor => Sys2Proof.Machine.execBootImageVerified a b monitor s
  | .bootIdolobAccepted c0 c1 probe => Sys2Proof.Machine.execBootIdolobAccepted c0 c1 probe s
  | .secondImageVerify other => Sys2Proof.Machine.execSecondImageVerify other s
  | .discoveryDone => Sys2Proof.Machine.execDiscoveryDone s
  | .rebuildDone bad => Sys2Proof.Machine.execRebuildDone bad s
  | .featheredIdleTimeout => Sys2Proof.Machine.execFeatheredIdleTimeout s
  | .featheredRequest => Sys2Proof.Machine.execFeatheredRequest s
  | .trialRequest => Sys2Proof.Machine.execTrialRequest s
  | .trialExitRequest => Sys2Proof.Machine.execTrialExitRequest s
  | .monitorRestartRequest => Sys2Proof.Machine.execMonitorRestartRequest s
  | .tokenProvision tok => Sys2Proof.Machine.execTokenProvision tok s
  | .tokenDeploy tok => Sys2Proof.Machine.execTokenDeploy tok s
  | .tokenReturn tok => Sys2Proof.Machine.execTokenReturn tok s
  | .tokenRevoke tok => Sys2Proof.Machine.execTokenRevoke tok s
  | .tokenTrial tok => Sys2Proof.Machine.execTokenTrial tok s
  | .tokenDebugUnlock tok => Sys2Proof.Machine.execTokenDebugUnlock tok s
  | .tokenFuseSet tok => Sys2Proof.Machine.execTokenFuseSet tok s
  | .norRead => Sys2Proof.Machine.execNorRead s
  | .norProgram => Sys2Proof.Machine.execNorProgram s
  | .norErase => Sys2Proof.Machine.execNorErase s
  | .norOpDone ok => Sys2Proof.Machine.execNorOpDone ok s
  | .pskCommit path => Sys2Proof.Machine.execPskCommit path s
  | .pskInvalidate path => Sys2Proof.Machine.execPskInvalidate path s
  | .rngHealthFail => Sys2Proof.Machine.execRngHealthFail s
  | .rngReseedDone => Sys2Proof.Machine.execRngReseedDone s
  | .registerWindowRead req => Sys2Proof.Machine.execRegisterWindowRead req s
  | .registerWindowWrite req => Sys2Proof.Machine.execRegisterWindowWrite req s
  | .alertResponse => Sys2Proof.Machine.execAlertResponse s
  | .i3cEntdaa addr => Sys2Proof.Machine.execI3cEntdaa addr s
  | .i3cSetdasa stat addr => Sys2Proof.Machine.execI3cSetdasa stat addr s
  | .regWrite path addr width value => Sys2Proof.Machine.execRegWrite path addr width value s
  | .pwrgdInRise => Sys2Proof.Machine.execPwrgdInRise s
  | .edgeSentinelClear src => Sys2Proof.Machine.execEdgeSentinelClear src s
  | .tlsClientFinished conn ok => Sys2Proof.Machine.execTlsClientFinished conn ok s
  | .pfcPauseExpiry link prio => Sys2Proof.Machine.execPfcPauseExpiry link prio s
  | .managerControllerReset => Sys2Proof.Machine.execManagerControllerReset s
  | .nvmeMiMessage tag opc data => Sys2Proof.Machine.execNvmeMiMessage tag opc data s
  | .hostRdmaReadOrAtomic conn va => Sys2Proof.Machine.execHostRdmaReadOrAtomic conn va s
  | .dramAlertN ch => Sys2Proof.Machine.execDramAlertN ch s
  | .jtagInstruction instr => Sys2Proof.Machine.execJtagInstruction instr s

end Sys2Proof.Machine
end

