-- ==== Sys2Proof/Safety.lean ====
section
/-! DEFINITION. Safety.lean: the terms of the claims: a safe state of the block, what a command may change, and what it sends. -/

namespace Sys2Proof.Machine

/-- The alert pin follows the enabled event summary (R459): SB_ALERT_N is asserted exactly while GL_EVT_SUM AND GL_EVT_EN is not
zero. -/
def State.alertRight (s : State) : Prop := s.ctl.sbAlert = ((s.evtSum &&& s.f R.GL_EVT_EN_EN) != 0)

/-- Every occurrence of a handshake has its Event Log entry by the handshake's end (R461). -/
def State.allLogged (s : State) : Prop := s.ctl.evq = []

/-- A state between handshakes: nothing waits to be logged, and the alert pin is right. -/
def State.Settled (s : State) : Prop := s.allLogged ∧ s.alertRight

/-- A step ends in a next state. -/
def State.Runs (s : State) : Prop := ∃ t, step s = .next t

/-- The message that the block raises on I3C when SB_ALERT_N is asserted (R459). -/
def ibiMsg : Msg := { kind := .ibi, dst := 0, args := [0xAE], data := [] }

/-- FRAME. From s to t only the register fields under the keys `ks` may change, with what the end of a handshake does: LOG_WRAP, the
alert count, the Event Log, the alert pin and its IBI (R459, R461). Everything else of t is that of s. -/
def State.Only (s t : State) (ks : List Nat) : Prop :=
  (∀ (F : R.Fld) (i k : Nat), F.key i k ∉ ks → F.key i k ≠ R.GL_EVT_LOG_WRAP.key 0 0 → F.key i k ≠ R.GL_SB_STS_ALERTS.key 0 0 →
    t.f F i k = s.f F i k) ∧
  t = { s with fields := t.fields, log := t.log,
               ctl := { s.ctl with evq := t.ctl.evq, sbAlert := t.ctl.sbAlert, out := t.ctl.out } } ∧
  (t.ctl.out = s.ctl.out ∨ t.ctl.out = ibiMsg :: s.ctl.out)

/-- A message is among those that t has sent, or that a received pause still holds back (R51). -/
def State.Sent (t : State) (kind : MK) (dst : Nat) (args data : List Nat) : Prop :=
  ∃ m ∈ t.ctl.out ++ t.ctl.held, m.kind = kind ∧ m.dst = dst ∧ m.args = args ∧ m.data = data

/-- FRAME of one message. From s to t a message goes out, or waits for the end of the pause that holds it (R51); but for it and for the
connections, which may hold it as outstanding (R482), t is s with the fields under `ks` changed. -/
def State.Sends (s t : State) (kind : MK) (dst : Nat) (args data : List Nat) (ks : List Nat) : Prop :=
  ∃ m : Msg, m.kind = kind ∧ m.dst = dst ∧ m.args = args ∧ m.data = data ∧
    State.Only { s with conns := t.conns, ctl := s.ctl.post m (s.pauseHolds m) } t ks

/-- A frame of connection c arrives in s, and its link takes it; u is the state in which what it carries acts: after the activity that
a frame is in Feathered (R40), the pause that a full buffer sends (R51), the memory words read (R442), and the CNP that a CE mark
produces (Table 02-6). -/
def State.Heard (s : State) (c : Nat) (rx : RxFrame) (u : State) : Prop :=
  ∃ v, s.arrive (s.conn c).link rx = some (v, true) ∧
    u = if (s.conn c).rdma = true ∧ rx.ce = true ∧ (s.conn c).alive = true then v.send .cnp c else v

/-- Command c of s has completed in t: its completion (R87) is posted with SQHD advanced, the status, DNR and both dwords, with the
remote key that a SEND with Invalidate names (Table 02-6), and its command-table entry is free (R81). -/
def State.Posted (s t : State) (c status dw0 dw1 : Nat) : Prop :=
  t.Sent .completion (s.cmd c).conn
    ([(s.cmd c).sqe.cid, ((s.queue (s.cmd c).queue).sqhd + 1) % ((s.queue (s.cmd c).queue).sqsize + 1), status, b2n (dnrOf status),
     dw0, dw1] ++ invalidates (s.cmd c).sqe) [] ∧
  t.cmd c = {}

/-- An admin command of one opcode, not fused (R89), waits for its step, in a mode that runs admin commands. -/
abbrev State.AdmDue (s : State) (c opc : Nat) : Prop := s.admCmd c opc = true ∧ s.modeIn adminModes = true ∧ (s.cmd c).mute = false ∧
  (s.cmd c).sqe.fuse = 0

/-- A Fabrics command of one type, not fused (R89), waits for its step. -/
abbrev State.FabDue (s : State) (c ty : Nat) : Prop := s.fabricsCmd c ty = true ∧ (s.cmd c).mute = false ∧ (s.cmd c).sqe.fuse = 0

/-- An I/O command of one opcode is the next of its stream to run (R86), its queue not deleted. -/
abbrev State.IoDue (s : State) (c opc : Nat) : Prop := s.ioReady c [opc] = true ∧ (s.cmd c).mute = false

/-- An I/O command that its checks let run on namespace n (R89, R99, R151). -/
abbrev State.IoRuns (s : State) (c opc n : Nat) : Prop := s.IoDue c opc ∧ s.ioCheck c = .ok n

/-- Command c as its step begins in namespace n: the fields that its submission gives are set out (Table 03-6). -/
def State.begun (s : State) (c n : Nat) : State :=
  s.modCmd c fun x => { x with ns := n, lba := sqeLba x.sqe, nlb := sqeNlb x.sqe }

/-- The entry that an event's occurrence makes (Table 17-4). -/
def State.entryOf (s : State) (F : R.Fld) (p1 p2 p3 i : Nat) : LogEntry :=
  { tb := s.clk.tb, code := sourceOf (F.reg.at i 0) * 256 + F.lo, sev := severity (sourceOf (F.reg.at i 0)) F.lo, mode := s.mode.num,
    seq := s.log.seq % 2 ^ 32, p0 := i, p1 := p1, p2 := p2, p3 := p3 }

end Sys2Proof.Machine
end

