-- ==== Sys2Proof/Certificates/Slice0/Obligations.lean ====
section
/-! DEFINITION. Obligations.lean: the statements for the provers, one definition each. Each formalises the rules of spec/ that its
docstring names; `exec c s = .next t` says that command c completes in state s and leaves t. -/

section
open Sys2Proof Sys2Proof.Machine

/-! ### The block as a whole -/

/-- At reset nothing waits for the Event Log and the alert pin is right (R459, R461). -/
def Obligations.ResetIsSettled : Prop := State.reset.Settled

/-- Every step keeps the alert pin equal to the enabled event summary (R459) and leaves no occurrence without its entry (R461),
whatever command is at the front of the queue and whatever state the block is in. -/
def Obligations.StepKeepsSettled : Prop := ∀ s t : State, s.Settled → step s = .next t → t.Settled

/-- No command and no state stops the block: every step answers a next state. That a command whose precondition does not hold
leaves the state as it is, is the model's choice (notes/assumptions/11). -/
def Obligations.EveryStepRuns : Prop := ∀ s : State, s.Runs

/-- A step takes the command at the front of the queue and runs it on the state with the queue's rest. The queue of waiting
commands is the model's (notes/assumptions/62). -/
def Obligations.StepRunsFrontCommand : Prop :=
  ∀ (s : State) (c : Instr) (r : List Instr), s.pending = c :: r → step s = exec c { s with pending := r }

/-- With no command waiting, the block idles for one tick of the Time Base (the model's choice, notes/assumptions/47): the count
rises by one on the lane PLL (R369), stands while a negative phase step holds it (R370), and on an uncalibrated Pacer advances by
2.875 ticks, the fraction carried (R371). -/
def Obligations.IdleStepTicks : Prop :=
  (∀ s : State, s.pending = [] → s.mode ≠ .off → s.clk.held = false → s.on R.CK_SEL_TB_PACER = false →
    s.f R.CK_SEL_SELECTED ≠ 15 → s.clk.stepHold = 0 → step s = .next { s with clk := { s.clk with tb := s.clk.tb + 1 } }) ∧
  (∀ s : State, s.pending = [] → s.mode ≠ .off → s.clk.held = false → s.on R.CK_SEL_TB_PACER = false →
    s.f R.CK_SEL_SELECTED ≠ 15 → 0 < s.clk.stepHold →
    step s = .next { s with clk := { s.clk with stepHold := s.clk.stepHold - 1 } }) ∧
  (∀ s : State, s.pending = [] → s.mode ≠ .off → s.clk.held = false → s.f R.CK_SEL_SELECTED = 15 →
    s.on R.CK_PACER_CALIBRATED = false →
    ∃ t, step s = .next t ∧ t.clk.tb * 16384 + t.clk.frac = s.clk.tb * 16384 + s.clk.frac + 47104 ∧ t.clk.frac < 16384)

/-- An event's entry stands at index SEQ mod 4,096 (R460); with the ring full LOG_WRAP is set, and while it is set already the
overwrite makes no entry of its own (R461). Two events of one handshake enter the log in ascending CODE, whichever occurred first
(R461). -/
def Obligations.EventsEnterLog : Prop :=
  (∀ (s : State) (F : R.Fld) (p1 p2 p3 i : Nat), s.allLogged → s.log.seq < 4096 → F.lo < 32 →
    (s.raise F p1 p2 p3 i).settle.log =
      { ring := s.log.ring.set (s.log.seq % 4096) (s.entryOf F p1 p2 p3 i), seq := s.log.seq + 1 }) ∧
  (∀ (s : State) (F : R.Fld) (p1 p2 p3 i : Nat), s.allLogged → 4096 ≤ s.log.seq → s.on R.GL_EVT_LOG_WRAP = true →
    F.key i 0 ≠ R.GL_EVT_LOG_WRAP.key 0 0 → F.lo < 32 →
    (s.raise F p1 p2 p3 i).settle.log =
      { ring := s.log.ring.set (s.log.seq % 4096) (s.entryOf F p1 p2 p3 i), seq := s.log.seq + 1 } ∧
    (s.raise F p1 p2 p3 i).settle.f R.GL_EVT_LOG_WRAP = 1) ∧
  (∀ (s : State) (F G : R.Fld) (p1 p2 p3 i : Nat), s.allLogged → s.log.seq < 4095 → F.lo < 32 → G.lo < 32 →
    sourceOf (G.reg.at i 0) * 256 + G.lo < sourceOf (F.reg.at i 0) * 256 + F.lo →
    ((s.raise F p1 p2 p3 i).raise G p1 p2 p3 i).settle.log =
      { ring := (s.log.ring.set (s.log.seq % 4096) (s.entryOf G p1 p2 p3 i)).set ((s.log.seq + 1) % 4096)
          { s.entryOf F p1 p2 p3 i with seq := (s.log.seq + 1) % 2 ^ 32 },
        seq := s.log.seq + 2 })

/-! ### Power, PORST_N and thermal (14, Table 01-8) -/

/-- PORST_N and supply loss. A release of PORST_N begins Bootstrap with the Time Base at 0 (R369); in the modes without a flush an
assertion leads to Bootstrap and a supply loss to Off, where flash, the fuses and the queue remain (Table 01-8, R35). Hold-up
Flush: its entry cuts Easy on every lane (R394); its end lets HOLDUP_EN fall and disarms hold-up, and without a supply, or cut
short, it leaves the part Off (R394); 10 ms of good power lead to Bootstrap, or to Thermal Rest with a trip latched (R34, R37).
That a part without power keeps no register field and no command is the reading of notes/assumptions/27 and 61. -/
def Obligations.PowerLossAndReturn : Prop :=
  (∀ s : State, s.mode = .off → s.life ≠ 4 → s.life ≠ 5 →
    ∃ t, exec .porstNRelease s = .next t ∧ t.mode = .bootstrap ∧ t.clk.tb = 0 ∧ t.ctl.prev = 0 ∧ t.ctl.trigger = 1 ∧
      t.f R.BT_STS_STEP = 3) ∧
  (∀ s : State, s.mode = .bootstrap → s.life ≠ 4 → s.life ≠ 5 →
    ∃ t, exec .porstNRelease s = .next t ∧ t.mode = .bootstrap ∧ t.clk.tb = 0 ∧ t.pwr.porst = false ∧ t.f R.BT_STS_STEP = 3) ∧
  (∀ s : State, s.mode ∈ [Mode.bootstrap, .discovery, .trial, .sealed] → (∀ l, s.linkUp l = false) →
    ∃ t, exec .porstNAssert s = .next t ∧ t.mode = .bootstrap ∧ t.ctl.trigger = 0x13 ∧ t.ctl.prev = s.mode.num ∧
      t.pwr.porst = true ∧ t.conns = [] ∧ t.cmds = [] ∧ t.disk = s.disk) ∧
  (∀ s : State, s.mode ∈ [Mode.bootstrap, .discovery, .trial, .sealed] →
    ∃ t, exec .powerLoss s = .next t ∧ t.mode = .off ∧ t.ctl.trigger = 0x12 ∧ t.ctl.prev = s.mode.num ∧ t.fields = [] ∧
      t.cmds = [] ∧ t.disk = s.disk ∧ t.boot.fuses = s.boot.fuses ∧ t.pending = s.pending) ∧
  (∀ s : State, s.mode ∈ flushModes → ∃ t, exec .powerLoss s = .next t ∧ ∀ l, l < 32 → t.f R.LN_EASY_EASY l = 0) ∧
  (∀ (us : Nat) (s : State), s.mode = .holdupFlush → s.pwr.flushEnded = false → s.pwr.supplyLost = false →
    ∃ t, exec (.flushDone { us }) s = .next t ∧ t.pwr.flushEnded = true ∧ t.f R.PW_STS_HOLDUP_EN = 0 ∧ t.f R.PW_STS_ARMED = 0) ∧
  (∀ (us : Nat) (s : State), s.mode = .holdupFlush → s.pwr.flushEnded = false → s.pwr.supplyLost = true →
    ∃ t, exec (.flushDone { us }) s = .next t ∧ t.mode = .off ∧ t.fields = [] ∧ t.cmds = []) ∧
  (∀ (us : Nat) (s : State), s.mode = .holdupFlush → s.pwr.flushEnded = false →
    ∃ t, exec (.flushDone ⟨us, false⟩) s = .next t ∧ t.mode = .off ∧ t.fields = [] ∧ t.disk = s.disk) ∧
  (∀ s : State, s.mode = .holdupFlush → s.pwr.flushEnded = true → s.on R.TH_TRIP_LATCH = true →
    ∃ t, exec .powerGoodTimer s = .next t ∧ t.mode = .thermalRest ∧ t.ctl.trigger = 0x14 ∧ t.ctl.prev = 8 ∧
      t.pwr.supplyLost = false ∧ t.clk.held = (s.on R.CK_SEL_TB_PACER || s.f R.CK_SEL_SELECTED == 15)) ∧
  (∀ s : State, s.mode = .holdupFlush → s.pwr.flushEnded = true → s.on R.TH_TRIP_LATCH = false → s.life ≠ 4 → s.life ≠ 5 →
    (∀ l, s.linkUp l = false) →
    ∃ t, exec .powerGoodTimer s = .next t ∧ t.mode = .bootstrap ∧ t.ctl.trigger = 0x14 ∧ t.ctl.prev = 8 ∧ t.cmds = [])

/-- The hold-up pins and arming (R391, R392, R393): a rise of HOLDUP_OK shows it and nothing else; the arming timer names the
reservation, and with one arms hold-up and sets ACK_RULE to 1, after which completions that are due are posted (R22); a fall shows
HOLDUP_OK 0 and disarms before the partial rows spill. -/
def Obligations.HoldupArming : Prop :=
  (∀ s : State, s.mode ≠ .off →
    ∃ t, exec .holdupOkRise s = .next t ∧ t.f R.PW_STS_HOLDUP_OK = 1 ∧ s.Only t [R.PW_STS_HOLDUP_OK.key 0 0]) ∧
  (∀ s : State, s.mode ≠ .off → s.holdupEn = true → s.on R.PW_STS_HOLDUP_OK = true → s.on R.PW_STS_ARMED = false →
    s.reserve.on R.PW_STS_RESERVED_OK = true →
    ∃ u : State, exec .holdupArmTimer s = .next u.postReady.settle ∧ u.f R.PW_STS_ARMED = 1 ∧ u.f R.RC_ACK_STS_ACK_RULE = 1 ∧
      u.f R.PW_EVT_ARMED = 1 ∧ u.cmds = s.cmds ∧ u.media = s.media) ∧
  (∀ s : State, s.mode ≠ .off → s.holdupEn = true → s.on R.PW_STS_HOLDUP_OK = true → s.on R.PW_STS_ARMED = false →
    s.reserve.on R.PW_STS_RESERVED_OK = false →
    ∃ t, exec .holdupArmTimer s = .next t ∧ t.f R.PW_STS_ARMED = 0 ∧ t.f R.PW_STS_RESERVED_OK = 0) ∧
  (∀ s : State, s.mode ≠ .off → s.on R.PW_STS_ARMED = false →
    ∃ u : State, exec .holdupOkFall s = .next u.afterRows.settle ∧ u = s.setF R.PW_STS_HOLDUP_OK 0) ∧
  (∀ s : State, s.mode ≠ .off → s.on R.PW_STS_ARMED = true →
    ∃ u : State, exec .holdupOkFall s = .next (u.exposeStaging.spillAllPartial.afterRows.settle) ∧ u.f R.PW_STS_HOLDUP_OK = 0 ∧
      u.f R.PW_STS_ARMED = 0 ∧ u.f R.RC_ACK_STS_ACK_RULE = 0 ∧ u.f R.PW_EVT_DISARMED = 1 ∧ u.media = s.media)

/-- The thermal trip (R403, R404, R37): two comparators of one triplet latch the trip and lead to Thermal Rest; during Hold-up
Flush the flush goes on and SHDN_N is driven; a single comparator changes nothing that software sees. Thermal Rest ends as R404 to
R406 say: the trip flush drops HOLDUP_EN and drives SHDN_N, and one cut short without a supply leaves the part Off; the exit timer
leads to Bootstrap, or clears LATCH and waits for PWRGD_IN; PWRGD_IN shows PWRGD, and a rest that has met its conditions enters
Bootstrap. -/
def Obligations.ThermalTripAndRest : Prop :=
  (∀ (c : Nat) (s : State), s.mode ∈ [Mode.bootstrap, .discovery, .rebuild, .trial, .sealed] → c < 24 →
    voted (setBit s.pwr.cmp c true) (c / 3) = true → s.on R.TH_TRIP_LATCH = false →
    ∃ t, exec (.thermalTrip c) s = .next t ∧ t.mode = .thermalRest ∧ t.ctl.trigger = 0x15 ∧ t.ctl.prev = s.mode.num ∧
      t.f R.TH_TRIP_LATCH = 1 ∧ t.pwr.thermLow = true ∧ t.cmds = [] ∧ t.conns = []) ∧
  (∀ (c : Nat) (s : State), s.mode = .holdupFlush → c < 24 → voted (setBit s.pwr.cmp c true) (c / 3) = true →
    s.on R.TH_TRIP_LATCH = false →
    ∃ t, exec (.thermalTrip c) s = .next t ∧ t.mode = .holdupFlush ∧ t.pwr.shdn = true ∧ t.f R.TH_TRIP_LATCH = 1 ∧
      t.f R.TH_EVT_TRIP = 1 ∧ bit (t.f R.TH_TRIP_FIRED) (c / 3) = true ∧ t.media = s.media) ∧
  (∀ (c : Nat) (s : State), s.mode ≠ .off → c < 24 → voted (setBit s.pwr.cmp c true) (c / 3) = false →
    ∃ t, exec (.thermalTrip c) s = .next t ∧
      State.Only { s with pwr := { s.pwr with cmp := setBit s.pwr.cmp c true } } t []) ∧
  (∀ (us : Nat) (s : State), s.mode = .thermalRest → s.pwr.flushEnded = false → s.pwr.supplyLost = false → s.pwr.porst = false →
    ∃ t, exec (.tripFlushDone { us }) s = .next t ∧ t.pwr.shdn = true ∧ t.pwr.flushEnded = true ∧ t.f R.PW_STS_HOLDUP_EN = 0 ∧
      t.f R.PW_STS_ARMED = 0) ∧
  (∀ (us : Nat) (s : State), s.mode = .thermalRest → s.pwr.flushEnded = false → s.pwr.supplyLost = true →
    ∃ t, exec (.tripFlushDone ⟨us, false⟩) s = .next t ∧ t.mode = .off ∧ t.fields = [] ∧ t.disk = s.disk) ∧
  (∀ s : State, s.mode = .thermalRest → s.pwr.flushEnded = true → s.coolNow = true → s.pwr.cmp = 0 → s.on R.PW_STS_PWRGD = true → s.life ≠ 4 →
    s.life ≠ 5 → (∀ l, s.linkUp l = false) →
    ∃ t, exec .thermalRestExitTimer s = .next t ∧ t.mode = .bootstrap ∧ t.ctl.trigger = 0x16 ∧ t.ctl.prev = 9 ∧
      t.pwr.shdn = false ∧ t.clk.held = false) ∧
  (∀ s : State, s.mode = .thermalRest → s.pwr.flushEnded = true → s.coolNow = true → s.pwr.cmp = 0 → s.on R.PW_STS_PWRGD = false →
    ∃ t, exec .thermalRestExitTimer s = .next t ∧ t.f R.TH_TRIP_LATCH = 0 ∧
      State.Only { s with pwr := { s.pwr with restMet := true, shdn := false, thermLow := false } } t [R.TH_TRIP_LATCH.key 0 0]) ∧
  (∀ s : State, s.mode ≠ .off → ¬ (s.mode = .thermalRest ∧ s.pwr.restMet = true) →
    ∃ t, exec .pwrgdInRise s = .next t ∧ t.f R.PW_STS_PWRGD = 1 ∧
      State.Only { s with pwr := { s.pwr with supplyLost := false } } t [R.PW_STS_PWRGD.key 0 0]) ∧
  (∀ s : State, s.mode = .thermalRest → s.pwr.restMet = true → s.life ≠ 4 → s.life ≠ 5 → (∀ l, s.linkUp l = false) →
    ∃ t, exec .pwrgdInRise s = .next t ∧ t.mode = .bootstrap ∧ t.ctl.trigger = 0x16)

/-- A write of ENV_REQ (R390): a rising core voltage is posted in VREQ_MV at once, and the request is pending until the supply has
followed; another request posts nothing before the sample boundary. The sensors (R399, R400, R403). At a reading every sensor is
judged against the median of its valid neighbours: a valid one shows its reading, counts consecutive readings more than 8 °C off
and is suspect from the sixteenth on; a suspect one stays suspect and shows the median, or has no value. HOT and MEAN are taken
over the valid sensors, and keep their values without any. Thermal Rest counts its readings. Bootstrap counts its first 32, and
one above 95 °C then ends it in Thermal Rest (Table 01-8). A comparator that disagrees shows in DISAGREE. -/
def Obligations.EnvelopeAndSensors : Prop :=
  (∀ (e : Nat) (s : State), s.mode ≠ .off →
    (s.envelope (s.f R.PW_ENV_ENV_ACTIVE)).vcoreMv < (s.envelope (e % 4)).vcoreMv →
    ∃ t, exec (.envReqWrite e) s = .next t ∧ t.f R.PW_ENV_ENV_REQ = e % 4 ∧ t.f R.PW_ENV_PENDING = 1 ∧
      t.f R.PW_ENV_VREQ_MV = min (s.envelope (e % 4)).vcoreMv (2 ^ R.PW_ENV_VREQ_MV.w - 1) ∧ t.f R.PW_EVT_VREQ_CHG = 1 ∧
      s.Only t [R.PW_ENV_ENV_REQ.key 0 0, R.PW_ENV_PENDING.key 0 0, R.PW_ENV_VREQ_MV.key 0 0, R.PW_EVT_VREQ_CHG.key 0 0]) ∧
  (∀ (e : Nat) (s : State), s.mode ≠ .off →
    (s.envelope (e % 4)).vcoreMv ≤ (s.envelope (s.f R.PW_ENV_ENV_ACTIVE)).vcoreMv →
    ∃ t, exec (.envReqWrite e) s = .next t ∧ t.f R.PW_ENV_ENV_REQ = e % 4 ∧ t.f R.PW_ENV_PENDING = 0 ∧
      s.Only t [R.PW_ENV_ENV_REQ.key 0 0, R.PW_ENV_PENDING.key 0 0]) ∧
  (∀ (ts : List Int) (s : State), s.mode ≠ .off → s.mode ≠ .bootstrap →
    ∃ t, exec (.sensorReading ts) s = .next t ∧
      (t.validTemps = [] → t.f R.TH_SUM_HOT = s.f R.TH_SUM_HOT ∧ t.f R.TH_SUM_MEAN = s.f R.TH_SUM_MEAN) ∧
      (∀ h r, t.validTemps = h :: r → t.f R.TH_SUM_HOT = toField 16 (r.foldl max h) ∧
        t.f R.TH_SUM_MEAN = toField 16 ((h + r.foldl (· + ·) 0) / ((r.length + 1 : Nat) : Int))) ∧
      (∀ i, i < 24 → s.f R.TH_SNS_SUSPECT 0 i = 0 →
        let nb := (neighbours i).filter fun j => !s.on R.TH_SNS_SUSPECT 0 j
        let x := (ts[i]?).getD 0
        (nb.length < 2 → t.f R.TH_SNS_TEMP 0 i = toField 16 x ∧ t.f R.TH_SNS_SUSPECT 0 i = 0 ∧
          t.f R.TH_SNS_DEV_RUN 0 i = s.f R.TH_SNS_DEV_RUN 0 i) ∧
        (∀ m, 2 ≤ nb.length → median (nb.map fun j => (ts[j]?).getD 0) = some m → (x - m).natAbs ≤ 8 * 16 →
          t.f R.TH_SNS_TEMP 0 i = toField 16 x ∧ t.f R.TH_SNS_SUSPECT 0 i = 0 ∧ t.f R.TH_SNS_DEV_RUN 0 i = 0) ∧
        (∀ m, 2 ≤ nb.length → median (nb.map fun j => (ts[j]?).getD 0) = some m → 8 * 16 < (x - m).natAbs →
          t.f R.TH_SNS_DEV_RUN 0 i = satInc 8 (s.f R.TH_SNS_DEV_RUN 0 i) ∧
          (satInc 8 (s.f R.TH_SNS_DEV_RUN 0 i) < 16 → t.f R.TH_SNS_TEMP 0 i = toField 16 x ∧ t.f R.TH_SNS_SUSPECT 0 i = 0) ∧
          (16 ≤ satInc 8 (s.f R.TH_SNS_DEV_RUN 0 i) → t.f R.TH_SNS_TEMP 0 i = toField 16 m ∧ t.f R.TH_SNS_SUSPECT 0 i = 1 ∧
            t.f R.TH_EVT_SUSPECT = 1))) ∧
      (∀ i, i < 24 → s.f R.TH_SNS_SUSPECT 0 i ≠ 0 →
        let nb := (neighbours i).filter fun j => !s.on R.TH_SNS_SUSPECT 0 j
        t.f R.TH_SNS_SUSPECT 0 i = s.f R.TH_SNS_SUSPECT 0 i ∧
        (∀ m, median (nb.map fun j => (ts[j]?).getD 0) = some m →
          t.f R.TH_SNS_TEMP 0 i = toField 16 m ∧ t.f R.TH_SNS_NOVALUE 0 i = 0) ∧
        (nb = [] → t.f R.TH_SNS_NOVALUE 0 i = 1)) ∧
      (s.mode = .thermalRest → t.pwr.restReads = s.pwr.restReads + 1 ∧
        t.f R.TH_REST_REST_S = min ((s.pwr.restReads + 1) / 10000) (2 ^ R.TH_REST_REST_S.w - 1) ∧
        t.pwr.coolReads = if t.coolNow then s.pwr.coolReads + 1 else 0)) ∧
  (∀ (ts : List Int) (s : State), s.mode = .bootstrap →
    ∃ t, exec (.sensorReading ts) s = .next t ∧ t.pwr.readings = min 32 (s.pwr.readings + 1) ∧
      (t.mode = .thermalRest ↔ t.pwr.readings = 32 ∧ ∃ x ∈ t.validTemps, 95 * 16 < x) ∧
      (t.mode ≠ .thermalRest → t.mode = .bootstrap)) ∧
  (∀ (n : Nat) (s : State), s.mode ≠ .off → n < 8 →
    ∃ t, exec (.comparatorDisagreeTimer n) s = .next t ∧
      t.f R.TH_TRIP_DISAGREE = setBit (s.f R.TH_TRIP_DISAGREE) n true % 2 ^ R.TH_TRIP_DISAGREE.w ∧ t.f R.TH_EVT_DISAGREE = 1 ∧
      s.Only t [R.TH_TRIP_DISAGREE.key 0 0, R.TH_EVT_DISAGREE.key 0 0])

/-! ### References, the Time Base and the Pacer (13) -/

/-- CK_LIVE.LIVE shows exactly the sources that are live by R362 after a Sentinel fires, a source qualifies, a frequency check, a
loss of PLL lock and a priority write; the Sentinel shows in FIRED while it is fired (R362, R363, R366, R368). A fired Sentinel
clears at the next edge: FIRED of that source alone falls and its edge count begins anew (R362). -/
def Obligations.SourcesAndSentinels : Prop :=
  (∀ (n : Nat) (s : State), s.mode ≠ .off → n < 10 →
    ∃ t, exec (.edgeSentinelFire n) s = .next t ∧ ∀ x, x < 10 → bit (t.f R.CK_LIVE_LIVE) x = t.live x) ∧
  (∀ (n : Nat) (s : State), s.mode ≠ .off → n < 10 → s.f R.CK_SEL_SELECTED ≠ n → s.f R.CK_SEL_SELECTED ≠ 15 →
    ∃ t, exec (.edgeSentinelFire n) s = .next t ∧ bit (t.f R.CK_LIVE_FIRED) n = true ∧ t.live n = false ∧
      State.Only { s with clk := t.clk } t [R.CK_LIVE_FIRED.key 0 0, R.CK_LIVE_LIVE.key 0 0]) ∧
  (∀ (n : Nat) (s : State), s.mode ≠ .off → n < 10 → bit (s.f R.CK_LIVE_FIRED) n = false →
    ∃ t, exec (.sourceQualified n) s = .next t ∧ ∀ x, x < 10 → bit (t.f R.CK_LIVE_LIVE) x = t.live x) ∧
  (∀ (l : List Int) (s : State), s.mode ≠ .off → s.f R.CK_SEL_SELECTED ≠ 15 →
    ∃ t, exec (.freqCheck l) s = .next t ∧ ∀ x, x < 10 → bit (t.f R.CK_LIVE_LIVE) x = t.live x) ∧
  (∀ (w : Switch) (s : State), s.mode ≠ .off → s.clk.sw = some w →
    ∃ t, exec .pllLockTimeout s = .next t ∧ ∀ x, x < 10 → bit (t.f R.CK_LIVE_LIVE) x = t.live x) ∧
  (∀ (hi : Bool) (v : Word) (s : State), s.mode ≠ .off →
    ∃ t, exec (.ckPrioWrite hi v) s = .next t ∧ ∀ x, x < 10 → bit (t.f R.CK_LIVE_LIVE) x = t.live x) ∧
  (∀ (n : Nat) (s : State), s.mode ≠ .off → n < 10 →
    ∃ t, exec (.edgeSentinelClear n) s = .next t ∧ t.f R.CK_LIVE_FIRED = setBit (s.f R.CK_LIVE_FIRED) n false % 2 ^ R.CK_LIVE_FIRED.w ∧
      State.Only { s with clk := { s.clk with qual := setBit s.clk.qual n false } } t [R.CK_LIVE_FIRED.key 0 0])

/-- Switches of reference (R365, R367, R368, Table 13-2): a planned switch, asked for by SWITCH or by the revert timer, selects
the better live source with the PLLs in holdover; the old input is released; with every PLL locked HOLDOVER clears, SWITCHES
counts and SWITCHED is logged, and the Time Base takes the phase step, cut to −8 to +8 ticks (R370). -/
def Obligations.ReferenceSwitch : Prop :=
  (∀ (b : Nat) (s : State), s.mode ≠ .off → s.f R.CK_SEL_SELECTED ≠ 15 → s.clk.sw = none → s.bestSource (fun _ => true) = some b →
    b ≠ s.f R.CK_SEL_SELECTED →
    ∃ t, exec .ckSwitch s = .next t ∧ t.f R.CK_SEL_SELECTED = b ∧ t.f R.CK_SEL_HOLDOVER = 1 ∧
      t.clk = { s.clk with sw := some { kind := .planned, start := s.clk.tb, released := false, old := s.f R.CK_SEL_SELECTED } } ∧
      State.Only { s with clk := t.clk } t [R.CK_SEL_SELECTED.key 0 0, R.CK_SEL_HOLDOVER.key 0 0, R.CK_LIVE_LIVE.key 0 0]) ∧
  (∀ (b : Nat) (s : State), s.mode ≠ .off → s.on R.CK_CFG_REVERT = true → s.f R.CK_SEL_SELECTED ≠ 15 → s.clk.sw = none →
    s.bestSource (fun _ => true) = some b → s.prio b < s.prio (s.f R.CK_SEL_SELECTED) →
    ∃ t, exec .revertTimer s = .next t ∧ t.f R.CK_SEL_SELECTED = b ∧ t.f R.CK_SEL_HOLDOVER = 1 ∧
      t.clk = { s.clk with sw := some { kind := .planned, start := s.clk.tb, released := false, old := s.f R.CK_SEL_SELECTED } } ∧
      State.Only { s with clk := t.clk } t [R.CK_SEL_SELECTED.key 0 0, R.CK_SEL_HOLDOVER.key 0 0, R.CK_LIVE_LIVE.key 0 0]) ∧
  (∀ (w : Switch) (s : State), s.mode ≠ .off → s.clk.sw = some w →
    ∃ t, exec .oldInputRelease s = .next t ∧
      State.Only { s with clk := { s.clk with sw := some { w with released := true } } } t []) ∧
  (∀ (d : Int) (w : Switch) (s : State), s.mode ≠ .off → s.clk.sw = some w → w.released = true →
    (w.kind = .planned ∨ w.kind = .unplanned) →
    ∃ t, exec (.pllLocked d) s = .next t ∧ t.clk.sw = none ∧ t.f R.CK_SEL_HOLDOVER = 0 ∧ t.f R.CK_EVT_SWITCHED = 1 ∧
      t.f R.CK_STEP_SWITCHES = satAdd R.CK_STEP_SWITCHES.w (s.f R.CK_STEP_SWITCHES) 1 ∧
      t.f R.CK_STEP_LAST_STEP = toField 5 (max (-8) (min 8 d)) ∧
      (t.clk.tb : Int) - t.clk.stepHold = s.clk.tb - s.clk.stepHold + max (-8) (min 8 d) ∧ t.media = s.media ∧ t.cmds = s.cmds)

/-- The Pacer and CSI (R373, R359, R377): a calibration runs the Pacer until it ends, and sets PACER_TPS to 16,384 ticks over n
transfers in Q8.8, rounded down; CSI is measured, and the end of the Becalmed flush takes the lanes off the Pacer. -/
def Obligations.PacerCalibration : Prop :=
  (∀ s : State, s.mode ≠ .off → s.f R.CK_SEL_SELECTED ≠ 15 → s.clk.calActive = false →
    ∃ t, exec .pacerCalStart s = .next t ∧ t.f R.CK_PACER_RUNNING = 1 ∧
      State.Only { s with clk := { s.clk with calActive := true } } t [R.CK_PACER_RUNNING.key 0 0]) ∧
  (∀ (n : Nat) (s : State), s.mode ≠ .off → s.clk.calActive = true → 0 < n → s.clk.resuming = false →
    s.f R.CK_SEL_SELECTED ≠ 15 →
    ∃ t, exec (.pacerCalDone n) s = .next t ∧
      t.f R.CK_PACER_PACER_TPS = min (16384 * 256 / n) (2 ^ R.CK_PACER_PACER_TPS.w - 1) ∧ t.f R.CK_PACER_CALIBRATED = 1 ∧
      t.f R.CK_PACER_RUNNING = 0 ∧ t.clk.calActive = false ∧
      State.Only { s with clk := t.clk } t
        [R.CK_PACER_PACER_TPS.key 0 0, R.CK_PACER_CALIBRATED.key 0 0, R.CK_PACER_RUNNING.key 0 0]) ∧
  (∀ (c : Nat) (s : State), s.mode ≠ .off → s.f R.CK_SEL_SELECTED ≠ 15 →
    ∃ t, exec (.csiMeasure c) s = .next t ∧ t.f R.CK_CSI_CSI = min c (2 ^ R.CK_CSI_CSI.w - 1) ∧ t.f R.CK_CSI_CSI_STALE = 0 ∧
      State.Only { s with ctl := { s.ctl with rate := t.ctl.rate } } t
        [R.CK_CSI_CSI.key 0 0, R.CK_CSI_CSI_STALE.key 0 0, R.CK_EVT_CSI_LOW.key 0 0]) ∧
  (∀ (us : Nat) (s : State), s.mode = .becalmed → s.clk.becDone = false →
    ∃ u : State, exec (.becalmedFlushDone us) s = .next u.selectIfNone.settle ∧ u.clk.becDone = true ∧
      u.f R.CK_PACER_LANES = 0)

/-! ### Governor (06) -/

/-- Samples and passes (R159, R160, R161, R171): a boundary opens a pass with a sample of SAMPLE_TICKS and takes nothing over into
its counts; one during a pass is no sample boundary, is counted, and leaves the sample and all that waits for it; the end of a
pass closes it and measures it; the write pause ends. -/
def Obligations.GovernorPass : Prop :=
  (∀ (mw mv : Nat) (s : State), s.modeIn passModes = true → s.gov.pass = none →
    ∃ t, exec (.sampleBoundary mw mv) s = .next t ∧ t.gov.pass.isSome = true ∧ t.gov.ticks = s.f R.GV_CFG_SAMPLE_TICKS ∧
      t.gov.skipped = 0 ∧ t.gov.units = [] ∧ t.gov.admUnits = 0 ∧ t.gov.wrUnits = 0 ∧ t.gov.foldUnits = 0) ∧
  (∀ (mw mv : Nat) (s : State), s.modeIn passModes = true → s.gov.pass.isSome = true →
    ∃ t, exec (.sampleBoundary mw mv) s = .next t ∧
      t.f R.GV_STS_OVERRUNS = satAdd R.GV_STS_OVERRUNS.w (s.f R.GV_STS_OVERRUNS) 1 ∧ t.f R.GV_EVT_OVERRUN = 1 ∧
      State.Only { s with gov := { s.gov with skipped := s.gov.skipped + 1 } } t
        [R.GV_STS_OVERRUNS.key 0 0, R.GV_EVT_OVERRUN.key 0 0]) ∧
  (∀ (p : PassOut) (s : State), s.modeIn passModes = true → s.gov.pass = some p →
    ∃ t, exec .govPassEnd s = .next t ∧ t.gov.pass = none ∧
      t.f R.GV_PASS_LAST_PASS = min (s.clk.tb - p.start) (2 ^ R.GV_PASS_LAST_PASS.w - 1)) ∧
  (∀ s : State, s.gov.pause = true →
    ∃ t, exec .writePauseEnd s = .next t ∧ State.Only { s with gov := { s.gov with pause := false } } t [])

/-- Profile and loop commands (R177, R181): a commit checks the shadow copy against Table 06-6, and only a good one waits for the
boundary, with every word of it; a load copies the live profile; a mode request and a manual output are stored for the boundary,
and a request that R157 reserves or an output above 1.0 is refused as a reserved encoding (R13). -/
def Obligations.GovernorCommands : Prop :=
  (∀ (p : Path) (s : State), s.mode ≠ .off → s.pidx p < 18 → profileOk (s.pidx p) (fun w => s.gov.shadow.get (s.pidx p * 256 + w)) = false →
    ∃ t, exec (.gvProfileCommit p) s = .next t ∧ t.f R.GV_PCMD_RESULT = 1 ∧ s.Only t [R.GV_PCMD_RESULT.key 0 0]) ∧
  (∀ (p : Path) (s : State), s.mode ≠ .off → s.pidx p < 18 → profileOk (s.pidx p) (fun w => s.gov.shadow.get (s.pidx p * 256 + w)) = true →
    ∃ t, exec (.gvProfileCommit p) s = .next t ∧ t.f R.GV_PCMD_RESULT = 0 ∧ t.gov.committed.get (s.pidx p) = true ∧
      (∀ w, w < 256 → t.gov.commit.get (s.pidx p * 256 + w) = s.gov.shadow.get (s.pidx p * 256 + w)) ∧
      State.Only { s with gov := { s.gov with commit := t.gov.commit, committed := t.gov.committed } } t [R.GV_PCMD_RESULT.key 0 0]) ∧
  (∀ (p : Path) (s : State), s.mode ≠ .off → s.pidx p < 18 →
    ∃ t, exec (.gvProfileLoad p) s = .next t ∧ t.f R.GV_PCMD_RESULT = 0 ∧
      (∀ w, w < 256 → t.gov.shadow.get (s.pidx p * 256 + w) = s.prof (s.pidx p) w) ∧
      State.Only { s with gov := { s.gov with shadow := t.gov.shadow } } t [R.GV_PCMD_RESULT.key 0 0]) ∧
  (∀ (p : Path) (q : Nat) (s : State), s.mode ≠ .off → s.idxF p R.GV_LIDX_LOOP < 4098 →
    ¬ (q % 4 = 3 ∧ 4096 ≤ s.idxF p R.GV_LIDX_LOOP) →
    ∃ t, exec (.gvModeReqWrite p q) s = .next t ∧ (t.loop (s.idxF p R.GV_LIDX_LOOP)).req = q % 4 ∧
      State.Only (s.modLoop (s.idxF p R.GV_LIDX_LOOP) fun l => { l with req := q % 4 }) t []) ∧
  (∀ (p : Path) (s : State), s.mode ≠ .off → 4096 ≤ s.idxF p R.GV_LIDX_LOOP → s.idxF p R.GV_LIDX_LOOP < 4098 →
    ∃ t, exec (.gvModeReqWrite p 3) s = .next t ∧ t.gov = s.gov ∧
      t.f R.GL_ACC_INVALID_ENCS = satAdd R.GL_ACC_INVALID_ENCS.w (s.f R.GL_ACC_INVALID_ENCS) 1 ∧ t.f R.GL_EVT_INVALID_ENC = 1) ∧
  (∀ (p : Path) (v : Word) (s : State), s.mode ≠ .off → s.idxF p R.GV_LIDX_LOOP < 4098 → v.toNat ≤ 2 ^ 24 →
    ∃ t, exec (.gvManUWrite p 0 v) s = .next t ∧ (t.loop (s.idxF p R.GV_LIDX_LOOP)).man0 = v.toNat ∧
      (t.loop (s.idxF p R.GV_LIDX_LOOP)).manW = true ∧
      State.Only (s.modLoop (s.idxF p R.GV_LIDX_LOOP) fun l => { l with manW := true, man0 := v.toNat }) t []) ∧
  (∀ (p : Path) (v : Word) (s : State), s.mode ≠ .off → s.idxF p R.GV_LIDX_LOOP < 4098 → v.toNat ≤ 2 ^ 24 →
    ∃ t, exec (.gvManUWrite p 1 v) s = .next t ∧ (t.loop (s.idxF p R.GV_LIDX_LOOP)).man1 = v.toNat ∧
      (t.loop (s.idxF p R.GV_LIDX_LOOP)).manW = true ∧
      State.Only (s.modLoop (s.idxF p R.GV_LIDX_LOOP) fun l => { l with manW := true, man1 := v.toNat }) t [])

/-! ### Slices and the Sluice (05) -/

/-- SLUICE_REFILL (R139): every Active slice gains its increments, no more of each than its ceiling gives, and a bucket is cut at
its depth; no other field of any slice changes, and nothing but the slices' tokens. Admission (R140, R86): the head command of the
queue at which the round stands is dispatched, next in order; one command token and the byte tokens of its first 512 media units
are charged, those units are in flight, and the further units of a Verify wait; no other command, queue or slice changes. A
further piece of a Verify, of up to 512 units, is charged while BYTE_TOK is positive, and the reads of its blocks start. -/
def Obligations.SluiceRefillsAndAdmits : Prop :=
  (∀ s : State, s.mode ≠ .off →
    ∃ t, exec .sluiceRefill s = .next t ∧ State.Only { s with slices := t.slices } t [] ∧
      (∀ n, (s.sl n).st = 1 → t.sl n = { s.sl n with
        cmdTok := min (((s.cfg n).cmdDepth : Int) * 65536) ((s.sl n).cmdTok + min (s.sl n).cmdInc (cmdCeilInc (s.cfg n).ceilKiops))
        byteTok := min (((s.cfg n).byteDepth : Int) * 65536)
          ((s.sl n).byteTok + min (s.sl n).byteInc (byteCeilInc (s.cfg n).ceilBw)) }) ∧
      (∀ n, (s.sl n).st ≠ 1 → s.sl n ≠ {} → t.sl n = s.sl n)) ∧
  (∀ (n q c : Nat) (r : List Nat) (s : State), (s.queue q).waiting = c :: r → (s.queue q).slice = n →
    nextRound (s.queuesOf n) (s.sl n).rr s.eligible = some q →
    ∃ t, exec (.sluiceAdmit n q) s = .next t ∧
      t.cmd c = { s.cmd c with
        phase := .dispatched, tDisp := s.clk.tb, units := min (s.mediaUnits c) 512
        unitsLeft := if (s.cmd c).sqe.opc = 0x0C then s.mediaUnits c - 512 else 0, ord := s.hop.nextOrd } ∧
      (∀ d, d ≠ c → t.cmd d = s.cmd d) ∧ t.queue q = { s.queue q with waiting := r } ∧
      (∀ p, p ≠ q → t.queue p = s.queue p) ∧
      t.sl n = { s.sl n with
        cmdTok := (s.sl n).cmdTok - 65536, byteTok := (s.sl n).byteTok - (min (s.mediaUnits c) 512 : Nat) * 65536, rr := q } ∧
      (∀ m, m ≠ n → t.sl m = s.sl m) ∧
      State.Only { s with
        slices := t.slices, queues := t.queues, cmds := t.cmds, hop.nextOrd := s.hop.nextOrd + 1
        gov.admUnits := s.gov.admUnits + min (s.mediaUnits c) 512
        gov.wrUnits := s.gov.wrUnits + if isWriteOpc (s.cmd c).sqe.opc then min (s.mediaUnits c) 512 else 0 } t []) ∧
  (∀ (c : Nat) (s : State), (s.cmd c).alive = true → (s.cmd c).phase = .running → (s.cmd c).sqe.opc = 0x0C →
    0 < (s.cmd c).unitsLeft → 0 < (s.sl (s.cmd c).slice).byteTok →
    let p := min 512 (s.cmd c).unitsLeft
    let u := s.nsUnits (s.cmd c).ns
    ∃ w : State,
      exec (.sluicePieceCharge c) s = .next ((w.startBlocks c (((s.cmd c).nlb * u - (s.cmd c).unitsLeft) / u) (p / u)).afterRows.settle) ∧
      w.cmd c = { s.cmd c with units := (s.cmd c).units + p, unitsLeft := (s.cmd c).unitsLeft - p } ∧
      (∀ d, d ≠ c → w.cmd d = s.cmd d) ∧
      w.sl (s.cmd c).slice =
        { s.sl (s.cmd c).slice with byteTok := (s.sl (s.cmd c).slice).byteTok - (p : Nat) * 65536 } ∧
      (∀ m, m ≠ (s.cmd c).slice → w.sl m = s.sl m) ∧
      w = { s with slices := w.slices, cmds := w.cmds, gov.admUnits := s.gov.admUnits + p })

/-- CREATE, MODIFY and LOAD (R131, R144): a set out of the ranges is refused with RESULT 2 and CMD_REFUSED, and nothing changes;
an accepted CREATE makes an Unused slice Active with its set; an accepted MODIFY waits for the sample boundary; LOAD copies the
live set. -/
def Obligations.SliceCreateModifyLoad : Prop :=
  (∀ (p : Path) (s : State), s.slicesUp = true → (s.sl (s.tidx p)).st = 0 → s.cfgRange (s.shadow.get (s.tidx p)) = true →
    s.originFree (s.tidx p) (s.shadow.get (s.tidx p)).origin = true → s.poolsOk (s.tidx p) (s.shadow.get (s.tidx p)) = true →
    ∃ t, exec (.slCreate p) s = .next t ∧ t.f R.SL_TCMD_RESULT = 0 ∧ (t.sl (s.tidx p)).st = 1 ∧
      t.cfg (s.tidx p) = s.shadow.get (s.tidx p)) ∧
  (∀ (p : Path) (s : State), s.slicesUp = true → (s.sl (s.tidx p)).st = 0 → s.cfgRange (s.shadow.get (s.tidx p)) = false →
    ∃ t, exec (.slCreate p) s = .next t ∧ t.f R.SL_TCMD_RESULT = 2 ∧ t.f R.SL_EVT_CMD_REFUSED = 1 ∧
      s.Only t [R.SL_TCMD_RESULT.key 0 0, R.SL_EVT_CMD_REFUSED.key 0 0]) ∧
  (∀ (p : Path) (s : State), s.slicesUp = true → (s.sl (s.tidx p)).st = 1 → s.cfgRange (s.shadow.get (s.tidx p)) = true →
    s.originFree (s.tidx p) (s.shadow.get (s.tidx p)).origin = true →
    (s.shadow.get (s.tidx p)).origin = (s.cfg (s.tidx p)).origin → (s.shadow.get (s.tidx p)).subnqn = (s.cfg (s.tidx p)).subnqn →
    s.poolsOk (s.tidx p) (s.shadow.get (s.tidx p)) = true →
    (((s.cfg (s.tidx p)).mgmt = false ∧ (s.nextCfg (s.tidx p)).mgmt = false) ∨ (s.shadow.get (s.tidx p)).mgmt = true ∨
      s.otherMgmt (s.tidx p) = true) →
    ∃ t, exec (.slModify p) s = .next t ∧ t.f R.SL_TCMD_RESULT = 0 ∧
      (t.sl (s.tidx p)).pend = some (s.shadow.get (s.tidx p)) ∧ t.cfg (s.tidx p) = s.cfg (s.tidx p)) ∧
  (∀ (p : Path) (s : State), s.slicesUp = true →
    ∃ t, exec (.slLoad p) s = .next t ∧ t.f R.SL_TCMD_RESULT = 0 ∧ t.shadow.get (s.tidx p) = s.cfg (s.tidx p) ∧
      State.Only { s with shadow := t.shadow } t [R.SL_TCMD_RESULT.key 0 0])

/-- The last Active slice with MGMT = 1 (R133): a DELETE, a MODIFY that clears MGMT, and a RESET that does not come from the
sideband are refused with RESULT 5, and nothing of the slice changes. -/
def Obligations.LastManagerSlice : Prop :=
  ∀ (p : Path) (s : State), s.slicesUp = true → (s.sl (s.tidx p)).st = 1 →
    ((s.cfg (s.tidx p)).mgmt = true ∨ (s.nextCfg (s.tidx p)).mgmt = true) → s.otherMgmt (s.tidx p) = false →
    (s.per.ns.any (fun (_, x) => x.alive && x.owner == s.tidx p) = false →
      ∃ t, exec (.slDelete p) s = .next t ∧ t.f R.SL_TCMD_RESULT = 5 ∧ t.f R.SL_EVT_CMD_REFUSED = 1 ∧
        s.Only t [R.SL_TCMD_RESULT.key 0 0, R.SL_EVT_CMD_REFUSED.key 0 0]) ∧
    (s.cfgRange (s.shadow.get (s.tidx p)) = true → s.originFree (s.tidx p) (s.shadow.get (s.tidx p)).origin = true →
      s.ctrlUsed (s.tidx p) = 0 → s.poolsOk (s.tidx p) (s.shadow.get (s.tidx p)) = true → (s.shadow.get (s.tidx p)).mgmt = false →
      ∃ t, exec (.slModify p) s = .next t ∧ t.f R.SL_TCMD_RESULT = 5 ∧ t.f R.SL_EVT_CMD_REFUSED = 1 ∧
        s.Only t [R.SL_TCMD_RESULT.key 0 0, R.SL_EVT_CMD_REFUSED.key 0 0]) ∧
    (p ≠ .sideband →
      ∃ t, exec (.slReset p) s = .next t ∧ t.f R.SL_TCMD_RESULT = 5 ∧ t.f R.SL_EVT_CMD_REFUSED = 1 ∧
        s.Only t [R.SL_TCMD_RESULT.key 0 0, R.SL_EVT_CMD_REFUSED.key 0 0]) ∧
    (p = .sideband → ∃ u : State, exec (.slReset p) s = .next ((u.resetBegin (s.tidx p) 2).discSync s).settle ∧
      u.f R.SL_TCMD_RESULT = 0 ∧ u.slices = s.slices ∧ u.hop = s.hop)

/-- Reset and deletion of a slice (R125, R131, R147): slots still Fenced hold a new reset; the fence raises the epoch and closes
the Sluice with cause RESET, and then the slice's traffic is dropped; with no tagged operation left a reset slice is Active again
with no cause of its own, and a deleted one is Unused with no valid key slot; step 7 that takes too long sets RESET_SLOW. -/
def Obligations.SliceResetAndDelete : Prop :=
  (∀ (p : Path) (s : State), s.slicesUp = true → (s.sl (s.tidx p)).st = 1 →
    (s.cfg (s.tidx p)).mgmt = false → (s.nextCfg (s.tidx p)).mgmt = false →
    s.fenced (s.tidx p) ≠ [] →
    ∃ t, exec (.slReset p) s = .next t ∧ (t.sl (s.tidx p)).st = 2 ∧ (t.sl (s.tidx p)).fenceWait = true ∧
      t.f R.HP_EVT_EPOCH_HOLD = 1 ∧ (t.sl (s.tidx p)).epoch = (s.sl (s.tidx p)).epoch) ∧
  (∀ (p : Path) (s : State), s.slicesUp = true → (s.sl (s.tidx p)).st = 1 →
    (s.cfg (s.tidx p)).mgmt = false → (s.nextCfg (s.tidx p)).mgmt = false →
    s.fenced (s.tidx p) = [] →
    ∃ u : State, exec (.slReset p) s = .next (((u.resetFence (s.tidx p)).resetDrop (s.tidx p)).discSync s).settle ∧
      (u.sl (s.tidx p)).st = 2 ∧ u.f R.SL_TCMD_RESULT = 0) ∧
  (∀ (p : Path) (s : State), s.slicesUp = true → (s.sl (s.tidx p)).st = 1 →
    (s.cfg (s.tidx p)).mgmt = false → (s.nextCfg (s.tidx p)).mgmt = false →
    s.per.ns.any (fun (_, x) => x.alive && x.owner == s.tidx p) = false → s.fenced (s.tidx p) = [] →
    ∃ u : State, exec (.slDelete p) s = .next (((u.resetFence (s.tidx p)).resetDrop (s.tidx p)).discSync s).settle ∧
      (u.sl (s.tidx p)).st = 3 ∧ u.f R.SL_TCMD_RESULT = 0 ∧ u.per.slUsed.get (s.tidx p) = false) ∧
  (∀ (n : Nat) (s : State), (s.sl n).fenceWait = true → s.fenced n = [] →
    exec (.resetFenceWaitEnd n) s = .next ((s.resetFence n).resetDrop n).settle) ∧
  (∀ (n : Nat) (s : State), ((s.resetFence n).sl n).epoch = ((s.sl n).epoch + 1) % 256 ∧ bit ((s.resetFence n).sl n).cause 2 = true ∧
    ∀ k, ((s.resetFence n).slot k).slice = n → ((s.resetFence n).slot k).state = .fenced ∨ ((s.resetFence n).slot k).state = .free) ∧
  (∀ (n : Nat) (s : State), (s.sl n).st = 2 → (s.sl n).fenceWait = false → bit (s.sl n).cause 2 = true → s.taggedOps n = 0 →
    ∃ t, exec (.taggedOpsZero n) s = .next t ∧ (t.sl n).st = 1 ∧ (t.sl n).cause = 0 ∧
      (t.sl n).resets = satInc 16 (s.sl n).resets ∧ t.f R.SL_EVT_RESET_DONE = 1) ∧
  (∀ (n : Nat) (s : State), (s.sl n).st = 3 → (s.sl n).fenceWait = false → bit (s.sl n).cause 2 = true → s.taggedOps n = 0 →
    ∃ t, exec (.taggedOpsZero n) s = .next t ∧ (t.sl n).st = 0 ∧ ∀ k, (t.keys.get k).valid = true → (t.keys.get k).slice ≠ n) ∧
  (∀ (n : Nat) (s : State), ((s.sl n).st = 2 ∨ (s.sl n).st = 3) → bit (s.sl n).cause 2 = true →
    ∃ t, exec (.resetSlowTimer n) s = .next t ∧ t.f R.SL_EVT_RESET_SLOW = 1 ∧ s.Only t [R.SL_EVT_RESET_SLOW.key 0 0])

/-- SL_HOLD and the Origin Table (R136, R143): the hold bits of 32 slices are stored and are the MGR causes of their Sluices; an
entry is committed exactly as staged, a second valid entry of one NQN is refused with RESULT 1, and an entry is made invalid. -/
def Obligations.HoldAndOrigins : Prop :=
  (∀ (n : Nat) (v : Word) (s : State), s.mode ≠ .off → n < 128 →
    ∃ t, exec (.slHoldWrite n v) s = .next t ∧ t.f R.SL_HOLD_HOLD 0 n = v.toNat ∧
      ∀ b, b < 32 → t.mgrHold (32 * n + b) = bit v.toNat b) ∧
  (∀ (p : Path) (s : State), s.slicesUp = true → s.originStaged.valid = true →
    s.per.origins.any (fun (j, o) => j != s.idxF p R.SL_OIDX_ENTRY && o.valid && nqnOf o.nqn == nqnOf s.originStaged.nqn) = false →
    nqnOk s.originStaged.nqn = true →
    ∃ t, exec (.originCommit p) s = .next t ∧ t.f R.SL_OCMD_RESULT = 0 ∧
      t.per.origins.get (s.idxF p R.SL_OIDX_ENTRY) = s.originStaged) ∧
  (∀ (p : Path) (s : State), s.slicesUp = true → s.originStaged.valid = true →
    s.per.origins.any (fun (j, o) => j != s.idxF p R.SL_OIDX_ENTRY && o.valid && nqnOf o.nqn == nqnOf s.originStaged.nqn) = true →
    ∃ t, exec (.originCommit p) s = .next t ∧ t.f R.SL_OCMD_RESULT = 1 ∧ t.f R.SL_EVT_CMD_REFUSED = 1 ∧
      s.Only t [R.SL_OCMD_RESULT.key 0 0, R.SL_EVT_CMD_REFUSED.key 0 0]) ∧
  (∀ (p : Path) (s : State), s.slicesUp = true →
    ∃ t, exec (.originInvalidate p) s = .next t ∧ t.f R.SL_OCMD_RESULT = 0 ∧
      (t.per.origins.get (s.idxF p R.SL_OIDX_ENTRY)).valid = false)

/-! ### Ports and links (02) -/

/-- Control of ports and links (R45, R48, R49, R66). While the ports are off, a write of PT_CFG stores its ENABLE, BREAKOUT and
MEDIA_TYPE and a DISABLE is stored; while ENABLE is 1, a write that changes BREAKOUT is ignored with an invalid-encoding event; a
link in training that is disabled goes to Disabled; RETRAIN sends a Down link to Training; word 11 of PT_ADATA puts the staged
words of the link in force. Link events (R49, R66, R361): a signal puts a Down link into Training, and it counts as activity;
after 1 ms of lock the link is Up, with LINK_UP logged and CK_LIVE current; an Up link that is lost goes Down, is counted, and its
clock is no source any more. -/
def Obligations.PortsAndLinks : Prop :=
  (∀ (p : Nat) (v : Word) (s : State), s.mode ≠ .off → s.portsLive = false → p < 2 → s.on R.PT_CFG_ENABLE p = false →
    bitsOf v.toNat 1 2 ≠ 3 → bitsOf v.toNat 3 2 ≠ 3 →
    ∃ u : State, exec (.ptCfgWrite p v) s = .next (u.discSync s).settle ∧ u.f R.PT_CFG_ENABLE p = bitsOf v.toNat 0 1 ∧
      u.f R.PT_CFG_BREAKOUT p = bitsOf v.toNat 1 2 ∧ u.f R.PT_CFG_MEDIA_TYPE p = bitsOf v.toNat 3 2) ∧
  (∀ (p : Nat) (v : Word) (s : State), s.mode ≠ .off → p < 2 → s.on R.PT_CFG_ENABLE p = true →
    bitsOf v.toNat 1 2 ≠ s.f R.PT_CFG_BREAKOUT p →
    ∃ t, exec (.ptCfgWrite p v) s = .next t ∧ t.f R.GL_EVT_INVALID_ENC = 1 ∧
      t.f R.GL_ACC_INVALID_ENCS = satAdd R.GL_ACC_INVALID_ENCS.w (s.f R.GL_ACC_INVALID_ENCS) 1 ∧
      s.Only t [R.GL_EVT_INVALID_ENC.key 0 0, R.GL_ACC_INVALID_ENCS.key 0 0]) ∧
  (∀ (l : Nat) (s : State), s.mode ≠ .off → s.portsLive = false → l < 8 →
    ∃ u : State, exec (.linkDisable l) s = .next (u.discSync s).settle ∧ u.f R.PT_LINK_CTL_DISABLE (l / 4) (l % 4) = 1 ∧
      s.Only u [R.PT_LINK_CTL_DISABLE.key (l / 4) (l % 4)]) ∧
  (∀ (l : Nat) (s : State), s.portsLive = true → l < 8 → s.linkUsed l = true → s.linkState l = 1 →
    (s.linkOf l).announced = false → s.connsOn l = [] →
    ∃ u : State, exec (.linkDisable l) s = .next (u.discSync s).settle ∧ u.linkState l = 0 ∧
      u.f R.PT_LINK_CTL_DISABLE (l / 4) (l % 4) = 1) ∧
  (∀ (l : Nat) (s : State), s.portsLive = true → s.mode ≠ .becalmed → l < 8 → s.linkState l = 3 →
    ∃ t, exec (.linkRetrain l) s = .next t ∧ t.linkState l = 1 ∧
      s.Only t [R.PT_LINK_STS_LSTATE.key (l / 4) (l % 4), R.PT_LINK_STS_SPEED.key (l / 4) (l % 4)]) ∧
  (∀ (l : Nat) (s : State), s.portsLive = true → s.mode ≠ .becalmed → l < 8 → s.linkState l = 2 →
    exec (.linkRetrain l) s = .next ((s.linkLeave l 1).discSyncOnce s).settle) ∧
  (∀ (p : Path) (n : Nat) (s : State), s.mode ≠ .off → n < 2 →
    exec (.linkAddressCommit p n) s = .next (s.addrCommit (4 * n + s.idxF p R.PT_AIDX_LINK n)).settle) ∧
  (∀ (l : Nat) (s : State), s.connsOn l = [] →
    ((s.addrCommit l).linkOf l).addr = (List.range 11).map fun w => (s.linkOf l).stage.get w) ∧
  (∀ (l : Nat) (s : State), s.portsLive = true → s.mode ≠ .becalmed → s.mode ≠ .feathered → l < 8 → s.linkOff l = none →
    s.linkState l = 3 →
    ∃ t, exec (.linkSignalDetect l) s = .next t ∧ t.linkState l = 1 ∧
      s.Only t [R.PT_LINK_STS_LSTATE.key (l / 4) (l % 4), R.PT_LINK_STS_SPEED.key (l / 4) (l % 4)]) ∧
  (∀ (l : Nat) (s : State), s.portsLive = true → s.mode ≠ .becalmed → s.clk.stopped = false → l < 8 → s.linkState l = 1 →
    ∃ t, exec (.linkUpTimer l) s = .next t ∧ t.linkState l = 2 ∧ t.f (linkUpBit (l % 4)) (l / 4) = 1 ∧
      ∀ x, x < 10 → bit (t.f R.CK_LIVE_LIVE) x = t.live x) ∧
  (∀ (l : Nat) (s : State), s.linkUp l = true →
    exec (.linkLoss l) s = .next ((s.linkLeave l 3).discSyncOnce s).settle) ∧
  (∀ (l : Nat) (s : State), s.linkUp l = true → s.f R.CK_SEL_SELECTED ≠ l + 2 → s.f R.CK_SEL_SELECTED ≠ 15 →
    (s.linkLeave l 3).linkState l = 3 ∧ (s.linkLeave l 3).f (linkDownBit (l % 4)) (l / 4) = 1 ∧
    (s.linkLeave l 3).live (l + 2) = false ∧
    (s.linkLeave l 3).f R.PT_LINK_STS_DOWN_COUNT (l / 4) (l % 4) =
      satAdd R.PT_LINK_STS_DOWN_COUNT.w (s.f R.PT_LINK_STS_DOWN_COUNT (l / 4) (l % 4)) 1)

/-- Frames that the ports answer themselves, on a link that serves (R47, R48, R51, R74); `u` is s after the activity that a frame
is in Feathered (R40), and after what else the frame brings. One longer than the MTU or than 9,216 bytes is dropped and counted,
and one for another address is dropped. An own address is answered and another is not; a pause stops its priority only where
PFC_EN has its bit, until it runs out, and then what it held goes out; an mDNS query is answered while MDNS_EN is 1, and the
second announcement is sent once. A write of PT_DISC_CTL (R71) with both enables set stores them and changes nothing else; with
DISC_EN 0 every discovery connection closes, and with MDNS_EN 0 every link says goodbye. What an answer carries is the model's
message (notes/assumptions/60). -/
def Obligations.PortAnswersAndDiscovery : Prop :=
  (∀ (l : Nat) (rx : RxFrame) (s u : State), s.frame l = some u →
    (u.f R.PT_LINK_CTL_MTU (l / 4) (l % 4) < rx.ip ∨ 9216 < rx.ip + rx.hdr) →
    ∃ v, s.arrive l rx = some (v, false) ∧ (v.linkOf l).drops = (u.linkOf l).drops + 1 ∧ v = { u with links := v.links } ∧
      ∀ k, k ≠ l → v.linkOf k = u.linkOf k) ∧
  (∀ (l : Nat) (rx : RxFrame) (s u : State), s.frame l = some u → rx.ip ≤ u.f R.PT_LINK_CTL_MTU (l / 4) (l % 4) →
    rx.ip + rx.hdr ≤ 9216 → s.arrive l rx = some (u, false) ∨ ((u.linkOf l).mine rx.dst = true ∧ ∃ v, s.arrive l rx = some (v, true))) ∧
  (∀ (l ip : Nat) (rx : RxFrame) (s u : State), s.arrive l rx = some (u, false) →
    ∃ t, exec (.arpRequest l ⟨ip, rx⟩) s = .next t ∧ u.Only t []) ∧
  (∀ (l ip : Nat) (rx : RxFrame) (s u : State), s.arrive l rx = some (u, true) → ip ≠ 0 → ((u.linkOf l).addr[0]?).getD 0 = ip →
    ∃ t, exec (.arpRequest l ⟨ip, rx⟩) s = .next t ∧ t.Sent .arpReply l [ip] [] ∧ t.conns = u.conns ∧ u.Sends t .arpReply l [ip] [] []) ∧
  (∀ (l ip : Nat) (rx : RxFrame) (s u : State), s.arrive l rx = some (u, true) → ((u.linkOf l).addr[0]?).getD 0 ≠ ip →
    ∃ t, exec (.arpRequest l ⟨ip, rx⟩) s = .next t ∧ u.Only t []) ∧
  (∀ (l ip : Nat) (rx : RxFrame) (s u : State), s.arrive l rx = some (u, true) → (u.linkOf l).ipv6.contains ip = true →
    ∃ t, exec (.neighborSolicitation l ⟨ip, rx⟩) s = .next t ∧ t.Sent .neighborAdv l [ip] [] ∧ t.conns = u.conns ∧
      u.Sends t .neighborAdv l [ip] [] []) ∧
  (∀ (l ip : Nat) (rx : RxFrame) (s u : State), s.arrive l rx = some (u, true) → (u.linkOf l).ipv6.contains ip = false →
    ∃ t, exec (.neighborSolicitation l ⟨ip, rx⟩) s = .next t ∧ u.Only t []) ∧
  (∀ (l p : Nat) (s u : State), s.frame l = some u → p < 8 → bit (s.f R.PT_TC_CFG_PFC_EN (l / 4)) p = true →
    ∃ t, exec (.pfcPauseRx l p) s = .next t ∧ bit (t.linkOf l).paused p = true ∧ State.Only { u with links := t.links } t []) ∧
  (∀ (l p : Nat) (s u : State), s.frame l = some u → p < 8 → bit (s.f R.PT_TC_CFG_PFC_EN (l / 4)) p = false →
    ∃ t, exec (.pfcPauseRx l p) s = .next t ∧ u.Only t []) ∧
  (∀ (l p : Nat) (s : State), p < 8 → bit (s.linkOf l).paused p = true →
    ∃ t, exec (.pfcPauseExpiry l p) s = .next t ∧ bit (t.linkOf l).paused p = false ∧
      (∀ (m : Msg) (x : TxMark), m ∈ s.ctl.held → m.tx = some x → x.link = l → x.prio = p → m ∈ t.ctl.out ∧ m ∉ t.ctl.held) ∧
      (∀ (m : Msg) (x : TxMark), m ∈ s.ctl.held → m.tx = some x → (x.link ≠ l ∨ x.prio ≠ p) → m ∈ t.ctl.held) ∧
      State.Only { s.releaseHeld l p with links := t.links } t []) ∧
  (∀ (l : Nat) (rx : RxFrame) (s u : State), s.arrive l rx = some (u, true) → u.on R.PT_DISC_CTL_MDNS_EN = true →
    (u.linkOf l).hasAddr = true →
    ∃ t, exec (.mdnsQuery ⟨l, rx⟩) s = .next t ∧ t.Sent .mdnsAnswer l (u.mdnsServices l) [] ∧ t.conns = u.conns ∧
      u.Sends t .mdnsAnswer l (u.mdnsServices l) [] []) ∧
  (∀ (l : Nat) (rx : RxFrame) (s u : State), s.arrive l rx = some (u, true) → u.on R.PT_DISC_CTL_MDNS_EN = false →
    ∃ t, exec (.mdnsQuery ⟨l, rx⟩) s = .next t ∧ u.Only t []) ∧
  (∀ (l : Nat) (s : State), (s.linkOf l).annRepeat = true → s.linkUp l = true → s.on R.PT_DISC_CTL_MDNS_EN = true →
    ∃ t, exec (.mdnsAnnounceRepeat l) s = .next t ∧ t.Sent .mdnsAnnounce l (s.mdnsServices l) [] ∧
      (t.linkOf l).annRepeat = false) ∧
  (∀ (v : Word) (s : State), s.mode ≠ .off → bit v.toNat 0 = true → bit v.toNat 1 = true →
    ∃ t, exec (.ptDiscCtlWrite v) s = .next t ∧ t.f R.PT_DISC_CTL_DISC_EN = 1 ∧ t.f R.PT_DISC_CTL_MDNS_EN = 1 ∧
      s.Only t [R.PT_DISC_CTL_DISC_EN.key 0 0, R.PT_DISC_CTL_MDNS_EN.key 0 0]) ∧
  (∀ (v : Word) (s : State), s.mode ≠ .off → bit v.toNat 0 = true → bit v.toNat 1 = false →
    ∃ t, exec (.ptDiscCtlWrite v) s = .next t ∧ t.f R.PT_DISC_CTL_MDNS_EN = 0 ∧ ∀ l, l < 8 → (t.linkOf l).announced = false) ∧
  (∀ (v : Word) (s : State), s.mode ≠ .off → bit v.toNat 0 = false → bit v.toNat 1 = true →
    ∃ u w : State, u.f R.PT_DISC_CTL_DISC_EN = 0 ∧ u.f R.PT_DISC_CTL_MDNS_EN = 1 ∧ u.conns = s.conns ∧
      w = (s.conns.keysWhere fun _ c => c.alive && c.kind == .disc).foldl (fun u c => u.close c true) u ∧
      exec (.ptDiscCtlWrite v) s = .next (if w.on R.PT_DISC_CTL_MDNS_EN then w else w.each 8 State.goodbye).settle)

/-! ### Transport connections (02, 04). `u` is s after all that comes before what a frame carries (`State.Heard`). -/

/-- A connection is set up or refused (R53, R55, R60): a SYN to port 4420 with room opens a TCP connection and is answered with a
SYN-ACK by Table 02-5; a full pool answers with RST and CONN_LIMIT; a CM REQ with RoCE on opens a queue pair where the pool of its
private data's QID has room, is rejected with reason 1 and CONN_LIMIT where it has none, and with reason 8 for another service
port. What ends a connection (R56, R58, R67, R68, R482): a RST, a FIN (answered with one), an H2CTermReq, a DREQ, the give-up
timer and the keep-alive timer close it; an H2CTermReq that comes first where the port requires TLS is refused with a RST; a
connection that no Connect had bound leaves nothing but what still may arrive on it. The pools are checked as notes/assumptions/39
reads the rules. -/
def Obligations.ConnectionsOpenAndClose : Prop :=
  (∀ (c l : Nat) (rx : RxFrame) (s u : State), s.arrive l rx = some (u, true) → (u.conn c).alive = false →
    (u.linkOf l).hasAddr = true → u.hostConns < 20480 →
    ∃ t, exec (.tcpSyn c l ⟨4420, rx⟩) s = .next t ∧
      u.Sends t .tcpSynAck c
        [7, u.f R.PT_LINK_CTL_MTU (l / 4) (l % 4) - (if u.overV6 l rx then 60 else 40), 1, 1, 65536] [] [] ∧
      (t.conn c).alive = true ∧ (t.conn c).rdma = false ∧ (t.conn c).link = l ∧ (t.conn c).connected = false ∧ (t.conn c).sent = [] ∧
      (∀ d, d ≠ c → t.conn d = u.conn d)) ∧
  (∀ (c l : Nat) (rx : RxFrame) (s u : State), s.arrive l rx = some (u, true) → (u.conn c).alive = false →
    (u.linkOf l).hasAddr = true → 20480 ≤ u.hostConns →
    ∃ t, exec (.tcpSyn c l ⟨4420, rx⟩) s = .next t ∧ t.Sent .tcpRst c [] [] ∧ t.f R.PT_EVT_CONN_LIMIT (portOf l) = 1 ∧
      t.conns = u.conns) ∧
  (∀ (c l : Nat) (pd : CmPrivate) (rx : RxFrame) (s u : State), s.arrive l rx = some (u, true) → (u.conn c).alive = false →
    (u.linkOf l).hasAddr = true → u.on R.PT_CFG_ROCE_EN (portOf l) = true →
    ((pd.qid ≠ 0 ∧ u.ioConns < 16384 ∧ u.hostConns < 20480) ∨ (pd.qid = 0 ∧ u.admConns < 4096)) →
    ∃ t, exec (.cmReq c l ⟨4420, pd, rx⟩) s = .next t ∧ u.Sends t .cmRep c [] [] [] ∧ (t.conn c).alive = true ∧ (t.conn c).rdma = true ∧
      (t.conn c).link = l ∧ (t.conn c).connected = false ∧ (∀ d, d ≠ c → t.conn d = u.conn d)) ∧
  (∀ (c l : Nat) (pd : CmPrivate) (rx : RxFrame) (s u : State), s.arrive l rx = some (u, true) → (u.conn c).alive = false →
    (u.linkOf l).hasAddr = true → u.on R.PT_CFG_ROCE_EN (portOf l) = true →
    ((pd.qid ≠ 0 ∧ 16384 ≤ u.ioConns) ∨ (pd.qid = 0 ∧ 4096 ≤ u.admConns ∧ 64 ≤ u.discConns)) →
    ∃ t, exec (.cmReq c l ⟨4420, pd, rx⟩) s = .next t ∧ t.Sent .cmRej c [1] [] ∧ t.f R.PT_EVT_CONN_LIMIT (portOf l) = 1 ∧
      t.conns = u.conns) ∧
  (∀ (c l p : Nat) (pd : CmPrivate) (rx : RxFrame) (s u : State), s.arrive l rx = some (u, true) → (u.conn c).alive = false →
    (u.linkOf l).hasAddr = true → (p ≠ 4420 ∨ u.on R.PT_CFG_ROCE_EN (portOf l) = false) →
    ∃ t, exec (.cmReq c l ⟨p, pd, rx⟩) s = .next t ∧ t.conns = u.conns ∧ u.Sends t .cmRej c [8] [] []) ∧
  (∀ (c : Nat) (rx : RxFrame) (s u : State), (s.conn c).alive = true → (s.conn c).rdma = false → s.Heard c rx u →
    exec (.tcpRstRx ⟨c, rx⟩) s = .next (u.close c).settle ∧
    exec (.tcpFinRx ⟨c, rx⟩) s = .next ((u.close c).send .tcpFin c).settle ∧
    (u.tlsLacks (s.conn c) = false → exec (.h2ctermreq ⟨c, rx⟩) s = .next (u.close c).settle) ∧
    (u.tlsLacks (s.conn c) = true → exec (.h2ctermreq ⟨c, rx⟩) s = .next (u.tlsRefuse c).settle)) ∧
  (∀ (c : Nat) (rx : RxFrame) (s u : State), (s.conn c).alive = true → (s.conn c).rdma = true → s.Heard c rx u →
    exec (.cmDreq ⟨c, rx⟩) s = .next (u.close c).settle) ∧
  (∀ (c : Nat) (s : State), (s.conn c).alive = true → (s.conn c).rdma = false → (s.conn c).unacked = true →
    exec (.tcpGiveupExpiry c) s = .next (s.close c true).settle) ∧
  (∀ (k : Nat) (s : State), (s.ctrl k).alive = true → (s.ctrl k).katoMs ≠ 0 → s.mode ≠ .off →
    exec (.keepAliveExpiry k) s = .next (s.close (s.ctrl k).adminConn true).settle) ∧
  (∀ (c : Nat) (s : State), (s.conn c).alive = true → (s.conn c).connected = false →
    (s.close c).conn c = (s.conn c).ended ∧ (s.close c).cmds = s.cmds ∧ (s.close c).queues = s.queues ∧ (s.close c).ctrls = s.ctrls)

/-- Acknowledgements and retries (R56, R60, R66, R123, R482): an ACK restarts the timeout from its minimum, takes what it covers
out of what is outstanding, and frees the Draining slots of which nothing is outstanding any more; a timeout sends everything
outstanding again and doubles, to 2,000 ms; an RDMA ACK clears the retries, a timeout uses one and sends again, and the last one
ends the queue pair; a CNP lowers the rate. -/
def Obligations.AcksAndRetries : Prop :=
  (∀ (c n : Nat) (l : List Nat) (rx : RxFrame) (s u : State), (s.conn c).alive = true → (s.conn c).rdma = false → s.Heard c rx u →
    ∃ t, exec (.tcpAckRx c l ⟨false, n, rx⟩) s = .next t ∧ (t.conn c).sent = [] ∧ (t.conn c).rtoMs = (t.conn c).rtoMin ∧
      (∀ k, (k ∈ l ∨ k ∈ slotsIn (u.conn c).sent) → (u.slot k).state = .draining → (u.slot k).conn = c → t.slot k = {})) ∧
  (∀ (c n : Nat) (l : List Nat) (rx : RxFrame) (s u : State), (s.conn c).alive = true → (s.conn c).rdma = false → s.Heard c rx u →
    u.conn c = s.conn c →
    ∃ t, exec (.tcpAckRx c l ⟨true, n, rx⟩) s = .next t ∧ (t.conn c).rtoMs = (t.conn c).rtoMin ∧
      (t.conn c).sent = ((s.conn c).sent.drop n).filter (fun x => !(slotsIn [x]).any l.contains) ∧
      (∀ k, k ∈ l → (u.slot k).state = .draining → (u.slot k).conn = c → t.slot k = {})) ∧
  (∀ (c : Nat) (s : State), (s.conn c).alive = true → (s.conn c).rdma = false → (s.conn c).unacked = true →
    s.linkUp (s.conn c).link = true →
    ∃ t, exec (.tcpRtoExpiry c) s = .next t ∧ (t.conn c).rtoMs = min 2000 (2 * (s.conn c).rtoMs) ∧
      (t.conn c).sent = (s.conn c).sent ∧
      (∀ x ∈ (s.conn c).sent, x.slot = none → t.Sent x.kind c x.args x.data) ∧
      (∀ x ∈ (s.conn c).sent, x.slot ≠ none → ∃ d, t.Sent x.kind c x.args d)) ∧
  (∀ (c k n : Nat) (rx : RxFrame) (s u : State), (s.conn c).alive = true → (s.conn c).rdma = true → s.Heard c rx u →
    ∃ t, exec (.rdmaAckRx c ⟨k, n, rx⟩) s = .next t ∧ (t.conn c).retries = 0 ∧
      ((u.slot k).state = .draining → (u.slot k).conn = c → t.slot k = {})) ∧
  (∀ (c : Nat) (s : State), (s.conn c).alive = true → (s.conn c).rdma = true → (s.conn c).unacked = true →
    (s.conn c).retries < (s.conn c).retryCnt →
    ∃ t, exec (.rdmaAckTimeout c) s = .next t ∧ (t.conn c).retries = (s.conn c).retries + 1 ∧ (t.conn c).sent = (s.conn c).sent ∧
      (s.linkUp (s.conn c).link = true → ∀ x ∈ (s.conn c).sent, x.slot = none → t.Sent x.kind c x.args x.data) ∧
      (s.linkUp (s.conn c).link = false → State.Only { s with conns := t.conns } t [])) ∧
  (∀ (c : Nat) (s : State), (s.conn c).alive = true → (s.conn c).rdma = true → (s.conn c).unacked = true →
    (s.conn c).retryCnt ≤ (s.conn c).retries → exec (.rdmaAckTimeout c) s = .next (s.close c).settle) ∧
  (∀ (c : Nat) (rx : RxFrame) (s u : State), (s.conn c).alive = true → (s.conn c).rdma = true → s.Heard c rx u →
    ∃ t, exec (.cnpRx ⟨c, rx⟩) s = .next t ∧ (t.conn c).cnps = (u.conn c).cnps + 1 ∧
      (0 < (u.conn c).rate → (t.conn c).rate < (u.conn c).rate) ∧ State.Only { u with conns := t.conns } t [])

/-- TLS and ICReq (R56, R57): a ClientHello with a known PSK, a suite of that PSK's hash and a group that the port allows starts
the handshake and is answered with them and with fresh random data, and one without a suite or a group, or whose binder does not
verify, ends the connection; the host's Finished establishes TLS, and one that fails ends the connection; a KeyUpdate moves the
traffic keys on; a good ICReq is answered with the values of Table 02-5. The random data of the answer is a free value
(notes/assumptions/2). -/
def Obligations.TlsAndIcReq : Prop :=
  (∀ (c g : Nat) (k : Psk) (h : Hello) (rx : RxFrame) (s u : State), (s.conn c).alive = true → (s.conn c).rdma = false →
    s.Heard c rx u → (s.conn c).tls = 0 → (s.conn c).icDone = false → h.isTls = true → u.pskOf h.identity = some k →
    h.binderOk = true → ((k.hash = 1 ∧ h.aes128 = true) ∨ (k.hash = 2 ∧ h.aes256 = true)) →
    u.tlsGroup (portOf (s.conn c).link) h = some g → u.boot.deriveBlocked = false →
    ∃ t, exec (.tlsClientHello c ⟨h, rx⟩) s = .next t ∧ (t.conn c).tls = 1 ∧ (t.conn c).suite = k.hash - 1 ∧ (t.conn c).group = g ∧
      t.Sent .tlsServerHello c [k.hash - 1, g] [Config.random u.ctl.freeCtr] ∧ t.ctl.freeCtr = u.ctl.freeCtr + 1) ∧
  (∀ (c : Nat) (h : Hello) (rx : RxFrame) (s u : State), (s.conn c).alive = true → (s.conn c).rdma = false →
    s.Heard c rx u → (s.conn c).tls = 0 → (s.conn c).icDone = false → h.isTls = true →
    (h.binderOk = false ∨ u.pskOf h.identity = none ∨ (h.aes128 = false ∧ h.aes256 = false) ∨
      (h.pskKe = false ∧ h.pskDheKe = false) ∨ (h.pskDheKe = false ∧ u.on R.PT_CFG_TLS_DHE_REQ (portOf (s.conn c).link) = true)) →
    exec (.tlsClientHello c ⟨h, rx⟩) s = .next (u.tlsFail c).settle) ∧
  (∀ (c : Nat) (s : State), (s.tlsFail c).f R.PT_EVT_TLS_FAIL (portOf (s.conn c).link) = 1 ∧ ((s.tlsFail c).conn c).alive = false) ∧
  (∀ (c : Nat) (rx : RxFrame) (s u : State), (s.conn c).alive = true → (s.conn c).rdma = false → s.Heard c rx u →
    (s.conn c).tls = 1 →
    (∃ t, exec (.tlsClientFinished c ⟨true, rx⟩) s = .next t ∧ (t.conn c).tls = 2 ∧ State.Only { u with conns := t.conns } t []) ∧
    exec (.tlsClientFinished c ⟨false, rx⟩) s = .next (u.tlsFail c).settle) ∧
  (∀ (c : Nat) (rx : RxFrame) (s u : State), (s.conn c).alive = true → (s.conn c).rdma = false → s.Heard c rx u →
    (s.conn c).tls = 2 →
    ∃ t, exec (.tlsKeyUpdate ⟨c, rx⟩) s = .next t ∧ (t.conn c).tlsGen = (u.conn c).tlsGen + 1 ∧ State.Only { u with conns := t.conns } t []) ∧
  (∀ (c : Nat) (q : IcReq) (rx : RxFrame) (s u : State), (s.conn c).alive = true → (s.conn c).rdma = false → s.Heard c rx u →
    (s.conn c).tls ≠ 1 → ((s.conn c).tls ≠ 0 ∨ u.on R.PT_CFG_TLS_REQ (portOf (s.conn c).link) = false) → (s.conn c).icDone = false →
    q.malformed = false → q.pfv = 0 → q.hpda ≤ 31 →
    ∃ t, exec (.icreq c ⟨q, rx⟩) s = .next t ∧ (t.conn c).icDone = true ∧ (t.conn c).hdgst = q.hdgst ∧ (t.conn c).ddgst = q.ddgst ∧
      (t.conn c).maxr2t = q.maxr2t ∧ t.Sent .icResp c [0, 0, b2n q.hdgst, b2n q.ddgst, 65536] [])

/-- A capsule on a connected I/O queue with room (R81, R83, R86): it takes a free entry with its submission and waits at the end
of its queue; on RDMA a capsule that finds no entry or no buffer is answered with an RNR NAK, which is counted (R63, R85); a frame
longer than the MTU brings nothing and is counted (R47). Which free entry is taken is the model's choice (notes/assumptions/15).
-/
def Obligations.CapsulesAreQueued : Prop :=
  (∀ (c e : Nat) (q : Sqe) (rx : RxFrame) (s u : State), (s.conn c).alive = true → (s.conn c).rdma = false → s.Heard c rx u →
    (s.conn c).tls ≠ 1 → (s.conn c).icDone = true → (s.conn c).connected = true → u.conn c = s.conn c →
    (s.conn c).queue < adminBase → q.opc ∈ ioOpcs → (u.outstanding (s.conn c).queue).length < (u.queue (s.conn c).queue).sqsize + 1 →
    u.hrRoom (portOf (s.conn c).link) false (capsuleBytes q) = true → u.freeEntry (s.conn c).queue = some e →
    ((u.outstanding (s.conn c).queue).any fun k => (u.cmd k).sqe.cid == q.cid) = false →
    ∃ t, exec (.capsuleCmd c q rx) s = .next t ∧ (t.cmd e).alive = true ∧ (t.cmd e).sqe = q ∧ (t.cmd e).phase = .waiting ∧
      (t.cmd e).queue = (s.conn c).queue ∧ (t.queue (s.conn c).queue).waiting = (u.queue (s.conn c).queue).waiting ++ [e] ∧
      ∀ d, d ≠ e → t.cmd d = u.cmd d) ∧
  (∀ (c e : Nat) (q : Sqe) (ce : Bool) (rx : RxFrame) (s u : State), (s.conn c).alive = true → (s.conn c).rdma = true →
    s.Heard c { rx with ce := rx.ce || ce } u → (s.conn c).connected = true → u.conn c = s.conn c →
    (s.conn c).queue < adminBase → q.opc ∈ ioOpcs → (u.outstanding (s.conn c).queue).length < (u.queue (s.conn c).queue).sqsize + 1 →
    u.hrRoom (portOf (s.conn c).link) false (capsuleBytes q) = true → u.freeEntry (s.conn c).queue = some e →
    ((u.outstanding (s.conn c).queue).any fun k => (u.cmd k).sqe.cid == q.cid) = false →
    ∃ t, exec (.rdmaSendCapsule c q ce rx) s = .next t ∧ (t.cmd e).alive = true ∧ (t.cmd e).sqe = q ∧ (t.cmd e).phase = .waiting ∧
      (t.queue (s.conn c).queue).waiting = (u.queue (s.conn c).queue).waiting ++ [e] ∧ ∀ d, d ≠ e → t.cmd d = u.cmd d) ∧
  (∀ (c : Nat) (q : Sqe) (ce : Bool) (rx : RxFrame) (s u : State), (s.conn c).alive = true → (s.conn c).rdma = true →
    s.Heard c { rx with ce := rx.ce || ce } u → (s.conn c).connected = true → u.conn c = s.conn c → (s.conn c).queue < adminBase →
    (u.outstanding (s.conn c).queue).length < (u.queue (s.conn c).queue).sqsize + 1 →
    (u.hrRoom (portOf (s.conn c).link) false (capsuleBytes q) = false ∨ u.freeEntry (s.conn c).queue = none) →
    ∃ t, exec (.rdmaSendCapsule c q ce rx) s = .next t ∧ t.conns = u.conns ∧
      t.f R.PT_BP_STS_RNR_COUNT (portOf (s.conn c).link) =
        satAdd R.PT_BP_STS_RNR_COUNT.w (u.f R.PT_BP_STS_RNR_COUNT (portOf (s.conn c).link)) 1 ∧
      u.Sends t .rnrNak c [160] [] [R.PT_BP_STS_RNR_COUNT.key (portOf (s.conn c).link) 0]) ∧
  (∀ (i : Instr) (b : Bool) (c : Nat) (q : Sqe) (p : H2CPdu) (w : HopWrite) (rx : RxFrame) (s u : State),
    (i, b) ∈ [(Instr.capsuleCmd c q rx, false), (.h2cdata c p rx, false), (.rdmaSendCapsule c q false rx, true),
      (.hopperDataWrite c w rx, true)] → (s.conn c).alive = true → (s.conn c).rdma = b → s.frame (s.conn c).link = some u →
    (u.f R.PT_LINK_CTL_MTU ((s.conn c).link / 4) ((s.conn c).link % 4) < rx.ip ∨ 9216 < rx.ip + rx.hdr) →
    ∃ t, exec i s = .next t ∧ (t.linkOf (s.conn c).link).drops = (u.linkOf (s.conn c).link).drops + 1 ∧
      State.Only { u with links := t.links } t [])

/-- Write data reaches its slot (R114, R115, R117, R118): an H2CData PDU, an owner word and the last packet of a READ response
that bring a Granted slot's last byte make it Filled, and an earlier packet enters as it arrives; a WRITE of data lands below
LENGTH and is acknowledged; one whose slot is not Granted to it is discarded and counted; an access outside the window's rules,
and a host READ or atomic, is refused with a NAK that is counted; a READ response with a wrong ICRC or for no open READ changes
nothing. -/
def Obligations.WriteDataArrives : Prop :=
  (∀ (c n : Nat) (p : H2CPdu) (rx : RxFrame) (s u : State), (s.conn c).alive = true → (s.conn c).rdma = false → s.Heard c rx u →
    u.tlsLacks (s.conn c) = false → (s.conn c).connected = true → p.ttag % 16384 = n →
    p.ttag / 16384 % 4 = (u.sl (s.conn c).slice).epoch % 4 →
    (u.slot n).state = .granted → (u.slot n).conn = c → (u.slot n).arrived = [] → p.datao = (u.slot n).offset →
    p.datal = (u.slot n).length → p.datal ≤ 65536 → p.digestOk = true →
    ∃ t, exec (.h2cdata c p rx) s = .next t ∧ (t.slot n).state = .filled ∧
      (t.slot n).content = putBytes (u.slot n).content 0 p.datal p.data) ∧
  (∀ (c : Nat) (p : H2CPdu) (rx : RxFrame) (s u : State), (s.conn c).alive = true → (s.conn c).rdma = false → s.Heard c rx u →
    u.tlsLacks (s.conn c) = false → (s.conn c).connected = true →
    p.ttag / 16384 % 4 ≠ (u.sl (s.conn c).slice).epoch % 4 →
    ∃ t, exec (.h2cdata c p rx) s = .next t ∧
      t.f R.HP_CNT_STALE_DISC = satAdd R.HP_CNT_STALE_DISC.w (u.f R.HP_CNT_STALE_DISC) 1 ∧ t.f R.HP_EVT_STALE = 1 ∧
      t.hop = u.hop ∧ t.cmds = u.cmds ∧ t.queues = u.queues ∧ t.media = u.media ∧ ∀ d, d ≠ c → t.conn d = u.conn d) ∧
  (∀ (c n v : Nat) (w : Word) (rx : RxFrame) (s u : State), (s.conn c).alive = true → (s.conn c).rdma = true → s.Heard c rx u →
    v = ownerVa + 16 * n → n < 2 ^ 17 → u.rkeyOk (s.conn c) (u.sl (s.conn c).slice).hkey = true → u.slotGranted c n = true →
    bit w.toNat 0 = false → bitsOf w.toNat 8 8 = (u.slot n).epoch →
    ∃ t, exec (.ownerWordWrite c (u.sl (s.conn c).slice).hkey v 4 ⟨w, rx⟩) s = .next t ∧ (t.slot n).state = .filled ∧
      (t.slot n).content = (u.slot n).content) ∧
  (∀ (c n off : Nat) (x : HopWrite) (rx : RxFrame) (s u : State), (s.conn c).alive = true → (s.conn c).rdma = true → s.Heard c rx u →
    u.conn c = s.conn c → u.rkeyOk (s.conn c) x.rkey = true → x.va = dataVa + 0x40000 * n + off → n < 2 ^ 17 →
    u.slotGranted c n = true → off < (u.slot n).length → off + x.len ≤ (u.slot n).length → off < 0x40000 → off + x.len ≤ 0x40000 →
    ∃ t a, exec (.hopperDataWrite c x rx) s = .next t ∧ (t.slot n).content = putBytes (u.slot n).content off x.len x.data ∧
      (t.slot n).state = .granted ∧ t.conns = u.conns ∧ (∀ k, k ≠ n → t.slot k = u.slot k) ∧
      State.Sends { u with hop := { u.hop with slots := t.hop.slots } } t .rdmaAck c [a] [] []) ∧
  (∀ (c n off : Nat) (x : HopWrite) (rx : RxFrame) (s u : State), (s.conn c).alive = true → (s.conn c).rdma = true → s.Heard c rx u →
    u.conn c = s.conn c → u.rkeyOk (s.conn c) x.rkey = true → x.va = dataVa + 0x40000 * n + off → n < 2 ^ 17 →
    (u.slotGranted c n = false ∨ (u.slot n).length ≤ off) → off < 0x40000 → off + x.len ≤ 0x40000 →
    ∃ t a, exec (.hopperDataWrite c x rx) s = .next t ∧ t.conns = u.conns ∧
      t.f R.HP_CNT_STALE_DISC = satAdd R.HP_CNT_STALE_DISC.w (u.f R.HP_CNT_STALE_DISC) 1 ∧ t.f R.HP_EVT_STALE = 1 ∧
      u.Sends t .rdmaAck c [a] [] [R.HP_CNT_STALE_DISC.key 0 0, R.HP_EVT_STALE.key 0 0]) ∧
  (∀ (c n r d : Nat) (l : List (Nat × Nat)) (rx : RxFrame) (s u : State), (s.conn c).alive = true → (s.conn c).rdma = true →
    s.Heard c rx u → u.conn c = s.conn c → (s.conn c).reads = (r, n) :: l → (s.conn c).got = 0 →
    readLen (s.conn c).sent r = (u.slot n).length → (u.slot n).state = .granted →
    (u.slot n).conn = c → (u.slot n).arrived = [] →
    ∃ t, exec (.rdmaReadResponse c r true ⟨d, 0, rx⟩) s = .next t ∧ (t.conn c).reads = l ∧ (t.slot n).state = .filled ∧
      (t.slot n).content = putBytes (u.slot n).content 0 (u.slot n).length d) ∧
  (∀ (c n r d k : Nat) (l : List (Nat × Nat)) (rx : RxFrame) (s u : State), (s.conn c).alive = true → (s.conn c).rdma = true →
    s.Heard c rx u → u.conn c = s.conn c → (s.conn c).reads = (r, n) :: l → 0 < k →
    (s.conn c).got + k * (s.conn c).pmtu < readLen (s.conn c).sent r → (u.slot n).state = .granted → (u.slot n).conn = c →
    ∃ t, exec (.rdmaReadResponse c r true ⟨d, k, rx⟩) s = .next t ∧ (t.conn c).reads = (r, n) :: l ∧
      (t.conn c).got = (s.conn c).got + k * (s.conn c).pmtu ∧ (t.conn c).retries = 0 ∧
      (t.slot n).content = putBytes (u.slot n).content (s.conn c).got (k * (s.conn c).pmtu) d) ∧
  (∀ (c n r d : Nat) (l : List (Nat × Nat)) (rx : RxFrame) (s u : State), (s.conn c).alive = true → (s.conn c).rdma = true →
    s.Heard c rx u → u.conn c = s.conn c → (s.conn c).reads = (r, n) :: l → (u.slot n).state ≠ .granted →
    ∃ t, exec (.rdmaReadResponse c r true ⟨d, 0, rx⟩) s = .next t ∧ (t.conn c).reads = l ∧
      t.f R.HP_CNT_STALE_DISC = satAdd R.HP_CNT_STALE_DISC.w (u.f R.HP_CNT_STALE_DISC) 1 ∧ t.f R.HP_EVT_STALE = 1) ∧
  (∀ (c r d k : Nat) (x : Bool) (rx : RxFrame) (s u : State), (s.conn c).alive = true → (s.conn c).rdma = true → s.Heard c rx u →
    (x = false ∨ ∀ n l, (s.conn c).reads ≠ (r, n) :: l) →
    ∃ t, exec (.rdmaReadResponse c r x ⟨d, k, rx⟩) s = .next t ∧ u.Only t []) ∧
  (∀ (c v : Nat) (rx : RxFrame) (s u : State), (s.conn c).alive = true → (s.conn c).rdma = true → s.Heard c rx u →
    ∃ t, exec (.hostRdmaReadOrAtomic c ⟨v, rx⟩) s = .next t ∧ t.Sent .accessNak c [] [] ∧
      t.f R.HP_CNT_ACCESS_NAKS = satAdd R.HP_CNT_ACCESS_NAKS.w ((u.close c).f R.HP_CNT_ACCESS_NAKS) 1 ∧ t.f R.HP_EVT_ACCESS_NAK = 1 ∧
      (u.close c).Sends t .accessNak c [] [] [R.HP_CNT_ACCESS_NAKS.key 0 0, R.HP_EVT_ACCESS_NAK.key 0 0])

/-! ### Fabrics and admin commands (03, 07, 15) -/

/-- Connect (R82, R134, R481): an admin Connect that binds to a slice makes a controller and its queue, and is answered with the
CNTLID; an SQSIZE out of range is answered with Connect Invalid Parameters at offset 44 and makes nothing; an I/O Connect that
passes the checks of R481 makes an I/O queue of its controller's slice. Which CNTLID and queue context is taken is the model's
choice (notes/assumptions/15). -/
def Obligations.ConnectBinds : Prop :=
  (∀ (c i n k q : Nat) (r : ConnectReq) (rx : RxFrame) (s u : State), (s.conn c).alive = true → s.Heard c rx u → r.qid = 0 →
    ((s.conn c).rdma = true ∨ ((s.conn c).tls ≠ 1 ∧ (s.conn c).icDone = true)) → u.conn c = s.conn c → (s.conn c).connected = false → (s.conn c).kind ≠ .disc →
    ¬ ((s.conn c).rdma = true ∧ r.discovery = true) → 1 ≤ r.sqsize → r.sqsize ≤ 15 → vxPresent r.vx = false →
    1000 ≤ r.katoMs → r.katoMs ≤ 3600000 → u.bindSlice r 0 = .ok n → q = firstFree adminBase u.queues → k = u.freeCntlid 0 →
    q < adminBase + 4096 → k < 4096 →
    ∃ t, exec (.connectAdmin c i ⟨r, rx⟩) s = .next t ∧ (t.ctrl k).alive = true ∧ (t.ctrl k).slice = n ∧ (t.ctrl k).katoMs = r.katoMs ∧
      (t.conn c).connected = true ∧ (t.conn c).kind = .admin ∧ (t.queue q).valid = true ∧ (t.queue q).sqsize = r.sqsize ∧
      t.Sent .completion c [i, 1 % (r.sqsize + 1), 0, 0, k, 0] []) ∧
  (∀ (c i : Nat) (r : ConnectReq) (rx : RxFrame) (s u : State), (s.conn c).alive = true → s.Heard c rx u → r.qid = 0 →
    ((s.conn c).rdma = true ∨ ((s.conn c).tls ≠ 1 ∧ (s.conn c).icDone = true)) → u.conn c = s.conn c → (s.conn c).connected = false → (s.conn c).kind ≠ .disc →
    ¬ ((s.conn c).rdma = true ∧ r.discovery = true) → (r.sqsize = 0 ∨ 15 < r.sqsize) →
    ∃ t, exec (.connectAdmin c i ⟨r, rx⟩) s = .next t ∧ t.Sent .completion c [i, 0, 0x182, 1, 44, 0] [] ∧ t.ctrls = u.ctrls ∧
      t.queues = u.queues) ∧
  (∀ (c i q : Nat) (r : ConnectReq) (rx : RxFrame) (s u : State), (s.conn c).alive = true → s.Heard c rx u → 1 ≤ r.qid →
    r.qid ≤ 1024 → ((s.conn c).rdma = true ∨ ((s.conn c).tls ≠ 1 ∧ (s.conn c).icDone = true)) → u.conn c = s.conn c → (s.conn c).connected = false → (s.conn c).kind ≠ .disc →
    (u.ctrl r.cntlid).alive = true → (u.ctrl r.cntlid).disc = false → idsDiff (u.ctrl r.cntlid) r = none →
    (u.sl (u.ctrl r.cntlid).slice).st = 1 → vxPresent r.vx = false → 15 ≤ r.sqsize → r.sqsize ≤ u.f R.RC_CFG_IOQ_MQES →
    u.qidUsed r.cntlid r.qid = false → u.qUsed (u.ctrl r.cntlid).slice < (u.cfg (u.ctrl r.cntlid).slice).qQuota →
    q = firstFree 0 u.queues → q < 16384 → u.conns.count (fun _ (x : Conn) => x.alive && x.kind == .io) < 16384 →
    ∃ t, exec (.connectIo c i ⟨r, rx⟩) s = .next t ∧ (t.queue q).valid = true ∧ (t.queue q).cntlid = r.cntlid ∧ (t.queue q).qid = r.qid ∧
      (t.queue q).slice = (u.ctrl r.cntlid).slice ∧ (t.conn c).kind = .io ∧ (t.conn c).queue = q ∧
      t.Sent .completion c [i, 1 % (r.sqsize + 1), 0, 0, r.cntlid, 0] [])

/-- The other Fabrics commands (R69, R98): Disconnect completes and closes the connection; Property Get returns CC and Property
Set writes it; the authentication commands fail with Invalid Field in Command. A deleted queue with nothing outstanding is
released (R97). Identify, logs and the event log (R98, R103): each returns its data to the command's connection and completes; a
log page that the controller does not have fails with Invalid Log Page. The layout of the data messages is the model's
(notes/assumptions/60). -/
def Obligations.FabricsAndDataCommands : Prop :=
  (∀ (c : Nat) (s : State), s.FabDue c 0x08 →
    ∃ u : State, exec (.disconnect c) s = .next (u.close (s.cmd c).conn).settle ∧ s.Posted u c 0 0 0) ∧
  (∀ (c : Nat) (s : State), s.FabDue c 0x04 → (s.cmd c).sqe.cdw11.toNat = 0x14 →
    ∃ t, exec (.propertyGet c) s = .next t ∧
      s.Posted t c 0 ((s.ctrl (s.cmd c).cntlid).cc % 2 ^ 32) ((s.ctrl (s.cmd c).cntlid).cc / 2 ^ 32)) ∧
  (∀ (c : Nat) (s : State), s.FabDue c 0x00 → (s.cmd c).sqe.cdw11.toNat = 0x14 → bit (s.ctrl (s.cmd c).cntlid).cc 0 = false →
    ∃ t, exec (.propertySet c) s = .next t ∧ s.Posted t c 0 0 0 ∧ (t.ctrl (s.cmd c).cntlid).cc = (s.cmd c).sqe.cdw12.toNat) ∧
  (∀ (c : Nat) (s : State), s.FabDue c 0x05 → ∃ t, exec (.authenticationSend c) s = .next t ∧ s.Posted t c 0x02 0 0) ∧
  (∀ (c : Nat) (s : State), s.FabDue c 0x06 → ∃ t, exec (.authenticationReceive c) s = .next t ∧ s.Posted t c 0x02 0 0) ∧
  (∀ (q : Nat) (s : State), (s.queue q).valid = true → (s.queue q).deleting = true → s.outstanding q = [] →
    ∃ t, exec (.queueRelease q) s = .next t ∧ t.queue q = {} ∧ State.Only { s with queues := t.queues } t []) ∧
  (∀ (c : Nat) (d : List Nat) (s : State), s.AdmDue c 0x06 → s.identifyData (s.cmd c) (s.ctrl (s.cmd c).cntlid) = .ok d →
    s.sglCheck c 0 true = none →
    ∃ t, exec (.identify c) s = .next t ∧ s.Posted t c 0 0 0 ∧
      t.Sent .adminData (s.cmd c).conn ((s.cmd c).sqe.cid :: [0x06, (s.cmd c).sqe.cdw10.toNat % 256]) d) ∧
  (∀ (c : Nat) (s : State), s.AdmDue c 0x02 → (s.cmd c).sqe.cdw10.toNat % 256 = 0x03 → (s.cmd c).sqe.cdw10.toNat / 65536 = 127 →
    (s.cmd c).sqe.cdw11.toNat % 65536 = 0 → (s.ctrl (s.cmd c).cntlid).disc = false → s.sglCheck c 0 true = none →
    ∃ t d, exec (.getLogPage c) s = .next t ∧ s.logPage (s.cmd c) (s.ctrl (s.cmd c).cntlid) 0x03 = .ok d ∧ s.Posted t c 0 0 0 ∧
      t.Sent .adminData (s.cmd c).conn
        [(s.cmd c).sqe.cid, 0x02, 0x03, (s.cmd c).sqe.cdw12.toNat + 2 ^ 32 * (s.cmd c).sqe.cdw13.toNat, 512]
        (logCut 0x03 ((s.cmd c).sqe.cdw12.toNat + 2 ^ 32 * (s.cmd c).sqe.cdw13.toNat) 512 d)) ∧
  (∀ (c : Nat) (s : State), s.AdmDue c 0x02 → (s.cmd c).sqe.cdw10.toNat / 65536 + 65536 * ((s.cmd c).sqe.cdw11.toNat % 65536) < 524288 →
    (lids (s.ctrl (s.cmd c).cntlid).disc).contains ((s.cmd c).sqe.cdw10.toNat % 256) = false →
    ∃ t, exec (.getLogPage c) s = .next t ∧ s.Posted t c 0x109 0 0) ∧
  (∀ (c : Nat) (s : State), s.AdmDue c 0xC6 → s.sglCheck c (32 * ((s.cmd c).sqe.cdw11.toNat % 128 + 1)) true = none →
    ∃ t d, exec (.getEventLog c) s = .next t ∧ s.Posted t c 0 0 0 ∧
      t.Sent .adminData (s.cmd c).conn
        [(s.cmd c).sqe.cid, (s.cmd c).sqe.cdw10.toNat % 4096, (s.cmd c).sqe.cdw11.toNat % 128 + 1] d ∧
      d.length = 8 * ((s.cmd c).sqe.cdw11.toNat % 128 + 1) ∧
      ∀ w, w < 8 → d[w]? = some (logWord (s.log.ring.get ((s.cmd c).sqe.cdw10.toNat % 4096)) w))

/-- Abort (R95): it completes with bit 0 of Dword 0 set to 1, it is counted, and no other command changes. -/
def Obligations.AbortHasNoEffect : Prop :=
  ∀ (c : Nat) (s : State), s.AdmDue c 0x08 →
    ∃ t, exec (.abort c) s = .next t ∧ s.Posted t c 0 1 0 ∧
      t.f R.RC_CANCEL_ABORT_CMDS = satAdd R.RC_CANCEL_ABORT_CMDS.w (s.f R.RC_CANCEL_ABORT_CMDS) 1 ∧ ∀ k, k ≠ c → t.cmd k = s.cmd k

/-- Keep Alive, asynchronous events, features and directives (R68, R98): Keep Alive completes; a request for an asynchronous event
is held, and a fifth one fails; a keep-alive timeout that is set is the controller's and reads back; Identify of the directives
completes. -/
def Obligations.ControllerCommands : Prop :=
  (∀ (c : Nat) (s : State), s.AdmDue c 0x18 → ∃ t, exec (.keepAlive c) s = .next t ∧ s.Posted t c 0 0 0) ∧
  (∀ (c : Nat) (s : State), s.AdmDue c 0x0C → (s.ctrl (s.cmd c).cntlid).aers.length < 4 → (s.ctrl (s.cmd c).cntlid).aevs = [] →
    ∃ t, exec (.asyncEventRequest c) s = .next t ∧ (t.cmd c).phase = .running ∧ (t.cmd c).alive = true ∧
      (t.ctrl (s.cmd c).cntlid).aers = (s.ctrl (s.cmd c).cntlid).aers ++ [c] ∧
      State.Only { s with cmds := t.cmds, ctrls := t.ctrls } t []) ∧
  (∀ (c : Nat) (s : State), s.AdmDue c 0x0C → 4 ≤ (s.ctrl (s.cmd c).cntlid).aers.length →
    ∃ t, exec (.asyncEventRequest c) s = .next t ∧ s.Posted t c 0x105 0 0) ∧
  (∀ (c : Nat) (s : State), s.AdmDue c 0x09 → (s.cmd c).sqe.cdw10.toNat = 0x0F → 1000 ≤ (s.cmd c).sqe.cdw11.toNat →
    (s.cmd c).sqe.cdw11.toNat ≤ 3600000 →
    ∃ t, exec (.setFeatures c) s = .next t ∧ s.Posted t c 0 0 0 ∧
      (t.ctrl (s.cmd c).cntlid).katoMs = (s.cmd c).sqe.cdw11.toNat) ∧
  (∀ (c : Nat) (s : State), s.AdmDue c 0x0A → (s.cmd c).sqe.cdw10.toNat = 0x0F →
    ∃ t, exec (.getFeatures c) s = .next t ∧ s.Posted t c 0 (s.ctrl (s.cmd c).cntlid).katoMs 0) ∧
  (∀ (c n : Nat) (s : State), s.AdmDue c 0x1A → s.nsOf (s.cmd c).cntlid (s.cmd c).sqe.nsid = some n → dirType (s.cmd c).sqe = 0 →
    (s.cmd c).sqe.cdw11.toNat % 256 = 1 → s.sglCheck c 0 true = none →
    ∃ t, exec (.directiveReceive c) s = .next t ∧ s.Posted t c 0 0 0 ∧
      t.Sent .adminData (s.cmd c).conn [(s.cmd c).sqe.cid, 0x1A] [5, 1 + 4 * b2n (s.dirFdp n), 4 * b2n (s.dirFdp n)]) ∧
  (∀ (c n : Nat) (s : State), s.AdmDue c 0x19 → s.nsOf (s.cmd c).cntlid (s.cmd c).sqe.nsid = some n → dirType (s.cmd c).sqe = 0 →
    (s.cmd c).sqe.cdw11.toNat % 256 = 1 → (s.cmd c).sqe.cdw12.toNat / 256 % 256 = 2 →
    bit (s.cmd c).sqe.cdw12.toNat 0 = s.dirFdp n →
    ∃ t, exec (.directiveSend c) s = .next t ∧ s.Posted t c 0 0 0)

/-- Namespaces (R184, R186): a create that passes the checks of Table 07-2 makes a namespace of the owner slice, whose NSID the
completion gives, and one without space fails and is logged; a deletion and a format with nothing in progress act at once, and one
that finds writes in progress waits; attachment gives a controller the namespace. Which NSID and internal index is taken is the
model's choice (notes/assumptions/15). -/
def Obligations.NamespaceCommands : Prop :=
  (∀ (c : Nat) (x : NsCreate) (s : State), s.AdmDue c 0x0D → s.ioStepHeld = false → s.mode ≠ .sanitize →
    (s.cmd c).sqe.cdw10.toNat % 16 = 0 → s.sglCheck c 4096 false = none →
    x = { (s.cmd c).sqe.create with csi := (s.cmd c).sqe.cdw11.toNat / 2 ^ 24 } → s.nsCheck x = 0 →
    ∃ t n, exec (.nsCreate c) s = .next t ∧ s.Posted t c 0 (s.nsMake x).1 0 ∧ (t.per.ns.get n).alive = true ∧
      (t.per.ns.get n).nsid = (s.nsMake x).1 ∧ (t.per.ns.get n).owner = x.owner ∧ (t.per.ns.get n).nsze = x.nsze) ∧
  (∀ (c : Nat) (s : State), s.AdmDue c 0x0D → s.ioStepHeld = false → s.mode ≠ .sanitize →
    (s.cmd c).sqe.cdw10.toNat % 16 = 0 → s.sglCheck c 4096 false = none →
    s.nsCheck { (s.cmd c).sqe.create with csi := (s.cmd c).sqe.cdw11.toNat / 2 ^ 24 } = 0x115 →
    ∃ t, exec (.nsCreate c) s = .next t ∧ s.Posted t c 0x115 0 0 ∧ t.f R.MD_ZEVT_NS_NOSPACE = 1 ∧ t.per = s.per) ∧
  (∀ (c n : Nat) (s : State), s.AdmDue c 0x0D → s.ioStepHeld = false → s.mode ≠ .sanitize →
    (s.cmd c).sqe.cdw10.toNat % 16 = 1 → (s.cmd c).sqe.nsid ≠ 0xFFFFFFFF → s.nsAny (s.cmd c).sqe.nsid = some n → s.nsBusy n = false →
    exec (.nsDelete c) s = .next ((((s.modCmd c fun x => { x with zs := [] }).nsEnd n).complete c).afterRows).settle) ∧
  (∀ (c n : Nat) (s : State), s.AdmDue c 0x0D → s.ioStepHeld = false → s.mode ≠ .sanitize →
    (s.cmd c).sqe.cdw10.toNat % 16 = 1 → (s.cmd c).sqe.nsid ≠ 0xFFFFFFFF → s.nsAny (s.cmd c).sqe.nsid = some n → s.nsBusy n = true →
    ∃ t, exec (.nsDelete c) s = .next t ∧ (t.cmd c).phase = .running ∧ (t.cmd c).zs = [2 ^ 20 + n] ∧
      State.Only { s with cmds := t.cmds } t []) ∧
  (∀ (c n : Nat) (s : State), s.AdmDue c 0x80 → s.ioStepHeld = false → s.mode ≠ .sanitize → s.mode ≠ .readOnly →
    (s.cmd c).sqe.cdw10.toNat = 0 → (s.cmd c).sqe.nsid ≠ 0xFFFFFFFF → (s.cmd c).zs = [] → s.formatNs (s.cmd c) = [n] →
    s.nsBusy n = false →
    exec (.formatNvm c) s = .next ((s.modCmd c fun x => { x with zs := [] }).formatGo c 0 false [n]).settle) ∧
  (∀ (c n k : Nat) (w : Word) (s : State), s.AdmDue c 0x15 → s.nsAny (s.cmd c).sqe.nsid = some n →
    (s.cmd c).sqe.cdw10.toNat % 16 = 0 → s.sglCheck c 4096 false = none → (s.cmd c).sqe.words = [w] →
    w.toNat = 1 + 65536 * k → (s.ctrl k).alive = true → (s.ctrl k).disc = false → (s.ctrl k).slice = (s.per.ns.get n).owner →
    (s.ctrl k).aers = [] → n ∉ (s.ctrl k).attached →
    ∃ t, exec (.nsAttachment c) s = .next t ∧ s.Posted t c 0 0 0 ∧ n ∈ (t.ctrl k).attached)

/-- Firmware, security and sanitize commands (R425, R426, R432, R433): a piece joins the staging buffer; a commit that activates
an existing image sets PREFER; Security Receive of protocol 0 returns the protocols; a sanitize records its progress and changes
the mode to Sanitize before it completes; Exit Failure Mode after a failure with AUSE ends it. That Sanitize's mode change and
completion are one handshake is notes/assumptions/13. -/
def Obligations.FirmwareSecuritySanitize : Prop :=
  (∀ (c : Nat) (s : State), s.AdmDue c 0x11 → s.sglCheck c (((s.cmd c).sqe.cdw10.toNat + 1) * 4) false = none →
    (s.cmd c).sqe.cdw11.toNat * 4 = s.boot.fwLen → s.boot.fwLen % 4096 = 0 →
    s.boot.fwLen + ((s.cmd c).sqe.cdw10.toNat + 1) * 4 ≤ 2 ^ 24 →
    ∃ t, exec (.firmwareImageDownload c) s = .next t ∧ s.Posted t c 0 0 0 ∧
      t.boot.fwLen = s.boot.fwLen + ((s.cmd c).sqe.cdw10.toNat + 1) * 4) ∧
  (∀ (c b : Nat) (rb : Bool) (s : State), s.AdmDue c 0x10 → s.mode ≠ .sanitize → (s.cmd c).sqe.cdw10.toNat = 16 + (b + 1) → b < 2 →
    bit s.boot.imgOk b = true →
    ∃ t, exec (.firmwareCommit c .none rb) s = .next t ∧ s.Posted t c 0 0 0 ∧ t.f R.BT_STS_PREFER = b ∧ t.boot.fwLen = 0) ∧
  (∀ (c : Nat) (m : MonFw) (s : State), s.mode = .sealed → s.boot.monitor = true → m.cdw11.toNat * 4 = s.boot.fwLen →
    s.boot.fwLen % 4096 = 0 → s.boot.fwLen + (m.cdw10.toNat + 1) * 4 ≤ 2 ^ 24 →
    ∃ t, exec (.firmwareImageDownload c (some m)) s = .next t ∧ t.boot.fwLen = s.boot.fwLen + (m.cdw10.toNat + 1) * 4 ∧
      t.Sent .monResp 0 [0] []) ∧
  (∀ (c n : Nat) (f : SignedFacts) (m : MonFw) (s : State), s.mode = .sealed → s.boot.monitor = true → s.boot.fwLen ≠ 0 →
    m.cdw10.toNat = 8 + 1 → s.fwVerifies (.firmware f n) = true →
    ∃ t, exec (.firmwareCommit c (.firmware f n) false (some m)) s = .next t ∧ t.Sent .monResp 0 [0x107] [] ∧ t.boot.fwLen = 0 ∧
      t.f R.BT_STS_PREFER = s.f R.BT_STS_PREFER ∧ t.f R.BT_EVT_FW_COMMIT = s.f R.BT_EVT_FW_COMMIT ∧ bit t.boot.imgOk 0 = false) ∧
  (∀ (c : Nat) (s : State), s.AdmDue c 0x81 → (s.cmd c).sqe.cdw10.toNat / 2 ^ 24 ≠ 0 →
    secProtocols.contains ((s.cmd c).sqe.cdw10.toNat / 2 ^ 24) = true → s.sglCheck c 0 false = none →
    ∃ t, exec (.securitySend c) s = .next t ∧ s.Posted t c 0 0 0) ∧
  (∀ (c : Nat) (s : State), s.AdmDue c 0x82 → (s.cmd c).sqe.cdw10.toNat / 2 ^ 24 = 0 → s.sglCheck c 0 true = none →
    ∃ t, exec (.securityReceive c) s = .next t ∧ s.Posted t c 0 0 0 ∧
      t.Sent .adminData (s.cmd c).conn [(s.cmd c).sqe.cid, 0x82, 0] secProtocols) ∧
  (∀ (c : Nat) (s : State), s.AdmDue c 0x84 → s.mode ∈ [Mode.service, .readOnly] → sanAct (s.cmd c).sqe = 2 →
    ∃ u : State, exec (.sanitizeBlockErase c) s = .next (((u.complete c).sanitizeRun).afterRows).settle ∧ u.mode = .sanitize ∧
      u.per.san = 2 ∧ u.per.sanAct = 2 ∧ u.ctl.trigger = 0x0E) ∧
  (∀ (c : Nat) (s : State), s.AdmDue c 0x84 → s.mode ∈ [Mode.service, .readOnly] → sanAct (s.cmd c).sqe = 4 →
    ∃ u : State, exec (.sanitizeCryptoErase c) s = .next (((u.complete c).sanitizeRun).afterRows).settle ∧ u.mode = .sanitize ∧
      u.per.san = 2 ∧ u.per.sanAct = 4 ∧ u.ctl.trigger = 0x0E) ∧
  (∀ (c : Nat) (s : State), s.AdmDue c 0x84 → s.mode ∈ [Mode.service, .readOnly] → sanAct (s.cmd c).sqe = 1 → s.per.san = 3 →
    s.per.sanAuse = true →
    ∃ t, exec (.sanitizeExitFailure c) s = .next t ∧ s.Posted t c 0 0 0 ∧ t.per.san = 4) ∧
  (∀ (c : Nat) (s : State), s.AdmDue c 0x84 → s.mode = .sanitize → sanAct (s.cmd c).sqe = 1 →
    ∃ t, exec (.sanitizeExitFailure c) s = .next t ∧ s.Posted t c 0x1D 0 0 ∧ t.per = s.per)

/-- Key Per I/O (R432, R151): an injected key takes the slot of its tag, or a new one within the slice's key quota; without room
the method reports insufficient space; a cleared tag has no key. The TCG status codes 0 and 7 are those of notes/assumptions/36.
-/
def Obligations.KeyPerIo : Prop :=
  (∀ (k nsid tag key n i : Nat) (s : State), (s.ctrl k).alive = true → s.modeIn adminModes = true → s.nsOf k nsid = some n →
    (s.per.ns.get n).kpio = true → tag ≤ 255 → s.keyAt n tag = some i →
    ∃ t, exec (.kpioInjectKey k nsid tag key) s = .next t ∧ t.Sent .tcgResp k [0] [] ∧
      t.keys.get i = { valid := true, inj := true, slice := (s.per.ns.get n).owner, ns := n, tag := tag, key := key }) ∧
  (∀ (k nsid tag key n : Nat) (s : State), (s.ctrl k).alive = true → s.modeIn adminModes = true → s.nsOf k nsid = some n →
    (s.per.ns.get n).kpio = true → tag ≤ 255 → s.keyAt n tag = none →
    s.keysUsed (s.per.ns.get n).owner < (s.cfg (s.per.ns.get n).owner).keyQuota →
    ∃ t i, exec (.kpioInjectKey k nsid tag key) s = .next t ∧ t.Sent .tcgResp k [0] [] ∧
      t.keys.get i = { valid := true, inj := true, slice := (s.per.ns.get n).owner, ns := n, tag := tag, key := key }) ∧
  (∀ (k nsid tag key n : Nat) (s : State), (s.ctrl k).alive = true → s.modeIn adminModes = true → s.nsOf k nsid = some n →
    (s.per.ns.get n).kpio = true → tag ≤ 255 → s.keyAt n tag = none →
    (s.cfg (s.per.ns.get n).owner).keyQuota ≤ s.keysUsed (s.per.ns.get n).owner →
    ∃ t, exec (.kpioInjectKey k nsid tag key) s = .next t ∧ t.Sent .tcgResp k [7] [] ∧ t.keys = s.keys) ∧
  (∀ (k nsid tag n i : Nat) (s : State), (s.ctrl k).alive = true → s.modeIn adminModes = true → s.nsOf k nsid = some n →
    (s.per.ns.get n).kpio = true → tag ≤ 255 → s.keyAt n tag = some i →
    ∃ t, exec (.kpioClearKey k nsid tag) s = .next t ∧ t.Sent .tcgResp k [0] [] ∧ t.keys.get i = {}) ∧
  (∀ (k : Nat) (s : State), (s.ctrl k).alive = true → s.modeIn adminModes = true →
    ∃ t, exec (.tcgLevel0Discovery k) s = .next t ∧
      t.Sent .tcgResp k (s.nsList 0 fun n x => x.kpio && (s.ctrl k).attached.contains n) [])

/-! ### I/O commands (03, 07). `IoRuns s c opc n`: command c is the next of its stream and passes the common checks, in namespace n. -/

/-- FLUSH (R92): it completes without any media operation, for one namespace or for all; nothing stored changes. Reads (R24, R121,
R140): a read joins the end of its slice's queue and waits its turn behind another, with no look-up of its own; at its head it
takes its slots where it can, by the round of R128; Verify starts with the units charged so far; neither changes what is stored.
Dataset Management without Deallocate completes and changes nothing, with it each range is unmapped (R213). -/
def Obligations.FlushReadsAndTrims : Prop :=
  (∀ (c n : Nat) (s : State), s.IoRuns c 0x00 n →
    ∃ t, exec (.flush c) s = .next t ∧ s.Posted t c 0 0 0 ∧ t.media = s.media ∧ t.per = s.per ∧ t.disk = s.disk) ∧
  (∀ (c : Nat) (s : State), s.IoDue c 0x00 → (s.cmd c).sqe.nsid = 0xFFFFFFFF → (s.cmd c).sqe.fuse = 0 → s.mode ≠ .sanitize →
    s.per.san ≠ 3 → ∃ t, exec (.flush c) s = .next t ∧ s.Posted t c 0 0 0 ∧ t.media = s.media ∧ t.per = s.per ∧ t.disk = s.disk) ∧
  (∀ (c n h : Nat) (r : List Nat) (l : List SramErr) (s : State), s.IoRuns c 0x02 n → s.sglCheck c (sqeNlb (s.cmd c).sqe * s.blkSize n) true = none →
    s.lbaOk n (sqeLba (s.cmd c).sqe) (sqeNlb (s.cmd c).sqe) = true →
    s.offlineIn n (sqeLba (s.cmd c).sqe) (sqeNlb (s.cmd c).sqe) = false → s.hop.rq.get (s.cmd c).slice = h :: r → h ≠ c →
    ∃ t, exec (.read c l) s = .next t ∧ (t.cmd c).phase = .running ∧ t.hop.rq.get (s.cmd c).slice = h :: r ++ [c] ∧
      (∀ d, d ≠ c → t.cmd d = s.cmd d) ∧ State.Only { s with cmds := t.cmds, hop := { s.hop with rq := t.hop.rq } } t []) ∧
  (∀ (c n : Nat) (l : List SramErr) (s : State), s.IoRuns c 0x02 n → s.sglCheck c (sqeNlb (s.cmd c).sqe * s.blkSize n) true = none →
    s.lbaOk n (sqeLba (s.cmd c).sqe) (sqeNlb (s.cmd c).sqe) = true →
    s.offlineIn n (sqeLba (s.cmd c).sqe) (sqeNlb (s.cmd c).sqe) = false → s.hop.rq.get (s.cmd c).slice = [] →
    ∃ u : State, exec (.read c l) s = .next (((u.readTurn (s.cmd c).slice l).getD u).afterRows.settle) ∧ u.hop.rq.get (s.cmd c).slice = [c] ∧
      (u.cmd c).phase = .running ∧ u.media = s.media ∧ u.per = s.per) ∧
  (∀ (c n : Nat) (l : List SramErr) (s : State), s.IoRuns c 0x02 n →
    s.sglCheck c (sqeNlb (s.cmd c).sqe * s.blkSize n) true = none →
    s.lbaOk n (sqeLba (s.cmd c).sqe) (sqeNlb (s.cmd c).sqe) = false →
    ∃ t, exec (.read c l) s = .next t ∧ s.Posted t c 0x80 0 0 ∧ t.media = s.media ∧ t.per = s.per) ∧
  (∀ (c n : Nat) (s : State), s.IoRuns c 0x0C n → s.lbaOk n (sqeLba (s.cmd c).sqe) (sqeNlb (s.cmd c).sqe) = true →
    s.offlineIn n (sqeLba (s.cmd c).sqe) (sqeNlb (s.cmd c).sqe) = false →
    ∃ u : State, exec (.verify c) s = .next (u.startBlocks c 0 ((s.cmd c).units / s.nsUnits n)).afterRows.settle ∧
      (u.cmd c).phase = .running ∧ u.media = s.media ∧ u.per = s.per ∧ u.hop = s.hop) ∧
  (∀ (c n : Nat) (s : State), s.IoRuns c 0x09 n → s.sglCheck c (16 * ((s.cmd c).sqe.cdw10.toNat % 256 + 1)) false = none →
    (∀ r ∈ (s.cmd c).sqe.ranges, s.lbaOk n r.1 r.2 = true) →
    (s.cmd c).sqe.cdw11.toNat.testBit 2 = false →
    ∃ t, exec (.datasetManagement c) s = .next t ∧ s.Posted t c 0 0 0 ∧ t.media = s.media ∧ t.per = s.per) ∧
  (∀ (c n lba nlb : Nat) (r : List (Nat × Nat)) (s : State), s.IoRuns c 0x09 n → s.sglCheck c 16 false = none →
    (s.cmd c).sqe.ranges = (lba, nlb) :: r →
    (s.cmd c).sqe.cdw10.toNat % 256 = 0 → s.lbaOk n lba nlb = true → (s.cmd c).sqe.cdw11.toNat.testBit 2 = true →
    exec (.datasetManagement c) s = .next (((((s.begun c n).running c).unmap n lba nlb).completeRecorded c).settle))

/-- Writes (R193, R20, R100): in a zone a checked write and an append advance the write pointer by their blocks and leave the zone
Implicitly Opened, or Full at its capacity, in the same handshake; the append takes the write pointer's LBA, which its completion
will return; a write that is not at the write pointer fails with Zone Invalid Write and moves nothing; on a conventional namespace
a write asks for its slots, and Write Zeroes unmaps its range. -/
def Obligations.WritesBegin : Prop :=
  (∀ (c n z : Nat) (s : State), s.IoRuns c 0x01 n → (s.per.ns.get n).zoned = true → z = s.zoneAt n (sqeLba (s.cmd c).sqe) →
    s.sglCheck c (sqeNlb (s.cmd c).sqe * s.blkSize n) false = none →
    s.lbaOk n (sqeLba (s.cmd c).sqe) (sqeNlb (s.cmd c).sqe) = true →
    s.zoneWriteCheck n z (sqeLba (s.cmd c).sqe % s.zsze n) (sqeNlb (s.cmd c).sqe) = 0 →
    ∃ u : State, exec (.write c) s = .next (u.writeGo c).settle ∧
      (u.zone z).wp = (s.zone z).wp + sqeNlb (s.cmd c).sqe ∧
      ((s.zone z).wp + sqeNlb (s.cmd c).sqe = s.zcap n → (u.zone z).zs = .full) ∧
      ((s.zone z).wp + sqeNlb (s.cmd c).sqe ≠ s.zcap n →
        (u.zone z).zs = if (s.zone z).zs = .empty ∨ (s.zone z).zs = .closed then .implOpen else (s.zone z).zs)) ∧
  (∀ (c n z : Nat) (s : State), s.IoRuns c 0x7D n → (s.per.ns.get n).zoned = true → z = s.zoneAt n (sqeLba (s.cmd c).sqe) →
    s.sglCheck c (sqeNlb (s.cmd c).sqe * s.blkSize n) false = none → s.lbaOk n (sqeLba (s.cmd c).sqe) 1 = true →
    sqeLba (s.cmd c).sqe % s.zsze n = 0 → s.zoneWriteCheck n z (s.zone z).wp (sqeNlb (s.cmd c).sqe) = 0 →
    ∃ u : State, exec (.zoneAppend c) s = .next (u.writeGo c).settle ∧
      (u.cmd c).lba = sqeLba (s.cmd c).sqe + (s.zone z).wp ∧ (u.cmd c).dw0 = sqeLba (s.cmd c).sqe + (s.zone z).wp ∧
      (u.zone z).wp = (s.zone z).wp + sqeNlb (s.cmd c).sqe) ∧
  (∀ (c n z : Nat) (s : State), s.IoRuns c 0x01 n → (s.per.ns.get n).zoned = true → z = s.zoneAt n (sqeLba (s.cmd c).sqe) →
    s.sglCheck c (sqeNlb (s.cmd c).sqe * s.blkSize n) false = none →
    s.lbaOk n (sqeLba (s.cmd c).sqe) (sqeNlb (s.cmd c).sqe) = true → writeStatus (s.zone z).zs = 0 →
    sqeLba (s.cmd c).sqe % s.zsze n ≠ (s.zone z).wp →
    ∃ t, exec (.write c) s = .next t ∧ s.Posted t c 0x1BC 0 0 ∧ t.per = s.per ∧ t.media = s.media) ∧
  (∀ (c n : Nat) (s : State), s.IoRuns c 0x01 n → (s.per.ns.get n).zoned = false →
    s.sglCheck c (sqeNlb (s.cmd c).sqe * s.blkSize n) false = none →
    s.lbaOk n (sqeLba (s.cmd c).sqe) (sqeNlb (s.cmd c).sqe) = true →
    ∃ u : State, exec (.write c) s = .next (u.writeGo c).settle ∧ u.media = { s.media with fdpEv := u.media.fdpEv } ∧ u.per = s.per ∧
      (u.cmd c).lba = sqeLba (s.cmd c).sqe ∧ (u.cmd c).nlb = sqeNlb (s.cmd c).sqe ∧ (u.cmd c).ns = n) ∧
  (∀ (c n : Nat) (s : State), s.IoRuns c 0x08 n → (s.per.ns.get n).zoned = false →
    s.lbaOk n (sqeLba (s.cmd c).sqe) (sqeNlb (s.cmd c).sqe) = true →
    exec (.writeZeroes c) s =
      .next (((((s.begun c n).running c).unmap n (sqeLba (s.cmd c).sqe) (sqeNlb (s.cmd c).sqe)).completeRecorded c).settle)) ∧
  (∀ (c n z : Nat) (s : State), s.IoRuns c 0x08 n → (s.per.ns.get n).zoned = true → z = s.zoneAt n (sqeLba (s.cmd c).sqe) →
    s.lbaOk n (sqeLba (s.cmd c).sqe) (sqeNlb (s.cmd c).sqe) = true → sqeNlb (s.cmd c).sqe * s.blkSize n ≤ 2097152 →
    s.zoneWriteCheck n z (sqeLba (s.cmd c).sqe % s.zsze n) (sqeNlb (s.cmd c).sqe) = 0 →
    s.stageRoom (s.cmd c).slice (sqeNlb (s.cmd c).sqe * s.blkSize n) = true →
    ∃ u w : State, exec (.writeZeroes c) s = .next (((w.pressure (w.cmd c).slice).stagedAll c).postReady.afterRows).settle ∧
      (u.zone z).wp = (s.zone z).wp + sqeNlb (s.cmd c).sqe ∧
      w = ((u.stageRun c 0 (sqeNlb (s.cmd c).sqe) ((u.cmdKey c).getD 0) 0).modCmd c fun x =>
            { x with staged := sqeNlb (s.cmd c).sqe }).spillNow c)

/-- Opening and closing a zone (Table 07-5, R190, R192, R207): one zone opens from Empty (within the limits), Closed or an opened
state, and closes from an opened state, to Empty where nothing was written; an Open of a Full zone fails; Select All acts on each
zone of the states named; Set Zone Descriptor Extension fails (R205). -/
def Obligations.ZonesOpenAndClose : Prop :=
  (∀ (c n z : Nat) (s : State), s.IoRuns c 0x79 n → sqeZsa (s.cmd c).sqe = 3 → sqeAll (s.cmd c).sqe = false → s.zoneNamed c n = .ok z →
    ((s.zone z).zs ∈ [ZState.implOpen, .explOpen, .closed] ∨ (s.zone z).zs = .empty ∧ s.mayActivate n = true) →
    ∃ t, exec (.zoneOpen c) s = .next t ∧ s.Posted t c 0 0 0 ∧ (t.zone z).zs = .explOpen ∧ (t.zone z).wp = (s.zone z).wp) ∧
  (∀ (c n z : Nat) (s : State), s.IoRuns c 0x79 n → sqeZsa (s.cmd c).sqe = 3 → sqeAll (s.cmd c).sqe = false → s.zoneNamed c n = .ok z →
    (s.zone z).zs = .full → ∃ t, exec (.zoneOpen c) s = .next t ∧ s.Posted t c 0x1BF 0 0 ∧ t.per = s.per) ∧
  (∀ (c n : Nat) (s : State), s.IoRuns c 0x79 n → sqeZsa (s.cmd c).sqe = 3 → sqeAll (s.cmd c).sqe = true →
    exec (.zoneOpen c) s = .next (((((s.zonesOf n).filter fun z => (s.zone z).zs == .closed).foldl
      (fun (x : State) z => x.zoneOpenTo z (s.openHint c)) (s.begun c n)).complete c).settle)) ∧
  (∀ (c n z : Nat) (s : State), s.IoRuns c 0x79 n → sqeZsa (s.cmd c).sqe = 1 → sqeAll (s.cmd c).sqe = false → s.zoneNamed c n = .ok z →
    (s.zone z).zs ∈ [ZState.implOpen, .explOpen] → (s.zone z).wp ≠ 0 →
    ∃ t, exec (.zoneClose c) s = .next t ∧ s.Posted t c 0 0 0 ∧ (t.zone z).zs = .closed ∧ (t.zone z).wp = (s.zone z).wp) ∧
  (∀ (c n z : Nat) (s : State), s.IoRuns c 0x79 n → sqeZsa (s.cmd c).sqe = 1 → sqeAll (s.cmd c).sqe = false → s.zoneNamed c n = .ok z →
    (s.zone z).zs ∈ [ZState.implOpen, .explOpen] → (s.zone z).wp = 0 →
    exec (.zoneClose c) s = .next ((((s.begun c n).zoneEmpty z).complete c).settle)) ∧
  (∀ (s : State) (z : Nat), ((s.zoneEmpty z).zone z).zs = .empty ∧ ((s.zoneEmpty z).zone z).wp = 0) ∧
  (∀ (c n : Nat) (s : State), s.IoRuns c 0x79 n → ¬ (1 ≤ sqeZsa (s.cmd c).sqe ∧ sqeZsa (s.cmd c).sqe ≤ 5) →
    ∃ t, exec (.zoneSetDescExt c) s = .next t ∧ s.Posted t c 0x02 0 0 ∧ t.per = s.per ∧ t.media = s.media)

/-- Finish, Reset and Offline of one zone (R201, R202, R204): a Full zone's Finish completes at once, an Empty zone becomes Full;
a Reset waits, its zone held, and takes effect once no earlier write is left: the zone is Empty; Offline takes a Read Only zone
out of use. -/
def Obligations.ZonesFinishAndReset : Prop :=
  (∀ (c n z : Nat) (s : State), s.IoRuns c 0x79 n → sqeZsa (s.cmd c).sqe = 2 → sqeAll (s.cmd c).sqe = false → s.zoneNamed c n = .ok z →
    (s.zone z).zs = .full → ∃ t, exec (.zoneFinish c) s = .next t ∧ s.Posted t c 0 0 0 ∧ t.per = s.per ∧ t.media = s.media) ∧
  (∀ (c n z : Nat) (s : State), s.IoRuns c 0x79 n → sqeZsa (s.cmd c).sqe = 2 → sqeAll (s.cmd c).sqe = false → s.zoneNamed c n = .ok z →
    (s.zone z).zs = .empty → s.rule1 = true →
    ∃ t, exec (.zoneFinish c) s = .next t ∧ s.Posted t c 0 (s.cmd c).dw0 0 ∧ (t.zone z).zs = .full) ∧
  (∀ (c n z : Nat) (s : State), s.IoRuns c 0x79 n → sqeZsa (s.cmd c).sqe = 2 → sqeAll (s.cmd c).sqe = false → s.zoneNamed c n = .ok z →
    (s.zone z).active = true →
    exec (.zoneFinish c) s = .next (((((s.begun c n).running c).zoneFinishTo z).completeRecorded c).afterRows.settle)) ∧
  (∀ (c n z : Nat) (s : State), s.IoRuns c 0x79 n → sqeZsa (s.cmd c).sqe = 4 → sqeAll (s.cmd c).sqe = false → s.zoneNamed c n = .ok z →
    ((s.zone z).active = true ∨ (s.zone z).zs = .full) →
    ∃ t, exec (.zoneReset c) s = .next t ∧ (t.cmd c).phase = .running ∧ (t.cmd c).zs = [z] ∧ t.zoneHeld z = true ∧ t.per = s.per ∧
      t.media = s.media ∧ t.hop = s.hop ∧ t.queues = s.queues) ∧
  (∀ (c n : Nat) (s : State), s.IoRuns c 0x79 n → sqeZsa (s.cmd c).sqe = 4 → sqeAll (s.cmd c).sqe = true →
    ((s.zonesOf n).filter fun z => (s.zone z).active || (s.zone z).zs == .full) ≠ [] →
    ∃ t, exec (.zoneReset c) s = .next t ∧ (t.cmd c).phase = .running ∧
      (t.cmd c).zs = (s.zonesOf n).filter (fun z => (s.zone z).active || (s.zone z).zs == .full) ∧ t.per = s.per) ∧
  (∀ (c z : Nat) (s : State), (s.cmd c).alive = true → (s.cmd c).sqe.opc = 0x79 → (s.cmd c).phase = .running → (s.cmd c).zs = [z] →
    s.zoneBusy z = false → (s.mode = .service ∨ s.mode = .readOnly) → ((s.zone z).active = true ∨ (s.zone z).zs = .full) →
    ∃ u : State, exec (.zoneResetEffect c) s = .next ((u.completeRecorded c).afterRows.settle) ∧ (u.zone z).zs = .empty ∧
      (u.zone z).wp = 0 ∧ (u.zone z).shellValid = false ∧ (u.zone z).ns = (s.zone z).ns ∧ (u.cmd c).zs = []) ∧
  (∀ (c n z : Nat) (s : State), s.IoRuns c 0x79 n → sqeZsa (s.cmd c).sqe = 5 → sqeAll (s.cmd c).sqe = false → s.zoneNamed c n = .ok z →
    (s.zone z).zs = .readOnly →
    ∃ u : State, exec (.zoneOffline c) s = .next (u.complete c).settle ∧ (u.zone z).zs = .offline ∧ (u.zone z).shellValid = false) ∧
  (∀ (c n z : Nat) (s : State), s.IoRuns c 0x79 n → sqeZsa (s.cmd c).sqe = 5 → sqeAll (s.cmd c).sqe = false → s.zoneNamed c n = .ok z →
    (s.zone z).zs = .empty → ∃ t, exec (.zoneOffline c) s = .next t ∧ s.Posted t c 0x1BF 0 0 ∧ t.per = s.per ∧ t.media = s.media)

/-- Zone reports (R205, Table 07-4): both reports return, from the zone of SLBA on, the descriptors that fit of the zones that the
filter selects, behind their count, or with the Partial Report bit the count returned; and change nothing stored. The layout of
the data message is the model's (notes/assumptions/60). -/
def Obligations.ZoneReports : Prop :=
  ∀ (c n bytes : Nat) (st : Option ZState) (zs : List Nat) (s : State), s.IoRuns c 0x7A n →
    zoneFilter ((s.cmd c).sqe.cdw13.toNat / 256 % 256) = some st → s.lbaOk n (sqeLba (s.cmd c).sqe) 1 = true →
    bytes = ((s.cmd c).sqe.cdw12.toNat + 1) * 4 → s.sglCheck c bytes true = none → (s.conn (s.cmd c).conn).rdma = false →
    zs = (s.zonesOf n).filter (fun z => decide (s.zoneAt n (sqeLba (s.cmd c).sqe) ≤ z) &&
      match st with
      | some v => (s.zone z).zs == v
      | none => true) →
    (sqeZsa (s.cmd c).sqe = 0 → ∃ t, exec (.reportZones c) s = .next t ∧ s.Posted t c 0 0 0 ∧ t.per = s.per ∧ t.media = s.media ∧
      t.Sent .c2hData (s.cmd c).conn [(s.cmd c).sqe.cid, 0, bytes]
        ((if (s.cmd c).sqe.cdw13.toNat.testBit 16 then (zs.take ((bytes - 64) / 64)).length else zs.length) ::
          ((zs.take ((bytes - 64) / 64)).map (s.zoneDesc n)).flatten)) ∧
    (sqeZsa (s.cmd c).sqe = 1 → ∃ t, exec (.extendedReportZones c) s = .next t ∧ s.Posted t c 0 0 0 ∧ t.per = s.per ∧ t.media = s.media ∧
      t.Sent .c2hData (s.cmd c).conn [(s.cmd c).sqe.cid, 0, bytes]
        ((if (s.cmd c).sqe.cdw13.toNat.testBit 16 then (zs.take ((bytes - 64) / 64)).length else zs.length) ::
          ((zs.take ((bytes - 64) / 64)).map (s.zoneDesc n)).flatten))

/-! ### The Hopper (04) -/

/-- Slots are granted and taken (R120, R121, R128): the head write of the slice whose turn it is gets its slot, its descriptor is
written, and on TCP an R2T names it; the head read takes all its slots in one step and starts; a head read that has waited too
long reserves freed slots. -/
def Obligations.SlotsAreTaken : Prop :=
  (∀ (n c k len : Nat) (s : State), s.writeHead n = some (c, k, len) → (s.hop.wq.get n).head? = some c →
    nextRound (s.hop.wq.map Prod.fst) s.hop.lastW (fun j => (s.writeHead j).isSome) = some n → (s.cmd c).sqe.sgl = .transport →
    (s.conn (s.cmd c).conn).rdma = false →
    ∃ t, exec (.slotGrant n) s = .next t ∧ (t.slot k).state = .granted ∧ (t.slot k).length = len ∧ (t.slot k).cmd = c ∧
      (t.slot k).offset = (s.cmd c).cut ∧ (t.slot k).slice = (s.cmd c).slice ∧ (t.slot k).conn = (s.cmd c).conn ∧
      (t.slot k).epoch = (s.sl (s.cmd c).slice).epoch ∧ (t.cmd c).cut = (s.cmd c).cut + len ∧ t.hop.lastW = n ∧
      t.Sent .r2t (s.cmd c).conn [(s.cmd c).sqe.cid, ttagOf k (s.sl (s.cmd c).slice).epoch, (s.cmd c).cut, len] [] ∧
      t.media = s.media ∧ t.per = s.per) ∧
  (∀ (n c : Nat) (l : List SramErr) (u s : State), s.readHead n = some (c, u) →
    nextRound (s.hop.rq.map Prod.fst) s.hop.lastR (fun j => (s.readHead j).isSome) = some n →
    exec (.readSlotsTake ⟨n, l⟩) s = .next (u.readStart n c l).settle) ∧
  (∀ (n c : Nat) (r : List Nat) (s : State), s.hop.rq.get n = c :: r → s.hop.reserve = none →
    ∃ t, exec (.readReserveTimer n) s = .next t ∧ t.hop.reserve = some c ∧ t.f R.HP_EVT_READ_RESERVE = 1 ∧ (t.cmd c).aged = true ∧
      t.hop.slots = s.hop.slots ∧ t.hop.rq = s.hop.rq)

/-- A Filled write slot is encrypted into host staging (R112, R137): with room its blocks are staged and counted and the slot
enters Clearing with no content; without room it waits with its charge, and is admitted when room comes; a Clearing slot is zero
and free. A read slot's data leaves (R87, R112, R122, R51): with every block merged and no lower slot Loading it enters Sending;
sent, it drains, its connection waits for an acknowledgement, and its plaintext has passed to the transport, where a pause of its
priority holds it; the last slot's transmission completes the command. A poisoned block is read again instead (R25). -/
def Obligations.SlotsMoveOn : Prop :=
  (∀ (k c key n : Nat) (l : List SramErr) (s : State), (∀ e ∈ l, e.syms ≤ 4) → (s.slot k).state = .filled → (s.slot k).waitRoom = false → s.up = true → (s.slot k).cmd = c →
    (s.cmd c).status = 0 → s.cmdKey c = some key → s.stageRoom (s.slot k).slice (s.slot k).length = true →
    n = (s.slot k).length / s.blkSize (s.cmd c).ns →
    ∃ u w : State, exec (.aesStaged k l) s = .next ((((if (w.cmd c).staged = (s.cmd c).nlb then w.stagedAll c
        else if (s.cmd c).mute then w.writeFinal c else w).postReady.placeWant c).afterRows).settle) ∧
      w = (u.spillNow c).pressure (s.slot k).slice ∧ (u.slot k).state = .clearing ∧ (u.slot k).content = 0 ∧
      u.media = (s.stageRun c ((s.slot k).offset / s.blkSize (s.cmd c).ns) n key (s.slot k).content).media) ∧
  (∀ (k c key : Nat) (l : List SramErr) (s : State), (s.slot k).state = .filled → (s.slot k).waitRoom = false → s.up = true → (s.slot k).cmd = c →
    (s.cmd c).status = 0 → s.cmdKey c = some key → s.stageRoom (s.slot k).slice (s.slot k).length = false →
    ∃ u : State, exec (.aesStaged k l) s = .next ((u.pressure (s.slot k).slice).afterRows.settle) ∧ (u.slot k).waitRoom = true ∧
      (u.slot k).state = .filled ∧ u.media = s.media) ∧
  (∀ (k : Nat) (s : State), (s.slot k).state = .filled → (s.slot k).waitRoom = true →
    s.stageRoom (s.slot k).slice (s.slot k).length = true →
    ∃ t, exec (.stagingAdmit k) s = .next t ∧ (t.slot k).waitRoom = false ∧ (t.slot k).content = (s.slot k).content ∧
      (t.slot k).state = .filled ∧ State.Only { s with hop := t.hop } t []) ∧
  (∀ (k : Nat) (s : State), (s.slot k).state = .clearing →
    ∃ t, exec (.slotCleared k) s = .next t ∧ t.slot k = {} ∧ t.media = s.media ∧ t.per = s.per) ∧
  (∀ (k : Nat) (s : State), (s.slot k).state = .loading →
    (s.slot k).merged * s.blkSize (s.cmd (s.slot k).cmd).ns = (s.slot k).length →
    (∀ j ∈ s.slotsOf (s.slot k).cmd (· == .loading), (s.slot k).offset ≤ (s.slot j).offset) →
    ∃ t, exec (.readMergeDone k) s = .next t ∧ (t.slot k).state = .sending ∧ (t.slot k).blks = (s.slot k).blks ∧
      (∀ j, j ≠ k → t.slot j = s.slot j) ∧ State.Only { s with hop := { s.hop with slots := t.hop.slots } } t []) ∧
  (∀ (k c d key : Nat) (x : SlotTx) (p : List Nat) (s : State), (s.slot k).state = .sending → (s.slot k).cmd = c → (s.cmd c).conn = d →
    s.cmdKey c = some key →
    (∀ j ∈ s.slotsOf c (fun t => t == .loading || t == .sending), (s.slot k).offset ≤ (s.slot j).offset) →
    (s.conn d).alive = true → (s.slot k).offset + (s.slot k).length ≤ s.readGood c →
    (∀ b ∈ p, (s.slot k).length / s.blkSize (s.cmd c).ns ≤ b) → 0 < (s.slot k).length →
    ((s.conn d).rdma = true ∨ (s.slot k).length ≤ 65536) →
    x = { slot := k, key := key, ns := (s.cmd c).ns, lba := (s.cmd c).lba + (s.slot k).offset / s.blkSize (s.cmd c).ns } →
    ∃ u : State, exec (.slotSent k p) s =
        .next (if (u.slotsOf c fun _ => true).isEmpty ∧ (s.cmd c).status = 0 then u.complete c else u.readEnd c).settle ∧
      (u.slot k).state = .draining ∧ (u.conn d).unacked = true ∧ u.media = s.media ∧
      ∃ m ∈ (if bit (s.linkOf (s.conn d).link).paused (s.txPrio ((s.conn d).link / 4 % 2) (s.conn d).tc) = true then u.ctl.held
          else u.ctl.out),
        m.kind = (if (s.conn d).rdma = true then MK.rdmaWrite else .c2hData) ∧ m.dst = d ∧
        m.args = [(s.cmd c).sqe.cid, (s.slot k).offset, (s.slot k).length] ∧
        m.data = (s.slotRead x 0 ((s.slot k).length / s.blkSize (s.cmd c).ns)).1) ∧
  (∀ (k c b : Nat) (s : State), (s.slot k).state = .sending → (s.slot k).cmd = c →
    (∀ j ∈ s.slotsOf c (fun t => t == .loading || t == .sending), (s.slot k).offset ≤ (s.slot j).offset) →
    (s.conn (s.cmd c).conn).alive = true → (s.slot k).offset + (s.slot k).length ≤ s.readGood c →
    b < (s.slot k).length / s.blkSize (s.cmd c).ns →
    exec (.slotSent k [b]) s = .next (s.slotPoison k b).afterRows.settle) ∧
  (∀ (k : Nat) (p : List Nat) (s : State), (s.slot k).state = .sending →
    (∃ j ∈ s.slotsOf (s.slot k).cmd (fun t => t == .loading || t == .sending), (s.slot j).offset < (s.slot k).offset) →
    exec (.slotSent k p) s = .next s) ∧
  (∀ (s : State) (key ns lba : Nat) (b : Blk), b.ns = ns → b.key = key → b.lba = lba → ns ≠ 0 → s.decrypt key ns lba b = (b.plain, s))

/-! ### DRAM (12) -/

/-- Requests and windows of a channel (R336, R345, R347, R348): a Ready idle channel carries a request out at once, a whole-line
write stored with its check symbols, a read of a valid line issued and later checked; in a retrain window a request waits; ages
past the limit promote; refreshes and polls are counted, and a retrain window opens on one Ready channel at a time and ends with
its length. -/
def Obligations.DramRequests : Prop :=
  (∀ (ch : Nat) (r : DramReq) (d : List Byte) (s : State), ch < 4 → s.cstate ch = 3 → s.dramAddr ch r.line < s.dramCap → r.byte = 0 →
    r.data = some d → d.length = 128 → (s.chan ch).queue = [] →
    ∃ t, exec (.dramRequestIssue ch r) s = .next t ∧ t.rawLine ch r.line = encodeLine (ofBytes (d.map BitVec.toNat)) false ∧
      (t.chan ch).queue = []) ∧
  (∀ (ch : Nat) (r : DramReq) (s : State), ch < 4 → s.cstate ch = 3 → s.dramAddr ch r.line < s.dramCap → r.byte < 128 →
    r.data = none → (s.chan ch).queue = [] → s.validAt (s.dramAddr ch r.line) = true →
    ∃ t, exec (.dramRequestIssue ch r) s = .next t ∧ (t.chan ch).queue = [] ∧
      (t.chan ch).reads = (s.chan ch).reads ++ [{ line := r.line, cls := r.cls, raw := s.rawLine ch r.line }] ∧
      State.Only { s with dram := t.dram } t []) ∧
  (∀ (ch : Nat) (r : DramReq) (s : State), ch < 4 → s.cstate ch = 4 → s.dramAddr ch r.line < s.dramCap → r.byte < 128 →
    r.data = none → ((s.chan ch).queue.any fun w => w.req == r) = false →
    ∃ t, exec (.dramRequestIssue ch r) s = .next t ∧ (t.chan ch).queue = (s.chan ch).queue ++ [{ req := r, tIn := s.clk.tb }] ∧
      State.Only { s with dram := t.dram } t []) ∧
  (∀ (ch : Nat) (s : State), ch < 4 →
    ∃ t, exec (.dramAgePromote ch) s = .next t ∧ State.Only { s with dram := t.dram } t [] ∧
      (t.chan ch).queue = (s.chan ch).queue.map fun w =>
        { w with promoted := w.promoted || decide (s.ageLimit ch w.req.cls < s.clk.tb - w.tIn) }) ∧
  (∀ (ch x : Nat) (r : DrRead) (q : List DrRead) (s : State), (s.chan ch).reads = r :: q →
    ∃ u : State, exec (.dramReadComplete ch x) s = .next (u.readDone ch { r with raw := r.raw ^^^ x }).settle ∧ (u.chan ch).reads = q ∧ u.fields = s.fields) ∧
  (∀ (ch : Nat) (b : Bool) (s : State), s.cstate ch = 3 ∨ s.cstate ch = 4 →
    (∃ t, exec (.dramRefresh ch) s = .next t ∧ (t.chan ch).refreshes = (s.chan ch).refreshes + 1 ∧
      State.Only { s with dram := t.dram } t []) ∧
    (∃ t, exec (.dramMr4Poll ch b) s = .next t ∧ (t.chan ch).doubled = b ∧ State.Only { s with dram := t.dram } t [])) ∧
  (∀ (ch : Nat) (s : State), s.mode = .service → ch < 4 → s.on R.DR_RTCFG_RT_EN = true → s.cstate ch = 3 →
    (∀ c, c < 4 → s.cstate c ≠ 4) → ((s.chan ch).queue.any fun w => w.promoted && w.req.cls == 0) = false →
    ∃ t, exec (.dramRetrainWindow ch) s = .next t ∧ t.cstate ch = 4 ∧ s.Only t [R.DR_STS_CSTATE.key ch 0]) ∧
  (∀ (ch ns : Nat) (s : State), ch < 4 → s.cstate ch = 4 → (∀ h ∈ s.dram.held, h.ch ≠ ch) →
    ∃ t, exec (.dramRetrainWindowEnd ch ns) s = .next t ∧ t.cstate ch = 3 ∧ t.f R.DR_STS_RT_LAST_NS ch = min ns 65535 ∧
      State.Only { s with dram := t.dram } t [R.DR_STS_CSTATE.key ch 0, R.DR_STS_RT_LAST_NS.key ch 0]) ∧
  (∀ (ch : Nat) (s : State), ch < 4 → s.mode ≠ .off →
    ∃ t, exec (.dramAlertN ch) s = .next t ∧ (t.chan ch).alerts = (s.chan ch).alerts + 1 ∧ State.Only { s with dram := t.dram } t [])

/-- Marks, remap entries and training (R331, R338, R350, R355): an unmarked channel takes the device that MARK names, a marked one
refuses; CLEAR removes the mark; an entry goes in force from its staging copy, a taken place refuses, a channel not Ready answers
2, and the install waits in self-refresh or a retrain window; removal clears it; a training run counts errors per comparator;
training again with at most one failed device in a channel makes the channels Ready (with a reference, R18), and with another
topology it fails again. -/
def Obligations.DramRepair : Prop :=
  (∀ (ch dev : Nat) (s : State), s.mode ≠ .off → ch < 4 → dev < 10 → s.on R.DR_STS_MARK_VALID ch = false →
    ∃ t, exec (.drMark ch dev) s = .next t ∧ t.f R.DR_STS_MARK_VALID ch = 1 ∧ t.f R.DR_STS_MARK_DEV ch = dev ∧
      t.f R.DR_EVT_DEV_MARKED ch = 1 ∧ t.per.marks.get ch = dev + 1) ∧
  (∀ (ch dev : Nat) (s : State), s.mode ≠ .off → ch < 4 → dev < 10 → s.on R.DR_STS_MARK_VALID ch = true →
    ∃ t, exec (.drMark ch dev) s = .next t ∧ t.f R.DR_EVT_MARK_REFUSED ch = 1 ∧
      s.Only t [R.DR_MARK_DEV.key ch 0, R.DR_EVT_MARK_REFUSED.key ch 0]) ∧
  (∀ (ch : Nat) (s : State), s.mode ≠ .off → ch < 4 → s.on R.DR_STS_MARK_VALID ch = true →
    ∃ t, exec (.drClear ch) s = .next t ∧ t.f R.DR_STS_MARK_VALID ch = 0 ∧ t.f R.DR_STS_MARK_DEV ch = 0 ∧ t.per.marks.get ch = 0 ∧
      t.dram = s.dram) ∧
  (∀ (p : Path) (ch e : Nat) (s : State), s.mode ≠ .off → ch < 4 → s.cstate ch = 3 →
    e = (s.chan ch).rmStage.get (2 * s.idxF p R.DR_RMIDX_ENTRY ch) % 2 ^ 25 / 2 * 2 + 1 +
      (s.chan ch).rmStage.get (2 * s.idxF p R.DR_RMIDX_ENTRY ch + 1) % 64 * 2 ^ 32 →
    ((s.chan ch).remap.get (s.idxF p R.DR_RMIDX_ENTRY ch) = 0 → (s.chan ch).remap.any (fun (_, o) => entriesMeet o e) = false →
      ∃ t, exec (.remapInstall p ch) s = .next t ∧ t.f R.DR_RMCMD_RESULT ch = 0 ∧
        (t.chan ch).remap.get (s.idxF p R.DR_RMIDX_ENTRY ch) = e ∧
        t.per.remaps.get (ch * 16 + s.idxF p R.DR_RMIDX_ENTRY ch) = e) ∧
    ((s.chan ch).remap.get (s.idxF p R.DR_RMIDX_ENTRY ch) ≠ 0 →
      ∃ t, exec (.remapInstall p ch) s = .next t ∧ t.f R.DR_RMCMD_RESULT ch = 1 ∧ t.f R.DR_EVT_REMAP_FULL ch = 1 ∧
        s.Only t [R.DR_RMCMD_RESULT.key ch 0, R.DR_EVT_REMAP_FULL.key ch 0])) ∧
  (∀ (p : Path) (ch e : Nat) (s : State), s.mode ≠ .off → ch < 4 → s.cstate ch ≠ 3 →
    e = (s.chan ch).rmStage.get (2 * s.idxF p R.DR_RMIDX_ENTRY ch) % 2 ^ 25 / 2 * 2 + 1 +
      (s.chan ch).rmStage.get (2 * s.idxF p R.DR_RMIDX_ENTRY ch + 1) % 64 * 2 ^ 32 →
    ∃ t, exec (.remapInstall p ch) s = .next t ∧ t.f R.DR_RMCMD_RESULT ch = 2 ∧
      State.Only (s.drHold ⟨ch, 7, s.idxF p R.DR_RMIDX_ENTRY ch, e⟩) t [R.DR_RMCMD_RESULT.key ch 0]) ∧
  (∀ (p : Path) (ch : Nat) (s : State), s.mode ≠ .off → ch < 4 → s.cstate ch = 3 →
    ∃ t, exec (.remapRemove p ch) s = .next t ∧ t.f R.DR_RMCMD_RESULT ch = 0 ∧
      (t.chan ch).remap.get (s.idxF p R.DR_RMIDX_ENTRY ch) = 0) ∧
  (∀ (ch q : Nat) (l : List Nat) (s : State), ch < 4 → (s.mode = .discovery ∨ s.mode = .trial) → s.clk.stopped = false → s.cstate ch ≠ 0 → q < 80 →
    (s.f R.DR_TRN_CTL_PATTERN ch = 2 ∨ s.f R.DR_TRN_WORD_WORD ch ≠ 0) →
    ∃ t, exec (.trainingRun ch l) s = .next t ∧ (t.chan ch).trnErr.get q = min ((l[q]?).getD 0) (2 ^ 32 - 1) ∧
      State.Only { s with dram := t.dram } t []) ∧
  (∀ (f : TrainFound) (s : State), s.mode = .discovery → s.boot.trainFail = true → s.clk.stopped = false → s.f R.DR_GCFG_WIDTH ≤ 2 →
    f.topologyOk = true → (∀ c, c < s.nch → ((List.range 10).filter fun d => bit ((f.bad[c]?).getD 0) d).length < 2) →
    ∃ t, exec (.trainRetryTimer f) s = .next t ∧ t.boot.trainFail = false ∧ t.dram.patPos = 0 ∧ ∀ c, c < s.nch → t.cstate c = 3) ∧
  (∀ (f : TrainFound) (s : State), s.mode = .discovery → s.boot.trainFail = true → s.clk.stopped = false → s.f R.DR_GCFG_WIDTH ≤ 2 →
    f.topologyOk = false →
    ∃ t, exec (.trainRetryTimer f) s = .next t ∧ t.boot.trainFail = true ∧ t.dram = s.dram ∧
      ∀ c, c < s.nch → t.cstate c = 6 ∧ t.f R.DR_EVT_TRAIN_FAIL c = 1)

/-- Scrub and patrol (R351, R352): a start takes the range, cut to the capacity, and clears the summary; a stop ends it with its
event; within a region each line advances the position by one; the patrol goes from region to region and round. -/
def Obligations.DramScrubs : Prop :=
  (∀ s : State, s.mode = .service → s.on R.DR_SCR_CTL_ACTIVE = false → s.f R.DR_SCR_LEN_SCR_LEN ≠ 0 →
    ∃ t, exec .scrubStart s = .next t ∧ t.f R.DR_SCR_CTL_ACTIVE = 1 ∧ t.f R.DR_SCR_CTL_PAUSED = 0 ∧
      t.dram.scrPos = 32 * s.f R.DR_SCR_START_SCR_START ∧
      t.dram.scrEnd = min (s.f R.DR_SCR_START_SCR_START + s.f R.DR_SCR_LEN_SCR_LEN) (s.dramCap / 4096) ∧
      t.f R.DR_SCR_SUM0_CORRECTED = 0 ∧ t.f R.DR_SCR_SUM0_UNCORR = 0 ∧ t.f R.DR_SCR_SUM1_CANDIDATES = 0 ∧
      t.f R.DR_SCR_SUM1_POISONED = 0 ∧ t.f R.DR_SCR_SUM1_SKIPPED_K = 0 ∧ t.f R.DR_SCR_FAIL_LO_FAIL_LO = 0xFFFFFFFF) ∧
  (∀ s : State, s.mode ≠ .off → s.on R.DR_SCR_CTL_ACTIVE = true →
    ∃ t, exec .scrubStop s = .next t ∧ t.f R.DR_SCR_CTL_ACTIVE = 0 ∧ t.f R.DR_SCR_CTL_PAUSED = 0 ∧ t.f R.DR_EVT_SCRUB_DONE = 1 ∧
      s.Only t [R.DR_SCR_CTL_ACTIVE.key 0 0, R.DR_SCR_CTL_PAUSED.key 0 0, R.DR_EVT_SCRUB_DONE.key 0 0]) ∧
  (∀ (c a x : Nat) (s : State), s.mode = .service → s.on R.DR_SCR_CTL_ACTIVE = true → s.on R.DR_SCR_CTL_PAUSED = false →
    s.clk.stopped = false → s.dram.scrPos % 32 ≠ 0 → s.dram.scrPos / 32 < s.dram.scrEnd →
    s.dramAt (4096 * (s.dram.scrPos / 32) + 128 * (s.dram.scrPos % 32)) = (c, a) → s.cstate c = 3 →
    ∃ t, exec (.scrubLine x) s = .next t ∧ t.dram.scrPos = s.dram.scrPos + 1) ∧
  (∀ s : State, (s.mode = .discovery ∨ s.mode = .rebuild ∨ s.mode = .trial) → s.clk.stopped = false →
    (∀ c, c < s.nch → s.cstate c = 3 ∧ (s.chan c).queue = []) → 0 < s.dramCap / 4096 →
    s.dram.valid.get (s.dram.patPos % (s.dramCap / 4096)) = false →
    ∃ t, exec .dramPatrolStep s = .next t ∧ t.dram.valid.get (s.dram.patPos % (s.dramCap / 4096)) = true ∧
      t.dram.patPos = (s.dram.patPos % (s.dramCap / 4096) + 1) % (s.dramCap / 4096))

/-- The line buffer (R356): on a Ready channel, in the test window or in Trial, each command answers 0 and moves what its name
says; elsewhere it is refused with RESULT 2 and moves nothing. On a channel not Ready it answers 1 and moves nothing; in
self-refresh and in a retrain window it waits, and acts when the channel accepts requests again (R348, R375). The answer busy of a
channel that is not Ready is a choice of the model (notes/assumptions/22). -/
def Obligations.DramLineBuffer : Prop :=
  (∀ (c a x : Nat) (s : State), s.mode ≠ .off → x = s.f R.DR_LB_ADDR_LINE * 128 → s.dramAt x = (c, a) → x < s.dramCap →
    (s.mode = .trial ∨ s.inTest x = true) → s.cstate c = 3 → (∀ w ∈ (s.chan c).queue, w.req.line ≠ a) →
    (∃ t, exec .lbRawRead s = .next t ∧ t.f R.DR_LB_CMD_RESULT = 0 ∧
      ∀ i, i < 40 → t.dram.lb.get i = (s.rawLine c a >>> (32 * i)) % 2 ^ 32) ∧
    (∃ t, exec .lbRawWrite s = .next t ∧ t.f R.DR_LB_CMD_RESULT = 0 ∧ t.rawLine c a = s.lbGet) ∧
    (∃ t, exec .lbDataOnlyWrite s = .next t ∧ t.f R.DR_LB_CMD_RESULT = 0 ∧ lineData (t.rawLine c a) = lineData s.lbGet ∧
      t.rawLine c a / 2 ^ 1024 = s.rawLine c a / 2 ^ 1024) ∧
    (∃ t, exec .lbCheckOnlyWrite s = .next t ∧ t.f R.DR_LB_CMD_RESULT = 0 ∧ lineData (t.rawLine c a) = lineData (s.rawLine c a) ∧
      t.rawLine c a / 2 ^ 1024 = s.lbGet / 2 ^ 1024) ∧
    (∃ t, exec .lbPoisonWrite s = .next t ∧ t.f R.DR_LB_CMD_RESULT = 0 ∧ t.rawLine c a = encodeLine s.lbGet true) ∧
    (s.validAt (s.dramAddr c a) = true → ∃ t, exec .lbCorrectedRead s = .next t ∧ t.f R.DR_LB_CMD_RESULT = 0 ∧
      ∀ i, i < 40 → t.dram.lb.get i =
        (((decodeLine (s.markOf c) (s.rawLine c a)).data + s.rawLine c a / 2 ^ 1024 * 2 ^ 1024) >>> (32 * i)) % 2 ^ 32)) ∧
  (∀ (i : Instr) (s : State), i ∈ [Instr.lbRawRead, .lbRawWrite, .lbDataOnlyWrite, .lbCheckOnlyWrite, .lbPoisonWrite, .lbCorrectedRead] →
    s.mode ≠ .off → s.mode ≠ .trial → s.inTest (s.f R.DR_LB_ADDR_LINE * 128) = false →
    ∃ t, exec i s = .next t ∧ t.f R.DR_LB_CMD_RESULT = 2 ∧ s.Only t [R.DR_LB_CMD_RESULT.key 0 0]) ∧
  (∀ (i : Instr) (k c a x : Nat) (s : State),
    (i, k) ∈ [(Instr.lbRawRead, 1), (.lbRawWrite, 2), (.lbDataOnlyWrite, 3), (.lbCheckOnlyWrite, 4), (.lbPoisonWrite, 5),
      (.lbCorrectedRead, 6)] → s.mode ≠ .off →
    x = s.f R.DR_LB_ADDR_LINE * 128 → s.dramAt x = (c, a) → x < s.dramCap → (s.mode = .trial ∨ s.inTest x = true) → s.cstate c ≠ 3 →
    ∃ t, exec i s = .next t ∧ t.f R.DR_LB_CMD_RESULT = 1 ∧ State.Only (s.drHold ⟨c, k, a, s.lbGet⟩) t [R.DR_LB_CMD_RESULT.key 0 0]) ∧
  (∀ (ch ns a d : Nat) (s : State), ch < 4 → s.cstate ch = 4 → s.dram.held = [⟨ch, 2, a, d⟩] →
    ∃ t, exec (.dramRetrainWindowEnd ch ns) s = .next t ∧ t.dram.held = [] ∧ t.f R.DR_LB_CMD_RESULT = 0 ∧ t.rawLine ch a = d)

/-! ### Media work (07, 08, 09) -/

/-- Row programs and erases start (R218, R230, R233, R250, R296): within the budgets the seat's next row program starts its recipe
and is marked running, the row's parity computed before its first program; out of program order it does not, and is an order
fault; above the budgets it waits and is counted; where another seat of the crew has one that goes first it waits; the erase that
comes next starts its recipe. -/
def Obligations.ProgramsAndErases : Prop :=
  (∀ (c k : Nat) (j : Job) (s : State), s.assignShells.pickProgram c k = some j → c < 64 → k < 32 →
    s.assignShells.progReady c k = true →
    (s.assignShells.budgetOk c k = false → exec (.programStart c k) s = .next (s.assignShells.stat c 10).settle) ∧
    (s.assignShells.budgetOk c k = true → s.assignShells.goesFirst c k (some j) = true → exec (.programStart c k) s = .next s) ∧
    (s.assignShells.budgetOk c k = true → s.assignShells.goesFirst c k (some j) = false →
      (j.row = 0 ∨ bit (s.assignShells.media.flash.get (flashKey (j.shell - 1) (j.row - 1))).done k = true) →
      bit (s.assignShells.media.flash.get (flashKey (j.shell - 1) j.row)).done k = false →
      exec (.programStart c k) s = .next ((((((if j.done = 0 ∧ j.running = 0 then
          s.assignShells.modJob j.id fun i => s.assignShells.encodeRow i else s.assignShells).modJob j.id fun x =>
        { x with todo := setBit x.todo k false, running := setBit x.running k true }).startRun c k (if j.slc then 16 else 15)
          (.program j.id)).stat c 7).redecide c).settle)) ∧
    (s.assignShells.budgetOk c k = true → s.assignShells.goesFirst c k (some j) = false →
      bit (s.assignShells.media.flash.get (flashKey (j.shell - 1) j.row)).done k = true →
      ∃ u : State, exec (.programStart c k) s = .next (((u.seatLost (j.shell - 1) k).finishRow j.id).afterRows.settle) ∧
        u.f R.LN_EVT_ORDER_FAULT k = 1 ∧
        u.f R.LN_FAULTS_ORDER_FAULTS k =
          satAdd R.LN_FAULTS_ORDER_FAULTS.w (s.assignShells.f R.LN_FAULTS_ORDER_FAULTS k) 1)) ∧
  (∀ (c k x : Nat) (s : State), s.nextErase c = some x → c < 64 → k < 32 → bit (s.shell x).erased k = false →
    (s.shell x).relSeq ≤ s.media.seqFlash → s.readsShell x = false → s.eraseWanted c x = true → s.progReady c k = true →
    s.pickProgram c k = none → (s.ledgerAt c k (x % 8192)).grown = false → (s.shell x).st = 4 →
    (s.budgetOk c k = true → s.goesFirst c k none = true → exec (.eraseStart c k) s = .next s) ∧
    (s.budgetOk c k = true → s.goesFirst c k none = false → exec (.eraseStart c k) s =
      .next ((((s.startRun c k (if (s.shell x).slc then 18 else 17) (.erase x)).stat c 8).redecide c).settle)) ∧
    (s.budgetOk c k = false → exec (.eraseStart c k) s = .next (s.stat c 10).settle))

/-- What the timers of media management start (R198, R257, R265, R271, R272): rows that have dwelt spill, the longest held with an
event; a waiting tail is programmed as a Logbook row, after which only the record of a shell that it opened waits; a relocation
job and a Tally segment start; the Ledger clock counts minutes and is recorded. -/
def Obligations.MediaTimers : Prop :=
  (∀ (z : Nat) (s : State), s.mediaRuns = true → s.partialRows z ≠ [] →
    exec (.spillDwellTimer z) s = .next ((s.spillPartial z).afterRows.settle)) ∧
  (∀ (z : Nat) (s : State), s.mediaRuns = true → s.partialRows z ≠ [] →
    ∃ u : State, exec (.spillHoldMaxTimer z) s = .next ((u.spillPartial z).afterRows.settle) ∧ u.media = s.media ∧
      u.f R.MD_ZEVT_HOLD_SPILL = 1) ∧
  (∀ (x : Nat) (s : State), s.mediaRuns = true → s.media.tail ≠ [] → s.logShell = some x →
    ∃ t, exec .logHoldTimer s = .next t ∧ ((s.shell x).st ≠ 1 → t.media.tail = []) ∧
      (∀ r ∈ t.media.tail, r.kind = .shell ∧ r.obj = x) ∧
      ∃ j ∈ t.media.jobs, j.kind = .log ∧ j.shell = x + 1 ∧ j.id = s.media.nextJob ∧ s.media.tail <+: j.recs) ∧
  (∀ s t : State, (s.mode = .rebuild ∨ s.mode = .service ∨ s.mode = .readOnly) → s.clk.stopped = false → s.cpUp = true →
    s.relocActive < s.f R.MD_RELOC_RELOC_MAX →
    ((s.media.relocs.keysWhere fun _ r => r.alive && !r.started).foldr s.relocInsert []).findSome? s.relocTry = some t →
    exec .relocJobStart s = .next t.afterRows.settle) ∧
  (∀ s : State, (s.mode = .service ∨ s.mode = .readOnly) → s.clk.stopped = false → s.per.tallyShells ≠ [] →
    s.media.jobs.any (fun j => j.kind == .tally) = false →
    s.cpUp = true → s.media.tallyFree ≤ s.clk.tb →
    ∃ u : State, exec .tallySegmentStart s = .next u.assignShells.settle ∧
      u.media.tseg = (s.media.tseg % s.tallySegments + 1) % s.tallySegments ∧ u.per = s.per) ∧
  (∀ s : State, (s.mode = .discovery ∨ s.mode = .rebuild ∨ s.mode = .feathered) →
    ∃ t, exec .ledgerClockMinute s = .next t ∧ t.per.clock = s.per.clock + 1 ∧ t.media.clockMin = s.media.clockMin + 1 ∧
      State.Only { s with per := { s.per with clock := s.per.clock + 1 },
                          media := { s.media with clockMin := s.media.clockMin + 1 } } t []) ∧
  (∀ s : State, (s.mode = .service ∨ s.mode = .readOnly) →
    ∃ u : State, exec .ledgerClockMinute s = .next (((List.range 8).foldl State.wearCheck u.refreshAges).settle) ∧
      u.per.clock = s.per.clock + 1) ∧
  (∀ s : State, (s.mode = .rebuild ∨ s.mode = .service ∨ s.mode = .readOnly ∨ s.mode = .sanitize) →
    ∃ t, exec .ledgerClockRecord s = .next t ∧ t.media.clockMin = 0 ∧ t.per.clock = s.per.clock ∧
      ∃ r ∈ t.media.tail, r.kind = .clock ∧ r.obj = s.per.clock)

/-- Recipes (R281, R288 to R290, R299, R303). A run stands where `advance` takes it; a granted state without data goes to NEXT; a
POLL that reads ready goes to NEXT, another waits again; a transfer without strobe ends as no response; the oldest stroke-gated
command is issued in its slot, once a Stroke; WAIT, POLL interval and Easy end; a program's result goes to its row. Bit 6 of the
status byte is the ready bit by notes/assumptions/48. -/
def Obligations.RecipesRun : Prop :=
  (∀ (c k slot : Nat) (f : RunFor) (o : RecipeOp) (s : State), s.recipe c k slot = some o →
    ((s.startRun c k slot f).die c k).run =
      some (advance o s.clk.tb 1024 { slot := slot, serves := f, tStart := s.clk.tb, tWait := s.clk.tb, pc := o.start })) ∧
  (∀ (l c d : Nat) (b : Bool) (r : Run) (s : State), l < 32 → c < 64 → (s.die c l).run = some r → s.lstate l = 2 →
    s.gated c l r = false → s.busFirst l c r = true → r.phase = 0 → s.grantHeld l (opState (s.runOp c l r) r.pc).1 = false →
    ((opState (s.runOp c l r) r.pc).1 % 256 ∉ [4, 6, 9] →
      ∃ t, exec (.busGrant l c b d) s = .next t ∧ State.Only { s with flash := t.flash } t [] ∧ (t.die c l).run =
        some (advance (s.runOp c l r) s.clk.tb 1024 { r with pc := (opState (s.runOp c l r) r.pc).2 % 64 })) ∧
    ((opState (s.runOp c l r) r.pc).1 % 256 = 6 → bit d 6 = false → s.overTime c l r = false →
      ∃ t, exec (.busGrant l c true d) s = .next t ∧ (t.die c l).run = some { r with status := d % 256, phase := 2 }) ∧
    ((opState (s.runOp c l r) r.pc).1 % 256 = 6 → bit d 6 = true →
      ∃ t, exec (.busGrant l c true d) s = .next t ∧ (t.die c l).run = some (advance (s.runOp c l r) s.clk.tb 1024
        { r with status := d % 256, pc := (opState (s.runOp c l r) r.pc).2 % 64 })) ∧
    ((opState (s.runOp c l r) r.pc).1 % 256 = 4 →
      exec (.busGrant l c false d) s = .next (((s.strobeSeen l c false).noResponse c l r).afterRows.settle))) ∧
  (∀ (l c : Nat) (r : Run) (s : State), l < 32 → c < 64 → s.lstate l = 2 → (s.die c l).run = some r → s.gated c l r = true →
    (∀ (e : Nat) (q : Run), e < 64 → e ≠ c → (s.die e l).run = some q → s.gated e l q = true →
      r.tWait < q.tWait ∨ r.tWait = q.tWait ∧ c < e) →
    s.slotOpen l = true → s.busFirst l c r = true →
    ∃ t, exec (.strokeSlotOpen l) s = .next t ∧ (t.lane l).stroke = s.clk.tb / Config.stroke + 1 ∧
      State.Only { s with flash := t.flash } t [] ∧ (t.die c l).run =
        some (advance (s.runOp c l r) s.clk.tb 1024 { r with pc := (opState (s.runOp c l r) r.pc).2 % 64 })) ∧
  (∀ (l c : Nat) (r : Run) (s : State), (s.die c l).run = some r → r.phase = 1 →
    ∃ t, exec (.recipeWaitExpiry l c) s = .next t ∧ State.Only { s with flash := t.flash } t [] ∧ (t.die c l).run =
      some (advance (s.runOp c l r) s.clk.tb 1024 { r with pc := (opState (s.runOp c l r) r.pc).2 % 64 })) ∧
  (∀ (l c : Nat) (b : Byte) (r : Run) (s : State), (s.die c l).run = some r → r.phase = 2 → s.lstate l ≠ 4 → bit b.toNat 6 = true →
    ∃ t, exec (.pollInterval l c (some b)) s = .next t ∧ State.Only { s with flash := t.flash } t [] ∧ (t.die c l).run =
      some (advance (s.runOp c l r) s.clk.tb 1024
        { r with status := b.toNat, pc := (opState (s.runOp c l r) r.pc).2 % 64 })) ∧
  (∀ (l c : Nat) (o : Option Byte) (r : Run) (s : State), (s.die c l).run = some r → r.phase = 2 → s.lstate l = 4 →
    ∃ t, exec (.pollInterval l c o) s = .next t ∧ (t.die c l).run = some { r with phase := 4 }) ∧
  (∀ (l c id : Nat) (r : Run) (s : State), (s.die c l).run = some r → r.phase = 3 → r.res ≠ 3 → r.failed = none →
    r.serves = .program id →
    ∃ u : State, exec (.recipeEnd l c) s = .next (((u.programEnd c l id (r.res == 0)).afterRecipe c).settle) ∧
      (u.die c l).run = none ∧ (u.die c l).easy = decide (0 < s.f R.LN_EASY_EASY l) ∧ u.media = s.media) ∧
  (∀ (l c : Nat) (r : Run) (s : State), (s.die c l).run = some r → r.phase = 3 → r.res = 3 → r.failed = none →
    exec (.recipeEnd l c) s = .next ((s.noResponse c l r).afterRows.settle)) ∧
  (∀ (l c : Nat) (s : State), (s.die c l).easy = true →
    ∃ t, exec (.easyIntervalEnd l c) s = .next t ∧ (t.die c l).easy = false ∧ (t.die c l).run = (s.die c l).run ∧
      State.Only { s with flash := t.flash } t [])

/-- Codewords (R222, R317, R322, R326): a decoded one is delivered; a failed one, its rejects counted, goes to the next step of
its recovery, then to the soft step, then to the rebuild from parity, and one whose unit another read now recovers joins it; a
rebuilt one is delivered; a patrol reads the four codewords of a page. -/
def Obligations.CodewordsDecode : Prop :=
  (∀ (l n tier bits rejects : Nat) (mis : Bool) (s : State), (s.cw n).alive = true → (s.cw n).phase = 2 → (s.cw n).seat = l →
    exec (.codewordDecoded l n (.ok tier bits rejects mis)) s = .next (((n :: s.joined n).foldl (fun s m => s.decodedTo l mis m)
      ((s.crcRejects l n rejects).decodedOk l n tier bits)).afterRows.settle)) ∧
  (∀ (l n x k : Nat) (s u0 : State), u0 = s.crcRejects l n k → (s.cw n).alive = true → (s.cw n).phase = 2 → (s.cw n).seat = l → (s.cw n).step < 16 →
    (s.cw n).step + 1 < (s.cw n).count → u0.joins n { s.cw n with phase := 0 } = false →
    ∃ u : State, exec (.codewordDecoded l n (.fail x k)) s = .next u.afterRows.settle ∧ (u.cw n).step = (s.cw n).step + 1 ∧
      (u.cw n).phase = 0 ∧ State.Only { u0 with flash := u.flash } u []) ∧
  (∀ (l n x k : Nat) (s u0 : State), u0 = s.crcRejects l n k → (s.cw n).alive = true → (s.cw n).phase = 2 → (s.cw n).seat = l → (s.cw n).step < 16 →
    (s.cw n).count ≤ (s.cw n).step + 1 → s.on R.DC_CFG_SOFT_EN l = true → u0.joins n { s.cw n with phase := 0 } = false →
    ∃ u : State, exec (.codewordDecoded l n (.fail x k)) s = .next u.afterRows.settle ∧ (u.cw n).step = 16 ∧ (u.cw n).phase = 0 ∧
      State.Only { u0 with flash := u.flash } u []) ∧
  (∀ (l n x k : Nat) (s u0 : State), u0 = s.crcRejects l n k → (s.cw n).alive = true → (s.cw n).phase = 2 → (s.cw n).seat = l → (s.cw n).step = 16 →
    u0.joins n { s.cw n with phase := 0 } = false →
    exec (.codewordDecoded l n (.fail x k)) s = .next ((u0.cwFailed l n).afterRows.settle)) ∧
  (∀ (l n x k : Nat) (s u0 : State), u0 = s.crcRejects l n k → (s.cw n).alive = true → (s.cw n).phase = 2 → (s.cw n).seat = l →
    u0.joins n { s.cw n with phase := 0 } = true →
    ∃ t, exec (.codewordDecoded l n (.fail x k)) s = .next t ∧ (t.cw n).step = (s.cw n).step ∧ (t.cw n).phase = 0 ∧
      State.Only { u0 with flash := t.flash } t []) ∧
  (∀ (n : Nat) (s : State), (s.cw n).alive = true → (s.cw n).phase = 4 →
    exec (.parityRebuildDone n) s = .next (((s.stat (s.cw n).crew (if (s.cw n).loc then 1 else 2)).deliver n).afterRows.settle)) ∧
  (∀ (x r k p : Nat) (s : State), (s.mode = .service ∨ s.mode = .readOnly) → s.cpUp = true → s.patrols x = true → r < (s.shell x).rows → s.lostUnit x k = false →
    k < 32 → p < seatUnits (s.shell x).slc / 4 →
    exec (.patrolRead x r k p) s = .next (((List.range 4).foldl (fun (u : State) i =>
      (u.addCw { purpose := .patrol, crew := crewOf x, seat := k, shell := x, row := r, slc := (s.shell x).slc,
                 unit := 4 * p + i }).cwDecide u.flash.nextCw) (s.patrolled k x r p)).settle))

/-! ### Lanes (10, 11) -/

/-- Retrain and recovery of a lane (R235, R305 to R308): a request that nothing forbids is in force and waits for quiet boats, by
whichever of its three ways it comes; one refused shows RESULT 3, and an automatic one stays pending; training ends in the lane's
run state with its result; a recovered lane runs again, and the third failed attempt ends the lane. -/
def Obligations.LanesRetrain : Prop :=
  (∀ (l : Nat) (i : Instr) (s : State), l < 32 → s.mode ≠ .off → s.lstate l = 2 → s.retrainRefused l = false →
    s.on R.LN_RT_STS_ACTIVE l = false →
    (i = .lnRetrain l ∨ i = .retrainAgeTimer l ∧ s.on R.LN_CFG_AUTO_RT l = true ∨
      i = .retrainRecheckTimer l ∧ s.on R.LN_RT_STS_PENDING l = true) →
    ∃ u : State, exec i s = .next u.quiesce.settle ∧ u.f R.LN_RT_STS_ACTIVE l = 1 ∧ u.f R.LN_RT_STS_PENDING l = 0 ∧
      (u.lane l).rtWait = true ∧ (u.lane l).rtStart = s.clk.tb ∧ u.media = s.media) ∧
  (∀ (l : Nat) (s : State), l < 32 → s.mode ≠ .off → s.lstate l = 2 → s.retrainRefused l = true → s.on R.LN_RT_STS_ACTIVE l = false →
    (∃ t, exec (.lnRetrain l) s = .next t ∧ t.f R.LN_RT_STS_RESULT l = 3 ∧ t.f R.LN_EVT_RT_REFUSED l = 1 ∧
      t.f R.LN_RT_STS_PENDING l = s.f R.LN_RT_STS_PENDING l ∧ t.flash = s.flash) ∧
    (s.on R.LN_CFG_AUTO_RT l = true → ∃ t, exec (.retrainAgeTimer l) s = .next t ∧ t.f R.LN_RT_STS_RESULT l = 3 ∧
      t.f R.LN_RT_STS_PENDING l = 1 ∧ t.flash = s.flash)) ∧
  (∀ (l f : Nat) (cal : List Word) (s : State), l < 32 → s.lstate l = 3 →
    ∃ u : State, exec (.retrainTrainingDone l f cal) s = .next ((((List.range 64).foldl State.redecide u).quiesce).settle) ∧
      u.lstate l = 2 ∧ u.f R.LN_RT_STS_ACTIVE l = 0 ∧ u.f R.LN_RT_STS_RESULT l = (if (List.range 8).any fun t => bit f t then 2 else 1) ∧
      u.f R.LN_EVT_RT_DONE l = 1 ∧ ((List.range 8).any (fun t => bit f t) = true → u.f R.LN_EVT_RT_PARTIAL l = 1) ∧
      u.media = s.media) ∧
  (∀ (l : Nat) (s : State), l < 32 → s.lstate l = 4 → (∀ c, c < 64 → ∀ r, (s.die c l).run = some r → r.phase ≠ 4) →
    ∃ u : State, exec (.laneRecoveryDone l true) s = .next (((List.range 64).foldl State.redecide u).afterRows.settle) ∧
      u.lstate l = 2 ∧ u.f R.LN_EVT_LANE_RECOVERED l = 1 ∧ (u.lane l).attempts = 0 ∧ u.media = s.media) ∧
  (∀ (l : Nat) (s : State), l < 32 → s.lstate l = 4 → (s.lane l).attempts < 2 →
    ∃ t, exec (.laneRecoveryDone l false) s = .next t ∧ (t.lane l).attempts = (s.lane l).attempts + 1 ∧
      State.Only { s with flash := t.flash } t []) ∧
  (∀ (l : Nat) (s : State), l < 32 → s.lstate l = 4 → 2 ≤ (s.lane l).attempts → (∀ c, c < 64 → (s.die c l).matched = false) →
    ∃ u : State, exec (.laneRecoveryDone l false) s = .next u.afterRows.settle ∧ u.lstate l = 5)

/-- Smaller controls of a lane and of the Cox (R230, R235, R302, R304, R327): DIV_CUR moves one step toward its goal; a die's
temperature is read through its recipe's offset and gain; a forced seat of a Healthy crew is taken, one refused is an event, and
EN 0 ends it; BUSY_BUDGET takes 1, and 2 on a Haul crew; the self-test runs in Trial only and shows its result. -/
def Obligations.LaneControls : Prop :=
  (∀ (l g : Nat) (s : State), l < 32 → s.lstate l ∈ [2, 3, 4] → s.on R.LN_STS_PACER l = false →
    g = max (max (s.f R.LN_CFG_DIV_TARGET l) (s.f R.LN_STS_DIV_MIN l)) s.pwr.divFloor → s.f R.LN_STS_DIV_CUR l ≠ g →
    ∃ t, exec (.divStep l) s = .next t ∧ s.Only t [R.LN_STS_DIV_CUR.key l 0] ∧ t.f R.LN_STS_DIV_CUR l =
      (if g < s.f R.LN_STS_DIV_CUR l then s.f R.LN_STS_DIV_CUR l - 1 else s.f R.LN_STS_DIV_CUR l + 1) % 2 ^ R.LN_STS_DIV_CUR.w) ∧
  (∀ (l c : Nat) (raw : Int) (b : RecipeSet) (s : State), l < 32 → s.lstate l = 2 → s.tempDie l = some c →
    s.boot.image.recipes[(s.die c l).set]? = some b → s.on R.LN_CFG_AUTO_RT l = false →
    ∃ t, exec (.tempReadTimer l raw) s = .next t ∧ (t.die c l).temp = b.tempOff + raw * b.tempGain / 16 ∧
      (t.die c l).tempTb = s.clk.tb ∧ (t.lane l).tempNext = (c + 1) % 64 ∧
      State.Only { s with flash := t.flash } t [R.LN_OPS_RECIPES.key l 0]) ∧
  (∀ (v : Word) (c k : Nat) (s : State), s.mode ≠ .off → c = bitsOf v.toNat 0 6 → k = bitsOf v.toNat 8 5 → bit v.toNat 16 = true →
    s.on R.SH_FORCE_EN = false →
    ((s.crew c).st = 2 → (∀ l, l < 32 → s.on R.LN_RT_STS_ACTIVE l = false) → s.retrainRefused k = false →
      ∃ u : State, exec (.shForceWrite v) s = .next (((u.redecide (s.f R.SH_FORCE_CREW)).forceCheck).afterRows.settle) ∧ u.f R.SH_FORCE_EN = 1 ∧
        u.f R.SH_FORCE_CREW = c ∧ u.f R.SH_FORCE_SEAT = k ∧ u.media = s.media) ∧
    ((s.crew c).st ≠ 2 → ∃ t, exec (.shForceWrite v) s = .next t ∧ t.f R.SH_EVT_FORCE_REFUSED = 1 ∧
      s.Only t [R.SH_EVT_FORCE_REFUSED.key 0 0])) ∧
  (∀ (v : Word) (s : State), s.mode ≠ .off → bit v.toNat 16 = false →
    ∃ u : State, exec (.shForceWrite v) s = .next ((u.redecide (s.f R.SH_FORCE_CREW)).afterRows.settle) ∧ u.f R.SH_FORCE_EN = 0 ∧
      u.f R.SH_FORCE_ACTIVE = 0) ∧
  (∀ (c v : Nat) (s : State), s.mode ≠ .off → c < 64 →
    ((v = 1 ∨ v = 2 ∧ s.fmt c = 3) → ∃ t, exec (.busyBudgetWrite c v) s = .next t ∧ t.f R.SH_CREW_BUSY_BUDGET 0 c = v ∧
      s.Only t [R.SH_CREW_BUSY_BUDGET.key 0 c]) ∧
    (¬ (v = 1 ∨ v = 2 ∧ s.fmt c = 3) → ∃ t, exec (.busyBudgetWrite c v) s = .next t ∧ t.f R.GL_EVT_INVALID_ENC = 1 ∧
      s.Only t [R.GL_ACC_INVALID_ENCS.key 0 0, R.GL_EVT_INVALID_ENC.key 0 0])) ∧
  (∀ (l : Nat) (s : State), l < 32 → s.mode = .trial → s.on R.DC_ST_STS_ACTIVE l = false →
    ∃ t, exec (.selftestStart l) s = .next t ∧ t.f R.DC_ST_STS_ACTIVE l = 1 ∧ (t.lane l).selftest =
        [s.f R.DC_ST_CTL_CODE l, s.f R.DC_ST_CTL_TIER l, s.f R.DC_ST_CTL_ERRORS l, s.f R.DC_ST_SEED_SEED l, s.f R.DC_ST_CTL_COUNT l] ∧
      State.Only { s with flash := t.flash } t [R.DC_ST_STS_ACTIVE.key l 0]) ∧
  (∀ (l : Nat) (s : State), l < 32 → s.mode ≠ .off → s.mode ≠ .trial →
    ∃ t, exec (.selftestStart l) s = .next t ∧ t.f R.DC_ST_STS_RESULT l = 3 ∧ t.f R.DC_EVT_ST_REFUSED l = 1 ∧
      s.Only t [R.DC_ST_STS_RESULT.key l 0, R.DC_EVT_ST_REFUSED.key l 0]) ∧
  (∀ (l f d m n : Nat) (s : State), l < 32 → s.on R.DC_ST_STS_ACTIVE l = true → m = ((s.lane l).selftest[4]?).getD 1 →
    n = min m (Config.selftestFails (s.lane l).selftest % (m + 1) + f) →
    ∃ t, exec (.selftestDone l f d) s = .next t ∧ t.f R.DC_ST_STS_ACTIVE l = 0 ∧ t.f R.DC_ST_STS_RESULT l = (if n = 0 then 1 else 2) ∧
      t.f R.DC_ST_STS_FAILS l = min n (2 ^ R.DC_ST_STS_FAILS.w - 1) ∧
      t.f R.DC_ST_SIG_SIG l = Config.selftestSig ((s.lane l).selftest ++ if d = 0 then [] else [d]) % 2 ^ 32 ∧ t.f R.DC_EVT_ST_DONE l = 1 ∧
      s.Only t [R.DC_ST_STS_ACTIVE.key l 0, R.DC_ST_STS_RESULT.key l 0, R.DC_ST_STS_FAILS.key l 0, R.DC_ST_SIG_SIG.key l 0,
        R.DC_EVT_ST_DONE.key l 0])

/-! ### Bootstrap, Discovery, Rebuild and the other changes of mode (01, 15, 16) -/

/-- Bootstrap (R19, R418 to R420, R423): without a live reference the NOR is not read and the wait is logged; with one the images
are next, read with a live reference only; the preferred image that verifies is booted, and with none the part is sealed with
cause 4; the copy of the higher GEN that is accepted is taken, else the other, and with none the cause is 5; a REVOKE accepted
meanwhile seals with cause 6. -/
def Obligations.BootstrapSteps : Prop :=
  (∀ s : State, s.bootWaits = true → s.live 0 = false → s.live 1 = false →
    (∃ t, exec .bootRefWaitTimer s = .next t ∧ t.f R.CK_EVT_REF_WAIT = 1 ∧ s.Only t [R.CK_EVT_REF_WAIT.key 0 0]) ∧
    ∀ b, exec (.bootReferenceReady b) s = .next s) ∧
  (∀ s : State, s.bootWaits = true → (s.live 0 = true ∨ s.live 1 = true) → s.boot.revokePend = false →
    (∃ t, exec (.bootReferenceReady true) s = .next t ∧ t.f R.BT_STS_STEP = 6 ∧ t.f R.CR_RNG_READY = 1 ∧
      s.Only t [R.BT_STS_PREFER.key 0 0, R.BT_STS_STEP.key 0 0, R.CR_RNG_READY.key 0 0]) ∧
    exec (.bootReferenceReady false) s = .next (s.bootSeal 7).settle) ∧
  (∀ (a b m : SignedFacts) (s : State), s.mode = .bootstrap → s.f R.BT_STS_STEP = 6 →
    (s.live 0 = true ∨ s.live 1 = true) → s.boot.revokePend = false →
    s.boot.trialPend = false → s.life ≠ 0 → s.f R.BT_STS_PREFER = 0 → s.imageOk a = true →
    ∃ t, exec (.bootImageVerified a b m) s = .next t ∧ t.f R.BT_STS_STEP = 8 ∧ t.f R.BT_STS_BANK_BOOTED = 0 ∧
      t.f R.BT_VER_FW_SVN = a.svn % 2 ^ R.BT_VER_FW_SVN.w ∧ t.boot.otherPending = true ∧ t.mode = .bootstrap) ∧
  (∀ (a b m : SignedFacts) (s : State), s.mode = .bootstrap → s.f R.BT_STS_STEP = 6 →
    (s.live 0 = true ∨ s.live 1 = true) → s.boot.revokePend = false →
    s.f R.BT_STS_PREFER = 0 → s.imageOk a = false → s.imageOk b = false →
    ∃ u : State, exec (.bootImageVerified a b m) s = .next (u.bootSeal 4).settle ∧ u.f R.BT_EVT_IMAGE_FAIL = 1 ∧
      u.f R.BT_FWVER_VERSION 0 0 = 0 ∧ u.f R.BT_FWVER_VERSION 0 1 = 0 ∧ u.mode = .bootstrap) ∧
  (∀ (x y : IdolobCopy) (p : Probe) (s : State), s.mode = .bootstrap → s.f R.BT_STS_STEP = 8 →
    (s.live 0 = true ∨ s.live 1 = true) → s.boot.revokePend = false →
    (y.gen ≤ x.gen → s.copyOk x = true → exec (.bootIdolobAccepted x y p) s = .next (s.copyTaken 0 x p).settle) ∧
    (x.gen < y.gen → s.copyOk y = true → exec (.bootIdolobAccepted x y p) s = .next (s.copyTaken 1 y p).settle) ∧
    (s.copyOk x = false → s.copyOk y = false →
      ∃ u : State, exec (.bootIdolobAccepted x y p) s = .next (u.bootSeal 5).settle ∧ u.f R.BT_EVT_IDL_FAIL = 1)) ∧
  (∀ (k : Nat) (s : State), s.mode = .bootstrap → k < 8 →
    (s.bootSeal k).mode = .sealed ∧ (s.bootSeal k).f R.BT_STS_SEAL_CAUSE = k ∧ (s.bootSeal k).f R.BT_EVT_SEALED = 1) ∧
  (∀ (f : SignedFacts) (b : Nat) (s : State), s.boot.otherPending = true → (s.mode = .discovery ∨ s.mode = .service) →
    s.f R.BT_STS_BANK_BOOTED ≤ 1 → b = 1 - s.f R.BT_STS_BANK_BOOTED →
    (s.imageOk f = true → ∃ t, exec (.secondImageVerify f) s = .next t ∧ bit t.boot.imgOk b = true ∧ t.boot.otherPending = false ∧
      t.f R.BT_FWVER_VERSION 0 b = f.version % 2 ^ R.BT_FWVER_VERSION.w) ∧
    (s.imageOk f = false → ∃ t, exec (.secondImageVerify f) s = .next t ∧ t.f R.BT_FWVER_VERSION 0 b = 0 ∧
      t.f R.BT_EVT_IMAGE_FAIL = 1 ∧ t.boot.svns = none))

/-- The ends of Discovery and Rebuild (Table 01-8, R31): after a clean close Discovery loads its tables and moves to Service,
without one it moves to Rebuild; Rebuild adopts what the scan finds and moves to Service, or to Read-Only where the spares do not
suffice. -/
def Obligations.DiscoveryAndRebuildEnd : Prop :=
  (∀ s : State, s.mode = .discovery → s.boot.trainFail = false → s.clk.stopped = false → s.boot.clean = false →
    exec .discoveryDone s = .next (((((({ s.slicesStart.unwrapKeys with media.loadStart := s.clk.tb } : State).setF
      R.MD_REBUILD_STEP 1).move 0x05 .rebuild).portsTrain).discSync s).settle)) ∧
  (∀ s u : State, s.mode = .discovery → s.boot.trainFail = false → s.clk.stopped = false → s.boot.clean = true →
    u = ((s.slicesStart.unwrapKeys.handleOpen.zoneSettleAll false).requeue.requeueShells).loadEnd.spareReport → s.per.san ≠ 2 →
    exec .discoveryDone s = .next ((((u.move 0x04 .service).portsTrain.spareCheck).discSync s).settle)) ∧
  (∀ (bad : List ScanBad) (l : List ScanRow) (s u : State), l = s.scan bad → s.mode = .rebuild → s.clk.stopped = false →
    u = ((((l.foldl State.scanWp (l.foldl State.adopt (s.scanReads l))).requeue.handleOpen.zoneSettleAll
      true).requeueShells).loadEnd.spareReport) →
    u.per.san ≠ 2 →
    (u.spareOk = true →
      exec (.rebuildDone bad) s = .next ((({ u with per.roEntry := false }.move 0x06 .service).afterRows).settle)) ∧
    (u.spareOk = false → exec (.rebuildDone bad) s =
      .next (((({ u with per.roEntry := true }.record .mode 3).raise R.MD_EVT_READ_ONLY).move 0x08 .readOnly).afterRows.settle))) ∧
  (∀ (t : Nat) (m : Mode) (s : State), canMove s.mode t m = true → (s.move t m).mode = m ∧ (s.move t m).ctl.prev = s.mode.num ∧
    (s.move t m).ctl.trigger = t ∧ (s.move t m).f R.GL_EVT_MODE_CHG = 1)

/-- The other changes of mode (R34, R39, R44, R417, Table 01-8): Feathered is entered when nothing is at work, and the request
answers; Trial is entered from Bootstrap as it was asked for, and left to Bootstrap, as Sealed is under the monitor; a manager's
reset and a firmware activation restart the block; in every other mode each of these triggers is ignored with its event. Control
processors (R444, R445): a lockstep mismatch and an overdue watchdog stop the processor that they name, which shows in CP_OK with
its cause; a takeover is counted, and relocations that have not committed are abandoned. An SRAM word with up to 4 symbols in
error is corrected and counted for its row, a row with 4 such reads is replaced by a spare one, a word with more is uncorrectable,
and a staged block in it is lost to reads (R442, R443, R448). When nothing is at work is read as notes/assumptions/55 says. -/
def Obligations.ModeRequestsAndFaults : Prop :=
  (∀ s : State, s.mode = .service → s.mayRest = true →
    (s.boot.image.idleTimeoutS ≠ 0 → ∃ t, exec .featheredIdleTimeout s = .next t ∧ t.mode = .feathered ∧ t.ctl.trigger = 9 ∧
      t.ctl.prev = 4) ∧
    (∃ t, exec .featheredRequest s = .next t ∧ t.mode = .feathered ∧ t.ctl.trigger = 10 ∧ t.Sent .fmEnter 0 [1] [])) ∧
  (∀ s : State, s.mode = .service → s.mayRest = false →
    ∃ t, exec .featheredRequest s = .next t ∧ t.mode = .service ∧ t.Sent .fmEnter 0 [0] [] ∧
      State.Only (s.send .fmEnter 0 [0]) t []) ∧
  (∀ s : State, s.mode = .bootstrap → s.pwr.porst = false → s.boot.trialPend = true → s.trialAllowed = true →
    ∃ t, exec .trialRequest s = .next t ∧ t.mode = .trial ∧ t.disk.trialSession = true ∧ t.boot.trialPend = false ∧
      t.ctl.trigger = 0x17) ∧
  (∀ s : State, s.mode = .trial → s.life ≠ 4 → s.life ≠ 5 → (∀ l, s.linkUp l = false) →
    ∃ t, exec .trialExitRequest s = .next t ∧ t.mode = .bootstrap ∧ t.ctl.trigger = 0x18 ∧ t.ctl.prev = 11 ∧ t.cmds = []) ∧
  (∀ s : State, s.mode = .sealed → s.boot.monitor = true → s.life ≠ 4 → s.life ≠ 5 → (∀ l, s.linkUp l = false) →
    ∃ t, exec .monitorRestartRequest s = .next t ∧ t.mode = .bootstrap ∧ t.ctl.trigger = 0x19 ∧ t.ctl.prev = 12 ∧ t.cmds = []) ∧
  (∀ s : State, (s.mode = .service ∨ s.mode = .readOnly) → exec .managerControllerReset s = .next s.restart.settle ∧
    (s.boot.fwReset = true → exec .fwActivationReset s = .next s.restart.settle)) ∧
  (∀ (bad : List ScanBad) (i : Instr) (m : List Mode) (s : State),
    (i, m) ∈ [(Instr.featheredIdleTimeout, [Mode.service]), (.featheredRequest, [.service]), (.trialRequest, [.bootstrap]),
      (.trialExitRequest, [.trial]), (.monitorRestartRequest, [.sealed]), (.managerControllerReset, [.service, .readOnly]),
      (.discoveryDone, [.discovery]), (.rebuildDone bad, [.rebuild])] → s.mode ≠ .off → s.mode ∉ m →
    ∃ t, exec i s = .next t ∧ t.mode = s.mode ∧ t.f R.GL_EVT_TRIG_IGNORED = 1 ∧ t.media = s.media ∧ t.cmds = s.cmds) ∧
  (∀ (i : Instr) (c k : Nat) (s : State), (i = .lockstepMismatch c ∧ k = 0 ∨ i = .watchdogExpiry c ∧ k = 1) → s.mode ≠ .off → c < 12 →
    bit s.cpus.stopped c = false →
    ∃ t, exec i s = .next t ∧ bit (t.f R.GL_CP_STS_CP_OK) c = false ∧ t.f R.GL_CP_STS_LAST_CP = c ∧ t.f R.GL_CP_STS_CAUSE = k ∧
      t.f R.GL_FLT_EVT_CP_FAULT = 1 ∧ bit t.cpus.stopped c = true ∧ t.cpus.pending = s.cpus.pending + 1 ∧
      State.Only { s with cpus := t.cpus } t [R.GL_CP_STS_CP_OK.key 0 0, R.GL_CP_STS_LAST_CP.key 0 0, R.GL_CP_STS_CAUSE.key 0 0,
        R.GL_FLT_EVT_CP_FAULT.key 0 0]) ∧
  (∀ s : State, s.mode ≠ .off → 0 < s.cpus.pending → s.cpUp = true →
    ∃ u : State, exec .takeoverDone s =
        .next (((s.media.relocs.keysWhere fun _ r => r.alive && r.started).foldl State.abandon u).afterRows.settle) ∧
      u.cpus.pending = s.cpus.pending - 1 ∧ u.f R.GL_FLT_EVT_CP_MOVED = 1 ∧ u.media = s.media ∧
      u.f R.GL_CP_STS_TAKEOVERS = satAdd R.GL_CP_STS_TAKEOVERS.w (s.f R.GL_CP_STS_TAKEOVERS) 1) ∧
  (∀ (c n : Nat) (q : Sqe) (e : SramErr) (s u : State), (s.conn c).alive = true → (s.conn c).rdma = false →
    s.frame (s.conn c).link = some u → (s.conn c).tls ≠ 1 → (s.conn c).icDone = true → (s.conn c).connected = false → isConnect q = true →
    0 < e.syms → e.syms ≤ 4 → n = u.cpus.sramHits.get (sramSub e * 512 + e.row) → n < 3 →
    ∃ t, exec (.capsuleCmd c q { sram := [e] }) s = .next t ∧
      t.f R.GL_SRAM_STS_CORRECTED = satAdd R.GL_SRAM_STS_CORRECTED.w (u.f R.GL_SRAM_STS_CORRECTED) 1 ∧ t.f R.GL_FLT_EVT_SRAM_CORR = 1 ∧
      t.cpus.sramHits.get (sramSub e * 512 + e.row) = n + 1 ∧ t.cpus.sramSpares = u.cpus.sramSpares ∧ t.cmds = u.cmds) ∧
  (∀ (c n : Nat) (q : Sqe) (e : SramErr) (s u : State), (s.conn c).alive = true → (s.conn c).rdma = false →
    s.frame (s.conn c).link = some u → (s.conn c).tls ≠ 1 → (s.conn c).icDone = true → (s.conn c).connected = false → isConnect q = true →
    0 < e.syms → e.syms ≤ 4 → u.cpus.sramHits.get (sramSub e * 512 + e.row) = 3 → n = u.cpus.sramSpares.get (sramSub e) → n < 8 →
    ∃ t, exec (.capsuleCmd c q { sram := [e] }) s = .next t ∧ t.cpus.sramSpares.get (sramSub e) = n + 1 ∧
      t.cpus.sramHits.get (sramSub e * 512 + e.row) = 0 ∧ t.f R.GL_FLT_EVT_SRAM_SPARE = 1 ∧
      (n = 7 → t.f R.GL_FLT_EVT_SRAM_NOSPARE = 1) ∧ t.cmds = u.cmds) ∧
  (∀ (c : Nat) (q : Sqe) (e : SramErr) (s u : State), (s.conn c).alive = true → (s.conn c).rdma = false →
    s.frame (s.conn c).link = some u → (s.conn c).tls ≠ 1 → (s.conn c).icDone = true → (s.conn c).connected = false → isConnect q = true →
    4 < e.syms →
    ∃ t, exec (.capsuleCmd c q { sram := [e] }) s = .next t ∧ t.f R.GL_FLT_EVT_SRAM_UNCORR = 1 ∧
      u.Only t [R.GL_FLT_EVT_SRAM_UNCORR.key 0 0]) ∧
  (∀ (n l : Nat) (b : StBlk) (s : State), (s.per.ns.get n).zoned = false → s.media.stage = [b] → b.vis = true → b.sup = false →
    b.blk.ns = n → b.blk.lba = l → s.resolve n l = (if b.lost then .lost else .staged b.blk) ∧ (s.loseStaged n l true).resolve n l = .lost)

/-! ### Security (15) -/

/-- Accepted tokens (R416, R430, Table 15-6): for this part and its present nonce, in the lifecycle and the mode of its operation,
a token has its effect before RESULT reads 0: the lifecycle and its fuses, TRIAL_PEND, the keys, DEBUG_OPEN. Refused tokens
(R416): whichever the operation, a token that does not verify is refused with RESULT 1, one of another part or an old nonce with
2; its nonce is used up, and fuses, keys and mode stand. A nonce is a free value (notes/assumptions/2). -/
def Obligations.TokensTakeEffect : Prop :=
  (∀ (k : TokenFacts) (s : State), s.tokenPath = true → s.rootVerifies k.sig 0x53465705 = true → k.uid = s.boot.fuses.uid →
    k.nonce = s.nonceValue →
    (s.life = 0 → s.mode = .sealed → ∃ t, exec (.tokenProvision k) s = .next t ∧ t.f R.BT_TCMD_RESULT = 0 ∧ t.f R.BT_EVT_TOKEN_OK = 1 ∧
      t.boot.fuses.khRsa = s.boot.fuses.khRsa ||| k.sig.rsaHash ∧ t.boot.fuses.lifecycle = s.boot.fuses.lifecycle ||| 1) ∧
    (s.life = 1 → ∃ t, exec (.tokenDeploy k) s = .next t ∧ t.f R.BT_TCMD_RESULT = 0 ∧ t.f R.BT_EVT_TOKEN_OK = 1 ∧
      t.boot.fuses.lifecycle = s.boot.fuses.lifecycle ||| 3 ∧ t.boot.trialPend = false ∧ t.boot.nonce = s.ctl.freeCtr) ∧
    ((s.life = 1 ∨ s.life = 2) → s.mode = .sealed → ∃ t, exec (.tokenReturn k) s = .next t ∧ t.f R.BT_TCMD_RESULT = 0 ∧
      t.boot.fuses.lifecycle = s.boot.fuses.lifecycle ||| 7 ∧ ∀ n, (t.keys.get n).valid = false) ∧
    (s.life ≠ 4 → s.mode = .bootstrap → ∃ t, exec (.tokenRevoke k) s = .next t ∧ t.f R.BT_TCMD_RESULT = 0 ∧
      t.boot.fuses.lifecycle = s.boot.fuses.lifecycle ||| 15 ∧ t.boot.revokePend = true ∧ t.boot.trialPend = false) ∧
    (s.life ≠ 4 → s.mode = .sealed → ∃ t, exec (.tokenRevoke k) s = .next t ∧ t.f R.BT_TCMD_RESULT = 0 ∧
      t.boot.fuses.lifecycle = s.boot.fuses.lifecycle ||| 15 ∧ t.f R.BT_STS_SEAL_CAUSE = 6 ∧ t.boot.monitor = false) ∧
    (s.life ∈ [0, 1, 3] → (s.mode = .sealed ∨ s.mode = .service ∨ s.mode = .trial) →
      ∃ t, exec (.tokenTrial k) s = .next t ∧ t.f R.BT_TCMD_RESULT = 0 ∧ t.boot.trialPend = true ∧ t.boot.fuses = s.boot.fuses) ∧
    (s.life ≠ 4 → s.boot.fuses.debugLock = false → (s.mode = .sealed ∨ s.mode = .trial) →
      ∃ t, exec (.tokenDebugUnlock k) s = .next t ∧ t.f R.BT_TCMD_RESULT = 0 ∧ t.boot.debugOpen = true ∧ t.boot.deriveBlocked = true ∧
        (∀ n, (t.keys.get n).valid = false) ∧ t.f R.BT_EVT_DEBUG_OPEN = 1) ∧
    (s.life ∈ [1, 2, 3] → ∀ a b c, k.arg = [a, b, c, 0] → a < 8 → b < 16 → c < 128 → (c = 0 ∨ s.boot.fuses.sbAddr = 0) →
      ∃ t, exec (.tokenFuseSet k) s = .next t ∧ t.f R.BT_TCMD_RESULT = 0 ∧
        t.boot.fuses.fmtForbid = s.boot.fuses.fmtForbid ||| a ∧ t.boot.fuses.jtag = s.boot.fuses.jtag ||| (b % 4) ∧
        t.boot.fuses.debugLock = (s.boot.fuses.debugLock || bit b 2) ∧ t.boot.fuses.sbAddr = s.boot.fuses.sbAddr ||| c)) ∧
  (∀ (k : TokenFacts) (i : Instr) (s : State),
    i ∈ [Instr.tokenProvision k, .tokenDeploy k, .tokenReturn k, .tokenRevoke k, .tokenTrial k, .tokenDebugUnlock k, .tokenFuseSet k] →
    s.tokenPath = true →
    (s.rootVerifies k.sig 0x53465705 = false → ∃ t, exec i s = .next t ∧ t.f R.BT_TCMD_RESULT = 1 ∧ t.f R.BT_EVT_TOKEN_REFUSED = 1 ∧
      t.boot = { s.boot with nonce := s.ctl.freeCtr } ∧ t.keys = s.keys ∧ t.mode = s.mode) ∧
    (s.rootVerifies k.sig 0x53465705 = true → (k.uid ≠ s.boot.fuses.uid ∨ k.nonce ≠ s.nonceValue) →
      ∃ t, exec i s = .next t ∧ t.f R.BT_TCMD_RESULT = 2 ∧ t.f R.BT_EVT_TOKEN_REFUSED = 1 ∧
        t.boot = { s.boot with nonce := s.ctl.freeCtr } ∧ t.keys = s.keys ∧ t.mode = s.mode))

/-- The NOR (R421, R422): in Trial a read brings 4 KiB into the buffer, a program and an erase start and are busy; an erase that
ends leaves ones, a program the AND on erased words, a failed one RESULT 4; outside Sealed and Trial all three are refused with
RESULT 2, and one aimed at the bank that instructions come from with 3. A program clears bits only (notes/assumptions/57). -/
def Obligations.NorCommands : Prop :=
  (∀ (a : Nat) (s : State), s.mode = .trial → s.on R.BT_NCMD_BUSY = false → s.f R.CK_SEL_SELECTED ≠ 15 →
    a = s.f R.BT_NADDR_ADDR / 4096 * 4096 →
    ∃ t, exec .norRead s = .next t ∧ t.f R.BT_NCMD_BUSY = 0 ∧ t.f R.BT_NCMD_RESULT = 0 ∧ t.boot.nor = s.boot.nor ∧
      ∀ i, i < 1024 → t.boot.norBuf.get i = s.norWord (a / 4 + i)) ∧
  (∀ s : State, s.mode = .trial → s.on R.BT_NCMD_BUSY = false → s.on R.BT_STS_FETCH_ACTIVE = false →
    (∃ t, exec .norProgram s = .next t ∧ t.f R.BT_NCMD_BUSY = 1 ∧ t.boot.norOp = some (2, s.f R.BT_NADDR_ADDR / 4096 * 4096) ∧
      State.Only { s with boot := { s.boot with norOp := t.boot.norOp } } t [R.BT_NCMD_BUSY.key 0 0]) ∧
    (∃ t, exec .norErase s = .next t ∧ t.f R.BT_NCMD_BUSY = 1 ∧ t.boot.norOp = some (3, s.f R.BT_NADDR_ADDR / 65536 * 65536) ∧
      State.Only { s with boot := { s.boot with norOp := t.boot.norOp } } t [R.BT_NCMD_BUSY.key 0 0])) ∧
  (∀ (i : Instr) (s : State), i ∈ [Instr.norRead, .norProgram, .norErase] → s.mode = .service → s.on R.BT_NCMD_BUSY = false →
    s.boot.norOp = none → ∃ t, exec i s = .next t ∧ t.f R.BT_NCMD_RESULT = 2 ∧ s.Only t [R.BT_NCMD_RESULT.key 0 0]) ∧
  (∀ s : State, s.mode = .trial → s.on R.BT_NCMD_BUSY = false → s.on R.BT_STS_FETCH_ACTIVE = true →
    s.f R.BT_STS_FETCH_BANK = b2n (decide (0x2000000 ≤ s.f R.BT_NADDR_ADDR / 65536 * 65536)) →
    ∃ t, exec .norErase s = .next t ∧ t.f R.BT_NCMD_RESULT = 3 ∧ t.f R.BT_EVT_FETCH_BANK = 1 ∧
      s.Only t [R.BT_NCMD_RESULT.key 0 0, R.BT_EVT_FETCH_BANK.key 0 0]) ∧
  (∀ (a : Nat) (s : State), s.mode ≠ .off → s.f R.CK_SEL_SELECTED ≠ 15 → s.boot.norOp = some (3, a) →
    (∃ t, exec (.norOpDone true) s = .next t ∧ t.f R.BT_NCMD_BUSY = 0 ∧ t.f R.BT_NCMD_RESULT = 0 ∧ t.boot.norOp = none ∧
      (∀ w, a / 4 ≤ w → w < a / 4 + 16384 → t.norWord w = 0xFFFFFFFF) ∧
      ∀ w, ¬ (a / 4 ≤ w ∧ w < a / 4 + 16384) → t.norWord w = s.norWord w) ∧
    (∃ t, exec (.norOpDone false) s = .next t ∧ t.f R.BT_NCMD_BUSY = 0 ∧ t.f R.BT_NCMD_RESULT = 4 ∧ t.boot.nor = s.boot.nor)) ∧
  (∀ (a i : Nat) (s : State), s.mode ≠ .off → s.f R.CK_SEL_SELECTED ≠ 15 → s.boot.norOp = some (2, a) → i < 1024 →
    norBase s.boot.norObj (a / 4 + i) = 0xFFFFFFFF →
    ∃ t, exec (.norOpDone true) s = .next t ∧ t.f R.BT_NCMD_BUSY = 0 ∧ t.f R.BT_NCMD_RESULT = 0 ∧
      t.norWord (a / 4 + i) = (s.norWord (a / 4 + i) &&& s.boot.norBuf.get i) % 2 ^ 32)

/-- Keys, random data and pins of the test and side buses (R430, R431, R437, R472): a pre-shared key is committed as staged and
made invalid, a second valid entry of one identity is refused with RESULT 1; a health failure shows until the reseed is done;
BYPASS and IDCODE are always answered, boundary scan unless the fuse forbids it, debug only while open; I3C gets its address.
NVMe-MI messages are answered as notes/assumptions/38 says. -/
def Obligations.KeysAndTestPins : Prop :=
  (∀ (p : Path) (e : Nat) (s : State), s.regMode p = true → e = s.idxF p R.BT_PSKIDX_ENTRY →
    ((s.per.psk.keysWhere fun j x => x.valid && x.identity == s.pskStaged.identity && j != e) = [] →
      (s.pskStaged.hash = 1 ∨ s.pskStaged.hash = 2) → s.pskStaged.identity ≠ 0 →
      ∃ t, exec (.pskCommit p) s = .next t ∧ t.f R.BT_PSKCMD_RESULT = 0 ∧ t.per.psk.get e = s.pskStaged) ∧
    ((s.per.psk.keysWhere fun j x => x.valid && x.identity == s.pskStaged.identity && j != e) ≠ [] →
      ∃ t, exec (.pskCommit p) s = .next t ∧ t.f R.BT_PSKCMD_RESULT = 1 ∧ s.Only t [R.BT_PSKCMD_RESULT.key 0 0]) ∧
    (∃ t, exec (.pskInvalidate p) s = .next t ∧ t.f R.BT_PSKCMD_RESULT = 0 ∧ (t.per.psk.get e).valid = false)) ∧
  (∀ s : State, s.mode ≠ .off →
    (∃ t, exec .rngHealthFail s = .next t ∧ t.f R.CR_RNG_READY = 0 ∧ t.f R.CR_RNG_TEST_FAIL = 1 ∧
      t.f R.CR_RNG_RESEEDS = satAdd R.CR_RNG_RESEEDS.w (s.f R.CR_RNG_RESEEDS) 1 ∧
      s.Only t [R.CR_RNG_READY.key 0 0, R.CR_RNG_TEST_FAIL.key 0 0, R.CR_RNG_RESEEDS.key 0 0]) ∧
    (∃ t, exec .rngReseedDone s = .next t ∧ t.f R.CR_RNG_READY = 1 ∧ s.Only t [R.CR_RNG_READY.key 0 0, R.CR_RNG_TEST_FAIL.key 0 0])) ∧
  (∀ s : State, s.mode ≠ .off →
    (∃ t, exec (.jtagInstruction .bypass) s = .next t ∧ t.boot.tap = 0 ∧ t.Sent .jtagOut 0 [0] []) ∧
    (∃ t, exec (.jtagInstruction .idcode) s = .next t ∧ t.boot.tap = 1 ∧ t.Sent .jtagOut 0 [1] [Config.unstated 0 % 2 ^ 32]) ∧
    (∃ t, exec (.jtagInstruction .boundary) s = .next t ∧
      t.boot.tap = if s.boot.debugOpen = false ∧ bit s.boot.fuses.jtag 1 = true then 0 else 2) ∧
    (∃ t, exec (.jtagInstruction .debug) s = .next t ∧ t.boot.tap = if s.boot.debugOpen = true then 3 else 0)) ∧
  (∀ (a : Nat) (s : State), s.mode ≠ .off → a < 128 →
    (∃ t, exec (.i3cEntdaa a) s = .next t ∧ t.boot.i3cAddr = some a ∧ t.f R.GL_SB_STS_BUS = 1 ∧ t.Sent .i3cAck 0 [a] []) ∧
    (∃ t, exec (.i3cSetdasa (s.f R.FU_SBADDR_SB_ADDR) a) s = .next t ∧ t.boot.i3cAddr = some a ∧ t.f R.GL_SB_STS_BUS = 1 ∧
      t.Sent .i3cAck 0 [a] []) ∧
    (∀ b, b ≠ s.f R.FU_SBADDR_SB_ADDR → exec (.i3cSetdasa b a) s = .next s)) ∧
  (∀ (tag opc : Nat) (d : List Nat) (s : State), (s.mode = .discovery ∨ s.mode = .service ∨ s.mode = .becalmed) →
    ∃ t, exec (.nvmeMiMessage tag opc d) s = .next t ∧ t.Sent .miResp 0 [tag, opc] [Config.garbage s.ctl.freeCtr] ∧ t.media = s.media)

/-- SPDM (R429): each request that the negotiation has reached is answered, one for another slot, index or chunk is refused as
invalid, one too early gets UnexpectedRequest, and no other transport's state changes. What the chain, the measurement of the mask
ROM and a signature read is a free value (notes/assumptions/4). -/
def Obligations.SpdmAnswers : Prop :=
  (∀ (v : SpdmVia) (s : State), s.spdmServed v = true →
    ∃ t, exec (.spdmGetVersion v) s = .next t ∧ t.Sent .spdmResp (viaKey v) [4] [0x1300] ∧
      t.boot.spdm.get (viaKey v) = { phase := 1 }) ∧
  (∀ (v : SpdmVia) (s : State), s.spdmServed v = true → 1 ≤ (s.boot.spdm.get (viaKey v)).phase →
    ∃ t, exec (.spdmGetCapabilities v) s = .next t ∧ t.Sent .spdmResp (viaKey v) [0x61] [0x20016] ∧
      2 ≤ (t.boot.spdm.get (viaKey v)).phase) ∧
  (∀ (v : SpdmVia) (a h : Nat) (s : State), s.spdmServed v = true → 2 ≤ (s.boot.spdm.get (viaKey v)).phase →
    (bit a 3 = true → bit h 1 = true → ∃ t, exec (.spdmNegotiateAlgorithms v a h) s = .next t ∧
      t.Sent .spdmResp (viaKey v) [0x63] [8, 2] ∧ (t.boot.spdm.get (viaKey v)).phase = 3) ∧
    ((bit a 3 = false ∨ bit h 1 = false) → ∃ t, exec (.spdmNegotiateAlgorithms v a h) s = .next t ∧ t.Sent .spdmResp (viaKey v) [0x7F, 1] []) ∧
    (∀ (n : Nat) (d : List Nat), n = (s.boot.spdm.get (viaKey v)).chunkSeq → ∃ t, exec (.spdmChunkSend v n false d) s = .next t ∧
      t.Sent .spdmResp (viaKey v) [5, n] [] ∧ (t.boot.spdm.get (viaKey v)).chunkSeq = n + 1 ∧
      (t.boot.spdm.get (viaKey v)).chunkIn = (s.boot.spdm.get (viaKey v)).chunkIn ++ d) ∧
    (∀ (n : Nat) (d : List Nat), n = (s.boot.spdm.get (viaKey v)).chunkSeq → ∃ t, exec (.spdmChunkSend v n true d) s = .next t ∧
      t.Sent .spdmResp (viaKey v) [5, n] [] ∧ (t.boot.spdm.get (viaKey v)).chunkSeq = 0 ∧ (t.boot.spdm.get (viaKey v)).chunkIn = []) ∧
    (∀ (n : Nat) (x : Bool) (d : List Nat), n ≠ (s.boot.spdm.get (viaKey v)).chunkSeq → ∃ t, exec (.spdmChunkSend v n x d) s = .next t ∧
      t.Sent .spdmResp (viaKey v) [0x7F, 1] [] ∧ (t.boot.spdm.get (viaKey v)).chunkSeq = 0 ∧
      (t.boot.spdm.get (viaKey v)).chunkIn = []) ∧
    (∀ n : Nat, (s.boot.spdm.get (viaKey v)).chunkOut = [] → ∃ t, exec (.spdmChunkGet v n) s = .next t ∧
      t.Sent .spdmResp (viaKey v) [0x7F, 4] []) ∧
    (∀ (n d : Nat) (r : List Nat), (s.boot.spdm.get (viaKey v)).chunkOut = d :: r → ∃ t, exec (.spdmChunkGet v n) s = .next t ∧
      t.Sent .spdmResp (viaKey v) [6, n, b2n r.isEmpty] [d] ∧ (t.boot.spdm.get (viaKey v)).chunkOut = r)) ∧
  (∀ (v : SpdmVia) (s : State), s.spdmServed v = true → 3 ≤ (s.boot.spdm.get (viaKey v)).phase →
    (∃ t, exec (.spdmGetDigests v) s = .next t ∧ t.Sent .spdmResp (viaKey v) [1, 1] [s.chainDigest]) ∧
    (∃ t, exec (.spdmGetCertificate v 0) s = .next t ∧
      t.Sent .spdmResp (viaKey v) [2, 0] [Config.digest (s.boot.identity * 4 + 2)]) ∧
    (∀ n, ∃ t, exec (.spdmChallenge v 0 n) s = .next t ∧ t.Sent .spdmResp (viaKey v) [3, 0]
      [s.chainDigest, Config.random s.ctl.freeCtr, Config.digest (n + Config.random s.ctl.freeCtr)] ∧
      (t.boot.spdm.get (viaKey v)).signed = true) ∧
    (∀ k n : Nat, k ≠ 0 → (∃ t, exec (.spdmGetCertificate v k) s = .next t ∧ t.Sent .spdmResp (viaKey v) [0x7F, 1] []) ∧
      ∃ t, exec (.spdmChallenge v k n) s = .next t ∧ t.Sent .spdmResp (viaKey v) [0x7F, 1] []) ∧
    (∀ n, ∃ t, exec (.spdmGetMeasurements v 0 false n) s = .next t ∧ t.Sent .spdmResp (viaKey v) [0x60, 0] [9]) ∧
    (∀ i n, 0 < i → i ≤ 9 → ∃ t, exec (.spdmGetMeasurements v i false n) s = .next t ∧
      t.Sent .spdmResp (viaKey v) [0x60, i] [s.measurement i]) ∧
    (∀ n, ∃ t, exec (.spdmGetMeasurements v 255 false n) s = .next t ∧
      t.Sent .spdmResp (viaKey v) [0x60, 255] ((List.range 9).map fun i => s.measurement (i + 1))) ∧
    (∀ i n, 0 < i → i ≤ 9 → ∃ t, exec (.spdmGetMeasurements v i true n) s = .next t ∧ (t.boot.spdm.get (viaKey v)).signed = true ∧
      t.Sent .spdmResp (viaKey v) [0x60, i]
        [s.measurement i, Config.random s.ctl.freeCtr, Config.digest (n + Config.random s.ctl.freeCtr)]) ∧
    (∀ (i n : Nat) (x : Bool), 9 < i → i ≠ 255 → ∃ t, exec (.spdmGetMeasurements v i x n) s = .next t ∧ t.Sent .spdmResp (viaKey v) [0x7F, 1] []) ∧
    (∃ t, exec (.spdmVendorSlhChain v) s = .next t ∧ (t.boot.spdm.get (viaKey v)).chunkOut = [Config.digest (s.boot.identity * 4 + 3)] ∧
      t.Sent .spdmResp (viaKey v) [0x7E, 1] [Config.digest (s.boot.identity * 4 + 3)]) ∧
    ((s.boot.spdm.get (viaKey v)).signed = true → ∃ t, exec (.spdmVendorSlhSignature v) s = .next t ∧
      t.Sent .spdmResp (viaKey v) [0x7E, 2] [Config.digest ((s.boot.spdm.get (viaKey v)).covered * 2 + 1)]) ∧
    ((s.boot.spdm.get (viaKey v)).signed = false → ∃ t, exec (.spdmVendorSlhSignature v) s = .next t ∧
      t.Sent .spdmResp (viaKey v) [0x7F, 4] [])) ∧
  (∀ (v : SpdmVia) (i : Instr) (m : Nat) (s : State), s.spdmServed v = true → (s.boot.spdm.get (viaKey v)).phase < m →
    (i, m) ∈ [(Instr.spdmGetCapabilities v, 1), (.spdmNegotiateAlgorithms v 8 2, 2), (.spdmGetDigests v, 3),
      (.spdmGetCertificate v 0, 3), (.spdmChallenge v 0 0, 3), (.spdmGetMeasurements v 0 true 0, 3), (.spdmVendorSlhChain v, 3),
      (.spdmVendorSlhSignature v, 3), (.spdmChunkGet v 0, 2)] →
    ∃ t, exec i s = .next t ∧ t.Sent .spdmResp (viaKey v) [0x7F, 4] []) ∧
  (∀ (v : SpdmVia) (a b : Nat) (x : Bool) (d : List Nat) (i : Instr) (s : State),
    i ∈ [Instr.spdmGetVersion v, .spdmGetCapabilities v, .spdmNegotiateAlgorithms v a b, .spdmGetDigests v, .spdmGetCertificate v a,
      .spdmChallenge v a b, .spdmGetMeasurements v a x b, .spdmChunkSend v a x d, .spdmChunkGet v a, .spdmVendorSlhChain v,
      .spdmVendorSlhSignature v] →
    ∃ t, exec i s = .next t ∧ ∀ k, k ≠ viaKey v → t.boot.spdm.get k = s.boot.spdm.get k)

/-! ### The register paths (00, 03, 17) -/

/-- A register write (R9, R10, R13, R454): a path that the mode does not serve writes nothing; another width or alignment has no
effect and is an access fault; a reserved encoding leaves its field, takes the others and is an event; 1 clears an event bit and 0
leaves it; a plain field takes its part of the word. -/
def Obligations.RegisterWrites : Prop :=
  (∀ (p : Path) (a w : Nat) (v : Word) (s : State), s.regMode p = false → exec (.regWrite p a w v) s = .next s) ∧
  (∀ (p : Path) (a w : Nat) (v : Word) (s : State), s.regMode p = true → (w ≠ 4 ∨ a % 4 ≠ 0) →
    ∃ t, exec (.regWrite p a w v) s = .next t ∧ t.f R.GL_EVT_ACCESS_FAULT = 1 ∧
      t.f R.GL_ACC_ACCESS_FAULTS = satAdd R.GL_ACC_ACCESS_FAULTS.w (s.f R.GL_ACC_ACCESS_FAULTS) 1 ∧
      s.Only t [R.GL_ACC_ACCESS_FAULTS.key 0 0, R.GL_EVT_ACCESS_FAULT.key 0 0]) ∧
  (∀ (i : Nat) (v : Word) (s : State), s.regMode .sideband = true → i < 2 →
    ∃ t, exec (.regWrite .sideband (R.PT_TRANS_CFG.at i 0) 4 v) s = .next t ∧
      (∀ F, F ∈ [R.PT_TRANS_CFG_GIVEUP, R.PT_TRANS_CFG_RTO_MIN, R.PT_TRANS_CFG_PMTU] →
        t.f F i = if F.ok (bitsOf v.toNat F.lo F.w) then bitsOf v.toNat F.lo F.w else s.f F i) ∧
      ((∃ F, F ∈ [R.PT_TRANS_CFG_GIVEUP, R.PT_TRANS_CFG_RTO_MIN, R.PT_TRANS_CFG_PMTU] ∧ F.ok (bitsOf v.toNat F.lo F.w) = false) →
        t.f R.GL_EVT_INVALID_ENC = 1)) ∧
  (∀ (v : Word) (F : R.Fld) (s : State), s.regMode .sideband = true →
    F ∈ [R.CK_EVT_REF_LOST, R.CK_EVT_SWITCHED, R.CK_EVT_HOLD_LONG, R.CK_EVT_NO_REF, R.CK_EVT_REF_BACK, R.CK_EVT_FREQ_BAD,
      R.CK_EVT_CSI_LOW, R.CK_EVT_REF_WAIT] → s.f F ≤ 1 →
    ∃ t, exec (.regWrite .sideband 0x30040 4 v) s = .next t ∧ t.f F = if bit v.toNat F.lo then 0 else s.f F) ∧
  (∀ (v : Word) (s : State), s.regMode .sideband = true →
    ∃ t, exec (.regWrite .sideband (R.GL_EVT_EN.at 0 0) 4 v) s = .next t ∧ t.alertRight ∧
      t.f R.GL_EVT_EN_EN = bitsOf v.toNat R.GL_EVT_EN_EN.lo R.GL_EVT_EN_EN.w)

/-- The other paths (R103, R104, R453, R454, R459): a Register Window request is answered with its status, its words in ascending
order; a bad one accesses nothing; Set Register and Get Register run in turn, and a misaligned address fails them before any
access, an access fault (R9); the Alert Response Address is answered while the alert stands. -/
def Obligations.RegisterPaths : Prop :=
  (∀ (r : WindowReq) (s : State), s.mode ≠ .off →
    (windowBad r 1 = true → ∃ t, exec (.registerWindowRead r) s = .next t ∧ t.Sent .windowResp 0 [r.op, r.tag, 1] [] ∧
      t.f R.GL_EVT_ACCESS_FAULT = 1 ∧ t.media = s.media ∧ t.per = s.per) ∧
    (windowBad r 2 = true → ∃ t, exec (.registerWindowWrite r) s = .next t ∧ t.Sent .windowResp 0 [r.op, r.tag, 1] [] ∧
      t.f R.GL_EVT_ACCESS_FAULT = 1 ∧ t.media = s.media ∧ t.per = s.per) ∧
    (windowBad r 2 = false → s.regMode .sideband = false → ∃ t, exec (.registerWindowWrite r) s = .next t ∧
      t.Sent .windowResp 0 [r.op, r.tag, 2] [] ∧ s.per = t.per ∧ s.boot = t.boot) ∧
    (windowBad r 1 = false → s.regMode .sideband (windowLow r) = true → ∃ (u : State) (l : List Nat),
      s.getWords .sideband r.addr r.count = (l, u) ∧
      exec (.registerWindowRead r) s = .next ((u.windowCount.windowReply r 0 l).settle)) ∧
    (windowBad r 2 = false → s.regMode .sideband = true → exec (.registerWindowWrite r) s =
      .next (((s.putWords .sideband r.addr (r.data.map fun (w : Word) => w.toNat)).windowCount.windowReply r 0).settle))) ∧
  (∀ (c a n : Nat) (s : State), s.AdmDue c 0xC1 → s.regTurn c = true → a = (s.cmd c).sqe.cdw10.toNat % 2 ^ 24 →
    n = (s.cmd c).sqe.cdw11.toNat % 64 + 1 →
    (a % 4 = 0 → a + 4 * (n - 1) ≤ 0xFFFFFC → s.sglCheck c (4 * n) false = none → exec (.setRegister c) s =
      .next (((s.putWords (.ctrl (s.cmd c).cntlid) a
        ((List.range n).map fun i => (((s.cmd c).sqe.words[i]?).getD 0).toNat)).complete c).settle)) ∧
    (a % 4 ≠ 0 → ∃ t, exec (.setRegister c) s = .next t ∧ s.Posted t c 0x02 0 0 ∧ t.f R.GL_EVT_ACCESS_FAULT = 1 ∧
      t.per = s.per ∧ t.boot = s.boot)) ∧
  (∀ (c a n : Nat) (s : State), s.AdmDue c 0xC2 → s.regTurn c = true → a = (s.cmd c).sqe.cdw10.toNat % 2 ^ 24 →
    n = (s.cmd c).sqe.cdw11.toNat % 64 + 1 →
    (a % 4 = 0 → a + 4 * (n - 1) ≤ 0xFFFFFC → s.sglCheck c (4 * n) true = none → ∃ (u : State) (l : List Nat),
      s.getWords (.ctrl (s.cmd c).cntlid) a n = (l, u) ∧ exec (.getRegister c) s = .next ((u.answer c [a, n] l).settle)) ∧
    (a % 4 ≠ 0 → ∃ t, exec (.getRegister c) s = .next t ∧ s.Posted t c 0x02 0 0 ∧ t.f R.GL_EVT_ACCESS_FAULT = 1 ∧
      t.per = s.per ∧ t.boot = s.boot)) ∧
  (∀ s : State, s.mode ≠ .off → s.f R.GL_SB_STS_BUS = 0 → s.ctl.sbAlert = true →
    ∃ t, exec .alertResponse s = .next t ∧ t.Sent .alertResp 0 [s.f R.FU_SBADDR_SB_ADDR] [] ∧ t.media = s.media ∧ t.per = s.per)

end
end

