-- ==== Sys2Proof/Laws/Tab.lean ====
section
/-! SUPPORT. Tab.lean: the laws of the sparse tables that hold every addressed store of the block: a read after a write, other keys
untouched, and the canonical form kept. -/

namespace Sys2Proof.Machine

variable {α : Type} [DecidableEq α]

omit [DecidableEq α] in
theorem Tab.getD_place_same (t : Tab α) (d : α) (k : Nat) (v : α) (h : ∀ e ∈ t, e.1 ≠ k) : (Tab.place t k v).getD d k = v := by
  induction t with
  | nil => simp [Tab.place, Tab.getD]
  | cons e r ih =>
    obtain ⟨j, w⟩ := e
    have hj : j ≠ k := h (j, w) (by simp)
    have hr : ∀ e ∈ r, e.1 ≠ k := fun e he => h e (by simp [he])
    unfold Tab.place
    split
    · simp [Tab.getD]
    · simp [Tab.getD, hj, ih hr]

omit [DecidableEq α] in
theorem Tab.getD_place_other (t : Tab α) (d : α) (k j : Nat) (v : α) (h : j ≠ k) : (Tab.place t k v).getD d j = t.getD d j := by
  induction t with
  | nil => simp [Tab.place, Tab.getD, Ne.symm h]
  | cons e r ih =>
    obtain ⟨i, w⟩ := e
    unfold Tab.place
    split
    · simp [Tab.getD, Ne.symm h]
    · simp only [Tab.getD, ih]

omit [DecidableEq α] in
theorem Tab.getD_filter_same (t : Tab α) (d : α) (k : Nat) : Tab.getD (t.filter fun e => e.1 != k) d k = d := by
  induction t with
  | nil => rfl
  | cons e r ih =>
    obtain ⟨j, w⟩ := e
    by_cases h : j = k
    · simpa [List.filter, h] using ih
    · have hb : (j != k) = true := by simpa using h
      simp only [List.filter, hb, Tab.getD, h, if_false, ih]

omit [DecidableEq α] in
theorem Tab.getD_filter_other (t : Tab α) (d : α) (k j : Nat) (h : j ≠ k) :
    Tab.getD (t.filter fun e => e.1 != k) d j = t.getD d j := by
  induction t with
  | nil => rfl
  | cons e r ih =>
    obtain ⟨i, w⟩ := e
    by_cases hk : i = k
    · subst hk
      simp [List.filter, Tab.getD, Ne.symm h, ih]
    · have hb : (i != k) = true := by simpa using hk
      simp only [List.filter, hb, Tab.getD, ih]

/-- A read after a write to the same key gives the value written. -/
@[simp] theorem Tab.getD_setD_same (t : Tab α) (d : α) (k : Nat) (v : α) : (t.setD d k v).getD d k = v := by
  unfold Tab.setD
  split
  · next h => rw [h]; exact Tab.getD_filter_same t d k
  · exact Tab.getD_place_same _ d k v fun e he => by simpa using (List.mem_filter.mp he).2

/-- A write leaves every other key as it was, whatever the default of the reader. -/
theorem Tab.getD_setD_other (t : Tab α) (d d' : α) (k j : Nat) (v : α) (h : j ≠ k) : (t.setD d k v).getD d' j = t.getD d' j := by
  unfold Tab.setD
  split
  · exact Tab.getD_filter_other t d' k j h
  · rw [Tab.getD_place_other _ d' k j v h]; exact Tab.getD_filter_other t d' k j h

/-! ### The canonical form -/

/-- Canonical form, as a proposition: keys strictly rising, no entry equal to the default. -/
abbrev Tab.wf (d : α) (t : Tab α) : Prop := t.Pairwise (fun a b => a.1 < b.1) ∧ ∀ e ∈ t, e.2 ≠ d

theorem Tab.wfD_iff (d : α) (t : Tab α) : Tab.wfD d t = true ↔ Tab.wf d t := by
  induction t with
  | nil => exact ⟨fun _ => ⟨List.Pairwise.nil, by simp⟩, fun _ => rfl⟩
  | cons e r ih =>
    obtain ⟨j, v⟩ := e
    cases r with
    | nil => simp [Tab.wfD, Tab.wf]
    | cons f r =>
      obtain ⟨k, w⟩ := f
      constructor
      · intro h
        simp only [Tab.wfD, Bool.and_eq_true, bne_iff_ne, ne_eq, decide_eq_true_eq] at h
        obtain ⟨⟨hv, hk⟩, hr⟩ := h
        obtain ⟨hs, hd⟩ := ih.mp hr
        refine ⟨List.pairwise_cons.mpr ⟨?_, hs⟩, ?_⟩
        · intro e he
          rcases List.mem_cons.mp he with rfl | he
          · exact hk
          · exact Nat.lt_trans hk ((List.pairwise_cons.mp hs).1 e he)
        · intro e he
          rcases List.mem_cons.mp he with rfl | he
          · exact hv
          · exact hd e he
      · rintro ⟨hs, hd⟩
        obtain ⟨h1, h2⟩ := List.pairwise_cons.mp hs
        simp only [Tab.wfD, Bool.and_eq_true, bne_iff_ne, ne_eq, decide_eq_true_eq]
        exact ⟨⟨hd (j, v) (by simp), h1 (k, w) (by simp)⟩, ih.mpr ⟨h2, fun e he => hd e (by simp [he])⟩⟩

omit [DecidableEq α] in
theorem Tab.place_mem (t : Tab α) (k : Nat) (v : α) (e : Nat × α) (h : e ∈ Tab.place t k v) : e = (k, v) ∨ e ∈ t := by
  induction t with
  | nil => simpa [Tab.place] using h
  | cons f r ih =>
    obtain ⟨j, w⟩ := f
    unfold Tab.place at h
    split at h
    · simpa using h
    · rcases List.mem_cons.mp h with h | h
      · simp [h]
      · rcases ih h with h | h <;> simp [h]

omit [DecidableEq α] in
theorem Tab.place_sorted (t : Tab α) (k : Nat) (v : α) (hs : t.Pairwise (fun a b => a.1 < b.1)) (h : ∀ e ∈ t, e.1 ≠ k) :
    (Tab.place t k v).Pairwise (fun a b => a.1 < b.1) := by
  induction t with
  | nil => simp [Tab.place]
  | cons f r ih =>
    obtain ⟨j, w⟩ := f
    obtain ⟨h1, h2⟩ := List.pairwise_cons.mp hs
    unfold Tab.place
    split
    · next hk =>
      refine List.pairwise_cons.mpr ⟨?_, hs⟩
      intro e he
      rcases List.mem_cons.mp he with rfl | he
      · exact hk
      · exact Nat.lt_trans hk (h1 e he)
    · next hk =>
      have hj : j ≠ k := h (j, w) (by simp)
      refine List.pairwise_cons.mpr ⟨?_, ih h2 fun e he => h e (by simp [he])⟩
      intro e he
      rcases Tab.place_mem r k v e he with rfl | he
      · simp only; omega
      · exact h1 e he

/-- A write keeps the canonical form. -/
theorem Tab.wf_setD (d : α) (t : Tab α) (k : Nat) (v : α) (h : Tab.wf d t) : Tab.wf d (t.setD d k v) := by
  have hu : Tab.wf d (t.filter fun e => e.1 != k) := ⟨h.1.filter _, fun e he => h.2 e (List.mem_filter.mp he).1⟩
  have hk : ∀ e ∈ t.filter (fun e => e.1 != k), e.1 ≠ k := fun e he => by simpa using (List.mem_filter.mp he).2
  unfold Tab.setD
  split
  · exact hu
  · next hv =>
    refine ⟨Tab.place_sorted _ k v hu.1 hk, ?_⟩
    intro e he
    rcases Tab.place_mem _ k v e he with rfl | he
    · exact hv
    · exact hu.2 e he

end Sys2Proof.Machine
end

