-- ==== Sys2Proof/Laws/State.lean ====
section
/-! SUPPORT. Laws/State.lean: what each named update of the state leaves as it was, and what a register field reads after a write. -/

namespace Sys2Proof.Machine

/-! ### setF -/

@[simp] theorem State.setF_pending (s : State) (F : R.Fld) (v i k : Nat) : (s.setF F v i k).pending = s.pending := rfl
@[simp] theorem State.setF_idx (s : State) (F : R.Fld) (v i k : Nat) : (s.setF F v i k).idx = s.idx := rfl
@[simp] theorem State.setF_ctl (s : State) (F : R.Fld) (v i k : Nat) : (s.setF F v i k).ctl = s.ctl := rfl
@[simp] theorem State.setF_log (s : State) (F : R.Fld) (v i k : Nat) : (s.setF F v i k).log = s.log := rfl
@[simp] theorem State.setF_clk (s : State) (F : R.Fld) (v i k : Nat) : (s.setF F v i k).clk = s.clk := rfl
@[simp] theorem State.setF_pwr (s : State) (F : R.Fld) (v i k : Nat) : (s.setF F v i k).pwr = s.pwr := rfl
@[simp] theorem State.setF_boot (s : State) (F : R.Fld) (v i k : Nat) : (s.setF F v i k).boot = s.boot := rfl
@[simp] theorem State.setF_gov (s : State) (F : R.Fld) (v i k : Nat) : (s.setF F v i k).gov = s.gov := rfl
@[simp] theorem State.setF_links (s : State) (F : R.Fld) (v i k : Nat) : (s.setF F v i k).links = s.links := rfl
@[simp] theorem State.setF_conns (s : State) (F : R.Fld) (v i k : Nat) : (s.setF F v i k).conns = s.conns := rfl
@[simp] theorem State.setF_ctrls (s : State) (F : R.Fld) (v i k : Nat) : (s.setF F v i k).ctrls = s.ctrls := rfl
@[simp] theorem State.setF_queues (s : State) (F : R.Fld) (v i k : Nat) : (s.setF F v i k).queues = s.queues := rfl
@[simp] theorem State.setF_cmds (s : State) (F : R.Fld) (v i k : Nat) : (s.setF F v i k).cmds = s.cmds := rfl
@[simp] theorem State.setF_hop (s : State) (F : R.Fld) (v i k : Nat) : (s.setF F v i k).hop = s.hop := rfl
@[simp] theorem State.setF_slices (s : State) (F : R.Fld) (v i k : Nat) : (s.setF F v i k).slices = s.slices := rfl
@[simp] theorem State.setF_shadow (s : State) (F : R.Fld) (v i k : Nat) : (s.setF F v i k).shadow = s.shadow := rfl
@[simp] theorem State.setF_originStage (s : State) (F : R.Fld) (v i k : Nat) : (s.setF F v i k).originStage = s.originStage := rfl
@[simp] theorem State.setF_keys (s : State) (F : R.Fld) (v i k : Nat) : (s.setF F v i k).keys = s.keys := rfl
@[simp] theorem State.setF_per (s : State) (F : R.Fld) (v i k : Nat) : (s.setF F v i k).per = s.per := rfl
@[simp] theorem State.setF_disk (s : State) (F : R.Fld) (v i k : Nat) : (s.setF F v i k).disk = s.disk := rfl
@[simp] theorem State.setF_media (s : State) (F : R.Fld) (v i k : Nat) : (s.setF F v i k).media = s.media := rfl
@[simp] theorem State.setF_flash (s : State) (F : R.Fld) (v i k : Nat) : (s.setF F v i k).flash = s.flash := rfl
@[simp] theorem State.setF_dram (s : State) (F : R.Fld) (v i k : Nat) : (s.setF F v i k).dram = s.dram := rfl
@[simp] theorem State.setF_cpus (s : State) (F : R.Fld) (v i k : Nat) : (s.setF F v i k).cpus = s.cpus := rfl

/-! ### addF -/

@[simp] theorem State.addF_pending (s : State) (F : R.Fld) (n i k : Nat) : (s.addF F n i k).pending = s.pending := rfl
@[simp] theorem State.addF_idx (s : State) (F : R.Fld) (n i k : Nat) : (s.addF F n i k).idx = s.idx := rfl
@[simp] theorem State.addF_ctl (s : State) (F : R.Fld) (n i k : Nat) : (s.addF F n i k).ctl = s.ctl := rfl
@[simp] theorem State.addF_log (s : State) (F : R.Fld) (n i k : Nat) : (s.addF F n i k).log = s.log := rfl
@[simp] theorem State.addF_clk (s : State) (F : R.Fld) (n i k : Nat) : (s.addF F n i k).clk = s.clk := rfl
@[simp] theorem State.addF_pwr (s : State) (F : R.Fld) (n i k : Nat) : (s.addF F n i k).pwr = s.pwr := rfl
@[simp] theorem State.addF_boot (s : State) (F : R.Fld) (n i k : Nat) : (s.addF F n i k).boot = s.boot := rfl
@[simp] theorem State.addF_gov (s : State) (F : R.Fld) (n i k : Nat) : (s.addF F n i k).gov = s.gov := rfl
@[simp] theorem State.addF_links (s : State) (F : R.Fld) (n i k : Nat) : (s.addF F n i k).links = s.links := rfl
@[simp] theorem State.addF_conns (s : State) (F : R.Fld) (n i k : Nat) : (s.addF F n i k).conns = s.conns := rfl
@[simp] theorem State.addF_ctrls (s : State) (F : R.Fld) (n i k : Nat) : (s.addF F n i k).ctrls = s.ctrls := rfl
@[simp] theorem State.addF_queues (s : State) (F : R.Fld) (n i k : Nat) : (s.addF F n i k).queues = s.queues := rfl
@[simp] theorem State.addF_cmds (s : State) (F : R.Fld) (n i k : Nat) : (s.addF F n i k).cmds = s.cmds := rfl
@[simp] theorem State.addF_hop (s : State) (F : R.Fld) (n i k : Nat) : (s.addF F n i k).hop = s.hop := rfl
@[simp] theorem State.addF_slices (s : State) (F : R.Fld) (n i k : Nat) : (s.addF F n i k).slices = s.slices := rfl
@[simp] theorem State.addF_shadow (s : State) (F : R.Fld) (n i k : Nat) : (s.addF F n i k).shadow = s.shadow := rfl
@[simp] theorem State.addF_originStage (s : State) (F : R.Fld) (n i k : Nat) : (s.addF F n i k).originStage = s.originStage := rfl
@[simp] theorem State.addF_keys (s : State) (F : R.Fld) (n i k : Nat) : (s.addF F n i k).keys = s.keys := rfl
@[simp] theorem State.addF_per (s : State) (F : R.Fld) (n i k : Nat) : (s.addF F n i k).per = s.per := rfl
@[simp] theorem State.addF_disk (s : State) (F : R.Fld) (n i k : Nat) : (s.addF F n i k).disk = s.disk := rfl
@[simp] theorem State.addF_media (s : State) (F : R.Fld) (n i k : Nat) : (s.addF F n i k).media = s.media := rfl
@[simp] theorem State.addF_flash (s : State) (F : R.Fld) (n i k : Nat) : (s.addF F n i k).flash = s.flash := rfl
@[simp] theorem State.addF_dram (s : State) (F : R.Fld) (n i k : Nat) : (s.addF F n i k).dram = s.dram := rfl
@[simp] theorem State.addF_cpus (s : State) (F : R.Fld) (n i k : Nat) : (s.addF F n i k).cpus = s.cpus := rfl

/-! ### putF -/

@[simp] theorem State.putF_pending (s : State) (F : R.Fld) (v i k : Nat) : (s.putF F v i k).pending = s.pending := rfl
@[simp] theorem State.putF_idx (s : State) (F : R.Fld) (v i k : Nat) : (s.putF F v i k).idx = s.idx := rfl
@[simp] theorem State.putF_ctl (s : State) (F : R.Fld) (v i k : Nat) : (s.putF F v i k).ctl = s.ctl := rfl
@[simp] theorem State.putF_log (s : State) (F : R.Fld) (v i k : Nat) : (s.putF F v i k).log = s.log := rfl
@[simp] theorem State.putF_clk (s : State) (F : R.Fld) (v i k : Nat) : (s.putF F v i k).clk = s.clk := rfl
@[simp] theorem State.putF_pwr (s : State) (F : R.Fld) (v i k : Nat) : (s.putF F v i k).pwr = s.pwr := rfl
@[simp] theorem State.putF_boot (s : State) (F : R.Fld) (v i k : Nat) : (s.putF F v i k).boot = s.boot := rfl
@[simp] theorem State.putF_gov (s : State) (F : R.Fld) (v i k : Nat) : (s.putF F v i k).gov = s.gov := rfl
@[simp] theorem State.putF_links (s : State) (F : R.Fld) (v i k : Nat) : (s.putF F v i k).links = s.links := rfl
@[simp] theorem State.putF_conns (s : State) (F : R.Fld) (v i k : Nat) : (s.putF F v i k).conns = s.conns := rfl
@[simp] theorem State.putF_ctrls (s : State) (F : R.Fld) (v i k : Nat) : (s.putF F v i k).ctrls = s.ctrls := rfl
@[simp] theorem State.putF_queues (s : State) (F : R.Fld) (v i k : Nat) : (s.putF F v i k).queues = s.queues := rfl
@[simp] theorem State.putF_cmds (s : State) (F : R.Fld) (v i k : Nat) : (s.putF F v i k).cmds = s.cmds := rfl
@[simp] theorem State.putF_hop (s : State) (F : R.Fld) (v i k : Nat) : (s.putF F v i k).hop = s.hop := rfl
@[simp] theorem State.putF_slices (s : State) (F : R.Fld) (v i k : Nat) : (s.putF F v i k).slices = s.slices := rfl
@[simp] theorem State.putF_shadow (s : State) (F : R.Fld) (v i k : Nat) : (s.putF F v i k).shadow = s.shadow := rfl
@[simp] theorem State.putF_originStage (s : State) (F : R.Fld) (v i k : Nat) : (s.putF F v i k).originStage = s.originStage := rfl
@[simp] theorem State.putF_keys (s : State) (F : R.Fld) (v i k : Nat) : (s.putF F v i k).keys = s.keys := rfl
@[simp] theorem State.putF_per (s : State) (F : R.Fld) (v i k : Nat) : (s.putF F v i k).per = s.per := rfl
@[simp] theorem State.putF_disk (s : State) (F : R.Fld) (v i k : Nat) : (s.putF F v i k).disk = s.disk := rfl
@[simp] theorem State.putF_media (s : State) (F : R.Fld) (v i k : Nat) : (s.putF F v i k).media = s.media := rfl
@[simp] theorem State.putF_flash (s : State) (F : R.Fld) (v i k : Nat) : (s.putF F v i k).flash = s.flash := rfl
@[simp] theorem State.putF_dram (s : State) (F : R.Fld) (v i k : Nat) : (s.putF F v i k).dram = s.dram := rfl
@[simp] theorem State.putF_cpus (s : State) (F : R.Fld) (v i k : Nat) : (s.putF F v i k).cpus = s.cpus := rfl

/-! ### setIdx -/

@[simp] theorem State.setIdx_pending (s : State) (p : Path) (F : R.Fld) (v i : Nat) : (s.setIdx p F v i).pending = s.pending := rfl
@[simp] theorem State.setIdx_fields (s : State) (p : Path) (F : R.Fld) (v i : Nat) : (s.setIdx p F v i).fields = s.fields := rfl
@[simp] theorem State.setIdx_ctl (s : State) (p : Path) (F : R.Fld) (v i : Nat) : (s.setIdx p F v i).ctl = s.ctl := rfl
@[simp] theorem State.setIdx_log (s : State) (p : Path) (F : R.Fld) (v i : Nat) : (s.setIdx p F v i).log = s.log := rfl
@[simp] theorem State.setIdx_clk (s : State) (p : Path) (F : R.Fld) (v i : Nat) : (s.setIdx p F v i).clk = s.clk := rfl
@[simp] theorem State.setIdx_pwr (s : State) (p : Path) (F : R.Fld) (v i : Nat) : (s.setIdx p F v i).pwr = s.pwr := rfl
@[simp] theorem State.setIdx_boot (s : State) (p : Path) (F : R.Fld) (v i : Nat) : (s.setIdx p F v i).boot = s.boot := rfl
@[simp] theorem State.setIdx_gov (s : State) (p : Path) (F : R.Fld) (v i : Nat) : (s.setIdx p F v i).gov = s.gov := rfl
@[simp] theorem State.setIdx_links (s : State) (p : Path) (F : R.Fld) (v i : Nat) : (s.setIdx p F v i).links = s.links := rfl
@[simp] theorem State.setIdx_conns (s : State) (p : Path) (F : R.Fld) (v i : Nat) : (s.setIdx p F v i).conns = s.conns := rfl
@[simp] theorem State.setIdx_ctrls (s : State) (p : Path) (F : R.Fld) (v i : Nat) : (s.setIdx p F v i).ctrls = s.ctrls := rfl
@[simp] theorem State.setIdx_queues (s : State) (p : Path) (F : R.Fld) (v i : Nat) : (s.setIdx p F v i).queues = s.queues := rfl
@[simp] theorem State.setIdx_cmds (s : State) (p : Path) (F : R.Fld) (v i : Nat) : (s.setIdx p F v i).cmds = s.cmds := rfl
@[simp] theorem State.setIdx_hop (s : State) (p : Path) (F : R.Fld) (v i : Nat) : (s.setIdx p F v i).hop = s.hop := rfl
@[simp] theorem State.setIdx_slices (s : State) (p : Path) (F : R.Fld) (v i : Nat) : (s.setIdx p F v i).slices = s.slices := rfl
@[simp] theorem State.setIdx_shadow (s : State) (p : Path) (F : R.Fld) (v i : Nat) : (s.setIdx p F v i).shadow = s.shadow := rfl
@[simp] theorem State.setIdx_originStage (s : State) (p : Path) (F : R.Fld) (v i : Nat) : (s.setIdx p F v i).originStage = s.originStage := rfl
@[simp] theorem State.setIdx_keys (s : State) (p : Path) (F : R.Fld) (v i : Nat) : (s.setIdx p F v i).keys = s.keys := rfl
@[simp] theorem State.setIdx_per (s : State) (p : Path) (F : R.Fld) (v i : Nat) : (s.setIdx p F v i).per = s.per := rfl
@[simp] theorem State.setIdx_disk (s : State) (p : Path) (F : R.Fld) (v i : Nat) : (s.setIdx p F v i).disk = s.disk := rfl
@[simp] theorem State.setIdx_media (s : State) (p : Path) (F : R.Fld) (v i : Nat) : (s.setIdx p F v i).media = s.media := rfl
@[simp] theorem State.setIdx_flash (s : State) (p : Path) (F : R.Fld) (v i : Nat) : (s.setIdx p F v i).flash = s.flash := rfl
@[simp] theorem State.setIdx_dram (s : State) (p : Path) (F : R.Fld) (v i : Nat) : (s.setIdx p F v i).dram = s.dram := rfl
@[simp] theorem State.setIdx_cpus (s : State) (p : Path) (F : R.Fld) (v i : Nat) : (s.setIdx p F v i).cpus = s.cpus := rfl

/-! ### raise -/

@[simp] theorem State.raise_pending (s : State) (F : R.Fld) (p1 p2 p3 i : Nat) : (s.raise F p1 p2 p3 i).pending = s.pending := rfl
@[simp] theorem State.raise_idx (s : State) (F : R.Fld) (p1 p2 p3 i : Nat) : (s.raise F p1 p2 p3 i).idx = s.idx := rfl
@[simp] theorem State.raise_log (s : State) (F : R.Fld) (p1 p2 p3 i : Nat) : (s.raise F p1 p2 p3 i).log = s.log := rfl
@[simp] theorem State.raise_clk (s : State) (F : R.Fld) (p1 p2 p3 i : Nat) : (s.raise F p1 p2 p3 i).clk = s.clk := rfl
@[simp] theorem State.raise_pwr (s : State) (F : R.Fld) (p1 p2 p3 i : Nat) : (s.raise F p1 p2 p3 i).pwr = s.pwr := rfl
@[simp] theorem State.raise_boot (s : State) (F : R.Fld) (p1 p2 p3 i : Nat) : (s.raise F p1 p2 p3 i).boot = s.boot := rfl
@[simp] theorem State.raise_gov (s : State) (F : R.Fld) (p1 p2 p3 i : Nat) : (s.raise F p1 p2 p3 i).gov = s.gov := rfl
@[simp] theorem State.raise_links (s : State) (F : R.Fld) (p1 p2 p3 i : Nat) : (s.raise F p1 p2 p3 i).links = s.links := rfl
@[simp] theorem State.raise_conns (s : State) (F : R.Fld) (p1 p2 p3 i : Nat) : (s.raise F p1 p2 p3 i).conns = s.conns := rfl
@[simp] theorem State.raise_ctrls (s : State) (F : R.Fld) (p1 p2 p3 i : Nat) : (s.raise F p1 p2 p3 i).ctrls = s.ctrls := rfl
@[simp] theorem State.raise_queues (s : State) (F : R.Fld) (p1 p2 p3 i : Nat) : (s.raise F p1 p2 p3 i).queues = s.queues := rfl
@[simp] theorem State.raise_cmds (s : State) (F : R.Fld) (p1 p2 p3 i : Nat) : (s.raise F p1 p2 p3 i).cmds = s.cmds := rfl
@[simp] theorem State.raise_hop (s : State) (F : R.Fld) (p1 p2 p3 i : Nat) : (s.raise F p1 p2 p3 i).hop = s.hop := rfl
@[simp] theorem State.raise_slices (s : State) (F : R.Fld) (p1 p2 p3 i : Nat) : (s.raise F p1 p2 p3 i).slices = s.slices := rfl
@[simp] theorem State.raise_shadow (s : State) (F : R.Fld) (p1 p2 p3 i : Nat) : (s.raise F p1 p2 p3 i).shadow = s.shadow := rfl
@[simp] theorem State.raise_originStage (s : State) (F : R.Fld) (p1 p2 p3 i : Nat) : (s.raise F p1 p2 p3 i).originStage = s.originStage := rfl
@[simp] theorem State.raise_keys (s : State) (F : R.Fld) (p1 p2 p3 i : Nat) : (s.raise F p1 p2 p3 i).keys = s.keys := rfl
@[simp] theorem State.raise_per (s : State) (F : R.Fld) (p1 p2 p3 i : Nat) : (s.raise F p1 p2 p3 i).per = s.per := rfl
@[simp] theorem State.raise_disk (s : State) (F : R.Fld) (p1 p2 p3 i : Nat) : (s.raise F p1 p2 p3 i).disk = s.disk := rfl
@[simp] theorem State.raise_media (s : State) (F : R.Fld) (p1 p2 p3 i : Nat) : (s.raise F p1 p2 p3 i).media = s.media := rfl
@[simp] theorem State.raise_flash (s : State) (F : R.Fld) (p1 p2 p3 i : Nat) : (s.raise F p1 p2 p3 i).flash = s.flash := rfl
@[simp] theorem State.raise_dram (s : State) (F : R.Fld) (p1 p2 p3 i : Nat) : (s.raise F p1 p2 p3 i).dram = s.dram := rfl
@[simp] theorem State.raise_cpus (s : State) (F : R.Fld) (p1 p2 p3 i : Nat) : (s.raise F p1 p2 p3 i).cpus = s.cpus := rfl

/-! ### send -/

@[simp] theorem State.send_pending (s : State) (kind : MK) (dst : Nat) (args data : List Nat) (slot : Option SlotTx) (link : Option Nat) : (s.send kind dst args data slot link).pending = s.pending := rfl
@[simp] theorem State.send_fields (s : State) (kind : MK) (dst : Nat) (args data : List Nat) (slot : Option SlotTx) (link : Option Nat) : (s.send kind dst args data slot link).fields = s.fields := rfl
@[simp] theorem State.send_idx (s : State) (kind : MK) (dst : Nat) (args data : List Nat) (slot : Option SlotTx) (link : Option Nat) : (s.send kind dst args data slot link).idx = s.idx := rfl
@[simp] theorem State.send_log (s : State) (kind : MK) (dst : Nat) (args data : List Nat) (slot : Option SlotTx) (link : Option Nat) : (s.send kind dst args data slot link).log = s.log := rfl
@[simp] theorem State.send_clk (s : State) (kind : MK) (dst : Nat) (args data : List Nat) (slot : Option SlotTx) (link : Option Nat) : (s.send kind dst args data slot link).clk = s.clk := rfl
@[simp] theorem State.send_pwr (s : State) (kind : MK) (dst : Nat) (args data : List Nat) (slot : Option SlotTx) (link : Option Nat) : (s.send kind dst args data slot link).pwr = s.pwr := rfl
@[simp] theorem State.send_boot (s : State) (kind : MK) (dst : Nat) (args data : List Nat) (slot : Option SlotTx) (link : Option Nat) : (s.send kind dst args data slot link).boot = s.boot := rfl
@[simp] theorem State.send_gov (s : State) (kind : MK) (dst : Nat) (args data : List Nat) (slot : Option SlotTx) (link : Option Nat) : (s.send kind dst args data slot link).gov = s.gov := rfl
@[simp] theorem State.send_links (s : State) (kind : MK) (dst : Nat) (args data : List Nat) (slot : Option SlotTx) (link : Option Nat) : (s.send kind dst args data slot link).links = s.links := rfl
@[simp] theorem State.send_ctrls (s : State) (kind : MK) (dst : Nat) (args data : List Nat) (slot : Option SlotTx) (link : Option Nat) : (s.send kind dst args data slot link).ctrls = s.ctrls := rfl
@[simp] theorem State.send_queues (s : State) (kind : MK) (dst : Nat) (args data : List Nat) (slot : Option SlotTx) (link : Option Nat) : (s.send kind dst args data slot link).queues = s.queues := rfl
@[simp] theorem State.send_cmds (s : State) (kind : MK) (dst : Nat) (args data : List Nat) (slot : Option SlotTx) (link : Option Nat) : (s.send kind dst args data slot link).cmds = s.cmds := rfl
@[simp] theorem State.send_hop (s : State) (kind : MK) (dst : Nat) (args data : List Nat) (slot : Option SlotTx) (link : Option Nat) : (s.send kind dst args data slot link).hop = s.hop := rfl
@[simp] theorem State.send_slices (s : State) (kind : MK) (dst : Nat) (args data : List Nat) (slot : Option SlotTx) (link : Option Nat) : (s.send kind dst args data slot link).slices = s.slices := rfl
@[simp] theorem State.send_shadow (s : State) (kind : MK) (dst : Nat) (args data : List Nat) (slot : Option SlotTx) (link : Option Nat) : (s.send kind dst args data slot link).shadow = s.shadow := rfl
@[simp] theorem State.send_originStage (s : State) (kind : MK) (dst : Nat) (args data : List Nat) (slot : Option SlotTx) (link : Option Nat) : (s.send kind dst args data slot link).originStage = s.originStage := rfl
@[simp] theorem State.send_keys (s : State) (kind : MK) (dst : Nat) (args data : List Nat) (slot : Option SlotTx) (link : Option Nat) : (s.send kind dst args data slot link).keys = s.keys := rfl
@[simp] theorem State.send_per (s : State) (kind : MK) (dst : Nat) (args data : List Nat) (slot : Option SlotTx) (link : Option Nat) : (s.send kind dst args data slot link).per = s.per := rfl
@[simp] theorem State.send_disk (s : State) (kind : MK) (dst : Nat) (args data : List Nat) (slot : Option SlotTx) (link : Option Nat) : (s.send kind dst args data slot link).disk = s.disk := rfl
@[simp] theorem State.send_media (s : State) (kind : MK) (dst : Nat) (args data : List Nat) (slot : Option SlotTx) (link : Option Nat) : (s.send kind dst args data slot link).media = s.media := rfl
@[simp] theorem State.send_flash (s : State) (kind : MK) (dst : Nat) (args data : List Nat) (slot : Option SlotTx) (link : Option Nat) : (s.send kind dst args data slot link).flash = s.flash := rfl
@[simp] theorem State.send_dram (s : State) (kind : MK) (dst : Nat) (args data : List Nat) (slot : Option SlotTx) (link : Option Nat) : (s.send kind dst args data slot link).dram = s.dram := rfl
@[simp] theorem State.send_cpus (s : State) (kind : MK) (dst : Nat) (args data : List Nat) (slot : Option SlotTx) (link : Option Nat) : (s.send kind dst args data slot link).cpus = s.cpus := rfl

/-! ### invalidEnc -/

@[simp] theorem State.invalidEnc_pending (s : State) (a v : Nat) (p : Path) : (s.invalidEnc a v p).pending = s.pending := rfl
@[simp] theorem State.invalidEnc_idx (s : State) (a v : Nat) (p : Path) : (s.invalidEnc a v p).idx = s.idx := rfl
@[simp] theorem State.invalidEnc_log (s : State) (a v : Nat) (p : Path) : (s.invalidEnc a v p).log = s.log := rfl
@[simp] theorem State.invalidEnc_clk (s : State) (a v : Nat) (p : Path) : (s.invalidEnc a v p).clk = s.clk := rfl
@[simp] theorem State.invalidEnc_pwr (s : State) (a v : Nat) (p : Path) : (s.invalidEnc a v p).pwr = s.pwr := rfl
@[simp] theorem State.invalidEnc_boot (s : State) (a v : Nat) (p : Path) : (s.invalidEnc a v p).boot = s.boot := rfl
@[simp] theorem State.invalidEnc_gov (s : State) (a v : Nat) (p : Path) : (s.invalidEnc a v p).gov = s.gov := rfl
@[simp] theorem State.invalidEnc_links (s : State) (a v : Nat) (p : Path) : (s.invalidEnc a v p).links = s.links := rfl
@[simp] theorem State.invalidEnc_conns (s : State) (a v : Nat) (p : Path) : (s.invalidEnc a v p).conns = s.conns := rfl
@[simp] theorem State.invalidEnc_ctrls (s : State) (a v : Nat) (p : Path) : (s.invalidEnc a v p).ctrls = s.ctrls := rfl
@[simp] theorem State.invalidEnc_queues (s : State) (a v : Nat) (p : Path) : (s.invalidEnc a v p).queues = s.queues := rfl
@[simp] theorem State.invalidEnc_cmds (s : State) (a v : Nat) (p : Path) : (s.invalidEnc a v p).cmds = s.cmds := rfl
@[simp] theorem State.invalidEnc_hop (s : State) (a v : Nat) (p : Path) : (s.invalidEnc a v p).hop = s.hop := rfl
@[simp] theorem State.invalidEnc_slices (s : State) (a v : Nat) (p : Path) : (s.invalidEnc a v p).slices = s.slices := rfl
@[simp] theorem State.invalidEnc_shadow (s : State) (a v : Nat) (p : Path) : (s.invalidEnc a v p).shadow = s.shadow := rfl
@[simp] theorem State.invalidEnc_originStage (s : State) (a v : Nat) (p : Path) : (s.invalidEnc a v p).originStage = s.originStage := rfl
@[simp] theorem State.invalidEnc_keys (s : State) (a v : Nat) (p : Path) : (s.invalidEnc a v p).keys = s.keys := rfl
@[simp] theorem State.invalidEnc_per (s : State) (a v : Nat) (p : Path) : (s.invalidEnc a v p).per = s.per := rfl
@[simp] theorem State.invalidEnc_disk (s : State) (a v : Nat) (p : Path) : (s.invalidEnc a v p).disk = s.disk := rfl
@[simp] theorem State.invalidEnc_media (s : State) (a v : Nat) (p : Path) : (s.invalidEnc a v p).media = s.media := rfl
@[simp] theorem State.invalidEnc_flash (s : State) (a v : Nat) (p : Path) : (s.invalidEnc a v p).flash = s.flash := rfl
@[simp] theorem State.invalidEnc_dram (s : State) (a v : Nat) (p : Path) : (s.invalidEnc a v p).dram = s.dram := rfl
@[simp] theorem State.invalidEnc_cpus (s : State) (a v : Nat) (p : Path) : (s.invalidEnc a v p).cpus = s.cpus := rfl

/-! ### accessFault -/

@[simp] theorem State.accessFault_pending (s : State) (a : Nat) (p : Path) : (s.accessFault a p).pending = s.pending := rfl
@[simp] theorem State.accessFault_idx (s : State) (a : Nat) (p : Path) : (s.accessFault a p).idx = s.idx := rfl
@[simp] theorem State.accessFault_log (s : State) (a : Nat) (p : Path) : (s.accessFault a p).log = s.log := rfl
@[simp] theorem State.accessFault_clk (s : State) (a : Nat) (p : Path) : (s.accessFault a p).clk = s.clk := rfl
@[simp] theorem State.accessFault_pwr (s : State) (a : Nat) (p : Path) : (s.accessFault a p).pwr = s.pwr := rfl
@[simp] theorem State.accessFault_boot (s : State) (a : Nat) (p : Path) : (s.accessFault a p).boot = s.boot := rfl
@[simp] theorem State.accessFault_gov (s : State) (a : Nat) (p : Path) : (s.accessFault a p).gov = s.gov := rfl
@[simp] theorem State.accessFault_links (s : State) (a : Nat) (p : Path) : (s.accessFault a p).links = s.links := rfl
@[simp] theorem State.accessFault_conns (s : State) (a : Nat) (p : Path) : (s.accessFault a p).conns = s.conns := rfl
@[simp] theorem State.accessFault_ctrls (s : State) (a : Nat) (p : Path) : (s.accessFault a p).ctrls = s.ctrls := rfl
@[simp] theorem State.accessFault_queues (s : State) (a : Nat) (p : Path) : (s.accessFault a p).queues = s.queues := rfl
@[simp] theorem State.accessFault_cmds (s : State) (a : Nat) (p : Path) : (s.accessFault a p).cmds = s.cmds := rfl
@[simp] theorem State.accessFault_hop (s : State) (a : Nat) (p : Path) : (s.accessFault a p).hop = s.hop := rfl
@[simp] theorem State.accessFault_slices (s : State) (a : Nat) (p : Path) : (s.accessFault a p).slices = s.slices := rfl
@[simp] theorem State.accessFault_shadow (s : State) (a : Nat) (p : Path) : (s.accessFault a p).shadow = s.shadow := rfl
@[simp] theorem State.accessFault_originStage (s : State) (a : Nat) (p : Path) : (s.accessFault a p).originStage = s.originStage := rfl
@[simp] theorem State.accessFault_keys (s : State) (a : Nat) (p : Path) : (s.accessFault a p).keys = s.keys := rfl
@[simp] theorem State.accessFault_per (s : State) (a : Nat) (p : Path) : (s.accessFault a p).per = s.per := rfl
@[simp] theorem State.accessFault_disk (s : State) (a : Nat) (p : Path) : (s.accessFault a p).disk = s.disk := rfl
@[simp] theorem State.accessFault_media (s : State) (a : Nat) (p : Path) : (s.accessFault a p).media = s.media := rfl
@[simp] theorem State.accessFault_flash (s : State) (a : Nat) (p : Path) : (s.accessFault a p).flash = s.flash := rfl
@[simp] theorem State.accessFault_dram (s : State) (a : Nat) (p : Path) : (s.accessFault a p).dram = s.dram := rfl
@[simp] theorem State.accessFault_cpus (s : State) (a : Nat) (p : Path) : (s.accessFault a p).cpus = s.cpus := rfl

/-! ### trigIgnored -/

@[simp] theorem State.trigIgnored_pending (s : State) (t : Nat) : (s.trigIgnored t).pending = s.pending := rfl
@[simp] theorem State.trigIgnored_idx (s : State) (t : Nat) : (s.trigIgnored t).idx = s.idx := rfl
@[simp] theorem State.trigIgnored_log (s : State) (t : Nat) : (s.trigIgnored t).log = s.log := rfl
@[simp] theorem State.trigIgnored_clk (s : State) (t : Nat) : (s.trigIgnored t).clk = s.clk := rfl
@[simp] theorem State.trigIgnored_pwr (s : State) (t : Nat) : (s.trigIgnored t).pwr = s.pwr := rfl
@[simp] theorem State.trigIgnored_boot (s : State) (t : Nat) : (s.trigIgnored t).boot = s.boot := rfl
@[simp] theorem State.trigIgnored_gov (s : State) (t : Nat) : (s.trigIgnored t).gov = s.gov := rfl
@[simp] theorem State.trigIgnored_links (s : State) (t : Nat) : (s.trigIgnored t).links = s.links := rfl
@[simp] theorem State.trigIgnored_conns (s : State) (t : Nat) : (s.trigIgnored t).conns = s.conns := rfl
@[simp] theorem State.trigIgnored_ctrls (s : State) (t : Nat) : (s.trigIgnored t).ctrls = s.ctrls := rfl
@[simp] theorem State.trigIgnored_queues (s : State) (t : Nat) : (s.trigIgnored t).queues = s.queues := rfl
@[simp] theorem State.trigIgnored_cmds (s : State) (t : Nat) : (s.trigIgnored t).cmds = s.cmds := rfl
@[simp] theorem State.trigIgnored_hop (s : State) (t : Nat) : (s.trigIgnored t).hop = s.hop := rfl
@[simp] theorem State.trigIgnored_slices (s : State) (t : Nat) : (s.trigIgnored t).slices = s.slices := rfl
@[simp] theorem State.trigIgnored_shadow (s : State) (t : Nat) : (s.trigIgnored t).shadow = s.shadow := rfl
@[simp] theorem State.trigIgnored_originStage (s : State) (t : Nat) : (s.trigIgnored t).originStage = s.originStage := rfl
@[simp] theorem State.trigIgnored_keys (s : State) (t : Nat) : (s.trigIgnored t).keys = s.keys := rfl
@[simp] theorem State.trigIgnored_per (s : State) (t : Nat) : (s.trigIgnored t).per = s.per := rfl
@[simp] theorem State.trigIgnored_disk (s : State) (t : Nat) : (s.trigIgnored t).disk = s.disk := rfl
@[simp] theorem State.trigIgnored_media (s : State) (t : Nat) : (s.trigIgnored t).media = s.media := rfl
@[simp] theorem State.trigIgnored_flash (s : State) (t : Nat) : (s.trigIgnored t).flash = s.flash := rfl
@[simp] theorem State.trigIgnored_dram (s : State) (t : Nat) : (s.trigIgnored t).dram = s.dram := rfl
@[simp] theorem State.trigIgnored_cpus (s : State) (t : Nat) : (s.trigIgnored t).cpus = s.cpus := rfl

/-! ### logEntry -/

@[simp] theorem State.logEntry_pending (s : State) (e : Ev) : (s.logEntry e).pending = s.pending := rfl
@[simp] theorem State.logEntry_fields (s : State) (e : Ev) : (s.logEntry e).fields = s.fields := rfl
@[simp] theorem State.logEntry_idx (s : State) (e : Ev) : (s.logEntry e).idx = s.idx := rfl
@[simp] theorem State.logEntry_ctl (s : State) (e : Ev) : (s.logEntry e).ctl = s.ctl := rfl
@[simp] theorem State.logEntry_clk (s : State) (e : Ev) : (s.logEntry e).clk = s.clk := rfl
@[simp] theorem State.logEntry_pwr (s : State) (e : Ev) : (s.logEntry e).pwr = s.pwr := rfl
@[simp] theorem State.logEntry_boot (s : State) (e : Ev) : (s.logEntry e).boot = s.boot := rfl
@[simp] theorem State.logEntry_gov (s : State) (e : Ev) : (s.logEntry e).gov = s.gov := rfl
@[simp] theorem State.logEntry_links (s : State) (e : Ev) : (s.logEntry e).links = s.links := rfl
@[simp] theorem State.logEntry_conns (s : State) (e : Ev) : (s.logEntry e).conns = s.conns := rfl
@[simp] theorem State.logEntry_ctrls (s : State) (e : Ev) : (s.logEntry e).ctrls = s.ctrls := rfl
@[simp] theorem State.logEntry_queues (s : State) (e : Ev) : (s.logEntry e).queues = s.queues := rfl
@[simp] theorem State.logEntry_cmds (s : State) (e : Ev) : (s.logEntry e).cmds = s.cmds := rfl
@[simp] theorem State.logEntry_hop (s : State) (e : Ev) : (s.logEntry e).hop = s.hop := rfl
@[simp] theorem State.logEntry_slices (s : State) (e : Ev) : (s.logEntry e).slices = s.slices := rfl
@[simp] theorem State.logEntry_shadow (s : State) (e : Ev) : (s.logEntry e).shadow = s.shadow := rfl
@[simp] theorem State.logEntry_originStage (s : State) (e : Ev) : (s.logEntry e).originStage = s.originStage := rfl
@[simp] theorem State.logEntry_keys (s : State) (e : Ev) : (s.logEntry e).keys = s.keys := rfl
@[simp] theorem State.logEntry_per (s : State) (e : Ev) : (s.logEntry e).per = s.per := rfl
@[simp] theorem State.logEntry_disk (s : State) (e : Ev) : (s.logEntry e).disk = s.disk := rfl
@[simp] theorem State.logEntry_media (s : State) (e : Ev) : (s.logEntry e).media = s.media := rfl
@[simp] theorem State.logEntry_flash (s : State) (e : Ev) : (s.logEntry e).flash = s.flash := rfl
@[simp] theorem State.logEntry_dram (s : State) (e : Ev) : (s.logEntry e).dram = s.dram := rfl
@[simp] theorem State.logEntry_cpus (s : State) (e : Ev) : (s.logEntry e).cpus = s.cpus := rfl

@[simp] theorem State.raise_ctl_mode (s : State) (F : R.Fld) (p1 p2 p3 i : Nat) : (s.raise F p1 p2 p3 i).ctl.mode = s.ctl.mode := rfl
@[simp] theorem State.raise_ctl_prev (s : State) (F : R.Fld) (p1 p2 p3 i : Nat) : (s.raise F p1 p2 p3 i).ctl.prev = s.ctl.prev := rfl
@[simp] theorem State.raise_ctl_trigger (s : State) (F : R.Fld) (p1 p2 p3 i : Nat) : (s.raise F p1 p2 p3 i).ctl.trigger = s.ctl.trigger := rfl
@[simp] theorem State.raise_ctl_changes (s : State) (F : R.Fld) (p1 p2 p3 i : Nat) : (s.raise F p1 p2 p3 i).ctl.changes = s.ctl.changes := rfl
@[simp] theorem State.raise_ctl_becalmedFrom (s : State) (F : R.Fld) (p1 p2 p3 i : Nat) : (s.raise F p1 p2 p3 i).ctl.becalmedFrom = s.ctl.becalmedFrom := rfl
@[simp] theorem State.raise_ctl_flushFrom (s : State) (F : R.Fld) (p1 p2 p3 i : Nat) : (s.raise F p1 p2 p3 i).ctl.flushFrom = s.ctl.flushFrom := rfl
@[simp] theorem State.raise_ctl_sbAlert (s : State) (F : R.Fld) (p1 p2 p3 i : Nat) : (s.raise F p1 p2 p3 i).ctl.sbAlert = s.ctl.sbAlert := rfl
@[simp] theorem State.raise_ctl_rate (s : State) (F : R.Fld) (p1 p2 p3 i : Nat) : (s.raise F p1 p2 p3 i).ctl.rate = s.ctl.rate := rfl
@[simp] theorem State.raise_ctl_out (s : State) (F : R.Fld) (p1 p2 p3 i : Nat) : (s.raise F p1 p2 p3 i).ctl.out = s.ctl.out := rfl
@[simp] theorem State.raise_ctl_freeCtr (s : State) (F : R.Fld) (p1 p2 p3 i : Nat) : (s.raise F p1 p2 p3 i).ctl.freeCtr = s.ctl.freeCtr := rfl

@[simp] theorem State.invalidEnc_ctl_mode (s : State) (a v : Nat) (p : Path) : (s.invalidEnc a v p).ctl.mode = s.ctl.mode := rfl
@[simp] theorem State.invalidEnc_ctl_prev (s : State) (a v : Nat) (p : Path) : (s.invalidEnc a v p).ctl.prev = s.ctl.prev := rfl
@[simp] theorem State.invalidEnc_ctl_trigger (s : State) (a v : Nat) (p : Path) : (s.invalidEnc a v p).ctl.trigger = s.ctl.trigger := rfl
@[simp] theorem State.invalidEnc_ctl_changes (s : State) (a v : Nat) (p : Path) : (s.invalidEnc a v p).ctl.changes = s.ctl.changes := rfl
@[simp] theorem State.invalidEnc_ctl_becalmedFrom (s : State) (a v : Nat) (p : Path) : (s.invalidEnc a v p).ctl.becalmedFrom = s.ctl.becalmedFrom := rfl
@[simp] theorem State.invalidEnc_ctl_flushFrom (s : State) (a v : Nat) (p : Path) : (s.invalidEnc a v p).ctl.flushFrom = s.ctl.flushFrom := rfl
@[simp] theorem State.invalidEnc_ctl_sbAlert (s : State) (a v : Nat) (p : Path) : (s.invalidEnc a v p).ctl.sbAlert = s.ctl.sbAlert := rfl
@[simp] theorem State.invalidEnc_ctl_rate (s : State) (a v : Nat) (p : Path) : (s.invalidEnc a v p).ctl.rate = s.ctl.rate := rfl
@[simp] theorem State.invalidEnc_ctl_out (s : State) (a v : Nat) (p : Path) : (s.invalidEnc a v p).ctl.out = s.ctl.out := rfl
@[simp] theorem State.invalidEnc_ctl_freeCtr (s : State) (a v : Nat) (p : Path) : (s.invalidEnc a v p).ctl.freeCtr = s.ctl.freeCtr := rfl

@[simp] theorem State.accessFault_ctl_mode (s : State) (a : Nat) (p : Path) : (s.accessFault a p).ctl.mode = s.ctl.mode := rfl
@[simp] theorem State.accessFault_ctl_prev (s : State) (a : Nat) (p : Path) : (s.accessFault a p).ctl.prev = s.ctl.prev := rfl
@[simp] theorem State.accessFault_ctl_trigger (s : State) (a : Nat) (p : Path) : (s.accessFault a p).ctl.trigger = s.ctl.trigger := rfl
@[simp] theorem State.accessFault_ctl_changes (s : State) (a : Nat) (p : Path) : (s.accessFault a p).ctl.changes = s.ctl.changes := rfl
@[simp] theorem State.accessFault_ctl_becalmedFrom (s : State) (a : Nat) (p : Path) : (s.accessFault a p).ctl.becalmedFrom = s.ctl.becalmedFrom := rfl
@[simp] theorem State.accessFault_ctl_flushFrom (s : State) (a : Nat) (p : Path) : (s.accessFault a p).ctl.flushFrom = s.ctl.flushFrom := rfl
@[simp] theorem State.accessFault_ctl_sbAlert (s : State) (a : Nat) (p : Path) : (s.accessFault a p).ctl.sbAlert = s.ctl.sbAlert := rfl
@[simp] theorem State.accessFault_ctl_rate (s : State) (a : Nat) (p : Path) : (s.accessFault a p).ctl.rate = s.ctl.rate := rfl
@[simp] theorem State.accessFault_ctl_out (s : State) (a : Nat) (p : Path) : (s.accessFault a p).ctl.out = s.ctl.out := rfl
@[simp] theorem State.accessFault_ctl_freeCtr (s : State) (a : Nat) (p : Path) : (s.accessFault a p).ctl.freeCtr = s.ctl.freeCtr := rfl

@[simp] theorem State.trigIgnored_ctl_mode (s : State) (t : Nat) : (s.trigIgnored t).ctl.mode = s.ctl.mode := rfl
@[simp] theorem State.trigIgnored_ctl_prev (s : State) (t : Nat) : (s.trigIgnored t).ctl.prev = s.ctl.prev := rfl
@[simp] theorem State.trigIgnored_ctl_trigger (s : State) (t : Nat) : (s.trigIgnored t).ctl.trigger = s.ctl.trigger := rfl
@[simp] theorem State.trigIgnored_ctl_changes (s : State) (t : Nat) : (s.trigIgnored t).ctl.changes = s.ctl.changes := rfl
@[simp] theorem State.trigIgnored_ctl_becalmedFrom (s : State) (t : Nat) : (s.trigIgnored t).ctl.becalmedFrom = s.ctl.becalmedFrom := rfl
@[simp] theorem State.trigIgnored_ctl_flushFrom (s : State) (t : Nat) : (s.trigIgnored t).ctl.flushFrom = s.ctl.flushFrom := rfl
@[simp] theorem State.trigIgnored_ctl_sbAlert (s : State) (t : Nat) : (s.trigIgnored t).ctl.sbAlert = s.ctl.sbAlert := rfl
@[simp] theorem State.trigIgnored_ctl_rate (s : State) (t : Nat) : (s.trigIgnored t).ctl.rate = s.ctl.rate := rfl
@[simp] theorem State.trigIgnored_ctl_out (s : State) (t : Nat) : (s.trigIgnored t).ctl.out = s.ctl.out := rfl
@[simp] theorem State.trigIgnored_ctl_freeCtr (s : State) (t : Nat) : (s.trigIgnored t).ctl.freeCtr = s.ctl.freeCtr := rfl

@[simp] theorem Ctl.post_mode (c : Ctl) (m : Msg) (hold : Bool) : (c.post m hold).mode = c.mode := by cases hold <;> rfl
@[simp] theorem Ctl.post_prev (c : Ctl) (m : Msg) (hold : Bool) : (c.post m hold).prev = c.prev := by cases hold <;> rfl
@[simp] theorem Ctl.post_trigger (c : Ctl) (m : Msg) (hold : Bool) : (c.post m hold).trigger = c.trigger := by cases hold <;> rfl
@[simp] theorem Ctl.post_changes (c : Ctl) (m : Msg) (hold : Bool) : (c.post m hold).changes = c.changes := by cases hold <;> rfl
@[simp] theorem Ctl.post_becalmedFrom (c : Ctl) (m : Msg) (hold : Bool) : (c.post m hold).becalmedFrom = c.becalmedFrom := by cases hold <;> rfl
@[simp] theorem Ctl.post_flushFrom (c : Ctl) (m : Msg) (hold : Bool) : (c.post m hold).flushFrom = c.flushFrom := by cases hold <;> rfl
@[simp] theorem Ctl.post_evq (c : Ctl) (m : Msg) (hold : Bool) : (c.post m hold).evq = c.evq := by cases hold <;> rfl
@[simp] theorem Ctl.post_sbAlert (c : Ctl) (m : Msg) (hold : Bool) : (c.post m hold).sbAlert = c.sbAlert := by cases hold <;> rfl
@[simp] theorem Ctl.post_rate (c : Ctl) (m : Msg) (hold : Bool) : (c.post m hold).rate = c.rate := by cases hold <;> rfl
@[simp] theorem Ctl.post_freeCtr (c : Ctl) (m : Msg) (hold : Bool) : (c.post m hold).freeCtr = c.freeCtr := by cases hold <;> rfl
@[simp] theorem State.send_ctl_mode (s : State) (kind : MK) (dst : Nat) (args data : List Nat) (slot : Option SlotTx) (link : Option Nat) :
    (s.send kind dst args data slot link).ctl.mode = s.ctl.mode := Ctl.post_mode _ _ _
@[simp] theorem State.send_ctl_prev (s : State) (kind : MK) (dst : Nat) (args data : List Nat) (slot : Option SlotTx) (link : Option Nat) :
    (s.send kind dst args data slot link).ctl.prev = s.ctl.prev := Ctl.post_prev _ _ _
@[simp] theorem State.send_ctl_trigger (s : State) (kind : MK) (dst : Nat) (args data : List Nat) (slot : Option SlotTx) (link : Option Nat) :
    (s.send kind dst args data slot link).ctl.trigger = s.ctl.trigger := Ctl.post_trigger _ _ _
@[simp] theorem State.send_ctl_changes (s : State) (kind : MK) (dst : Nat) (args data : List Nat) (slot : Option SlotTx) (link : Option Nat) :
    (s.send kind dst args data slot link).ctl.changes = s.ctl.changes := Ctl.post_changes _ _ _
@[simp] theorem State.send_ctl_becalmedFrom (s : State) (kind : MK) (dst : Nat) (args data : List Nat) (slot : Option SlotTx) (link : Option Nat) :
    (s.send kind dst args data slot link).ctl.becalmedFrom = s.ctl.becalmedFrom := Ctl.post_becalmedFrom _ _ _
@[simp] theorem State.send_ctl_flushFrom (s : State) (kind : MK) (dst : Nat) (args data : List Nat) (slot : Option SlotTx) (link : Option Nat) :
    (s.send kind dst args data slot link).ctl.flushFrom = s.ctl.flushFrom := Ctl.post_flushFrom _ _ _
@[simp] theorem State.send_ctl_evq (s : State) (kind : MK) (dst : Nat) (args data : List Nat) (slot : Option SlotTx) (link : Option Nat) :
    (s.send kind dst args data slot link).ctl.evq = s.ctl.evq := Ctl.post_evq _ _ _
@[simp] theorem State.send_ctl_sbAlert (s : State) (kind : MK) (dst : Nat) (args data : List Nat) (slot : Option SlotTx) (link : Option Nat) :
    (s.send kind dst args data slot link).ctl.sbAlert = s.ctl.sbAlert := Ctl.post_sbAlert _ _ _
@[simp] theorem State.send_ctl_rate (s : State) (kind : MK) (dst : Nat) (args data : List Nat) (slot : Option SlotTx) (link : Option Nat) :
    (s.send kind dst args data slot link).ctl.rate = s.ctl.rate := Ctl.post_rate _ _ _
@[simp] theorem State.send_ctl_freeCtr (s : State) (kind : MK) (dst : Nat) (args data : List Nat) (slot : Option SlotTx) (link : Option Nat) :
    (s.send kind dst args data slot link).ctl.freeCtr = s.ctl.freeCtr := Ctl.post_freeCtr _ _ _
/-! ### Register fields -/

/-- A field reads the value written, cut to its width. -/
@[simp] theorem State.f_setF_same (s : State) (F : R.Fld) (v i k : Nat) : (s.setF F v i k).f F i k = v % 2 ^ F.w := by
  simp [State.f, State.setF]

/-- A field of another key reads as before. -/
theorem State.f_setF_other (s : State) (F G : R.Fld) (v i k i' k' : Nat) (h : G.key i' k' ≠ F.key i k) :
    (s.setF F v i k).f G i' k' = s.f G i' k' := by
  simp only [State.f, State.setF]
  exact Tab.getD_setD_other _ _ _ _ _ _ h

theorem State.f_addF_same (s : State) (F : R.Fld) (n i k : Nat) : (s.addF F n i k).f F i k = satAdd F.w (s.f F i k) n % 2 ^ F.w := by
  simp [State.addF]

theorem State.f_addF_other (s : State) (F G : R.Fld) (n i k i' k' : Nat) (h : G.key i' k' ≠ F.key i k) :
    (s.addF F n i k).f G i' k' = s.f G i' k' := State.f_setF_other _ _ _ _ _ _ _ _ h

theorem State.f_raise_same (s : State) (F : R.Fld) (p1 p2 p3 i : Nat) : (s.raise F p1 p2 p3 i).f F i 0 = 1 % 2 ^ F.w :=
  State.f_setF_same s F 1 i 0

theorem State.f_raise_other (s : State) (F G : R.Fld) (p1 p2 p3 i i' k' : Nat) (h : G.key i' k' ≠ F.key i 0) :
    (s.raise F p1 p2 p3 i).f G i' k' = s.f G i' k' := State.f_setF_other _ _ _ _ _ _ _ _ h

@[simp] theorem State.f_send (s : State) (kind : MK) (dst : Nat) (args data : List Nat) (slot : Option SlotTx) (link : Option Nat) (G : R.Fld)
    (i k : Nat) : (s.send kind dst args data slot link).f G i k = s.f G i k := rfl

/-- A banked index reads the value written in its path's bank. -/
@[simp] theorem State.idxF_setIdx_same (s : State) (p : Path) (F : R.Fld) (v i : Nat) :
    (s.setIdx p F v i).idxF p F i = v % 2 ^ F.w := by
  simp [State.idxF, State.setIdx]

end Sys2Proof.Machine
end

