-- ==== Sys2Proof/Laws/Settle.lean ====
section
/-! SUPPORT. Laws/Settle.lean: what the end of a handshake can do (R459, R461): the waiting occurrences enter the Event Log, the alert
pin follows, and nothing else moves. -/

namespace Sys2Proof.Machine

/-- Entries entering the log change the log only. -/
theorem State.foldl_logEntry (l : List Ev) (s : State) :
    l.foldl State.logEntry s = { s with log := (l.foldl State.logEntry s).log } := by
  induction l generalizing s with
  | nil => rfl
  | cons e r ih => rw [List.foldl_cons, ih]; rfl

/-- The alert pin's update changes the pin, its count, and the messages. -/
theorem State.alertUpdate_eq (s : State) :
    s.alertUpdate = { s with fields := s.alertUpdate.fields, ctl := { s.ctl with sbAlert := s.alertUpdate.ctl.sbAlert, out := s.alertUpdate.ctl.out } } := by
  unfold State.alertUpdate
  simp only
  split
  · split <;> rfl
  · rfl

theorem State.settleWrap_eq (s : State) : s.settleWrap = { s with fields := s.settleWrap.fields } := by
  unfold State.settleWrap
  split <;> rfl

/-- The end of a handshake changes register fields, the log, the alert pin and the messages; nothing else. -/
theorem State.settle_eq (s : State) :
    s.settle = { s with fields := s.settle.fields, log := s.settle.log,
                        ctl := { s.ctl with evq := [], sbAlert := s.settle.ctl.sbAlert, out := s.settle.ctl.out } } := by
  unfold State.settle
  rw [State.alertUpdate_eq, State.foldl_logEntry, State.settleWrap_eq]
  rfl

@[simp] theorem State.settle_evq (s : State) : s.settle.ctl.evq = [] := by rw [State.settle_eq]
@[simp] theorem State.settle_mode (s : State) : s.settle.ctl.mode = s.ctl.mode := by rw [State.settle_eq]
@[simp] theorem State.settle_prev (s : State) : s.settle.ctl.prev = s.ctl.prev := by rw [State.settle_eq]
@[simp] theorem State.settle_trigger (s : State) : s.settle.ctl.trigger = s.ctl.trigger := by rw [State.settle_eq]
@[simp] theorem State.settle_changes (s : State) : s.settle.ctl.changes = s.ctl.changes := by rw [State.settle_eq]
@[simp] theorem State.settle_rate (s : State) : s.settle.ctl.rate = s.ctl.rate := by rw [State.settle_eq]
@[simp] theorem State.settle_freeCtr (s : State) : s.settle.ctl.freeCtr = s.ctl.freeCtr := by rw [State.settle_eq]
@[simp] theorem State.settle_pending (s : State) : s.settle.pending = s.pending := by rw [State.settle_eq]
@[simp] theorem State.settle_idx (s : State) : s.settle.idx = s.idx := by rw [State.settle_eq]
@[simp] theorem State.settle_clk (s : State) : s.settle.clk = s.clk := by rw [State.settle_eq]
@[simp] theorem State.settle_pwr (s : State) : s.settle.pwr = s.pwr := by rw [State.settle_eq]
@[simp] theorem State.settle_boot (s : State) : s.settle.boot = s.boot := by rw [State.settle_eq]
@[simp] theorem State.settle_gov (s : State) : s.settle.gov = s.gov := by rw [State.settle_eq]
@[simp] theorem State.settle_links (s : State) : s.settle.links = s.links := by rw [State.settle_eq]
@[simp] theorem State.settle_conns (s : State) : s.settle.conns = s.conns := by rw [State.settle_eq]
@[simp] theorem State.settle_ctrls (s : State) : s.settle.ctrls = s.ctrls := by rw [State.settle_eq]
@[simp] theorem State.settle_queues (s : State) : s.settle.queues = s.queues := by rw [State.settle_eq]
@[simp] theorem State.settle_cmds (s : State) : s.settle.cmds = s.cmds := by rw [State.settle_eq]
@[simp] theorem State.settle_hop (s : State) : s.settle.hop = s.hop := by rw [State.settle_eq]
@[simp] theorem State.settle_slices (s : State) : s.settle.slices = s.slices := by rw [State.settle_eq]
@[simp] theorem State.settle_shadow (s : State) : s.settle.shadow = s.shadow := by rw [State.settle_eq]
@[simp] theorem State.settle_originStage (s : State) : s.settle.originStage = s.originStage := by rw [State.settle_eq]
@[simp] theorem State.settle_keys (s : State) : s.settle.keys = s.keys := by rw [State.settle_eq]
@[simp] theorem State.settle_per (s : State) : s.settle.per = s.per := by rw [State.settle_eq]
@[simp] theorem State.settle_disk (s : State) : s.settle.disk = s.disk := by rw [State.settle_eq]
@[simp] theorem State.settle_media (s : State) : s.settle.media = s.media := by rw [State.settle_eq]
@[simp] theorem State.settle_flash (s : State) : s.settle.flash = s.flash := by rw [State.settle_eq]
@[simp] theorem State.settle_dram (s : State) : s.settle.dram = s.dram := by rw [State.settle_eq]
@[simp] theorem State.settle_cpus (s : State) : s.settle.cpus = s.cpus := by rw [State.settle_eq]

theorem State.f_alertUpdate (s : State) (F : R.Fld) (i k : Nat) (h : F.key i k ≠ R.GL_SB_STS_ALERTS.key 0 0) :
    s.alertUpdate.f F i k = s.f F i k := by
  unfold State.alertUpdate
  simp only
  split
  · split
    · exact State.f_addF_other s _ F 1 0 0 i k h
    · exact State.f_addF_other s _ F 1 0 0 i k h
  · rfl

/-- A register field reads as before the end of the handshake, but for LOG_WRAP and ALERTS. -/
theorem State.f_settle (s : State) (F : R.Fld) (i k : Nat) (h1 : F.key i k ≠ R.GL_EVT_LOG_WRAP.key 0 0)
    (h2 : F.key i k ≠ R.GL_SB_STS_ALERTS.key 0 0) : s.settle.f F i k = s.f F i k := by
  unfold State.settle
  rw [State.f_alertUpdate _ F i k h2, State.foldl_logEntry]
  show s.settleWrap.f F i k = _
  unfold State.settleWrap
  split
  · exact State.f_setF_other s R.GL_EVT_LOG_WRAP F 1 0 0 i k h1
  · rfl

/-! ### The event summary -/

/-- What one register key adds to GL_EVT_SUM. -/
def sumStep (m : Nat) (e : Nat × Nat) : Nat := if sourceOf (e.1 / 32) < 18 ∧ e.2 ≠ 0 then m ||| (1 <<< sourceOf (e.1 / 32)) else m

theorem State.evtSum_eq (s : State) : s.evtSum = s.fields.foldl sumStep 0 := rfl

theorem foldl_filter_sum (t : Tab Nat) (k : Nat) (h : ¬ sourceOf (k / 32) < 18) (m : Nat) :
    (t.filter fun e => e.1 != k).foldl sumStep m = t.foldl sumStep m := by
  induction t generalizing m with
  | nil => rfl
  | cons e r ih =>
    by_cases hk : e.1 = k
    · have he : sumStep m e = m := by simp [sumStep, hk, h]
      simp [List.filter, hk, he, ih]
    · have hb : (e.1 != k) = true := by simpa using hk
      simp [List.filter, hb, ih]

theorem foldl_place_sum (t : Tab Nat) (k v : Nat) (h : ¬ sourceOf (k / 32) < 18) (m : Nat) :
    (Tab.place t k v).foldl sumStep m = t.foldl sumStep m := by
  have he : ∀ m, sumStep m (k, v) = m := fun m => by simp [sumStep, h]
  induction t generalizing m with
  | nil => simp [Tab.place, he]
  | cons e r ih =>
    obtain ⟨j, w⟩ := e
    unfold Tab.place
    split
    · simp [he]
    · simp [ih]

/-- A write to a register that is no event register leaves the event summary. -/
theorem State.evtSum_setF (s : State) (F : R.Fld) (v i k : Nat) (h : ¬ sourceOf (F.key i k / 32) < 18) :
    (s.setF F v i k).evtSum = s.evtSum := by
  rw [State.evtSum_eq, State.evtSum_eq]
  show (Tab.setD s.fields F.reset (F.key i k) (v % 2 ^ F.w)).foldl sumStep 0 = _
  unfold Tab.setD
  split
  · exact foldl_filter_sum _ _ h 0
  · rw [foldl_place_sum _ _ _ h 0, foldl_filter_sum _ _ h 0]

/-- The alert pin is right after its update. -/
theorem State.alertUpdate_right (s : State) : s.alertUpdate.alertRight := by
  unfold State.alertRight State.alertUpdate
  simp only
  split
  · have h : (s.addF R.GL_SB_STS_ALERTS).evtSum = s.evtSum := State.evtSum_setF s _ _ 0 0 (by decide)
    have hf : (s.addF R.GL_SB_STS_ALERTS).f R.GL_EVT_EN_EN = s.f R.GL_EVT_EN_EN := State.f_addF_other s _ _ 1 0 0 0 0 (by decide)
    split
    · show _ = (((s.addF R.GL_SB_STS_ALERTS).evtSum &&& (s.addF R.GL_SB_STS_ALERTS).f R.GL_EVT_EN_EN) != 0)
      rw [h, hf]
    · show _ = (((s.addF R.GL_SB_STS_ALERTS).evtSum &&& (s.addF R.GL_SB_STS_ALERTS).f R.GL_EVT_EN_EN) != 0)
      rw [h, hf]
  · rfl

/-- After the end of a handshake nothing waits to be logged and the alert pin is right. -/
theorem State.settle_settled (s : State) : s.settle.Settled := by
  refine ⟨s.settle_evq, ?_⟩
  unfold State.settle
  exact State.alertUpdate_right _

/-- A command that ends in `done` answers a settled state. -/
theorem done_settled (s t : State) (h : done s = .next t) : t.Settled := by
  have : s.settle = t := by simpa [done] using h
  exact this ▸ s.settle_settled

end Sys2Proof.Machine
end

