-- ==== Sys2Proof/Machine/Pads.lean ====
section
/-! DEFINITION. Pads.lean: the levels that output pads hold while their domain is Off or in Retain (R464, Table 18-2). -/

namespace Sys2Proof.Machine

/-- The pads of Table 18-2, by lane, DRAM channel or port. -/
inductive Pad where
  | fwp (lane : Nat)
  | fce (lane : Nat)
  | laneOut (lane : Nat)
  | laneData (lane : Nat)
  | dramReset (ch : Nat)
  /-- Chip selects, command and address, clocks of a channel. -/
  | dramCmd (ch : Nat)
  | portTx (port : Nat)
deriving DecidableEq, Repr

/-- What a pad is held at. -/
inductive PadLevel where
  | low
  | high
  | highZ
  /-- As JESD79-5 requires in self-refresh, with CK stopped. -/
  | selfRefresh
  | electricalIdle
  /-- The domain is On: its unit drives the pad. -/
  | driven
deriving DecidableEq, Repr

/-- A pad's level by the state of its domain (R464). -/
def State.pad (s : State) : Pad → PadLevel
  | .fwp l => if s.domain l = 0 then .low else .driven
  | .fce l => if s.domain l = 0 then .high else .driven
  | .laneOut l => if s.domain l = 0 then .low else .driven
  | .laneData l => if s.domain l = 0 then .highZ else .driven
  | .dramReset n => if s.domain (72 + n) = 0 then .low else if s.domain (72 + n) = 2 then .high else .driven
  | .dramCmd n => if s.domain (72 + n) = 0 then .low else if s.domain (72 + n) = 2 then .selfRefresh else .driven
  | .portTx p => if s.domain (76 + p) = 1 then .driven else .electricalIdle

end Sys2Proof.Machine
end

