-- ==== Sys2Proof/WellFormed.lean ====
section
/-! DEFINITION. WellFormed.lean: the operands that the part has: lanes, links, channels, crews, slices and so on in the ranges of the
spec's tables. No meaning assumes it: an operand out of range leaves the state as it is. -/

namespace Sys2Proof

/-- A path: the sideband, or an NVMe controller that is no discovery controller (R455). -/
def Path.ok : Path → Bool
  | .sideband => true
  | .ctrl c => decide (c < 4096)

/-- Where an SPDM message arrives (R429). -/
def SpdmVia.ok : SpdmVia → Bool
  | .mctp => true
  | .ctrl c => decide (c < 4096)

/-- The fields of a submission queue entry fit their widths (R79). -/
def Sqe.ok (q : Sqe) : Bool :=
  decide (q.opc < 256) && decide (q.fctype < 256) && decide (q.cid < 65536) && decide (q.fuse < 4) && decide (q.nsid < 4294967296)

/-- An H2CData PDU (Table 04-6). -/
def H2CPdu.ok (p : H2CPdu) : Bool := decide (p.ttag < 65536) && decide (p.data < 2 ^ (8 * p.datal))

/-- A write to the Hopper window (R117). -/
def HopWrite.ok (w : HopWrite) : Bool := decide (w.rkey < 4294967296) && decide (w.data < 2 ^ (8 * w.len))

/-- A word of an SRAM array (R442, R443). -/
def SramErr.ok (e : SramErr) : Bool :=
  decide (e.array < 7) && decide (e.sub < 2 ^ 20) && decide (e.row < 512) && decide (0 < e.syms) && decide (e.syms ≤ 72)

/-- A received frame (R47, R50). -/
def RxFrame.ok (r : RxFrame) : Bool :=
  decide (r.ip ≤ 65535) && decide (r.tag.getD 0 < 8) && decide (r.dscp < 64) && r.sram.all SramErr.ok

/-- The private data of a CM REQ (R60): 16-bit fields. -/
def CmPrivate.ok (p : CmPrivate) : Bool :=
  decide (p.recfmt < 65536) && decide (p.qid < 65536) && decide (p.hrqsize < 65536) && decide (p.hsqsize < 65536) &&
    decide (p.cntlid < 65536)

/-- What a Fabrics Connect carries: fields of 16 and 32 bits (R134). -/
def ConnectReq.ok (r : ConnectReq) : Bool :=
  decide (r.cntlid < 65536) && decide (r.qid < 65536) && decide (r.sqsize < 65536) && decide (r.katoMs < 4294967296)

/-- The fields of a Register Window request fit their widths (Table 17-2). -/
def WindowReq.ok (r : WindowReq) : Bool := decide (r.op < 256) && decide (r.tag < 256) && decide (r.addr < 16777216) && decide (r.count ≤ 16)

/-- Operands that the part has. -/
def Instr.wf : Instr → Bool
  | .thermalTrip cmp => decide (cmp < 24)
  | .sensorReading temps => decide (temps.length = 24)
  | .comparatorDisagreeTimer triplet => decide (triplet < 8)
  | .envReqWrite env => decide (env < 4)
  | .edgeSentinelFire src => decide (src < 10)
  | .sourceQualified src => decide (src < 10)
  | .freqCheck ppb => decide (ppb.length = 10)
  | .sluiceAdmit slice queue => decide (slice < 4096) && decide (queue < 16384)
  | .sluicePieceCharge cmd => decide (cmd < 589824)
  | .gvProfileCommit path => path.ok
  | .gvProfileLoad path => path.ok
  | .gvModeReqWrite path req => path.ok && decide (req < 4)
  | .gvManUWrite path j _ => path.ok && decide (j < 2)
  | .slCreate path => path.ok
  | .slModify path => path.ok
  | .slReset path => path.ok
  | .resetFenceWaitEnd slice => decide (slice < 4096)
  | .taggedOpsZero slice => decide (slice < 4096)
  | .resetSlowTimer slice => decide (slice < 4096)
  | .slDelete path => path.ok
  | .slLoad path => path.ok
  | .slHoldWrite n _ => decide (n < 128)
  | .originCommit path => path.ok
  | .originInvalidate path => path.ok
  | .ptCfgWrite port _ => decide (port < 2)
  | .linkDisable link => decide (link < 8)
  | .linkRetrain link => decide (link < 8)
  | .linkAddressCommit path port => path.ok && decide (port < 2)
  | .linkSignalDetect link => decide (link < 8)
  | .linkUpTimer link => decide (link < 8)
  | .linkLoss link => decide (link < 8)
  | .arpRequest link ⟨_, rx⟩ => decide (link < 8) && rx.ok
  | .neighborSolicitation link ⟨_, rx⟩ => decide (link < 8) && rx.ok
  | .pfcPauseRx link prio => decide (link < 8) && decide (prio < 8)
  | .tcpSyn _ link ⟨dport, rx⟩ => decide (link < 8) && decide (dport < 65536) && rx.ok
  | .capsuleCmd _ sqe rx => sqe.ok && rx.ok
  | .h2cdata _ pdu rx => pdu.ok && rx.ok
  | .cmReq _ link ⟨port, pd, rx⟩ => decide (link < 8) && decide (port < 65536) && pd.ok && rx.ok
  | .tcpAckRx _ slots ⟨_, _, rx⟩ => slots.all (· < 131072) && rx.ok
  | .tcpRstRx ⟨_, rx⟩ | .tcpFinRx ⟨_, rx⟩ | .h2ctermreq ⟨_, rx⟩ | .tlsKeyUpdate ⟨_, rx⟩ | .tlsClientFinished _ ⟨_, rx⟩ | .cmDreq ⟨_, rx⟩ |
    .cnpRx ⟨_, rx⟩ => rx.ok
  | .icreq _ ⟨req, rx⟩ => decide (req.pfv < 65536) && decide (req.hpda < 256) && rx.ok
  | .tlsClientHello _ ⟨hello, rx⟩ => decide (hello.identity < 2 ^ 1536) && rx.ok
  | .rdmaReadResponse _ _ _ ⟨_, _, rx⟩ => rx.ok
  | .rdmaSendCapsule _ sqe _ rx => sqe.ok && rx.ok
  | .hopperDataWrite _ wr rx => wr.ok && rx.ok
  | .ownerWordWrite _ rkey va _ ⟨_, rx⟩ => decide (rkey < 4294967296) && decide (va < 18446744073709551616) && rx.ok
  | .rdmaAckRx _ ⟨slot, _, rx⟩ => decide (slot < 131072) && rx.ok
  | .queueRelease queue => decide (queue < 2147483648)
  | .keepAliveExpiry cntlid => decide (cntlid < 4160)
  | .mdnsQuery ⟨link, rx⟩ => decide (link < 8) && rx.ok
  | .mdnsAnnounceRepeat link => decide (link < 8)
  | .connectAdmin _ cid ⟨req, rx⟩ => decide (cid < 65536) && req.ok && rx.ok
  | .connectIo _ cid ⟨req, rx⟩ => decide (cid < 65536) && req.ok && rx.ok
  | .disconnect cmd => decide (cmd < 589824)
  | .propertyGet cmd => decide (cmd < 589824)
  | .propertySet cmd => decide (cmd < 589824)
  | .authenticationSend cmd => decide (cmd < 589824)
  | .authenticationReceive cmd => decide (cmd < 589824)
  | .getLogPage cmd => decide (cmd < 589824)
  | .identify cmd => decide (cmd < 589824)
  | .abort cmd => decide (cmd < 589824)
  | .setFeatures cmd => decide (cmd < 589824)
  | .getFeatures cmd => decide (cmd < 589824)
  | .asyncEventRequest cmd => decide (cmd < 589824)
  | .nsCreate cmd => decide (cmd < 589824)
  | .nsDelete cmd => decide (cmd < 589824)
  | .nsAttachment cmd => decide (cmd < 589824)
  | .firmwareImageDownload cmd _ => decide (cmd < 589824)
  | .firmwareCommit cmd _ _ _ => decide (cmd < 589824)
  | .keepAlive cmd => decide (cmd < 589824)
  | .directiveSend cmd => decide (cmd < 589824)
  | .directiveReceive cmd => decide (cmd < 589824)
  | .formatNvm cmd => decide (cmd < 589824)
  | .securitySend cmd => decide (cmd < 589824)
  | .securityReceive cmd => decide (cmd < 589824)
  | .sanitizeBlockErase cmd => decide (cmd < 589824)
  | .sanitizeCryptoErase cmd => decide (cmd < 589824)
  | .sanitizeExitFailure cmd => decide (cmd < 589824)
  | .setRegister cmd => decide (cmd < 589824)
  | .getRegister cmd => decide (cmd < 589824)
  | .getEventLog cmd => decide (cmd < 589824)
  | .flush cmd => decide (cmd < 589824)
  | .write cmd => decide (cmd < 589824)
  | .read cmd sram => decide (cmd < 589824) && sram.all SramErr.ok
  | .writeZeroes cmd => decide (cmd < 589824)
  | .datasetManagement cmd => decide (cmd < 589824)
  | .verify cmd => decide (cmd < 589824)
  | .zoneOpen cmd => decide (cmd < 589824)
  | .zoneClose cmd => decide (cmd < 589824)
  | .zoneFinish cmd => decide (cmd < 589824)
  | .zoneReset cmd => decide (cmd < 589824)
  | .zoneResetEffect cmd => decide (cmd < 589824)
  | .zoneOffline cmd => decide (cmd < 589824)
  | .zoneSetDescExt cmd => decide (cmd < 589824)
  | .reportZones cmd => decide (cmd < 589824)
  | .extendedReportZones cmd => decide (cmd < 589824)
  | .zoneAppend cmd => decide (cmd < 589824)
  | .kpioInjectKey cntlid _ _ _ => decide (cntlid < 4160)
  | .kpioClearKey cntlid _ _ => decide (cntlid < 4160)
  | .tcgLevel0Discovery cntlid => decide (cntlid < 4160)
  | .spdmGetVersion via => via.ok
  | .spdmGetCapabilities via => via.ok
  | .spdmNegotiateAlgorithms via _ _ => via.ok
  | .spdmGetDigests via => via.ok
  | .spdmGetCertificate via slot => via.ok && decide (slot < 8)
  | .spdmChallenge via slot _ => via.ok && decide (slot < 8)
  | .spdmGetMeasurements via _ _ _ => via.ok
  | .spdmChunkSend via _ _ _ => via.ok
  | .spdmChunkGet via _ => via.ok
  | .spdmVendorSlhChain via => via.ok
  | .spdmVendorSlhSignature via => via.ok
  | .slotGrant slice => decide (slice < 4096)
  | .readSlotsTake ⟨slice, sram⟩ => decide (slice < 4096) && sram.all SramErr.ok
  | .readReserveTimer slice => decide (slice < 4096)
  | .stagingAdmit slot => decide (slot < 131072)
  | .aesStaged slot sram => decide (slot < 131072) && sram.all SramErr.ok
  | .slotCleared slot => decide (slot < 131072)
  | .readMergeDone slot => decide (slot < 131072)
  | .slotSent slot poison => decide (slot < 131072) && poison.all fun b => decide (b < 64)
  | .programStart crew seat => decide (crew < 64) && decide (seat < 32)
  | .eraseStart crew seat => decide (crew < 64) && decide (seat < 32)
  | .busGrant lane _ _ _ => decide (lane < 32)
  | .strokeSlotOpen lane => decide (lane < 32)
  | .recipeWaitExpiry lane _ => decide (lane < 32)
  | .pollInterval lane _ _ => decide (lane < 32)
  | .recipeEnd lane _ => decide (lane < 32)
  | .patrolRead shell _ seat page => decide (shell < 524288) && decide (seat < 32) && decide (page < 16)
  | .codewordDecoded lane _ _ => decide (lane < 32)
  | .selftestStart lane => decide (lane < 32)
  | .selftestDone lane _ _ => decide (lane < 32)
  | .easyIntervalEnd lane _ => decide (lane < 32)
  | .divStep lane => decide (lane < 32)
  | .tempReadTimer lane _ => decide (lane < 32)
  | .retrainAgeTimer lane => decide (lane < 32)
  | .retrainRecheckTimer lane => decide (lane < 32)
  | .lnRetrain lane => decide (lane < 32)
  | .retrainTrainingDone lane failed cal => decide (lane < 32) && decide (failed < 256) && decide (cal.length ≤ 128)
  | .laneRecoveryDone lane _ => decide (lane < 32)
  | .busyBudgetWrite crew value => decide (crew < 64) && decide (value < 4)
  | .dramRefresh ch => decide (ch < 4)
  | .dramMr4Poll ch _ => decide (ch < 4)
  | .dramRetrainWindow ch => decide (ch < 4)
  | .dramRetrainWindowEnd ch _ => decide (ch < 4)
  | .dramAgePromote ch => decide (ch < 4)
  | .dramRequestIssue ch _ => decide (ch < 4)
  | .dramReadComplete ch flip => decide (ch < 4) && decide (flip < 2 ^ 1280)
  | .drMark ch dev => decide (ch < 4) && decide (dev < 16)
  | .drClear ch => decide (ch < 4)
  | .remapInstall path ch => path.ok && decide (ch < 4)
  | .remapRemove path ch => path.ok && decide (ch < 4)
  | .trainingRun ch errors => decide (ch < 4) && decide (errors.length ≤ 80)
  | .trainRetryTimer ⟨bad, _⟩ => decide (bad.length ≤ 4)
  | .lockstepMismatch cp => decide (cp < 12)
  | .watchdogExpiry cp => decide (cp < 12)
  | .pskCommit path => path.ok
  | .pskInvalidate path => path.ok
  | .registerWindowRead req => req.ok
  | .registerWindowWrite req => req.ok
  | .i3cEntdaa addr => decide (addr < 128)
  | .i3cSetdasa stat addr => decide (stat < 128) && decide (addr < 128)
  | .regWrite path addr _ _ => path.ok && decide (addr < 16777216)
  | .edgeSentinelClear src => decide (src < 10)
  | .pfcPauseExpiry link prio => decide (link < 8) && decide (prio < 8)
  | .hostRdmaReadOrAtomic _ ⟨va, rx⟩ => decide (va < 18446744073709551616) && rx.ok
  | .dramAlertN ch => decide (ch < 4)
  | .porstNRelease | .porstNAssert | .powerLoss | .flushDone _ | .powerGoodTimer | .holdupOkRise | .holdupArmTimer |
    .holdupOkFall | .tripFlushDone _ | .thermalRestExitTimer | .oldInputRelease | .pllLocked _ | .pllLockTimeout |
    .revertTimer | .ckSwitch | .ckPrioWrite _ _ | .becalmedFlushDone _ | .pacerCalStart | .pacerCalDone _ |
    .csiMeasure _ | .sampleBoundary _ _ | .govPassEnd | .writePauseEnd | .sluiceRefill | .tcpRtoExpiry _ | .tcpGiveupExpiry _ |
    .rdmaAckTimeout _ |
    .ptDiscCtlWrite _ | .fwActivationReset | .spillDwellTimer _ | .spillHoldMaxTimer _ | .logHoldTimer |
    .relocJobStart | .tallySegmentStart | .ledgerClockMinute | .ledgerClockRecord | .parityRebuildDone _ |
    .shForceWrite _ | .scrubStart | .scrubStop | .scrubLine _ | .dramPatrolStep | .lbRawRead | .lbRawWrite |
    .lbDataOnlyWrite | .lbCheckOnlyWrite | .lbPoisonWrite | .lbCorrectedRead | .takeoverDone | .bootRefWaitTimer |
    .bootReferenceReady _ | .bootImageVerified _ _ _ | .bootIdolobAccepted _ _ _ | .secondImageVerify _ |
    .discoveryDone | .featheredIdleTimeout | .featheredRequest | .trialRequest | .trialExitRequest |
    .monitorRestartRequest | .tokenProvision _ | .tokenDeploy _ | .tokenReturn _ | .tokenRevoke _ | .tokenTrial _ |
    .tokenDebugUnlock _ | .tokenFuseSet _ | .norRead | .norProgram | .norErase | .norOpDone _ | .rngHealthFail |
    .rngReseedDone | .alertResponse | .pwrgdInRise | .managerControllerReset |
    .nvmeMiMessage _ _ _ | .jtagInstruction _ => true
  | .rebuildDone bad => bad.all fun b => decide (b.shell < 524288) && decide (b.row < 384) && decide (b.seat < 32)

end Sys2Proof
end

