-- ==== Sys2Proof/Tests/Slice0.lean ====
section
/-! SUPPORT. Tests/Slice0.lean: the model's own tests: ill-formed commands refused, the manual's worked cases, and for every
obligation with hypotheses a witness that meets them, clause by clause. -/

namespace Sys2Proof.Tests
open Sys2Proof Sys2Proof.Machine

set_option Elab.async false

/-! ### Small states -/

/-- The state that an outcome leaves. -/
def after : Host.Outcome State Fault Refusal → State
  | .next t => t
  | _ => State.reset

/-- Reset, in mode m. -/
def inMode (m : Mode) : State := { State.reset with ctl := { mode := m } }

/-- A state with some register fields set: (field, value, instance, index). -/
def setFs (s : State) (l : List (R.Fld × Nat × Nat × Nat)) : State := l.foldl (fun s (F, v, i, k) => s.setF F v i k) s

/-- No device link is Up when none of the eight is. -/
theorem noUp (s : State) (h : ∀ l, l < 8 → s.linkUp l = false) : ∀ l, s.linkUp l = false := by
  intro l
  by_cases hl : l < 8
  · exact h l hl
  · simp [State.linkUp, hl]

/-- A slice's configuration with every value in range. -/
def cfg0 : SliceCfg :=
  { origin := 1, qQuota := 64, ctrlQuota := 8, wsqKib := 1024, rsqMib := 64, mrqKib := 4096, zoneQuota := 100, keyQuota := 10,
    ceilBw := 1000, ceilKiops := 1000, ceilInfl := 1000, cmdDepth := 1000, byteDepth := 1000, subnqn := 5 }

/-- What the Logbook records of the small part: slice 0, a zoned namespace (1) and a conventional one (2), five zones. -/
def per0 : Persist :=
  { slices := [(0, cfg0)], slUsed := [(0, true)], formatted := true,
    ns := [(1, { alive := true, nsid := 1, zoned := true, nsze := 5 * 1048576 }),
           (2, { alive := true, nsid := 2, nsze := 4096 })],
    zones := [(0, { zs := .implOpen, ns := 1, wp := 8 }), (1, { zs := .explOpen, ns := 1, zoneNo := 1 }),
              (2, { zs := .full, ns := 1, zoneNo := 2 }), (3, { zs := .readOnly, ns := 1, zoneNo := 3 }),
              (4, { zs := .empty, ns := 1, zoneNo := 4 })],
    crews := [(0, { format := 3, st := 2, inPool := true, shells := 4000 })] }

/-- A small part in Service: device link 0 Up, slice 0 Active, controller 1 with both namespaces attached, a TCP and an RDMA I/O
connection (0, 1), a TCP and an RDMA connection before Connect (2, 4), and an admin connection (3). -/
def sv : State :=
  { setFs (inMode .service) [(R.CK_SEL_SELECTED, 0, 0, 0), (R.PT_LINK_STS_LSTATE, 2, 0, 0), (R.PT_LINK_STS_LSTATE, 3, 1, 0)] with
    links := [(0, { addr := [0x0A000001] })]
    slices := [(0, { st := 1, hkey := 9, cmdTok := 2 ^ 20, byteTok := 2 ^ 20 })]
    per := per0
    ctrls := [(1, { alive := true, attached := [1, 2], adminConn := 3, katoMs := 1000 })]
    conns := [(0, { alive := true, kind := .io, icDone := true, connected := true, cntlid := 1, qid := 1 }),
              (1, { alive := true, rdma := true, kind := .io, connected := true, cntlid := 1, qid := 2, queue := 1 }),
              (2, { alive := true, icDone := true }),
              (3, { alive := true, kind := .admin, icDone := true, connected := true, cntlid := 1, queue := 65536 }),
              (4, { alive := true, rdma := true })]
    queues := [(0, { valid := true, cntlid := 1, qid := 1, sqsize := 15 }),
               (1, { valid := true, cntlid := 1, qid := 2, sqsize := 15, rdma := true, conn := 1 }),
               (65536, { valid := true, cntlid := 1, conn := 3, sqsize := 15 })]
    keys := [(0, { valid := true, slice := 0, ns := 1, key := 7 }), (1, { valid := true, slice := 0, ns := 2, key := 8 })] }

/-- An admin command of the small part that waits for its step. -/
def admS (s : State) (q : Sqe) : State :=
  { s with cmds := [(196608, { alive := true, queue := 65536, conn := 3, cntlid := 1, sqe := { q with dlen := 4096 },
                               phase := .dispatched })] }

/-- An I/O command of the small part that waits for its step. -/
def ioS (s : State) (q : Sqe) : State :=
  { s with cmds := [(5, { alive := true, cntlid := 1, sqe := { q with sgl := .transport, dlen := 65536 }, phase := .dispatched,
                          units := 1 })] }

/-- The small part with slot 0 of the write pool as given. -/
def slotS (x : Slot) : State := { sv with hop := { slots := [(0, x)] } }

/-- The small part where a connection is changed. -/
def connS (c : Nat) (f : Conn → Conn) : State := { sv with conns := sv.conns.mod c f }

/-- The state after a frame arrived on link 0. -/
def fr (s : State) : State := (s.frame 0).getD s

/-- A frame that a connection hears, on TCP or without a CE mark. -/
theorem heard (s : State) (c : Nat) (rx : RxFrame) (u : State) (h : s.arrive (s.conn c).link rx = some (u, true))
    (g : ((s.conn c).rdma && rx.ce) = false) : s.Heard c rx u := by
  refine ⟨u, h, ?_⟩
  split
  · next h' => simp [h'.1, h'.2.1] at g
  · rfl

/-- The small part with slots in its pools. -/
def poolF : List (R.Fld × Nat × Nat × Nat) :=
  [(R.HP_WCLASS_COUNT, 8, 0, 2), (R.HP_RCLASS_COUNT, 8, 0, 2), (R.HP_POOL_WPOOL_MIB, 60, 0, 0)]

/-- The words of a profile that passes the checks of Table 06-6 for a latency class. -/
def goodProf : Tab Nat := [(112, 2 ^ 24), (114, 1), (130, 8209), (136, 1500), (137, 100)]

/-- The small part with n host connections. -/
def fullS (n : Nat) : State := { sv with conns := (7, {}) :: List.replicate n (8, { alive := true, kind := .io }) }

theorem fullS_io (n : Nat) : (fullS n).ioConns = n := by
  simp [State.ioConns, Tab.count, fullS]

theorem fullS_conns (n : Nat) : (fullS n).hostConns = n := by
  simp [State.hostConns, Tab.count, fullS]

/-- The small part with a relocation that can start: the full shell 9 of zone 2. -/
def sR : State :=
  { setFs sv [(R.MD_RELOC_RELOC_MAX, 8, 0, 0)] with
            per := { per0 with shells := [(9, { st := 3, kind := 1, owner := 2, rows := 3 })]
                               crews := per0.crews ++ [(1, { format := 3, st := 2, inPool := true, shells := 4000 })] },
            media := { relocs := [(1, { alive := true, src := 9 })] } }

/-- A Rebuild with eight Logbook shells free. -/
def sG : State := { (inMode .rebuild) with per := { per0 with ns := [], logShells := List.range' 10 8 } }

/-- An image that passes the checks of a load. -/
def goodImage : Image :=
  { profiles := (List.range 18).flatMap fun n =>
      (([(112, 2 ^ 24), (114, 1), (130, 8209)] : List (Nat × Word)) ++
        (if n < 16 then [(136, 1500), (137, 100)]
         else if n = 16 then [(111, 2 ^ 20), (113, 2 ^ 24), (133, 2 ^ 20), (137, 32)]
         else [])).map fun (w, v) => (n, w, v)
    envelopes := [{}, {}, {}, {}], slices := [(0, { cfg0 with mgmt := true })] }

/-- No die of lane l is held by a lane fault when none runs a recipe. -/
theorem noRun (s : State) (l : Nat) (h : ∀ c, c < 64 → (s.die c l).run = none) :
    ∀ c, c < 64 → ∀ r, (s.die c l).run = some r → r.phase ≠ 4 := by
  intro c hc r hr
  simp [h c hc] at hr

/-- No other die of lane l waits when no other die runs a recipe. -/
theorem oneRun (s : State) (l c : Nat) (P : Nat → Run → Prop) (h : ∀ e, e < 64 → e ≠ c → (s.die e l).run = none) :
    ∀ (e : Nat) (q : Run), e < 64 → e ≠ c → (s.die e l).run = some q → s.gated e l q = true → P e q := by
  intro e q he hne hr
  simp [h e he hne] at hr

/-! ### Ill-formed commands: each check of WellFormed.lean refuses one -/

theorem test_unaryRefused :
    ([(24, [.thermalTrip]), (8, [.comparatorDisagreeTimer, .linkDisable, .linkRetrain, .linkSignalDetect, .linkUpTimer,
    .linkLoss, .mdnsAnnounceRepeat]), (4, [.envReqWrite, .dramRefresh, .dramRetrainWindow, .dramAgePromote, .drClear,
    .dramAlertN]), (10, [.edgeSentinelFire, .sourceQualified, .edgeSentinelClear]), (589824, [.sluicePieceCharge,
    .disconnect, .propertyGet, .propertySet, .authenticationSend, .authenticationReceive, .getLogPage, .identify, .abort,
    .setFeatures, .getFeatures, .asyncEventRequest, .nsCreate, .nsDelete, .nsAttachment, .keepAlive, .directiveSend,
    .directiveReceive, .formatNvm, .securitySend, .securityReceive, .sanitizeBlockErase, .sanitizeCryptoErase,
    .sanitizeExitFailure, .setRegister, .getRegister, .getEventLog, .flush, .write, .writeZeroes, .datasetManagement,
    .verify, .zoneOpen, .zoneClose, .zoneFinish, .zoneReset, .zoneResetEffect, .zoneOffline, .zoneSetDescExt, .reportZones,
    .extendedReportZones, .zoneAppend]), (4096, [.resetFenceWaitEnd, .taggedOpsZero, .resetSlowTimer, .slotGrant,
    .readReserveTimer]), (2147483648, [.queueRelease]), (4160, [.keepAliveExpiry, .tcgLevel0Discovery]), (131072,
    [.stagingAdmit, .slotCleared, .readMergeDone]), (32, [.strokeSlotOpen, .selftestStart, .divStep, .retrainAgeTimer,
    .retrainRecheckTimer, .lnRetrain]), (12, [.lockstepMismatch, .watchdogExpiry]), (128, [.i3cEntdaa])] : List (Nat × List
    (Nat → Instr))).all (fun (v, l) => l.all fun f => !(f v).wf) = true := by decide +kernel

theorem test_pathRefused :
    ([.gvProfileCommit, .gvProfileLoad, .slCreate, .slModify, .slReset, .slDelete, .slLoad, .originCommit, .originInvalidate,
    .pskCommit, .pskInvalidate] : List (Path → Instr)).all (fun f => !(f (.ctrl 4096)).wf) = true := by decide +kernel

theorem test_viaRefused :
    ([.spdmGetVersion, .spdmGetCapabilities, .spdmGetDigests, .spdmVendorSlhChain, .spdmVendorSlhSignature] : List (SpdmVia →
    Instr)).all (fun f => !(f (.ctrl 4096)).wf) = true := by decide +kernel

theorem test_operandsRefused1 :
    ([.sensorReading [], .freqCheck [], .sluiceAdmit 4096 default, .sluiceAdmit default 16384, .gvModeReqWrite (.ctrl 4096)
    default, .gvModeReqWrite default 4, .gvManUWrite (.ctrl 4096) default default, .gvManUWrite default 2 default,
    .slHoldWrite 128 default, .ptCfgWrite 2 default, .linkAddressCommit (.ctrl 4096) default, .linkAddressCommit default 2,
    .arpRequest 8 ⟨default, default⟩, .arpRequest default ⟨default, { tag := some 8 }⟩, .neighborSolicitation 8 ⟨default,
    default⟩, .neighborSolicitation default ⟨default, { tag := some 8 }⟩, .pfcPauseRx 8 default, .pfcPauseRx default 8,
    .tcpSyn default 8 ⟨default, default⟩, .tcpSyn default default ⟨65536, default⟩, .tcpSyn default default ⟨default,
    { tag := some 8 }⟩, .capsuleCmd default { opc := 256 } default, .capsuleCmd default default { tag := some 8 }, .h2cdata
    default { ttag := 65536 } default, .h2cdata default default { tag := some 8 }, .cmReq default 8 ⟨default, default,
    default⟩, .cmReq default default ⟨65536, default, default⟩, .cmReq default default ⟨default, { recfmt := 65536 },
    default⟩, .cmReq default default ⟨default, default, { tag := some 8 }⟩, .tcpAckRx default [131072] ⟨default, default,
    default⟩, .tcpAckRx default default ⟨default, default, { tag := some 8 }⟩, .icreq default ⟨{ pfv := 65536 }, default⟩,
    .icreq default ⟨{ hpda := 256 }, default⟩, .icreq default ⟨default, { tag := some 8 }⟩, .tlsClientHello default
    ⟨{ identity := 2 ^ 1536 }, default⟩, .tlsClientHello default ⟨default, { tag := some 8 }⟩, .rdmaReadResponse default
    default default ⟨default, default, { tag := some 8 }⟩, .rdmaSendCapsule default { opc := 256 } default default,
    .rdmaSendCapsule default default default { tag := some 8 }, .hopperDataWrite default { rkey := 2 ^ 32 } default,
    .hopperDataWrite default default { tag := some 8 }, .ownerWordWrite default 4294967296 default default ⟨default,
    default⟩, .ownerWordWrite default default 18446744073709551616 default ⟨default, default⟩, .ownerWordWrite default
    default default default ⟨default, { tag := some 8 }⟩, .rdmaAckRx default ⟨131072, default, default⟩, .rdmaAckRx default
    ⟨default, default, { tag := some 8 }⟩, .mdnsQuery ⟨8, default⟩, .mdnsQuery ⟨default, { tag := some 8 }⟩, .connectAdmin
    default 65536 ⟨default, default⟩, .connectAdmin default default ⟨{ cntlid := 65536 }, default⟩, .connectAdmin default
    default ⟨default, { tag := some 8 }⟩, .connectIo default 65536 ⟨default, default⟩, .connectIo default default
    ⟨{ cntlid := 65536 }, default⟩, .connectIo default default ⟨default, { tag := some 8 }⟩, .firmwareImageDownload 589824
    default, .firmwareCommit 589824 default default default, .read 589824 default, .read default [{ array := 7 }],
    .kpioInjectKey 4160 default default default, .kpioClearKey 4160 default default, .spdmNegotiateAlgorithms (.ctrl 4096)
    default default, .spdmGetCertificate (.ctrl 4096) default, .spdmGetCertificate default 8, .spdmChallenge (.ctrl 4096)
    default default, .spdmChallenge default 8 default, .spdmGetMeasurements (.ctrl 4096) default default default] : List
    Instr).all (fun i => !i.wf) = true := by decide +kernel

theorem test_operandsRefused2 :
    ([.spdmChunkSend (.ctrl 4096) default default default, .spdmChunkGet (.ctrl 4096) default, .readSlotsTake ⟨4096,
    default⟩, .readSlotsTake ⟨default, [{ array := 7 }]⟩, .aesStaged 131072 default, .aesStaged default [{ array := 7 }],
    .slotSent 131072 default, .slotSent default [64], .programStart 64 default, .programStart default 32, .eraseStart 64
    default, .eraseStart default 32, .busGrant 32 default default default, .recipeWaitExpiry 32 default, .pollInterval 32
    default default, .recipeEnd 32 default, .patrolRead 524288 default default default, .patrolRead default default 32
    default, .patrolRead default default default 16, .codewordDecoded 32 default default, .selftestDone 32 default default,
    .easyIntervalEnd 32 default, .tempReadTimer 32 default, .retrainTrainingDone 32 default default, .retrainTrainingDone
    default 256 default, .retrainTrainingDone default default (List.replicate 129 default), .laneRecoveryDone 32 default,
    .busyBudgetWrite 64 default, .busyBudgetWrite default 4, .dramMr4Poll 4 default, .dramRetrainWindowEnd 4 default,
    .dramRequestIssue 4 default, .dramReadComplete 4 default, .dramReadComplete default (2 ^ 1280), .drMark 4 default,
    .drMark default 16, .remapInstall (.ctrl 4096) default, .remapInstall default 4, .remapRemove (.ctrl 4096) default,
    .remapRemove default 4, .trainingRun 4 default, .trainingRun default (List.replicate 81 default), .trainRetryTimer
    ⟨(List.replicate 5 default), default⟩, .registerWindowRead { op := 256 }, .registerWindowWrite { op := 256 }, .i3cSetdasa
    128 default, .i3cSetdasa default 128, .regWrite (.ctrl 4096) default default default, .regWrite default 16777216 default
    default, .pfcPauseExpiry 8 default, .pfcPauseExpiry default 8, .hostRdmaReadOrAtomic default ⟨18446744073709551616,
    default⟩, .hostRdmaReadOrAtomic default ⟨default, { tag := some 8 }⟩, .rebuildDone [{ shell := 524288 }], .rebuildDone
    [{ row := 384 }], .rebuildDone [{ seat := 32 }], .retrainTrainingDone default default (List.replicate 129 0),
    .trainingRun default (List.replicate 81 0), .trainRetryTimer { bad := [0, 0, 0, 0, 0] }, .tcpRstRx ⟨default,
    { tag := some 8 }⟩, .tcpFinRx ⟨default, { tag := some 8 }⟩, .h2ctermreq ⟨default, { tag := some 8 }⟩, .tlsKeyUpdate
    ⟨default, { tag := some 8 }⟩, .cmDreq ⟨default, { tag := some 8 }⟩, .cnpRx ⟨default, { tag := some 8 }⟩,
    .tlsClientFinished default ⟨default, { tag := some 8 }⟩] : List Instr).all (fun i => !i.wf) = true := by decide +kernel

theorem test_sqeRefused :
    ([{ opc := 256 }, { fctype := 256 }, { cid := 65536 }, { fuse := 4 }, { nsid := 2 ^ 32 }] : List Sqe).all (fun q => !q.ok) = true := by
  decide

theorem test_transferRefused :
    ([{ ttag := 65536 }, { data := 1 }] : List H2CPdu).all (fun p => !p.ok) = true ∧
    ([{ rkey := 2 ^ 32 }, { data := 1 }] : List HopWrite).all (fun p => !p.ok) = true := by
  decide +kernel

theorem test_recordsRefused :
    ([{ array := 7, syms := 1 }, { sub := 2 ^ 20, syms := 1 }, { row := 512, syms := 1 }, { syms := 0 }, { syms := 73 }] :
      List SramErr).all (fun e => !e.ok) = true ∧
    ([{ ip := 65536 }, { tag := some 8 }, { dscp := 64 }, { sram := [{ array := 7 }] }] : List RxFrame).all (fun r => !r.ok) = true ∧
    ([{ recfmt := 65536 }, { qid := 65536 }, { hrqsize := 65536 }, { hsqsize := 65536 }, { cntlid := 65536 }] :
      List CmPrivate).all (fun p => !p.ok) = true ∧
    ([{ cntlid := 65536 }, { qid := 65536 }, { sqsize := 65536 }, { katoMs := 2 ^ 32 }] : List ConnectReq).all (fun r => !r.ok) = true := by
  decide

theorem test_windowRefused :
    ([{ op := 256 }, { tag := 256 }, { addr := 16777216 }, { count := 17 }] : List WindowReq).all (fun r => !r.ok) = true := by
  decide

/-- Every command of the small tests below is well-formed. -/
theorem test_wellFormed : ([.ckSwitch, .divStep 31, .slotGrant 0, .slReset .sideband, .abort 196608] : List Instr).all Instr.wf = true := by
  decide

/-! ### The manual's worked cases -/

/-- Profile 0 of Table 06-8. -/
def prof68 : Tab Nat :=
  [(0, 0x00FFC000), (7, 0x00800000), (36, 0x00004CCD), (38, 0x00800000), (48, 0x01000000), (67, 0x01000000), (72, 0x004CCCCD),
   (79, 0x00800000), (96, 0x00666666), (97, 0x00333333), (108, 0x00051EB8), (110, 0x000CCCCD), (112, 0x01000000),
   (113, 0x01000000), (114, 0x00800000), (117, 0x00400000), (118, 0x01000000), (122, 0x01179ECA), (125, 0x01000000),
   (130, 0x3F464092), (131, 0x10000013), (132, 0x00800000), (133, 0x00400000), (134, 0x00000800), (136, 0x00057E40),
   (137, 0x00004E20), (138, 0x00A00010), (139, 0x2710000A)]

/-- The loop of Table 06-9 at the target: x̂p = (1.0, 0.8333), Z = 1.4, U0 = 0.8333. -/
def loop69 : Loop :=
  { mode := 2, plausible := true, xp := [16777216, 13980654], z0 := 23488102, u0 := 13980654, u1 := 4194304 }

/-- A Q8.24 value in ten-thousandths, rounded. -/
def tenK (q : Int) : Int := (q * 10000 + 8388608) / 16777216

/-- Table 06-8 passes the checks of Table 06-6, and its RA_SLACK is 3,328 ticks. -/
theorem test_profile : profileOk 0 (fun w => prof68.get w) = true ∧ raSlack (fun w => prof68.get w) 4194304 = 3328 := by
  decide +kernel

/-- R283, R289, R291: a read may carry 30h and not ABh; a program needs a STROKE; NEXT lies below NSTATES. -/
theorem test_recipeChecked :
    ([(8, 0x3001, 1), (8, 0xAB01, 1), (15, 0x1001, 1), (15, 0x11001, 1), (8, 0x3001, 2)] : List (Nat × Nat × Nat)).map
      (fun (n, w, b) => opOk 0 { slot := n, tExp := 10, tMax := 20, states := [(w, b), (0x0D, 0)] }) =
    [true, false, false, true, false] := by decide

/-- Table 06-9: m0 600,000 ticks and m3 54,613 give x̂ (1.075, 0.8333), Z 1.395, U0 0.7983 and x̂p (1.0749, 0.8158). -/
theorem test_loopSample :
    let l := (loopStep (fun w => prof68.get w) (fun i => if i = 0 then some 600000 else if i = 3 then some 54613 else none) loop69).loop
    tenK (elt l.x 0) = 10750 ∧ tenK (elt l.x 1) = 8333 ∧ tenK l.z0 = 13950 ∧ tenK l.u0 = 7983 ∧ tenK (elt l.xp 0) = 10749 ∧
      tenK (elt l.xp 1) = 8158 ∧ l.badRun = 0 := by
  decide +kernel

/-- R139 for slice 9 of the tuning example: 0.5 of 4 KiB and 0.4096 of a command for each refill. -/
theorem test_ceilInc : byteCeilInc 3000 = 32768 ∧ cmdCeilInc 600 = 26843 := by decide

/-- The read-around example of 08: the local path of seat 11, and with four units unavailable the global path of 28 seats. -/
theorem test_paths :
    planPath 1 [11] 11 = some (.localP, [8, 9, 10, 12, 13, 14, 15]) ∧
    planPath 1 [2, 9, 11, 27] 11 =
      some (.global, (List.range 32).filter fun x => x != 2 && x != 9 && x != 11 && x != 27) := by
  decide +kernel

/-- The field of R221 and R335: α^8 is 0x1D, and α^10 ⊕ α^8 is 0x69. -/
theorem test_field : alpha 8 = 0x1D ∧ alpha 10 ^^^ alpha 8 = 0x69 := by decide

/-- Table 11-6: unit 61 after 1,800 erases, 200,000 minutes, at 60 °C reads with cell 1,138: FIRST 212, COUNT 6. -/
theorem test_retryCell :
    State.cellOf
      { State.reset with
        boot := { image := { curves := [{ peEdges := [500, 1000, 1500, 2000, 3000, 4000, 6000]
                                          ageEdges := [1440, 10080, 43200, 129600, 259200, 525600, 1051200]
                                          tempEdges := [400, 800, 1120]
                                          cells := List.replicate 1138 (0, 0) ++ [(212, 5)] }] } }
        per := { clock := 200000, shells := [(57344, { st := 3, erases := 1800 })] }
        flash := { dies := [(20 * 64 + 7, { temp := 960, tempSample := some 0 })] } }
      { crew := 7, seat := 20, shell := 57344, unit := 61 } = (212, 6) := by
  decide +kernel

/-- Zone offset 2,000 of a Sprint row of 1,664 blocks (07): row 1, data seat 5, block 16 of that seat. -/
theorem test_unitPlace : rowUnits 1 false = 1664 ∧ 2000 / 1664 = 1 ∧ (unitPlace 1 false (2000 % 1664)).2 = 16 ∧
    (unitPlace 1 false 336).1 = (unitPlace 1 false 320).1 := by
  decide +kernel

/-- Table 04-8: slot 5's DataVA and OwnerVA (R117). -/
theorem test_windowAddresses :
    dataVa + 0x40000 * 5 = 0x0001000000140000 ∧ ownerVa + 16 * 5 = 0x0002000000000050 := by
  decide

/-- A lane leaving Feathered ramps from 128 one step at a time (R302). -/
theorem test_divStep :
    (after (exec (.divStep 31) (setFs sv [(R.LN_STS_LSTATE, 2, 31, 0), (R.LN_STS_DIV_CUR, 128, 31, 0), (R.LN_CFG_DIV_TARGET, 16, 31, 0)]))).f
      R.LN_STS_DIV_CUR 31 = 127 := by
  decide +kernel

/-- A line with one symbol in error decodes to its data (R336), and the poison signature is found (R342). -/
theorem test_line :
    (decodeLine none (encodeLine 0x123456789 false ^^^ (0xA5 <<< 8))).data = 0x123456789 ∧
    (decodeLine none (encodeLine 0x123456789 false ^^^ (0xA5 <<< 8))).uncorr = false ∧
    (decodeLine none (encodeLine 0x123456789 true)).poison = true := by
  decide +kernel

/-- CRC32C of the digits 1 to 9: the check value published with the polynomial. -/
theorem test_crc : crc32c [49, 50, 51, 52, 53, 54, 55, 56, 57] = 0xE3069283 := by decide +kernel

/-- A write at the write pointer takes the zone on; one elsewhere answers Zone Invalid Write (Table 07-5). -/
theorem test_writePointer :
    ((after (exec (.write 5) (ioS sv { opc := 1, nsid := 1, cdw10 := 8, cdw12 := 15 }))).zone 0).wp = 24 ∧
    (after (exec (.write 5) (ioS sv { opc := 1, nsid := 1, cdw10 := 9, cdw12 := 15 }))).ctl.out.map (fun m => (m.kind, m.args)) =
      [(.completion, [0, 1, 0x1BC, 1, 0, 0])] := by
  decide +kernel

/-- No word of the table spells a command: the table gives its rows no bits. -/
theorem test_noWord : decodeTableWord 16 0 = none ∧ State.reset.withFetchWord 16 0 = State.reset := by decide +kernel

/-! ### Witnesses: for each obligation with hypotheses, states and operands that meet them, clause by clause -/

theorem witness_StepKeepsSettled :
    (∃ (s t : State), s.Settled ∧ step s = .next t) :=
  ⟨State.reset, after (step State.reset), ⟨rfl, rfl⟩, rfl⟩

theorem witness_StepRunsFrontCommand :
    (∃ (s : State) (c : Instr) (r : List Instr), s.pending = c :: r) :=
  ⟨{ sv with pending := [.ckSwitch] }, .ckSwitch, [], by decide +kernel⟩

theorem witness_IdleStepTicks :
    (∃ (s : State), s.pending = [] ∧ s.mode ≠ .off ∧ s.clk.held = false ∧ s.on R.CK_SEL_TB_PACER = false ∧ s.f
    R.CK_SEL_SELECTED ≠ 15 ∧ s.clk.stepHold = 0) ∧
    (∃ (s : State), s.pending = [] ∧ s.mode ≠ .off ∧ s.clk.held = false ∧ s.on R.CK_SEL_TB_PACER = false ∧ s.f
    R.CK_SEL_SELECTED ≠ 15 ∧ 0 < s.clk.stepHold) ∧
    (∃ (s : State), s.pending = [] ∧ s.mode ≠ .off ∧ s.clk.held = false ∧ s.f R.CK_SEL_SELECTED = 15 ∧ s.on
    R.CK_PACER_CALIBRATED = false) :=
  ⟨⟨(setFs (inMode .service) [(R.CK_SEL_SELECTED, 0, 0, 0)]), by decide +kernel⟩,
   ⟨{ (setFs (inMode .service) [(R.CK_SEL_SELECTED, 0, 0, 0)]) with clk := { stepHold := 3 } }, by decide +kernel⟩,
   ⟨(inMode .service), by decide +kernel⟩⟩

theorem witness_EventsEnterLog :
    (∃ (s : State) (F : R.Fld), s.allLogged ∧ s.log.seq < 4096 ∧ F.lo < 32) ∧
    (∃ (s : State) (F : R.Fld) (i : Nat), s.allLogged ∧ 4096 ≤ s.log.seq ∧ s.on R.GL_EVT_LOG_WRAP = true ∧ F.key i 0 ≠
    R.GL_EVT_LOG_WRAP.key 0 0 ∧ F.lo < 32) ∧
    (∃ (s : State) (F G : R.Fld) (i : Nat), s.allLogged ∧ s.log.seq < 4095 ∧ F.lo < 32 ∧ G.lo < 32 ∧ sourceOf (G.reg.at i 0)
    * 256 + G.lo < sourceOf (F.reg.at i 0) * 256 + F.lo) :=
  ⟨⟨sv, R.CK_EVT_SWITCHED, rfl, by decide +kernel, by decide +kernel⟩,
   ⟨{ (setFs sv [(R.GL_EVT_LOG_WRAP, 1, 0, 0)]) with log := { seq := 4096 } }, R.CK_EVT_SWITCHED, 0, rfl, by decide +kernel,
   by decide +kernel, by decide +kernel, by decide +kernel⟩,
   ⟨sv, R.PW_EVT_ARMED, R.CK_EVT_SWITCHED, 0, rfl, by decide +kernel, by decide +kernel, by decide +kernel, by
   decide +kernel⟩⟩

theorem witness_PowerLossAndReturn :
    (∃ (s : State), s.mode = .off ∧ s.life ≠ 4 ∧ s.life ≠ 5) ∧
    (∃ (s : State), s.mode = .bootstrap ∧ s.life ≠ 4 ∧ s.life ≠ 5) ∧
    (∃ (s : State), s.mode ∈ [Mode.bootstrap, .discovery, .trial, .sealed] ∧ (∀ l, s.linkUp l = false)) ∧
    (∃ (s : State), s.mode ∈ [Mode.bootstrap, .discovery, .trial, .sealed]) ∧
    (∃ (s : State), s.mode ∈ flushModes) ∧
    (∃ (s : State), s.mode = .holdupFlush ∧ s.pwr.flushEnded = false ∧ s.pwr.supplyLost = false) ∧
    (∃ (s : State), s.mode = .holdupFlush ∧ s.pwr.flushEnded = false ∧ s.pwr.supplyLost = true) ∧
    (∃ (s : State), s.mode = .holdupFlush ∧ s.pwr.flushEnded = false) ∧
    (∃ (s : State), s.mode = .holdupFlush ∧ s.pwr.flushEnded = true ∧ s.on R.TH_TRIP_LATCH = true) ∧
    (∃ (s : State), s.mode = .holdupFlush ∧ s.pwr.flushEnded = true ∧ s.on R.TH_TRIP_LATCH = false ∧ s.life ≠ 4 ∧ s.life ≠ 5
    ∧ (∀ l, s.linkUp l = false)) :=
  ⟨⟨(inMode .off), by decide +kernel⟩,
   ⟨(inMode .bootstrap), by decide +kernel⟩,
   ⟨(inMode .trial), by decide +kernel, noUp _ (by decide +kernel)⟩,
   ⟨(inMode .sealed), by decide +kernel⟩,
   ⟨sv, by decide +kernel⟩,
   ⟨(inMode .holdupFlush), by decide +kernel⟩,
   ⟨{ (inMode .holdupFlush) with pwr := { supplyLost := true } }, by decide +kernel⟩,
   ⟨{ (inMode .holdupFlush) with pwr := { supplyLost := true } }, by decide +kernel⟩,
   ⟨{ (setFs (inMode .holdupFlush) [(R.TH_TRIP_LATCH, 1, 0, 0)]) with pwr := { flushEnded := true } }, by decide +kernel⟩,
   ⟨{ (inMode .holdupFlush) with pwr := { flushEnded := true } }, by decide +kernel, by decide +kernel, by decide +kernel, by
   decide +kernel, by decide +kernel, noUp _ (by decide +kernel)⟩⟩

theorem witness_HoldupArming :
    (∃ (s : State), s.mode ≠ .off) ∧
    (∃ (s : State), s.mode ≠ .off ∧ s.holdupEn = true ∧ s.on R.PW_STS_HOLDUP_OK = true ∧ s.on R.PW_STS_ARMED = false ∧
    s.reserve.on R.PW_STS_RESERVED_OK = true) ∧
    (∃ (s : State), s.mode ≠ .off ∧ s.holdupEn = true ∧ s.on R.PW_STS_HOLDUP_OK = true ∧ s.on R.PW_STS_ARMED = false ∧
    s.reserve.on R.PW_STS_RESERVED_OK = false) ∧
    (∃ (s : State), s.mode ≠ .off ∧ s.on R.PW_STS_ARMED = false) ∧
    (∃ (s : State), s.mode ≠ .off ∧ s.on R.PW_STS_ARMED = true) :=
  ⟨⟨sv, by decide +kernel⟩,
   ⟨{ (setFs sv [(R.PW_HU_CFG_HU_EN, 1, 0, 0), (R.PW_STS_HOLDUP_OK, 1, 0, 0), (R.HP_POOL_WPOOL_MIB, 63, 0, 0)]) with per := { per0 with logShells := [1], shells := [(2, { st := 2, slc := true, kind := 3 })] } },
   by decide +kernel⟩,
   ⟨(setFs sv [(R.PW_HU_CFG_HU_EN, 1, 0, 0), (R.PW_STS_HOLDUP_OK, 1, 0, 0)]), by decide +kernel⟩,
   ⟨sv, by decide +kernel⟩,
   ⟨(setFs sv [(R.PW_STS_ARMED, 1, 0, 0)]), by decide +kernel⟩⟩

theorem witness_ThermalTripAndRest :
    (∃ (c : Nat) (s : State), s.mode ∈ [Mode.bootstrap, .discovery, .rebuild, .trial, .sealed] ∧ c < 24 ∧ voted (setBit
    s.pwr.cmp c true) (c / 3) = true ∧ s.on R.TH_TRIP_LATCH = false) ∧
    (∃ (c : Nat) (s : State), s.mode = .holdupFlush ∧ c < 24 ∧ voted (setBit s.pwr.cmp c true) (c / 3) = true ∧ s.on
    R.TH_TRIP_LATCH = false) ∧
    (∃ (c : Nat) (s : State), s.mode ≠ .off ∧ c < 24 ∧ voted (setBit s.pwr.cmp c true) (c / 3) = false) ∧
    (∃ (s : State), s.mode = .thermalRest ∧ s.pwr.flushEnded = false ∧ s.pwr.supplyLost = false ∧ s.pwr.porst = false) ∧
    (∃ (s : State), s.mode = .thermalRest ∧ s.pwr.flushEnded = false ∧ s.pwr.supplyLost = true) ∧
    (∃ (s : State), s.mode = .thermalRest ∧ s.pwr.flushEnded = true ∧ s.coolNow = true ∧ s.pwr.cmp = 0 ∧ s.on R.PW_STS_PWRGD
    = true ∧ s.life ≠ 4 ∧ s.life ≠ 5 ∧ (∀ l, s.linkUp l = false)) ∧
    (∃ (s : State), s.mode = .thermalRest ∧ s.pwr.flushEnded = true ∧ s.coolNow = true ∧ s.pwr.cmp = 0 ∧ s.on R.PW_STS_PWRGD
    = false) ∧
    (∃ (s : State), s.mode ≠ .off ∧ ¬ (s.mode = .thermalRest ∧ s.pwr.restMet = true)) ∧
    (∃ (s : State), s.mode = .thermalRest ∧ s.pwr.restMet = true ∧ s.life ≠ 4 ∧ s.life ≠ 5 ∧ (∀ l, s.linkUp l = false)) :=
  ⟨⟨1, { (inMode .discovery) with pwr := { cmp := 1 } }, by decide +kernel⟩,
   ⟨1, { (inMode .holdupFlush) with pwr := { cmp := 1 } }, by decide +kernel⟩,
   ⟨23, sv, by decide +kernel⟩,
   ⟨(inMode .thermalRest), by decide +kernel⟩,
   ⟨{ (inMode .thermalRest) with pwr := { supplyLost := true } }, by decide +kernel⟩,
   ⟨{ (setFs (inMode .thermalRest) [(R.PW_STS_PWRGD, 1, 0, 0)]) with pwr := { flushEnded := true } }, by decide +kernel, by
   decide +kernel, by decide +kernel, by decide +kernel, by decide +kernel, by decide +kernel, by decide +kernel, noUp _ (by
   decide +kernel)⟩,
   ⟨{ (inMode .thermalRest) with pwr := { flushEnded := true } }, by decide +kernel⟩,
   ⟨sv, by decide +kernel⟩,
   ⟨{ (inMode .thermalRest) with pwr := { restMet := true } }, by decide +kernel, by decide +kernel, by decide +kernel, by
   decide +kernel, noUp _ (by decide +kernel)⟩⟩

theorem witness_EnvelopeAndSensors :
    (∃ (e : Nat) (s : State), s.mode ≠ .off ∧ (s.envelope (s.f R.PW_ENV_ENV_ACTIVE)).vcoreMv < (s.envelope (e % 4)).vcoreMv) ∧
    (∃ (e : Nat) (s : State), s.mode ≠ .off ∧ (s.envelope (e % 4)).vcoreMv ≤ (s.envelope (s.f R.PW_ENV_ENV_ACTIVE)).vcoreMv) ∧
    (∃ (s : State), s.mode ≠ .off ∧ s.mode ≠ .bootstrap) ∧
    (∃ (s : State), s.mode = .bootstrap) ∧
    (∃ (n : Nat) (s : State), s.mode ≠ .off ∧ n < 8) :=
  ⟨⟨1, { (inMode .service) with pwr := { env := [{ vcoreMv := 700 }, { vcoreMv := 800 }] } }, by decide +kernel⟩,
   ⟨0, { (inMode .service) with pwr := { env := [{ vcoreMv := 700 }, { vcoreMv := 800 }] } }, by decide +kernel⟩,
   ⟨(inMode .thermalRest), by decide +kernel⟩,
   ⟨{ (inMode .bootstrap) with pwr := { readings := 31 } }, by decide +kernel⟩,
   ⟨7, sv, by decide +kernel⟩⟩

theorem witness_SourcesAndSentinels :
    (∃ (n : Nat) (s : State), s.mode ≠ .off ∧ n < 10) ∧
    (∃ (n : Nat) (s : State), s.mode ≠ .off ∧ n < 10 ∧ s.f R.CK_SEL_SELECTED ≠ n ∧ s.f R.CK_SEL_SELECTED ≠ 15) ∧
    (∃ (n : Nat) (s : State), s.mode ≠ .off ∧ n < 10 ∧ bit (s.f R.CK_LIVE_FIRED) n = false) ∧
    (∃ (s : State), s.mode ≠ .off ∧ s.f R.CK_SEL_SELECTED ≠ 15) ∧
    (∃ (w : Switch) (s : State), s.mode ≠ .off ∧ s.clk.sw = some w) ∧
    (∃ (s : State), s.mode ≠ .off) ∧
    (∃ (n : Nat) (s : State), s.mode ≠ .off ∧ n < 10) :=
  ⟨⟨9, sv, by decide +kernel⟩,
   ⟨1, (setFs (inMode .service) [(R.CK_SEL_SELECTED, 0, 0, 0)]), by decide +kernel⟩,
   ⟨3, (setFs (inMode .service) [(R.CK_SEL_SELECTED, 0, 0, 0)]), by decide +kernel⟩,
   ⟨(setFs (inMode .service) [(R.CK_SEL_SELECTED, 0, 0, 0)]), by decide +kernel⟩,
   ⟨{ kind := .planned },
   { (setFs (inMode .service) [(R.CK_SEL_SELECTED, 0, 0, 0)]) with clk := { sw := some { kind := .planned } } }, by
   decide +kernel⟩,
   ⟨(setFs (inMode .service) [(R.CK_SEL_SELECTED, 0, 0, 0)]), by decide +kernel⟩,
   ⟨9, (setFs (inMode .service) [(R.CK_SEL_SELECTED, 0, 0, 0)]), by decide +kernel⟩⟩

theorem witness_ReferenceSwitch :
    (∃ (b : Nat) (s : State), s.mode ≠ .off ∧ s.f R.CK_SEL_SELECTED ≠ 15 ∧ s.clk.sw = none ∧ s.bestSource (fun _ => true) =
    some b ∧ b ≠ s.f R.CK_SEL_SELECTED) ∧
    (∃ (b : Nat) (s : State), s.mode ≠ .off ∧ s.on R.CK_CFG_REVERT = true ∧ s.f R.CK_SEL_SELECTED ≠ 15 ∧ s.clk.sw = none ∧
    s.bestSource (fun _ => true) = some b ∧ s.prio b < s.prio (s.f R.CK_SEL_SELECTED)) ∧
    (∃ (w : Switch) (s : State), s.mode ≠ .off ∧ s.clk.sw = some w) ∧
    (∃ (w : Switch) (s : State), s.mode ≠ .off ∧ s.clk.sw = some w ∧ w.released = true ∧ (w.kind = .planned ∨ w.kind =
    .unplanned)) :=
  ⟨⟨0,
   { (setFs (inMode .service) [(R.CK_SEL_SELECTED, 1, 0, 0), (R.CK_PRIO0_PRIO_0, 0, 0, 0), (R.CK_PRIO0_PRIO_1, 3, 0, 0), (R.CK_CFG_REVERT, 1, 0, 0)]) with clk := { qual := 3, freqOk := 3 } },
   by decide +kernel⟩,
   ⟨0,
   { (setFs (inMode .service) [(R.CK_SEL_SELECTED, 1, 0, 0), (R.CK_PRIO0_PRIO_0, 0, 0, 0), (R.CK_PRIO0_PRIO_1, 3, 0, 0), (R.CK_CFG_REVERT, 1, 0, 0)]) with clk := { qual := 3, freqOk := 3 } },
   by decide +kernel⟩,
   ⟨{ kind := .planned },
   { (setFs (inMode .service) [(R.CK_SEL_SELECTED, 0, 0, 0)]) with clk := { sw := some { kind := .planned } } }, by
   decide +kernel⟩,
   ⟨{ kind := .planned, released := true },
   { (setFs (inMode .service) [(R.CK_SEL_SELECTED, 0, 0, 0)]) with clk := { sw := some { kind := .planned, released := true } } },
   by decide +kernel⟩⟩

theorem witness_PacerCalibration :
    (∃ (s : State), s.mode ≠ .off ∧ s.f R.CK_SEL_SELECTED ≠ 15 ∧ s.clk.calActive = false) ∧
    (∃ (n : Nat) (s : State), s.mode ≠ .off ∧ s.clk.calActive = true ∧ 0 < n ∧ s.clk.resuming = false ∧ s.f R.CK_SEL_SELECTED
    ≠ 15) ∧
    (∃ (s : State), s.mode ≠ .off ∧ s.f R.CK_SEL_SELECTED ≠ 15) ∧
    (∃ (s : State), s.mode = .becalmed ∧ s.clk.becDone = false) :=
  ⟨⟨(setFs (inMode .service) [(R.CK_SEL_SELECTED, 0, 0, 0)]), by decide +kernel⟩,
   ⟨40, { (setFs (inMode .service) [(R.CK_SEL_SELECTED, 0, 0, 0)]) with clk := { calActive := true } }, by decide +kernel⟩,
   ⟨(setFs (inMode .service) [(R.CK_SEL_SELECTED, 0, 0, 0)]), by decide +kernel⟩,
   ⟨(inMode .becalmed), by decide +kernel⟩⟩

theorem witness_GovernorPass :
    (∃ (s : State), s.modeIn passModes = true ∧ s.gov.pass = none) ∧
    (∃ (s : State), s.modeIn passModes = true ∧ s.gov.pass.isSome = true) ∧
    (∃ (p : PassOut) (s : State), s.modeIn passModes = true ∧ s.gov.pass = some p) ∧
    (∃ (s : State), s.gov.pause = true) :=
  ⟨⟨sv, by decide +kernel⟩,
   ⟨{ sv with gov := { pass := some {} } }, by decide +kernel⟩,
   ⟨{ start := 0 }, { sv with gov := { pass := some {} } }, by decide +kernel⟩,
   ⟨{ sv with gov := { pause := true } }, by decide +kernel⟩⟩

theorem witness_GovernorCommands :
    (∃ (p : Path) (s : State), s.mode ≠ .off ∧ s.pidx p < 18 ∧ profileOk (s.pidx p) (fun w => s.gov.shadow.get (s.pidx p *
    256 + w)) = false) ∧
    (∃ (p : Path) (s : State), s.mode ≠ .off ∧ s.pidx p < 18 ∧ profileOk (s.pidx p) (fun w => s.gov.shadow.get (s.pidx p *
    256 + w)) = true) ∧
    (∃ (p : Path) (s : State), s.mode ≠ .off ∧ s.pidx p < 18) ∧
    (∃ (p : Path) (q : Nat) (s : State), s.mode ≠ .off ∧ s.idxF p R.GV_LIDX_LOOP < 4098 ∧ ¬ (q % 4 = 3 ∧ 4096 ≤ s.idxF p
    R.GV_LIDX_LOOP)) ∧
    (∃ (p : Path) (s : State), s.mode ≠ .off ∧ 4096 ≤ s.idxF p R.GV_LIDX_LOOP ∧ s.idxF p R.GV_LIDX_LOOP < 4098) ∧
    (∃ (p : Path) (v : Word) (s : State), s.mode ≠ .off ∧ s.idxF p R.GV_LIDX_LOOP < 4098 ∧ v.toNat ≤ 2 ^ 24) :=
  ⟨⟨.sideband, sv, by decide +kernel⟩,
   ⟨.sideband, { sv with gov := { shadow := goodProf } }, by decide +kernel⟩,
   ⟨.sideband, sv, by decide +kernel⟩,
   ⟨.sideband, 2, sv, by decide +kernel⟩,
   ⟨.sideband, { sv with idx := [(R.GV_LIDX_LOOP.key 0 0, 4096)] }, by decide +kernel⟩,
   ⟨.sideband, 2 ^ 24, sv, by decide +kernel⟩⟩

theorem witness_SluiceRefillsAndAdmits :
    (∃ (s : State), s.mode ≠ .off) ∧
    (∃ (n q c : Nat) (r : List Nat) (s : State), (s.queue q).waiting = c :: r ∧ (s.queue q).slice = n ∧ nextRound (s.queuesOf
    n) (s.sl n).rr s.eligible = some q) ∧
    (∃ (c : Nat) (s : State), (s.cmd c).alive = true ∧ (s.cmd c).phase = .running ∧ (s.cmd c).sqe.opc = 0x0C ∧ 0 < (s.cmd
    c).unitsLeft ∧ 0 < (s.sl (s.cmd c).slice).byteTok) :=
  ⟨⟨sv, by decide +kernel⟩,
   ⟨0, 0, 5, [],
   { (ioS sv { opc := 2, nsid := 1 }) with queues := [(0, { valid := true, cntlid := 1, qid := 1, sqsize := 15, waiting := [5] })], cmds := [(5, { alive := true, cntlid := 1, sqe := { opc := 2, nsid := 1, sgl := .transport, dlen := 65536 } })] },
   by decide +kernel⟩,
   ⟨5,
   { sv with cmds := [(5, { alive := true, cntlid := 1, sqe := { opc := 0x0C, nsid := 1 }, phase := .running, unitsLeft := 700, ns := 1, nlb := 1000 })] },
   by decide +kernel⟩⟩

theorem witness_SliceCreateModifyLoad :
    (∃ (p : Path) (s : State), s.slicesUp = true ∧ (s.sl (s.tidx p)).st = 0 ∧ s.cfgRange (s.shadow.get (s.tidx p)) = true ∧
    s.originFree (s.tidx p) (s.shadow.get (s.tidx p)).origin = true ∧ s.poolsOk (s.tidx p) (s.shadow.get (s.tidx p)) = true) ∧
    (∃ (p : Path) (s : State), s.slicesUp = true ∧ (s.sl (s.tidx p)).st = 0 ∧ s.cfgRange (s.shadow.get (s.tidx p)) = false) ∧
    (∃ (p : Path) (s : State), s.slicesUp = true ∧ (s.sl (s.tidx p)).st = 1 ∧ s.cfgRange (s.shadow.get (s.tidx p)) = true ∧
    s.originFree (s.tidx p) (s.shadow.get (s.tidx p)).origin = true ∧ (s.shadow.get (s.tidx p)).origin = (s.cfg (s.tidx
    p)).origin ∧ (s.shadow.get (s.tidx p)).subnqn = (s.cfg (s.tidx p)).subnqn ∧ s.poolsOk (s.tidx p) (s.shadow.get (s.tidx
    p)) = true ∧ (((s.cfg (s.tidx p)).mgmt = false ∧ (s.nextCfg (s.tidx p)).mgmt = false) ∨ (s.shadow.get (s.tidx p)).mgmt =
    true ∨ s.otherMgmt (s.tidx p) = true)) ∧
    (∃ (s : State), s.slicesUp = true) :=
  ⟨⟨.sideband, { sv with slices := [], shadow := [(0, cfg0)] }, by decide +kernel⟩,
   ⟨.sideband, { sv with slices := [] }, by decide +kernel⟩,
   ⟨.sideband, { sv with shadow := [(0, { cfg0 with zoneQuota := 7 })] }, by decide +kernel⟩,
   ⟨sv, by decide +kernel⟩⟩

theorem witness_LastManagerSlice :
    (∃ (p : Path) (s : State), s.slicesUp = true ∧ (s.sl (s.tidx p)).st = 1 ∧ ((s.cfg (s.tidx p)).mgmt = true ∨ (s.nextCfg
    (s.tidx p)).mgmt = true) ∧ s.otherMgmt (s.tidx p) = false ∧ s.per.ns.any (fun (_, x) => x.alive && x.owner == s.tidx p) =
    false) ∧
    (∃ (p : Path) (s : State), s.slicesUp = true ∧ (s.sl (s.tidx p)).st = 1 ∧ ((s.cfg (s.tidx p)).mgmt = true ∨ (s.nextCfg
    (s.tidx p)).mgmt = true) ∧ s.otherMgmt (s.tidx p) = false ∧ s.cfgRange (s.shadow.get (s.tidx p)) = true ∧ s.originFree
    (s.tidx p) (s.shadow.get (s.tidx p)).origin = true ∧ s.ctrlUsed (s.tidx p) = 0 ∧ s.poolsOk (s.tidx p) (s.shadow.get
    (s.tidx p)) = true ∧ (s.shadow.get (s.tidx p)).mgmt = false) ∧
    (∃ (p : Path) (s : State), s.slicesUp = true ∧ (s.sl (s.tidx p)).st = 1 ∧ ((s.cfg (s.tidx p)).mgmt = true ∨ (s.nextCfg
    (s.tidx p)).mgmt = true) ∧ s.otherMgmt (s.tidx p) = false ∧ p ≠ .sideband) ∧
    (∃ (p : Path) (s : State), s.slicesUp = true ∧ (s.sl (s.tidx p)).st = 1 ∧ ((s.cfg (s.tidx p)).mgmt = true ∨ (s.nextCfg
    (s.tidx p)).mgmt = true) ∧ s.otherMgmt (s.tidx p) = false ∧ p = .sideband) :=
  ⟨⟨.sideband,
   { sv with per := { per0 with slices := [(0, { cfg0 with mgmt := true })], ns := [] }, shadow := [(0, { cfg0 with subnqn := 6 })], ctrls := [] },
   by decide +kernel⟩,
   ⟨.sideband,
   { sv with per := { per0 with slices := [(0, { cfg0 with mgmt := true })], ns := [] }, shadow := [(0, { cfg0 with subnqn := 6 })], ctrls := [] },
   by decide +kernel⟩,
   ⟨.ctrl 1,
   { sv with per := { per0 with slices := [(0, { cfg0 with mgmt := true })], ns := [] }, shadow := [(0, { cfg0 with subnqn := 6 })], ctrls := [] },
   by decide +kernel⟩,
   ⟨.sideband,
   { sv with per := { per0 with slices := [(0, { cfg0 with mgmt := true })], ns := [] }, shadow := [(0, { cfg0 with subnqn := 6 })], ctrls := [] },
   by decide +kernel⟩⟩

theorem witness_SliceResetAndDelete :
    (∃ (p : Path) (s : State), s.slicesUp = true ∧ (s.sl (s.tidx p)).st = 1 ∧ (s.cfg (s.tidx p)).mgmt = false ∧ (s.nextCfg
    (s.tidx p)).mgmt = false ∧ s.fenced (s.tidx p) ≠ []) ∧
    (∃ (p : Path) (s : State), s.slicesUp = true ∧ (s.sl (s.tidx p)).st = 1 ∧ (s.cfg (s.tidx p)).mgmt = false ∧ (s.nextCfg
    (s.tidx p)).mgmt = false ∧ s.fenced (s.tidx p) = []) ∧
    (∃ (p : Path) (s : State), s.slicesUp = true ∧ (s.sl (s.tidx p)).st = 1 ∧ (s.cfg (s.tidx p)).mgmt = false ∧ (s.nextCfg
    (s.tidx p)).mgmt = false ∧ s.per.ns.any (fun (_, x) => x.alive && x.owner == s.tidx p) = false ∧ s.fenced (s.tidx p) =
    []) ∧
    (∃ (n : Nat) (s : State), (s.sl n).fenceWait = true ∧ s.fenced n = []) ∧
    (∃ (n : Nat) (s : State) (k : _), ((s.resetFence n).slot k).slice = n) ∧
    (∃ (n : Nat) (s : State), (s.sl n).st = 2 ∧ (s.sl n).fenceWait = false ∧ bit (s.sl n).cause 2 = true ∧ s.taggedOps n = 0) ∧
    (∃ (n : Nat) (s : State), (s.sl n).st = 3 ∧ (s.sl n).fenceWait = false ∧ bit (s.sl n).cause 2 = true ∧ s.taggedOps n = 0) ∧
    (∃ (n : Nat) (s : State), ((s.sl n).st = 2 ∨ (s.sl n).st = 3) ∧ bit (s.sl n).cause 2 = true) :=
  ⟨⟨.sideband, { sv with hop := { slots := [(0, { state := .fenced })] } }, by decide +kernel⟩,
   ⟨.sideband, sv, by decide +kernel⟩,
   ⟨.sideband, { sv with per := { per0 with ns := [] } }, by decide +kernel⟩,
   ⟨0, { sv with slices := [(0, { st := 2, cause := 4, fenceWait := true })] }, by decide +kernel⟩,
   ⟨0, (slotS { state := .granted }), 0, by decide +kernel⟩,
   ⟨0, { sv with slices := [(0, { st := 2, cause := 4, fenceWait := false })] }, by decide +kernel⟩,
   ⟨0, { sv with slices := [(0, { st := 3, cause := 4, fenceWait := false })] }, by decide +kernel⟩,
   ⟨0, { sv with slices := [(0, { st := 2, cause := 4, fenceWait := false })] }, by decide +kernel⟩⟩

theorem witness_HoldAndOrigins :
    (∃ (n : Nat) (s : State), s.mode ≠ .off ∧ n < 128) ∧
    (∃ (p : Path) (s : State), s.slicesUp = true ∧ s.originStaged.valid = true ∧ s.per.origins.any (fun (j, o) => j != s.idxF
    p R.SL_OIDX_ENTRY && o.valid && nqnOf o.nqn == nqnOf s.originStaged.nqn) = false ∧ nqnOk s.originStaged.nqn = true) ∧
    (∃ (p : Path) (s : State), s.slicesUp = true ∧ s.originStaged.valid = true ∧ s.per.origins.any (fun (j, o) => j != s.idxF
    p R.SL_OIDX_ENTRY && o.valid && nqnOf o.nqn == nqnOf s.originStaged.nqn) = true) ∧
    (∃ (s : State), s.slicesUp = true) :=
  ⟨⟨127, sv, by decide +kernel⟩,
   ⟨.sideband, { sv with originStage := [(0, 2 ^ 31 + 1), (1, 0x41)] }, by decide +kernel⟩,
   ⟨.sideband,
   { sv with originStage := [(0, 2 ^ 31 + 1), (1, 0x41)], per := { per0 with origins := [(1, { valid := true, origin := 1, nqn := 0x41 })] } },
   by decide +kernel⟩,
   ⟨sv, by decide +kernel⟩⟩

theorem witness_PortsAndLinks :
    (∃ (p : Nat) (v : Word) (s : State), s.mode ≠ .off ∧ s.portsLive = false ∧ p < 2 ∧ s.on R.PT_CFG_ENABLE p = false ∧
    bitsOf v.toNat 1 2 ≠ 3 ∧ bitsOf v.toNat 3 2 ≠ 3) ∧
    (∃ (p : Nat) (v : Word) (s : State), s.mode ≠ .off ∧ p < 2 ∧ s.on R.PT_CFG_ENABLE p = true ∧ bitsOf v.toNat 1 2 ≠ s.f
    R.PT_CFG_BREAKOUT p) ∧
    (∃ (l : Nat) (s : State), s.mode ≠ .off ∧ s.portsLive = false ∧ l < 8) ∧
    (∃ (l : Nat) (s : State), s.portsLive = true ∧ l < 8 ∧ s.linkUsed l = true ∧ s.linkState l = 1 ∧ (s.linkOf l).announced =
    false ∧ s.connsOn l = []) ∧
    (∃ (l : Nat) (s : State), s.portsLive = true ∧ s.mode ≠ .becalmed ∧ l < 8 ∧ s.linkState l = 3) ∧
    (∃ (l : Nat) (s : State), s.portsLive = true ∧ s.mode ≠ .becalmed ∧ l < 8 ∧ s.linkState l = 2) ∧
    (∃ (n : Nat) (s : State), s.mode ≠ .off ∧ n < 2) ∧
    (∃ (l : Nat) (s : State), s.connsOn l = []) ∧
    (∃ (l : Nat) (s : State), s.portsLive = true ∧ s.mode ≠ .becalmed ∧ s.mode ≠ .feathered ∧ l < 8 ∧ s.linkOff l = none ∧
    s.linkState l = 3) ∧
    (∃ (l : Nat) (s : State), s.portsLive = true ∧ s.mode ≠ .becalmed ∧ s.clk.stopped = false ∧ l < 8 ∧ s.linkState l = 1) ∧
    (∃ (l : Nat) (s : State), s.linkUp l = true) ∧
    (∃ (l : Nat) (s : State), s.linkUp l = true ∧ s.f R.CK_SEL_SELECTED ≠ l + 2 ∧ s.f R.CK_SEL_SELECTED ≠ 15) :=
  ⟨⟨1, 1, (inMode .discovery), by decide +kernel⟩,
   ⟨0, 2, (setFs sv [(R.PT_CFG_ENABLE, 1, 0, 0)]), by decide +kernel⟩,
   ⟨7, (inMode .discovery), by decide +kernel⟩,
   ⟨0, (setFs (inMode .service) [(R.PT_LINK_STS_LSTATE, 1, 0, 0)]), by decide +kernel⟩,
   ⟨4, sv, by decide +kernel⟩,
   ⟨0, sv, by decide +kernel⟩,
   ⟨1, sv, by decide +kernel⟩,
   ⟨3, sv, by decide +kernel⟩,
   ⟨4, (setFs sv [(R.PT_CFG_ENABLE, 1, 1, 0)]), by decide +kernel⟩,
   ⟨4, (setFs sv [(R.PT_LINK_STS_LSTATE, 1, 1, 0)]), by decide +kernel⟩,
   ⟨0, sv, by decide +kernel⟩,
   ⟨0, sv, by decide +kernel⟩⟩

theorem witness_PortAnswersAndDiscovery :
    (∃ (l : Nat) (rx : RxFrame) (s u : State), s.frame l = some u ∧ (u.f R.PT_LINK_CTL_MTU (l / 4) (l % 4) < rx.ip ∨ 9216 <
    rx.ip + rx.hdr)) ∧
    (∃ (l : Nat) (rx : RxFrame) (s u : State), s.frame l = some u ∧ rx.ip ≤ u.f R.PT_LINK_CTL_MTU (l / 4) (l % 4) ∧ rx.ip +
    rx.hdr ≤ 9216) ∧
    (∃ (l : Nat) (rx : RxFrame) (s u : State), s.arrive l rx = some (u, false)) ∧
    (∃ (l ip : Nat) (rx : RxFrame) (s u : State), s.arrive l rx = some (u, true) ∧ ip ≠ 0 ∧ ((u.linkOf l).addr[0]?).getD 0 =
    ip) ∧
    (∃ (l ip : Nat) (rx : RxFrame) (s u : State), s.arrive l rx = some (u, true) ∧ ((u.linkOf l).addr[0]?).getD 0 ≠ ip) ∧
    (∃ (l ip : Nat) (rx : RxFrame) (s u : State), s.arrive l rx = some (u, true) ∧ (u.linkOf l).ipv6.contains ip = true) ∧
    (∃ (l ip : Nat) (rx : RxFrame) (s u : State), s.arrive l rx = some (u, true) ∧ (u.linkOf l).ipv6.contains ip = false) ∧
    (∃ (l p : Nat) (s u : State), s.frame l = some u ∧ p < 8 ∧ bit (s.f R.PT_TC_CFG_PFC_EN (l / 4)) p = true) ∧
    (∃ (l p : Nat) (s u : State), s.frame l = some u ∧ p < 8 ∧ bit (s.f R.PT_TC_CFG_PFC_EN (l / 4)) p = false) ∧
    (∃ (l p : Nat) (s : State), p < 8 ∧ bit (s.linkOf l).paused p = true) ∧
    (∃ (l : Nat) (rx : RxFrame) (s u : State), s.arrive l rx = some (u, true) ∧ u.on R.PT_DISC_CTL_MDNS_EN = true ∧ (u.linkOf
    l).hasAddr = true) ∧
    (∃ (l : Nat) (rx : RxFrame) (s u : State), s.arrive l rx = some (u, true) ∧ u.on R.PT_DISC_CTL_MDNS_EN = false) ∧
    (∃ (l : Nat) (s : State), (s.linkOf l).annRepeat = true ∧ s.linkUp l = true ∧ s.on R.PT_DISC_CTL_MDNS_EN = true) ∧
    (∃ (v : Word) (s : State), s.mode ≠ .off ∧ bit v.toNat 0 = true ∧ bit v.toNat 1 = true) ∧
    (∃ (v : Word) (s : State), s.mode ≠ .off ∧ bit v.toNat 0 = true ∧ bit v.toNat 1 = false) ∧
    (∃ (v : Word) (s : State), s.mode ≠ .off ∧ bit v.toNat 0 = false ∧ bit v.toNat 1 = true) :=
  ⟨⟨0, { ip := 1501 }, sv, fr sv, by decide +kernel⟩,
   ⟨0, {}, sv, fr sv, by decide +kernel⟩,
   ⟨0, { ip := 1501 }, sv, ((sv.arrive 0 { ip := 1501 }).getD (sv, true)).1, by decide +kernel⟩,
   ⟨0, 0x0A000001, {}, sv, fr sv, by decide +kernel⟩,
   ⟨0, 0, {}, sv, fr sv, by decide +kernel⟩,
   ⟨0, 5, {}, { sv with links := [(0, { addr := [1, 0, 5, 0, 0, 0, 0, 0, 0, 0, 65536] })] }, fr
   { sv with links := [(0, { addr := [1, 0, 5, 0, 0, 0, 0, 0, 0, 0, 65536] })] }, by decide +kernel⟩,
   ⟨0, 5, {}, sv, fr sv, by decide +kernel⟩,
   ⟨0, 7, (setFs sv [(R.PT_TC_CFG_PFC_EN, 0xFF, 0, 0)]), fr (setFs sv [(R.PT_TC_CFG_PFC_EN, 0xFF, 0, 0)]), by decide +kernel⟩,
   ⟨0, 7, sv, fr sv, by decide +kernel⟩,
   ⟨0, 7, { sv with links := [(0, { paused := 128 })] }, by decide +kernel⟩,
   ⟨0, {}, (setFs sv [(R.PT_DISC_CTL_MDNS_EN, 1, 0, 0)]), fr (setFs sv [(R.PT_DISC_CTL_MDNS_EN, 1, 0, 0)]), by
   decide +kernel⟩,
   ⟨0, {}, (setFs sv [(R.PT_DISC_CTL_MDNS_EN, 0, 0, 0)]), fr (setFs sv [(R.PT_DISC_CTL_MDNS_EN, 0, 0, 0)]), by
   decide +kernel⟩,
   ⟨0,
   { (setFs sv [(R.PT_DISC_CTL_MDNS_EN, 1, 0, 0)]) with links := [(0, { addr := [0x0A000001], annRepeat := true, announced := true })] },
   by decide +kernel⟩,
   ⟨3, sv, by decide +kernel⟩,
   ⟨1, sv, by decide +kernel⟩,
   ⟨2, sv, by decide +kernel⟩⟩

theorem witness_ConnectionsOpenAndClose :
    (∃ (c l : Nat) (rx : RxFrame) (s u : State), s.arrive l rx = some (u, true) ∧ (u.conn c).alive = false ∧ (u.linkOf
    l).hasAddr = true ∧ u.hostConns < 20480) ∧
    (∃ (c l : Nat) (rx : RxFrame) (s u : State), s.arrive l rx = some (u, true) ∧ (u.conn c).alive = false ∧ (u.linkOf
    l).hasAddr = true ∧ 20480 ≤ u.hostConns) ∧
    (∃ (c l : Nat) (pd : CmPrivate) (rx : RxFrame) (s u : State), s.arrive l rx = some (u, true) ∧ (u.conn c).alive = false ∧
    (u.linkOf l).hasAddr = true ∧ u.on R.PT_CFG_ROCE_EN (portOf l) = true ∧ ((pd.qid ≠ 0 ∧ u.ioConns < 16384 ∧ u.hostConns <
    20480) ∨ (pd.qid = 0 ∧ u.admConns < 4096))) ∧
    (∃ (c l : Nat) (pd : CmPrivate) (rx : RxFrame) (s u : State), s.arrive l rx = some (u, true) ∧ (u.conn c).alive = false ∧
    (u.linkOf l).hasAddr = true ∧ u.on R.PT_CFG_ROCE_EN (portOf l) = true ∧ ((pd.qid ≠ 0 ∧ 16384 ≤ u.ioConns) ∨ (pd.qid = 0 ∧
    4096 ≤ u.admConns ∧ 64 ≤ u.discConns))) ∧
    (∃ (c l p : Nat) (rx : RxFrame) (s u : State), s.arrive l rx = some (u, true) ∧ (u.conn c).alive = false ∧ (u.linkOf
    l).hasAddr = true ∧ (p ≠ 4420 ∨ u.on R.PT_CFG_ROCE_EN (portOf l) = false)) ∧
    (∃ (c : Nat) (rx : RxFrame) (s u : State), (s.conn c).alive = true ∧ (s.conn c).rdma = false ∧ s.Heard c rx u) ∧
    (∃ (c : Nat) (rx : RxFrame) (s u : State), (s.conn c).alive = true ∧ (s.conn c).rdma = false ∧ s.Heard c rx u ∧
    u.tlsLacks (s.conn c) = false) ∧
    (∃ (c : Nat) (rx : RxFrame) (s u : State), (s.conn c).alive = true ∧ (s.conn c).rdma = false ∧ s.Heard c rx u ∧
    u.tlsLacks (s.conn c) = true) ∧
    (∃ (c : Nat) (rx : RxFrame) (s u : State), (s.conn c).alive = true ∧ (s.conn c).rdma = true ∧ s.Heard c rx u) ∧
    (∃ (c : Nat) (s : State), (s.conn c).alive = true ∧ (s.conn c).rdma = false ∧ (s.conn c).unacked = true) ∧
    (∃ (k : Nat) (s : State), (s.ctrl k).alive = true ∧ (s.ctrl k).katoMs ≠ 0 ∧ s.mode ≠ .off) ∧
    (∃ (c : Nat) (s : State), (s.conn c).alive = true ∧ (s.conn c).connected = false) :=
  ⟨⟨7, 0, {}, sv, fr sv, by decide +kernel⟩,
   ⟨7, 0, {}, fullS 20480, fullS 20480, rfl, rfl, rfl, (fullS_conns 20480).ge⟩,
   ⟨7, 0, {}, {}, sv, fr sv, by decide +kernel⟩,
   ⟨7, 0, { qid := 1 }, {}, fullS 16384, fullS 16384, rfl, rfl, rfl, rfl, .inl ⟨by decide, (fullS_io 16384).ge⟩⟩,
   ⟨7, 0, 5, {}, sv, fr sv, by decide +kernel⟩,
   ⟨0, {}, sv, fr sv, by decide +kernel, by decide +kernel, heard _ _ _ _ (by decide +kernel) (by decide +kernel)⟩,
   ⟨0, {}, sv, fr sv, by decide +kernel, by decide +kernel, heard _ _ _ _ (by decide +kernel) (by decide +kernel), by
   decide +kernel⟩,
   ⟨2, {}, (setFs (connS 2 fun c => { c with icDone := false }) [(R.PT_CFG_TLS_REQ, 1, 0, 0)]), fr (setFs (connS 2 fun c =>
   { c with icDone := false }) [(R.PT_CFG_TLS_REQ, 1, 0, 0)]), by decide +kernel, by decide +kernel, heard _ _ _ _ (by
   decide +kernel) (by decide +kernel), by decide +kernel⟩,
   ⟨1, {}, sv, fr sv, by decide +kernel, by decide +kernel, heard _ _ _ _ (by decide +kernel) (by decide +kernel)⟩,
   ⟨0, (connS 0 fun c => { c with sent := [{}] }), by decide +kernel⟩,
   ⟨1, sv, by decide +kernel⟩,
   ⟨2, sv, by decide +kernel⟩⟩

theorem witness_AcksAndRetries :
    (∃ (c : Nat) (rx : RxFrame) (s u : State), (s.conn c).alive = true ∧ (s.conn c).rdma = false ∧ s.Heard c rx u) ∧
    (∃ (c : Nat) (rx : RxFrame) (s u : State), (s.conn c).alive = true ∧ (s.conn c).rdma = false ∧ s.Heard c rx u ∧ u.conn c
    = s.conn c) ∧
    (∃ (c : Nat) (s : State), (s.conn c).alive = true ∧ (s.conn c).rdma = false ∧ (s.conn c).unacked = true ∧ s.linkUp
    (s.conn c).link = true) ∧
    (∃ (c : Nat) (rx : RxFrame) (s u : State), (s.conn c).alive = true ∧ (s.conn c).rdma = true ∧ s.Heard c rx u) ∧
    (∃ (c : Nat) (s : State), (s.conn c).alive = true ∧ (s.conn c).rdma = true ∧ (s.conn c).unacked = true ∧ (s.conn
    c).retries < (s.conn c).retryCnt) ∧
    (∃ (c : Nat) (s : State), (s.conn c).alive = true ∧ (s.conn c).rdma = true ∧ (s.conn c).unacked = true ∧ (s.conn
    c).retryCnt ≤ (s.conn c).retries) ∧
    (∃ (c : Nat) (rx : RxFrame) (s u : State), (s.conn c).alive = true ∧ (s.conn c).rdma = true ∧ s.Heard c rx u) :=
  ⟨⟨0, {}, sv, fr sv, by decide +kernel, by decide +kernel, heard _ _ _ _ (by decide +kernel) (by decide +kernel)⟩,
   ⟨0, {}, sv, fr sv, by decide +kernel, by decide +kernel, heard _ _ _ _ (by decide +kernel) (by decide +kernel), by
   decide +kernel⟩,
   ⟨0, (connS 0 fun c => { c with sent := [{}], rtoMs := 1500 }), by decide +kernel⟩,
   ⟨1, {}, (slotS { state := .draining, conn := 1 }), fr (slotS { state := .draining, conn := 1 }), by decide +kernel, by
   decide +kernel, heard _ _ _ _ (by decide +kernel) (by decide +kernel)⟩,
   ⟨1, (connS 1 fun c => { c with sent := [{}] }), by decide +kernel⟩,
   ⟨1, (connS 1 fun c => { c with sent := [{}], retries := 7 }), by decide +kernel⟩,
   ⟨1, {}, sv, fr sv, by decide +kernel, by decide +kernel, heard _ _ _ _ (by decide +kernel) (by decide +kernel)⟩⟩

theorem witness_TlsAndIcReq :
    (∃ (c g : Nat) (k : Psk) (h : Hello) (rx : RxFrame) (s u : State), (s.conn c).alive = true ∧ (s.conn c).rdma = false ∧
    s.Heard c rx u ∧ (s.conn c).tls = 0 ∧ (s.conn c).icDone = false ∧ h.isTls = true ∧ u.pskOf h.identity = some k ∧
    h.binderOk = true ∧ ((k.hash = 1 ∧ h.aes128 = true) ∨ (k.hash = 2 ∧ h.aes256 = true)) ∧ u.tlsGroup (portOf (s.conn
    c).link) h = some g ∧ u.boot.deriveBlocked = false) ∧
    (∃ (c : Nat) (h : Hello) (rx : RxFrame) (s u : State), (s.conn c).alive = true ∧ (s.conn c).rdma = false ∧ s.Heard c rx u
    ∧ (s.conn c).tls = 0 ∧ (s.conn c).icDone = false ∧ h.isTls = true ∧ (h.binderOk = false ∨ u.pskOf h.identity = none ∨
    (h.aes128 = false ∧ h.aes256 = false) ∨ (h.pskKe = false ∧ h.pskDheKe = false) ∨ (h.pskDheKe = false ∧ u.on
    R.PT_CFG_TLS_DHE_REQ (portOf (s.conn c).link) = true))) ∧
    (∃ (c : Nat) (rx : RxFrame) (s u : State), (s.conn c).alive = true ∧ (s.conn c).rdma = false ∧ s.Heard c rx u ∧ (s.conn
    c).tls = 1) ∧
    (∃ (c : Nat) (rx : RxFrame) (s u : State), (s.conn c).alive = true ∧ (s.conn c).rdma = false ∧ s.Heard c rx u ∧ (s.conn
    c).tls = 2) ∧
    (∃ (c : Nat) (q : IcReq) (rx : RxFrame) (s u : State), (s.conn c).alive = true ∧ (s.conn c).rdma = false ∧ s.Heard c rx u
    ∧ (s.conn c).tls ≠ 1 ∧ ((s.conn c).tls ≠ 0 ∨ u.on R.PT_CFG_TLS_REQ (portOf (s.conn c).link) = false) ∧ (s.conn c).icDone
    = false ∧ q.malformed = false ∧ q.pfv = 0 ∧ q.hpda ≤ 31) :=
  ⟨⟨2, 1, { valid := true, hash := 1, identity := 5, key := 6 }, { identity := 5 }, {},
   { sv with per := { per0 with psk := [(0, { valid := true, hash := 1, identity := 5, key := 6 })] }, conns := [(2, { alive := true })] },
   fr
   { sv with per := { per0 with psk := [(0, { valid := true, hash := 1, identity := 5, key := 6 })] }, conns := [(2, { alive := true })] },
   by decide +kernel, by decide +kernel, heard _ _ _ _ (by decide +kernel) (by decide +kernel), by decide +kernel, by
   decide +kernel, by decide +kernel, by decide +kernel, by decide +kernel, by decide +kernel, by decide +kernel, by
   decide +kernel⟩,
   ⟨2, { binderOk := false }, {},
   { sv with per := { per0 with psk := [(0, { valid := true, hash := 1, identity := 5, key := 6 })] }, conns := [(2, { alive := true })] },
   fr
   { sv with per := { per0 with psk := [(0, { valid := true, hash := 1, identity := 5, key := 6 })] }, conns := [(2, { alive := true })] },
   by decide +kernel, by decide +kernel, heard _ _ _ _ (by decide +kernel) (by decide +kernel), by decide +kernel, by
   decide +kernel, by decide +kernel, by decide +kernel⟩,
   ⟨2, {}, (connS 2 fun c => { c with tls := 1 }), fr (connS 2 fun c => { c with tls := 1 }), by decide +kernel, by
   decide +kernel, heard _ _ _ _ (by decide +kernel) (by decide +kernel), by decide +kernel⟩,
   ⟨2, {}, (connS 2 fun c => { c with tls := 2 }), fr (connS 2 fun c => { c with tls := 2 }), by decide +kernel, by
   decide +kernel, heard _ _ _ _ (by decide +kernel) (by decide +kernel), by decide +kernel⟩,
   ⟨2, { hpda := 31, maxr2t := 3 }, {}, (connS 2 fun c => { c with icDone := false }), fr (connS 2 fun c =>
   { c with icDone := false }), by decide +kernel, by decide +kernel, heard _ _ _ _ (by decide +kernel) (by decide +kernel),
   by decide +kernel, by decide +kernel, by decide +kernel, by decide +kernel, by decide +kernel, by decide +kernel⟩⟩

theorem witness_CapsulesAreQueued :
    (∃ (c e : Nat) (q : Sqe) (rx : RxFrame) (s u : State), (s.conn c).alive = true ∧ (s.conn c).rdma = false ∧ s.Heard c rx u
    ∧ (s.conn c).tls ≠ 1 ∧ (s.conn c).icDone = true ∧ (s.conn c).connected = true ∧ u.conn c = s.conn c ∧ (s.conn c).queue <
    adminBase ∧ q.opc ∈ ioOpcs ∧ (u.outstanding (s.conn c).queue).length < (u.queue (s.conn c).queue).sqsize + 1 ∧ u.hrRoom
    (portOf (s.conn c).link) false (capsuleBytes q) = true ∧ u.freeEntry (s.conn c).queue = some e ∧ ((u.outstanding (s.conn
    c).queue).any fun k => (u.cmd k).sqe.cid == q.cid) = false) ∧
    (∃ (c e : Nat) (q : Sqe) (ce : Bool) (rx : RxFrame) (s u : State), (s.conn c).alive = true ∧ (s.conn c).rdma = true ∧
    s.Heard c { rx with ce := rx.ce || ce } u ∧ (s.conn c).connected = true ∧ u.conn c = s.conn c ∧ (s.conn c).queue <
    adminBase ∧ q.opc ∈ ioOpcs ∧ (u.outstanding (s.conn c).queue).length < (u.queue (s.conn c).queue).sqsize + 1 ∧ u.hrRoom
    (portOf (s.conn c).link) false (capsuleBytes q) = true ∧ u.freeEntry (s.conn c).queue = some e ∧ ((u.outstanding (s.conn
    c).queue).any fun k => (u.cmd k).sqe.cid == q.cid) = false) ∧
    (∃ (c : Nat) (q : Sqe) (ce : Bool) (rx : RxFrame) (s u : State), (s.conn c).alive = true ∧ (s.conn c).rdma = true ∧
    s.Heard c { rx with ce := rx.ce || ce } u ∧ (s.conn c).connected = true ∧ u.conn c = s.conn c ∧ (s.conn c).queue <
    adminBase ∧ (u.outstanding (s.conn c).queue).length < (u.queue (s.conn c).queue).sqsize + 1 ∧ (u.hrRoom (portOf (s.conn
    c).link) false (capsuleBytes q) = false ∨ u.freeEntry (s.conn c).queue = none)) ∧
    (∃ (i : Instr) (b : Bool) (c : Nat) (q : Sqe) (p : H2CPdu) (w : HopWrite) (rx : RxFrame) (s u : State), (i, b) ∈
    [(Instr.capsuleCmd c q rx, false), (.h2cdata c p rx, false), (.rdmaSendCapsule c q false rx, true), (.hopperDataWrite c w
    rx, true)] ∧ (s.conn c).alive = true ∧ (s.conn c).rdma = b ∧ s.frame (s.conn c).link = some u ∧ (u.f R.PT_LINK_CTL_MTU
    ((s.conn c).link / 4) ((s.conn c).link % 4) < rx.ip ∨ 9216 < rx.ip + rx.hdr)) :=
  ⟨⟨0, 0, { opc := 2, nsid := 1, cid := 4 }, { ip := 1500 }, sv, fr sv, by decide +kernel, by decide +kernel, heard _ _ _ _
   (by decide +kernel) (by decide +kernel), by decide +kernel, by decide +kernel, by decide +kernel, by decide +kernel, by
   decide +kernel, by decide +kernel, by decide +kernel, by decide +kernel, by decide +kernel, by decide +kernel⟩,
   ⟨1, 0, { opc := 1, nsid := 1, cid := 4 }, false, { ip := 1500 }, sv, fr sv, by decide +kernel, by decide +kernel, heard _
   _ _ _ (by decide +kernel) (by decide +kernel), by decide +kernel, by decide +kernel, by decide +kernel, by decide +kernel,
   by decide +kernel, by decide +kernel, by decide +kernel, by decide +kernel⟩,
   ⟨1, { opc := 1, sgl := .inCapsule, dlen := 4 * 2 ^ 20 }, false, { ip := 1500 }, sv, fr sv, by decide +kernel, by
   decide +kernel, heard _ _ _ _ (by decide +kernel) (by decide +kernel), by decide +kernel, by decide +kernel, by
   decide +kernel, by decide +kernel, by decide +kernel⟩,
   ⟨.h2cdata 0 {} { ip := 1501 }, false, 0, {}, {}, {}, { ip := 1501 }, sv, fr sv, by decide +kernel⟩⟩

theorem witness_WriteDataArrives :
    (∃ (c n : Nat) (p : H2CPdu) (rx : RxFrame) (s u : State), (s.conn c).alive = true ∧ (s.conn c).rdma = false ∧ s.Heard c
    rx u ∧ u.tlsLacks (s.conn c) = false ∧ (s.conn c).connected = true ∧ p.ttag % 16384 = n ∧ p.ttag / 16384 % 4 = (u.sl
    (s.conn c).slice).epoch % 4 ∧ (u.slot n).state = .granted ∧ (u.slot n).conn = c ∧ (u.slot n).arrived = [] ∧ p.datao =
    (u.slot n).offset ∧ p.datal = (u.slot n).length ∧ p.datal ≤ 65536 ∧ p.digestOk = true) ∧
    (∃ (c : Nat) (p : H2CPdu) (rx : RxFrame) (s u : State), (s.conn c).alive = true ∧ (s.conn c).rdma = false ∧ s.Heard c rx
    u ∧ u.tlsLacks (s.conn c) = false ∧ (s.conn c).connected = true ∧ p.ttag / 16384 % 4 ≠ (u.sl (s.conn c).slice).epoch % 4) ∧
    (∃ (c n v : Nat) (w : Word) (rx : RxFrame) (s u : State), (s.conn c).alive = true ∧ (s.conn c).rdma = true ∧ s.Heard c rx
    u ∧ v = ownerVa + 16 * n ∧ n < 2 ^ 17 ∧ u.rkeyOk (s.conn c) (u.sl (s.conn c).slice).hkey = true ∧ u.slotGranted c n =
    true ∧ bit w.toNat 0 = false ∧ bitsOf w.toNat 8 8 = (u.slot n).epoch) ∧
    (∃ (c n off : Nat) (x : HopWrite) (rx : RxFrame) (s u : State), (s.conn c).alive = true ∧ (s.conn c).rdma = true ∧
    s.Heard c rx u ∧ u.conn c = s.conn c ∧ u.rkeyOk (s.conn c) x.rkey = true ∧ x.va = dataVa + 0x40000 * n + off ∧ n < 2 ^ 17
    ∧ u.slotGranted c n = true ∧ off < (u.slot n).length ∧ off + x.len ≤ (u.slot n).length ∧ off < 0x40000 ∧ off + x.len ≤
    0x40000) ∧
    (∃ (c n off : Nat) (x : HopWrite) (rx : RxFrame) (s u : State), (s.conn c).alive = true ∧ (s.conn c).rdma = true ∧
    s.Heard c rx u ∧ u.conn c = s.conn c ∧ u.rkeyOk (s.conn c) x.rkey = true ∧ x.va = dataVa + 0x40000 * n + off ∧ n < 2 ^ 17
    ∧ (u.slotGranted c n = false ∨ (u.slot n).length ≤ off) ∧ off < 0x40000 ∧ off + x.len ≤ 0x40000) ∧
    (∃ (c n r : Nat) (l : List (Nat × Nat)) (rx : RxFrame) (s u : State), (s.conn c).alive = true ∧ (s.conn c).rdma = true ∧
    s.Heard c rx u ∧ u.conn c = s.conn c ∧ (s.conn c).reads = (r, n) :: l ∧ (s.conn c).got = 0 ∧ readLen (s.conn c).sent r =
    (u.slot n).length ∧ (u.slot n).state = .granted ∧ (u.slot n).conn = c ∧ (u.slot n).arrived = []) ∧
    (∃ (c n r k : Nat) (l : List (Nat × Nat)) (rx : RxFrame) (s u : State), (s.conn c).alive = true ∧ (s.conn c).rdma = true
    ∧ s.Heard c rx u ∧ u.conn c = s.conn c ∧ (s.conn c).reads = (r, n) :: l ∧ 0 < k ∧ (s.conn c).got + k * (s.conn c).pmtu <
    readLen (s.conn c).sent r ∧ (u.slot n).state = .granted ∧ (u.slot n).conn = c) ∧
    (∃ (c n r : Nat) (l : List (Nat × Nat)) (rx : RxFrame) (s u : State), (s.conn c).alive = true ∧ (s.conn c).rdma = true ∧
    s.Heard c rx u ∧ u.conn c = s.conn c ∧ (s.conn c).reads = (r, n) :: l ∧ (u.slot n).state ≠ .granted) ∧
    (∃ (c r : Nat) (x : Bool) (rx : RxFrame) (s u : State), (s.conn c).alive = true ∧ (s.conn c).rdma = true ∧ s.Heard c rx u
    ∧ (x = false ∨ ∀ n l, (s.conn c).reads ≠ (r, n) :: l)) ∧
    (∃ (c : Nat) (rx : RxFrame) (s u : State), (s.conn c).alive = true ∧ (s.conn c).rdma = true ∧ s.Heard c rx u) :=
  ⟨⟨0, 3, { ttag := 3, datal := 4096, data := 5 }, { ip := 1500 },
   { sv with hop := { slots := [(3, { state := .granted, length := 4096 })] } }, fr
   { sv with hop := { slots := [(3, { state := .granted, length := 4096 })] } }, by decide +kernel, by decide +kernel, heard
   _ _ _ _ (by decide +kernel) (by decide +kernel), by decide +kernel, by decide +kernel, by decide +kernel, by
   decide +kernel, by decide +kernel, by decide +kernel, by decide +kernel, by decide +kernel, by decide +kernel, by
   decide +kernel, by decide +kernel⟩,
   ⟨0, { ttag := 16384 }, { ip := 1500 }, sv, fr sv, by decide +kernel, by decide +kernel, heard _ _ _ _ (by decide +kernel)
   (by decide +kernel), by decide +kernel, by decide +kernel, by decide +kernel⟩,
   ⟨1, 3, ownerVa + 48, 256, {},
   { sv with ctrls := [(1, { alive := true, attached := [1, 2], adminConn := 3, vxFeat := 2 })], hop := { slots := [(3, { state := .granted, length := 4096, conn := 1, epoch := 1 })] } },
   fr
   { sv with ctrls := [(1, { alive := true, attached := [1, 2], adminConn := 3, vxFeat := 2 })], hop := { slots := [(3, { state := .granted, length := 4096, conn := 1, epoch := 1 })] } },
   by decide +kernel, by decide +kernel, heard _ _ _ _ (by decide +kernel) (by decide +kernel), by decide +kernel, by
   decide +kernel, by decide +kernel, by decide +kernel, by decide +kernel, by decide +kernel⟩,
   ⟨1, 3, 0, { rkey := 9, va := dataVa + 0x40000 * 3, len := 4096, data := 5 }, { ip := 1500 },
   { sv with ctrls := [(1, { alive := true, attached := [1, 2], adminConn := 3, vxFeat := 2 })], hop := { slots := [(3, { state := .granted, length := 4096, conn := 1 })] } },
   fr
   { sv with ctrls := [(1, { alive := true, attached := [1, 2], adminConn := 3, vxFeat := 2 })], hop := { slots := [(3, { state := .granted, length := 4096, conn := 1 })] } },
   by decide +kernel, by decide +kernel, heard _ _ _ _ (by decide +kernel) (by decide +kernel), by decide +kernel, by
   decide +kernel, by decide +kernel, by decide +kernel, by decide +kernel, by decide +kernel, by decide +kernel, by
   decide +kernel, by decide +kernel⟩,
   ⟨1, 3, 0, { rkey := 9, va := dataVa + 0x40000 * 3, len := 4096, data := 5 }, {}, sv, fr sv, by decide +kernel, by
   decide +kernel, heard _ _ _ _ (by decide +kernel) (by decide +kernel), by decide +kernel, by decide +kernel, by
   decide +kernel, by decide +kernel, by decide +kernel, by decide +kernel, by decide +kernel⟩,
   ⟨1, 3, 4, [], {},
   { (connS 1 fun c => { c with reads := [(4, 3)], got := 0, sent := [{ kind := .rdmaRead, args := [4, 0, 0, 4096] }] }) with hop := { slots := [(3, { state := .granted, length := 4096, conn := 1 })] } },
   fr
   { (connS 1 fun c => { c with reads := [(4, 3)], got := 0, sent := [{ kind := .rdmaRead, args := [4, 0, 0, 4096] }] }) with hop := { slots := [(3, { state := .granted, length := 4096, conn := 1 })] } },
   by decide +kernel, by decide +kernel, heard _ _ _ _ (by decide +kernel) (by decide +kernel), by decide +kernel, by
   decide +kernel, by decide +kernel, by decide +kernel, by decide +kernel, by decide +kernel, by decide +kernel⟩,
   ⟨1, 3, 4, 1, [], {},
   { (connS 1 fun c => { c with reads := [(4, 3)], pmtu := 1024, sent := [{ kind := .rdmaRead, args := [4, 0, 0, 4096] }] }) with hop := { slots := [(3, { state := .granted, length := 4096, conn := 1 })] } },
   fr
   { (connS 1 fun c => { c with reads := [(4, 3)], pmtu := 1024, sent := [{ kind := .rdmaRead, args := [4, 0, 0, 4096] }] }) with hop := { slots := [(3, { state := .granted, length := 4096, conn := 1 })] } },
   by decide +kernel, by decide +kernel, heard _ _ _ _ (by decide +kernel) (by decide +kernel), by decide +kernel, by
   decide +kernel, by decide +kernel, by decide +kernel, by decide +kernel, by decide +kernel⟩,
   ⟨1, 3, 4, [], {},
   { sv with conns := (connS 1 fun c => { c with reads := [(4, 3)], sent := [{ kind := .rdmaRead, args := [4, 0, 0, 4096] }] }).conns },
   fr
   { sv with conns := (connS 1 fun c => { c with reads := [(4, 3)], sent := [{ kind := .rdmaRead, args := [4, 0, 0, 4096] }] }).conns },
   by decide +kernel, by decide +kernel, heard _ _ _ _ (by decide +kernel) (by decide +kernel), by decide +kernel, by
   decide +kernel, by decide +kernel⟩,
   ⟨1, 4, false, {},
   { sv with conns := (connS 1 fun c => { c with reads := [(4, 3)], sent := [{ kind := .rdmaRead, args := [4, 0, 0, 4096] }] }).conns },
   fr
   { sv with conns := (connS 1 fun c => { c with reads := [(4, 3)], sent := [{ kind := .rdmaRead, args := [4, 0, 0, 4096] }] }).conns },
   by decide +kernel, by decide +kernel, heard _ _ _ _ (by decide +kernel) (by decide +kernel), Or.inl rfl⟩,
   ⟨1, {}, sv, fr sv, by decide +kernel, by decide +kernel, heard _ _ _ _ (by decide +kernel) (by decide +kernel)⟩⟩

theorem witness_ConnectBinds :
    (∃ (c n k q : Nat) (r : ConnectReq) (rx : RxFrame) (s u : State), (s.conn c).alive = true ∧ s.Heard c rx u ∧ r.qid = 0 ∧
    ((s.conn c).rdma = true ∨ ((s.conn c).tls ≠ 1 ∧ (s.conn c).icDone = true)) ∧ u.conn c = s.conn c ∧ (s.conn c).connected =
    false ∧ (s.conn c).kind ≠ .disc ∧ ¬ ((s.conn c).rdma = true ∧ r.discovery = true) ∧ 1 ≤ r.sqsize ∧ r.sqsize ≤ 15 ∧
    vxPresent r.vx = false ∧ 1000 ≤ r.katoMs ∧ r.katoMs ≤ 3600000 ∧ u.bindSlice r 0 = .ok n ∧ q = firstFree adminBase
    u.queues ∧ k = u.freeCntlid 0 ∧ q < adminBase + 4096 ∧ k < 4096) ∧
    (∃ (c : Nat) (r : ConnectReq) (rx : RxFrame) (s u : State), (s.conn c).alive = true ∧ s.Heard c rx u ∧ r.qid = 0 ∧
    ((s.conn c).rdma = true ∨ ((s.conn c).tls ≠ 1 ∧ (s.conn c).icDone = true)) ∧ u.conn c = s.conn c ∧ (s.conn c).connected =
    false ∧ (s.conn c).kind ≠ .disc ∧ ¬ ((s.conn c).rdma = true ∧ r.discovery = true) ∧ (r.sqsize = 0 ∨ 15 < r.sqsize)) ∧
    (∃ (c q : Nat) (r : ConnectReq) (rx : RxFrame) (s u : State), (s.conn c).alive = true ∧ s.Heard c rx u ∧ 1 ≤ r.qid ∧
    r.qid ≤ 1024 ∧ ((s.conn c).rdma = true ∨ ((s.conn c).tls ≠ 1 ∧ (s.conn c).icDone = true)) ∧ u.conn c = s.conn c ∧ (s.conn
    c).connected = false ∧ (s.conn c).kind ≠ .disc ∧ (u.ctrl r.cntlid).alive = true ∧ (u.ctrl r.cntlid).disc = false ∧
    idsDiff (u.ctrl r.cntlid) r = none ∧ (u.sl (u.ctrl r.cntlid).slice).st = 1 ∧ vxPresent r.vx = false ∧ 15 ≤ r.sqsize ∧
    r.sqsize ≤ u.f R.RC_CFG_IOQ_MQES ∧ u.qidUsed r.cntlid r.qid = false ∧ u.qUsed (u.ctrl r.cntlid).slice < (u.cfg (u.ctrl
    r.cntlid).slice).qQuota ∧ q = firstFree 0 u.queues ∧ q < 16384 ∧ u.conns.count (fun _ (x : Conn) => x.alive && x.kind ==
    .io) < 16384) :=
  ⟨⟨2, 0, 0, 65537, { hostnqn := 0x41, subnqn := 5, sqsize := 15, katoMs := 1000 }, {},
   { sv with per := { per0 with origins := [(0, { valid := true, origin := 1, nqn := 0x41 })] } }, fr
   { sv with per := { per0 with origins := [(0, { valid := true, origin := 1, nqn := 0x41 })] } }, by decide +kernel, heard _
   _ _ _ (by decide +kernel) (by decide +kernel), by decide +kernel, by decide +kernel, by decide +kernel, by decide +kernel,
   by decide +kernel, by decide +kernel, by decide +kernel, by decide +kernel, by decide +kernel, by decide +kernel, by
   decide +kernel, by decide +kernel, by decide +kernel, by decide +kernel, by decide +kernel, by decide +kernel⟩,
   ⟨2, { sqsize := 16 }, {}, sv, fr sv, by decide +kernel, heard _ _ _ _ (by decide +kernel) (by decide +kernel), by
   decide +kernel, by decide +kernel, by decide +kernel, by decide +kernel, by decide +kernel, by decide +kernel, by
   decide +kernel⟩,
   ⟨2, 2, { hostnqn := 0x41, subnqn := 5, hostid := 3, cntlid := 1, qid := 1024, sqsize := 15 }, {}, (setFs
   { sv with ctrls := [(1, { alive := true, hostnqn := 0x41, subnqn := 5, hostid := 3 })] } [(R.RC_CFG_IOQ_MQES, 1023, 0,
   0)]), fr (setFs { sv with ctrls := [(1, { alive := true, hostnqn := 0x41, subnqn := 5, hostid := 3 })] }
   [(R.RC_CFG_IOQ_MQES, 1023, 0, 0)]), by decide +kernel, heard _ _ _ _ (by decide +kernel) (by decide +kernel), by
   decide +kernel, by decide +kernel, by decide +kernel, by decide +kernel, by decide +kernel, by decide +kernel, by
   decide +kernel, by decide +kernel, by decide +kernel, by decide +kernel, by decide +kernel, by decide +kernel, by
   decide +kernel, by decide +kernel, by decide +kernel, by decide +kernel, by decide +kernel, by decide +kernel⟩⟩

theorem witness_FabricsAndDataCommands :
    (∃ (c : Nat) (s : State), s.FabDue c 0x08) ∧
    (∃ (c : Nat) (s : State), s.FabDue c 0x04 ∧ (s.cmd c).sqe.cdw11.toNat = 0x14) ∧
    (∃ (c : Nat) (s : State), s.FabDue c 0x00 ∧ (s.cmd c).sqe.cdw11.toNat = 0x14 ∧ bit (s.ctrl (s.cmd c).cntlid).cc 0 =
    false) ∧
    (∃ (c : Nat) (s : State), s.FabDue c 0x05) ∧
    (∃ (c : Nat) (s : State), s.FabDue c 0x06) ∧
    (∃ (q : Nat) (s : State), (s.queue q).valid = true ∧ (s.queue q).deleting = true ∧ s.outstanding q = []) ∧
    (∃ (c : Nat) (d : List Nat) (s : State), s.AdmDue c 0x06 ∧ s.identifyData (s.cmd c) (s.ctrl (s.cmd c).cntlid) = .ok d ∧
    s.sglCheck c 0 true = none) ∧
    (∃ (c : Nat) (s : State), s.AdmDue c 0x02 ∧ (s.cmd c).sqe.cdw10.toNat % 256 = 0x03 ∧ (s.cmd c).sqe.cdw10.toNat / 65536 =
    127 ∧ (s.cmd c).sqe.cdw11.toNat % 65536 = 0 ∧ (s.ctrl (s.cmd c).cntlid).disc = false ∧ s.sglCheck c 0 true = none) ∧
    (∃ (c : Nat) (s : State), s.AdmDue c 0x02 ∧ (s.cmd c).sqe.cdw10.toNat / 65536 + 65536 * ((s.cmd c).sqe.cdw11.toNat %
    65536) < 524288 ∧ (lids (s.ctrl (s.cmd c).cntlid).disc).contains ((s.cmd c).sqe.cdw10.toNat % 256) = false) ∧
    (∃ (c : Nat) (s : State), s.AdmDue c 0xC6 ∧ s.sglCheck c (32 * ((s.cmd c).sqe.cdw11.toNat % 128 + 1)) true = none) :=
  ⟨⟨196608,
   { sv with cmds := [(196608, { alive := true, queue := 65536, conn := 3, cntlid := 1, sqe := { opc := 0x7F, fctype := 8 }, phase := .dispatched })] },
   by decide +kernel⟩,
   ⟨196608,
   { sv with cmds := [(196608, { alive := true, queue := 65536, conn := 3, cntlid := 1, sqe := { opc := 0x7F, fctype := 4, cdw11 := 0x14 }, phase := .dispatched })] },
   by decide +kernel⟩,
   ⟨196608,
   { sv with cmds := [(196608, { alive := true, queue := 65536, conn := 3, cntlid := 1, sqe := { opc := 0x7F, fctype := 0, cdw11 := 0x14, cdw12 := 0x460001 }, phase := .dispatched })] },
   by decide +kernel⟩,
   ⟨196608,
   { sv with cmds := [(196608, { alive := true, queue := 65536, conn := 3, cntlid := 1, sqe := { opc := 0x7F, fctype := 5 }, phase := .dispatched })] },
   by decide +kernel⟩,
   ⟨196608,
   { sv with cmds := [(196608, { alive := true, queue := 65536, conn := 3, cntlid := 1, sqe := { opc := 0x7F, fctype := 6 }, phase := .dispatched })] },
   by decide +kernel⟩,
   ⟨0, { sv with queues := sv.queues.set 0 { valid := true, deleting := true } }, by decide +kernel⟩,
   ⟨196608, [5], (admS sv { opc := 6, cdw10 := 0x1C, sgl := .transport }), by decide +kernel⟩,
   ⟨196608, (admS sv { opc := 2, cdw10 := 0x7F0003, sgl := .transport }), by decide +kernel⟩,
   ⟨196608, (admS sv { opc := 2, cdw10 := 0x0706 }), by decide +kernel⟩,
   ⟨196608, (admS sv { opc := 0xC6, cdw10 := 5, cdw11 := 127, sgl := .transport }), by decide +kernel⟩⟩

theorem witness_AbortHasNoEffect :
    (∃ (c : Nat) (s : State), s.AdmDue c 0x08) :=
  ⟨196608, (admS sv { opc := 8 }), by decide +kernel⟩

theorem witness_ControllerCommands :
    (∃ (c : Nat) (s : State), s.AdmDue c 0x18) ∧
    (∃ (c : Nat) (s : State), s.AdmDue c 0x0C ∧ (s.ctrl (s.cmd c).cntlid).aers.length < 4 ∧ (s.ctrl (s.cmd c).cntlid).aevs =
    []) ∧
    (∃ (c : Nat) (s : State), s.AdmDue c 0x0C ∧ 4 ≤ (s.ctrl (s.cmd c).cntlid).aers.length) ∧
    (∃ (c : Nat) (s : State), s.AdmDue c 0x09 ∧ (s.cmd c).sqe.cdw10.toNat = 0x0F ∧ 1000 ≤ (s.cmd c).sqe.cdw11.toNat ∧ (s.cmd
    c).sqe.cdw11.toNat ≤ 3600000) ∧
    (∃ (c : Nat) (s : State), s.AdmDue c 0x0A ∧ (s.cmd c).sqe.cdw10.toNat = 0x0F) ∧
    (∃ (c n : Nat) (s : State), s.AdmDue c 0x1A ∧ s.nsOf (s.cmd c).cntlid (s.cmd c).sqe.nsid = some n ∧ dirType (s.cmd c).sqe
    = 0 ∧ (s.cmd c).sqe.cdw11.toNat % 256 = 1 ∧ s.sglCheck c 0 true = none) ∧
    (∃ (c n : Nat) (s : State), s.AdmDue c 0x19 ∧ s.nsOf (s.cmd c).cntlid (s.cmd c).sqe.nsid = some n ∧ dirType (s.cmd c).sqe
    = 0 ∧ (s.cmd c).sqe.cdw11.toNat % 256 = 1 ∧ (s.cmd c).sqe.cdw12.toNat / 256 % 256 = 2 ∧ bit (s.cmd c).sqe.cdw12.toNat 0 =
    s.dirFdp n) :=
  ⟨⟨196608, (admS sv { opc := 0x18 }), by decide +kernel⟩,
   ⟨196608, (admS sv { opc := 0x0C }), by decide +kernel⟩,
   ⟨196608, (admS
   { sv with ctrls := [(1, { alive := true, attached := [1, 2], adminConn := 3, katoMs := 1000, aers := [1, 2, 3, 4] })] }
   { opc := 0x0C }), by decide +kernel⟩,
   ⟨196608, (admS sv { opc := 9, cdw10 := 0x0F, cdw11 := 3600000 }), by decide +kernel⟩,
   ⟨196608, (admS sv { opc := 0x0A, cdw10 := 0x0F }), by decide +kernel⟩,
   ⟨196608, 2, (admS sv { opc := 0x1A, nsid := 2, cdw11 := 1, sgl := .transport }), by decide +kernel⟩,
   ⟨196608, 2, (admS sv { opc := 0x19, nsid := 2, cdw11 := 1, cdw12 := 0x200 }), by decide +kernel⟩⟩

theorem witness_NamespaceCommands :
    (∃ (c : Nat) (x : NsCreate) (s : State), s.AdmDue c 0x0D ∧ s.ioStepHeld = false ∧ s.mode ≠ .sanitize ∧ (s.cmd
    c).sqe.cdw10.toNat % 16 = 0 ∧ s.sglCheck c 4096 false = none ∧ x =
    { (s.cmd c).sqe.create with csi := (s.cmd c).sqe.cdw11.toNat / 2 ^ 24 } ∧ s.nsCheck x = 0) ∧
    (∃ (c : Nat) (s : State), s.AdmDue c 0x0D ∧ s.ioStepHeld = false ∧ s.mode ≠ .sanitize ∧ (s.cmd c).sqe.cdw10.toNat % 16 =
    0 ∧ s.sglCheck c 4096 false = none ∧ s.nsCheck { (s.cmd c).sqe.create with csi := (s.cmd c).sqe.cdw11.toNat / 2 ^ 24 } =
    0x115) ∧
    (∃ (c n : Nat) (s : State), s.AdmDue c 0x0D ∧ s.ioStepHeld = false ∧ s.mode ≠ .sanitize ∧ (s.cmd c).sqe.cdw10.toNat % 16
    = 1 ∧ (s.cmd c).sqe.nsid ≠ 0xFFFFFFFF ∧ s.nsAny (s.cmd c).sqe.nsid = some n ∧ s.nsBusy n = false) ∧
    (∃ (c n : Nat) (s : State), s.AdmDue c 0x0D ∧ s.ioStepHeld = false ∧ s.mode ≠ .sanitize ∧ (s.cmd c).sqe.cdw10.toNat % 16
    = 1 ∧ (s.cmd c).sqe.nsid ≠ 0xFFFFFFFF ∧ s.nsAny (s.cmd c).sqe.nsid = some n ∧ s.nsBusy n = true) ∧
    (∃ (c n : Nat) (s : State), s.AdmDue c 0x80 ∧ s.ioStepHeld = false ∧ s.mode ≠ .sanitize ∧ s.mode ≠ .readOnly ∧ (s.cmd
    c).sqe.cdw10.toNat = 0 ∧ (s.cmd c).sqe.nsid ≠ 0xFFFFFFFF ∧ (s.cmd c).zs = [] ∧ s.formatNs (s.cmd c) = [n] ∧ s.nsBusy n =
    false) ∧
    (∃ (c n k : Nat) (w : Word) (s : State), s.AdmDue c 0x15 ∧ s.nsAny (s.cmd c).sqe.nsid = some n ∧ (s.cmd
    c).sqe.cdw10.toNat % 16 = 0 ∧ s.sglCheck c 4096 false = none ∧ (s.cmd c).sqe.words = [w] ∧ w.toNat = 1 + 65536 * k ∧
    (s.ctrl k).alive = true ∧ (s.ctrl k).disc = false ∧ (s.ctrl k).slice = (s.per.ns.get n).owner ∧ (s.ctrl k).aers = [] ∧ n
    ∉ (s.ctrl k).attached) :=
  ⟨⟨196608, { nsze := 4096, ncap := 4096 }, (admS sv
   { opc := 0x0D, sgl := .inCapsule, create := { nsze := 4096, ncap := 4096 } }), by decide +kernel⟩,
   ⟨196608, (admS sv
   { opc := 0x0D, sgl := .inCapsule, create := { nsze := 4096 * 2 ^ 20, ncap := 4096 * 2 ^ 20, flbas := 1, pool := 0 } }), by
   decide +kernel⟩,
   ⟨196608, 2, (admS sv { opc := 0x0D, cdw10 := 1, nsid := 2 }), by decide +kernel⟩,
   ⟨196608, 2,
   { (admS sv { opc := 0x0D, cdw10 := 1, nsid := 2 }) with cmds := [(5, { alive := true, phase := .running, ns := 2 }), (196608, { alive := true, queue := 65536, conn := 3, cntlid := 1, sqe := { opc := 0x0D, cdw10 := 1, nsid := 2 }, phase := .dispatched })] },
   by decide +kernel⟩,
   ⟨196608, 2, (admS sv { opc := 0x80, nsid := 2 }), by decide +kernel⟩,
   ⟨196608, 2, 1, 65537, (admS { sv with ctrls := [(1, { alive := true, attached := [1], adminConn := 3, katoMs := 1000 })] }
   { opc := 0x15, nsid := 2, sgl := .inCapsule, words := [65537] }), by decide +kernel⟩⟩

theorem witness_FirmwareSecuritySanitize :
    (∃ (c : Nat) (s : State), s.AdmDue c 0x11 ∧ s.sglCheck c (((s.cmd c).sqe.cdw10.toNat + 1) * 4) false = none ∧ (s.cmd
    c).sqe.cdw11.toNat * 4 = s.boot.fwLen ∧ s.boot.fwLen % 4096 = 0 ∧ s.boot.fwLen + ((s.cmd c).sqe.cdw10.toNat + 1) * 4 ≤ 2
    ^ 24) ∧
    (∃ (c b : Nat) (s : State), s.AdmDue c 0x10 ∧ s.mode ≠ .sanitize ∧ (s.cmd c).sqe.cdw10.toNat = 16 + (b + 1) ∧ b < 2 ∧ bit
    s.boot.imgOk b = true) ∧
    (∃ (m : MonFw) (s : State), s.mode = .sealed ∧ s.boot.monitor = true ∧ m.cdw11.toNat * 4 = s.boot.fwLen ∧ s.boot.fwLen %
    4096 = 0 ∧ s.boot.fwLen + (m.cdw10.toNat + 1) * 4 ≤ 2 ^ 24) ∧
    (∃ (n : Nat) (f : SignedFacts) (m : MonFw) (s : State), s.mode = .sealed ∧ s.boot.monitor = true ∧ s.boot.fwLen ≠ 0 ∧
    m.cdw10.toNat = 8 + 1 ∧ s.fwVerifies (.firmware f n) = true) ∧
    (∃ (c : Nat) (s : State), s.AdmDue c 0x81 ∧ (s.cmd c).sqe.cdw10.toNat / 2 ^ 24 ≠ 0 ∧ secProtocols.contains ((s.cmd
    c).sqe.cdw10.toNat / 2 ^ 24) = true ∧ s.sglCheck c 0 false = none) ∧
    (∃ (c : Nat) (s : State), s.AdmDue c 0x82 ∧ (s.cmd c).sqe.cdw10.toNat / 2 ^ 24 = 0 ∧ s.sglCheck c 0 true = none) ∧
    (∃ (c : Nat) (s : State), s.AdmDue c 0x84 ∧ s.mode ∈ [Mode.service, .readOnly] ∧ sanAct (s.cmd c).sqe = 2) ∧
    (∃ (c : Nat) (s : State), s.AdmDue c 0x84 ∧ s.mode ∈ [Mode.service, .readOnly] ∧ sanAct (s.cmd c).sqe = 4) ∧
    (∃ (c : Nat) (s : State), s.AdmDue c 0x84 ∧ s.mode ∈ [Mode.service, .readOnly] ∧ sanAct (s.cmd c).sqe = 1 ∧ s.per.san = 3
    ∧ s.per.sanAuse = true) ∧
    (∃ (c : Nat) (s : State), s.AdmDue c 0x84 ∧ s.mode = .sanitize ∧ sanAct (s.cmd c).sqe = 1) :=
  ⟨⟨196608, (admS sv { opc := 0x11, cdw10 := 1023, sgl := .inCapsule }), by decide +kernel⟩,
   ⟨196608, 1, (admS { sv with boot := { imgOk := 2 } } { opc := 0x10, cdw10 := 18 }), by decide +kernel⟩,
   ⟨{ cdw10 := 1023 }, { (inMode .sealed) with boot := { monitor := true } }, by decide +kernel⟩,
   ⟨5, { marker := 0x53465701, rsaOk := true, slhOk := true, bodyOk := true }, { cdw10 := 9 },
   { (inMode .sealed) with boot := { monitor := true, fwLen := 4096 } }, by decide +kernel⟩,
   ⟨196608, (admS sv { opc := 0x81, cdw10 := 0x01000000, sgl := .inCapsule }), by decide +kernel⟩,
   ⟨196608, (admS sv { opc := 0x82, sgl := .transport }), by decide +kernel⟩,
   ⟨196608, (admS sv { opc := 0x84, cdw10 := 2 }), by decide +kernel⟩,
   ⟨196608, (admS sv { opc := 0x84, cdw10 := 4 }), by decide +kernel⟩,
   ⟨196608, (admS { sv with per := { per0 with san := 3, sanAuse := true } } { opc := 0x84, cdw10 := 1 }), by decide +kernel⟩,
   ⟨196608, (admS { sv with ctl := { mode := .sanitize } } { opc := 0x84, cdw10 := 1 }), by decide +kernel⟩⟩

theorem witness_KeyPerIo :
    (∃ (k nsid tag n i : Nat) (s : State), (s.ctrl k).alive = true ∧ s.modeIn adminModes = true ∧ s.nsOf k nsid = some n ∧
    (s.per.ns.get n).kpio = true ∧ tag ≤ 255 ∧ s.keyAt n tag = some i) ∧
    (∃ (k nsid tag n : Nat) (s : State), (s.ctrl k).alive = true ∧ s.modeIn adminModes = true ∧ s.nsOf k nsid = some n ∧
    (s.per.ns.get n).kpio = true ∧ tag ≤ 255 ∧ s.keyAt n tag = none ∧ s.keysUsed (s.per.ns.get n).owner < (s.cfg
    (s.per.ns.get n).owner).keyQuota) ∧
    (∃ (k nsid tag n : Nat) (s : State), (s.ctrl k).alive = true ∧ s.modeIn adminModes = true ∧ s.nsOf k nsid = some n ∧
    (s.per.ns.get n).kpio = true ∧ tag ≤ 255 ∧ s.keyAt n tag = none ∧ (s.cfg (s.per.ns.get n).owner).keyQuota ≤ s.keysUsed
    (s.per.ns.get n).owner) ∧
    (∃ (k nsid tag n i : Nat) (s : State), (s.ctrl k).alive = true ∧ s.modeIn adminModes = true ∧ s.nsOf k nsid = some n ∧
    (s.per.ns.get n).kpio = true ∧ tag ≤ 255 ∧ s.keyAt n tag = some i) ∧
    (∃ (k : Nat) (s : State), (s.ctrl k).alive = true ∧ s.modeIn adminModes = true) :=
  ⟨⟨1, 2, 255, 2, 1,
   { sv with per := { per0 with ns := [(2, { alive := true, nsid := 2, nsze := 4096, kpio := true })] }, keys := [(1, { valid := true, inj := true, ns := 2, tag := 255, key := 8 })] },
   by decide +kernel⟩,
   ⟨1, 2, 0, 2, { sv with per := { per0 with ns := [(2, { alive := true, nsid := 2, nsze := 4096, kpio := true })] } }, by
   decide +kernel⟩,
   ⟨1, 2, 0, 2,
   { sv with per := { per0 with slices := [(0, { cfg0 with keyQuota := 2 })], ns := [(2, { alive := true, nsid := 2, nsze := 4096, kpio := true })] } },
   by decide +kernel⟩,
   ⟨1, 2, 255, 2, 1,
   { sv with per := { per0 with ns := [(2, { alive := true, nsid := 2, nsze := 4096, kpio := true })] }, keys := [(1, { valid := true, inj := true, ns := 2, tag := 255, key := 8 })] },
   by decide +kernel⟩,
   ⟨1, sv, by decide +kernel⟩⟩

theorem witness_FlushReadsAndTrims :
    (∃ (c n : Nat) (s : State), s.IoRuns c 0x00 n) ∧
    (∃ (c : Nat) (s : State), s.IoDue c 0x00 ∧ (s.cmd c).sqe.nsid = 0xFFFFFFFF ∧ (s.cmd c).sqe.fuse = 0 ∧ s.mode ≠ .sanitize
    ∧ s.per.san ≠ 3) ∧
    (∃ (c n h : Nat) (r : List Nat) (s : State), s.IoRuns c 0x02 n ∧ s.sglCheck c (sqeNlb (s.cmd c).sqe * s.blkSize n) true =
    none ∧ s.lbaOk n (sqeLba (s.cmd c).sqe) (sqeNlb (s.cmd c).sqe) = true ∧ s.offlineIn n (sqeLba (s.cmd c).sqe) (sqeNlb
    (s.cmd c).sqe) = false ∧ s.hop.rq.get (s.cmd c).slice = h :: r ∧ h ≠ c) ∧
    (∃ (c n : Nat) (s : State), s.IoRuns c 0x02 n ∧ s.sglCheck c (sqeNlb (s.cmd c).sqe * s.blkSize n) true = none ∧ s.lbaOk n
    (sqeLba (s.cmd c).sqe) (sqeNlb (s.cmd c).sqe) = true ∧ s.offlineIn n (sqeLba (s.cmd c).sqe) (sqeNlb (s.cmd c).sqe) =
    false ∧ s.hop.rq.get (s.cmd c).slice = []) ∧
    (∃ (c n : Nat) (s : State), s.IoRuns c 0x02 n ∧ s.sglCheck c (sqeNlb (s.cmd c).sqe * s.blkSize n) true = none ∧ s.lbaOk n
    (sqeLba (s.cmd c).sqe) (sqeNlb (s.cmd c).sqe) = false) ∧
    (∃ (c n : Nat) (s : State), s.IoRuns c 0x0C n ∧ s.lbaOk n (sqeLba (s.cmd c).sqe) (sqeNlb (s.cmd c).sqe) = true ∧
    s.offlineIn n (sqeLba (s.cmd c).sqe) (sqeNlb (s.cmd c).sqe) = false) ∧
    (∃ (c n : Nat) (s : State), s.IoRuns c 0x09 n ∧ s.sglCheck c (16 * ((s.cmd c).sqe.cdw10.toNat % 256 + 1)) false = none ∧
    (∀ r ∈ (s.cmd c).sqe.ranges, s.lbaOk n r.1 r.2 = true) ∧ (s.cmd c).sqe.cdw11.toNat.testBit 2 = false) ∧
    (∃ (c n lba nlb : Nat) (r : List (Nat × Nat)) (s : State), s.IoRuns c 0x09 n ∧ s.sglCheck c 16 false = none ∧ (s.cmd
    c).sqe.ranges = (lba, nlb) :: r ∧ (s.cmd c).sqe.cdw10.toNat % 256 = 0 ∧ s.lbaOk n lba nlb = true ∧ (s.cmd
    c).sqe.cdw11.toNat.testBit 2 = true) :=
  ⟨⟨5, 1, (ioS sv { opc := 0, nsid := 1 }), by decide +kernel⟩,
   ⟨5, (ioS sv { opc := 0, nsid := 0xFFFFFFFF }), by decide +kernel⟩,
   ⟨5, 1, 9, [], { (ioS sv { opc := 2, nsid := 1 }) with hop := { rq := [(0, [9])] } }, by decide +kernel⟩,
   ⟨5, 1, (ioS sv { opc := 2, nsid := 1, cdw12 := 7 }), by decide +kernel⟩,
   ⟨5, 2, (ioS sv { opc := 2, nsid := 2, cdw10 := 4096 }), by decide +kernel⟩,
   ⟨5, 2, (ioS sv { opc := 0x0C, nsid := 2, cdw10 := 4095 }), by decide +kernel⟩,
   ⟨5, 2, (ioS sv { opc := 9, nsid := 2, ranges := [(4095, 1)] }), by decide +kernel⟩,
   ⟨5, 2, 4095, 1, [], (ioS sv { opc := 9, nsid := 2, cdw11 := 4, ranges := [(4095, 1)] }), by decide +kernel⟩⟩

theorem witness_WritesBegin :
    (∃ (c n z : Nat) (s : State), s.IoRuns c 0x01 n ∧ (s.per.ns.get n).zoned = true ∧ z = s.zoneAt n (sqeLba (s.cmd c).sqe) ∧
    s.sglCheck c (sqeNlb (s.cmd c).sqe * s.blkSize n) false = none ∧ s.lbaOk n (sqeLba (s.cmd c).sqe) (sqeNlb (s.cmd c).sqe)
    = true ∧ s.zoneWriteCheck n z (sqeLba (s.cmd c).sqe % s.zsze n) (sqeNlb (s.cmd c).sqe) = 0) ∧
    (∃ (c n z : Nat) (s : State), s.IoRuns c 0x7D n ∧ (s.per.ns.get n).zoned = true ∧ z = s.zoneAt n (sqeLba (s.cmd c).sqe) ∧
    s.sglCheck c (sqeNlb (s.cmd c).sqe * s.blkSize n) false = none ∧ s.lbaOk n (sqeLba (s.cmd c).sqe) 1 = true ∧ sqeLba
    (s.cmd c).sqe % s.zsze n = 0 ∧ s.zoneWriteCheck n z (s.zone z).wp (sqeNlb (s.cmd c).sqe) = 0) ∧
    (∃ (c n z : Nat) (s : State), s.IoRuns c 0x01 n ∧ (s.per.ns.get n).zoned = true ∧ z = s.zoneAt n (sqeLba (s.cmd c).sqe) ∧
    s.sglCheck c (sqeNlb (s.cmd c).sqe * s.blkSize n) false = none ∧ s.lbaOk n (sqeLba (s.cmd c).sqe) (sqeNlb (s.cmd c).sqe)
    = true ∧ writeStatus (s.zone z).zs = 0 ∧ sqeLba (s.cmd c).sqe % s.zsze n ≠ (s.zone z).wp) ∧
    (∃ (c n : Nat) (s : State), s.IoRuns c 0x01 n ∧ (s.per.ns.get n).zoned = false ∧ s.sglCheck c (sqeNlb (s.cmd c).sqe *
    s.blkSize n) false = none ∧ s.lbaOk n (sqeLba (s.cmd c).sqe) (sqeNlb (s.cmd c).sqe) = true) ∧
    (∃ (c n : Nat) (s : State), s.IoRuns c 0x08 n ∧ (s.per.ns.get n).zoned = false ∧ s.lbaOk n (sqeLba (s.cmd c).sqe) (sqeNlb
    (s.cmd c).sqe) = true) ∧
    (∃ (c n z : Nat) (s : State), s.IoRuns c 0x08 n ∧ (s.per.ns.get n).zoned = true ∧ z = s.zoneAt n (sqeLba (s.cmd c).sqe) ∧
    s.lbaOk n (sqeLba (s.cmd c).sqe) (sqeNlb (s.cmd c).sqe) = true ∧ sqeNlb (s.cmd c).sqe * s.blkSize n ≤ 2097152 ∧
    s.zoneWriteCheck n z (sqeLba (s.cmd c).sqe % s.zsze n) (sqeNlb (s.cmd c).sqe) = 0 ∧ s.stageRoom (s.cmd c).slice (sqeNlb
    (s.cmd c).sqe * s.blkSize n) = true) :=
  ⟨⟨5, 1, 0, (ioS sv { opc := 1, nsid := 1, cdw10 := 8, cdw12 := 15 }), by decide +kernel⟩,
   ⟨5, 1, 0, (ioS sv { opc := 0x7D, nsid := 1, cdw12 := 15 }), by decide +kernel⟩,
   ⟨5, 1, 1, (ioS sv { opc := 1, nsid := 1, cdw10 := 0x100001 }), by decide +kernel⟩,
   ⟨5, 2, (ioS sv { opc := 1, nsid := 2, cdw10 := 4095 }), by decide +kernel⟩,
   ⟨5, 2, (ioS sv { opc := 8, nsid := 2, cdw10 := 4095 }), by decide +kernel⟩,
   ⟨5, 1, 0, (ioS sv { opc := 8, nsid := 1, cdw10 := 8, cdw12 := 511 }), by decide +kernel⟩⟩

theorem witness_ZonesOpenAndClose :
    (∃ (c n z : Nat) (s : State), s.IoRuns c 0x79 n ∧ sqeZsa (s.cmd c).sqe = 3 ∧ sqeAll (s.cmd c).sqe = false ∧ s.zoneNamed c
    n = .ok z ∧ ((s.zone z).zs ∈ [ZState.implOpen, .explOpen, .closed] ∨ (s.zone z).zs = .empty ∧ s.mayActivate n = true)) ∧
    (∃ (c n z : Nat) (s : State), s.IoRuns c 0x79 n ∧ sqeZsa (s.cmd c).sqe = 3 ∧ sqeAll (s.cmd c).sqe = false ∧ s.zoneNamed c
    n = .ok z ∧ (s.zone z).zs = .full) ∧
    (∃ (c n : Nat) (s : State), s.IoRuns c 0x79 n ∧ sqeZsa (s.cmd c).sqe = 3 ∧ sqeAll (s.cmd c).sqe = true) ∧
    (∃ (c n z : Nat) (s : State), s.IoRuns c 0x79 n ∧ sqeZsa (s.cmd c).sqe = 1 ∧ sqeAll (s.cmd c).sqe = false ∧ s.zoneNamed c
    n = .ok z ∧ (s.zone z).zs ∈ [ZState.implOpen, .explOpen] ∧ (s.zone z).wp ≠ 0) ∧
    (∃ (c n z : Nat) (s : State), s.IoRuns c 0x79 n ∧ sqeZsa (s.cmd c).sqe = 1 ∧ sqeAll (s.cmd c).sqe = false ∧ s.zoneNamed c
    n = .ok z ∧ (s.zone z).zs ∈ [ZState.implOpen, .explOpen] ∧ (s.zone z).wp = 0) ∧
    (∃ (c n : Nat) (s : State), s.IoRuns c 0x79 n ∧ ¬ (1 ≤ sqeZsa (s.cmd c).sqe ∧ sqeZsa (s.cmd c).sqe ≤ 5)) :=
  ⟨⟨5, 1, 4, (ioS sv { opc := 0x79, nsid := 1, cdw10 := 0x400000, cdw13 := 0x3 }), by decide +kernel⟩,
   ⟨5, 1, 2, (ioS sv { opc := 0x79, nsid := 1, cdw10 := 0x200000, cdw13 := 0x3 }), by decide +kernel⟩,
   ⟨5, 1, (ioS sv { opc := 0x79, nsid := 1, cdw10 := 0x0, cdw13 := 0x103 }), by decide +kernel⟩,
   ⟨5, 1, 0, (ioS sv { opc := 0x79, nsid := 1, cdw10 := 0x0, cdw13 := 0x1 }), by decide +kernel⟩,
   ⟨5, 1, 1, (ioS sv { opc := 0x79, nsid := 1, cdw10 := 0x100000, cdw13 := 0x1 }), by decide +kernel⟩,
   ⟨5, 1, (ioS sv { opc := 0x79, nsid := 1, cdw10 := 0x0, cdw13 := 0x6 }), by decide +kernel⟩⟩

theorem witness_ZonesFinishAndReset :
    (∃ (c n z : Nat) (s : State), s.IoRuns c 0x79 n ∧ sqeZsa (s.cmd c).sqe = 2 ∧ sqeAll (s.cmd c).sqe = false ∧ s.zoneNamed c
    n = .ok z ∧ (s.zone z).zs = .full) ∧
    (∃ (c n z : Nat) (s : State), s.IoRuns c 0x79 n ∧ sqeZsa (s.cmd c).sqe = 2 ∧ sqeAll (s.cmd c).sqe = false ∧ s.zoneNamed c
    n = .ok z ∧ (s.zone z).zs = .empty ∧ s.rule1 = true) ∧
    (∃ (c n z : Nat) (s : State), s.IoRuns c 0x79 n ∧ sqeZsa (s.cmd c).sqe = 2 ∧ sqeAll (s.cmd c).sqe = false ∧ s.zoneNamed c
    n = .ok z ∧ (s.zone z).active = true) ∧
    (∃ (c n z : Nat) (s : State), s.IoRuns c 0x79 n ∧ sqeZsa (s.cmd c).sqe = 4 ∧ sqeAll (s.cmd c).sqe = false ∧ s.zoneNamed c
    n = .ok z ∧ ((s.zone z).active = true ∨ (s.zone z).zs = .full)) ∧
    (∃ (c n : Nat) (s : State), s.IoRuns c 0x79 n ∧ sqeZsa (s.cmd c).sqe = 4 ∧ sqeAll (s.cmd c).sqe = true ∧ ((s.zonesOf
    n).filter fun z => (s.zone z).active || (s.zone z).zs == .full) ≠ []) ∧
    (∃ (c z : Nat) (s : State), (s.cmd c).alive = true ∧ (s.cmd c).sqe.opc = 0x79 ∧ (s.cmd c).phase = .running ∧ (s.cmd c).zs
    = [z] ∧ s.zoneBusy z = false ∧ (s.mode = .service ∨ s.mode = .readOnly) ∧ ((s.zone z).active = true ∨ (s.zone z).zs =
    .full)) ∧
    (∃ (c n z : Nat) (s : State), s.IoRuns c 0x79 n ∧ sqeZsa (s.cmd c).sqe = 5 ∧ sqeAll (s.cmd c).sqe = false ∧ s.zoneNamed c
    n = .ok z ∧ (s.zone z).zs = .readOnly) ∧
    (∃ (c n z : Nat) (s : State), s.IoRuns c 0x79 n ∧ sqeZsa (s.cmd c).sqe = 5 ∧ sqeAll (s.cmd c).sqe = false ∧ s.zoneNamed c
    n = .ok z ∧ (s.zone z).zs = .empty) :=
  ⟨⟨5, 1, 2, (ioS sv { opc := 0x79, nsid := 1, cdw10 := 0x200000, cdw13 := 0x2 }), by decide +kernel⟩,
   ⟨5, 1, 4, (ioS (setFs sv [(R.RC_ACK_STS_ACK_RULE, 1, 0, 0)]) { opc := 0x79, nsid := 1, cdw10 := 0x400000, cdw13 := 0x2 }),
   by decide +kernel⟩,
   ⟨5, 1, 0, (ioS sv { opc := 0x79, nsid := 1, cdw10 := 0x0, cdw13 := 0x2 }), by decide +kernel⟩,
   ⟨5, 1, 2, (ioS sv { opc := 0x79, nsid := 1, cdw10 := 0x200000, cdw13 := 0x4 }), by decide +kernel⟩,
   ⟨5, 1, (ioS sv { opc := 0x79, nsid := 1, cdw10 := 0x0, cdw13 := 0x104 }), by decide +kernel⟩,
   ⟨5, 0,
   { sv with cmds := [(5, { alive := true, cntlid := 1, sqe := { opc := 0x79, nsid := 1, cdw13 := 4 }, phase := .running, ns := 1, zs := [0] })] },
   by decide +kernel⟩,
   ⟨5, 1, 3, (ioS sv { opc := 0x79, nsid := 1, cdw10 := 0x300000, cdw13 := 0x5 }), by decide +kernel⟩,
   ⟨5, 1, 4, (ioS sv { opc := 0x79, nsid := 1, cdw10 := 0x400000, cdw13 := 0x5 }), by decide +kernel⟩⟩

theorem witness_ZoneReports :
    (∃ (c n bytes : Nat) (st : Option ZState) (zs : List Nat) (s : State), s.IoRuns c 0x7A n ∧ zoneFilter ((s.cmd
    c).sqe.cdw13.toNat / 256 % 256) = some st ∧ s.lbaOk n (sqeLba (s.cmd c).sqe) 1 = true ∧ bytes = ((s.cmd
    c).sqe.cdw12.toNat + 1) * 4 ∧ s.sglCheck c bytes true = none ∧ (s.conn (s.cmd c).conn).rdma = false ∧ zs = (s.zonesOf
    n).filter (fun z => decide (s.zoneAt n (sqeLba (s.cmd c).sqe) ≤ z) &&
    match st with | some v => (s.zone z).zs == v | none => true) ∧ sqeZsa (s.cmd c).sqe = 0) ∧
    (∃ (c n bytes : Nat) (st : Option ZState) (zs : List Nat) (s : State), s.IoRuns c 0x7A n ∧ zoneFilter ((s.cmd
    c).sqe.cdw13.toNat / 256 % 256) = some st ∧ s.lbaOk n (sqeLba (s.cmd c).sqe) 1 = true ∧ bytes = ((s.cmd
    c).sqe.cdw12.toNat + 1) * 4 ∧ s.sglCheck c bytes true = none ∧ (s.conn (s.cmd c).conn).rdma = false ∧ zs = (s.zonesOf
    n).filter (fun z => decide (s.zoneAt n (sqeLba (s.cmd c).sqe) ≤ z) &&
    match st with | some v => (s.zone z).zs == v | none => true) ∧ sqeZsa (s.cmd c).sqe = 1) :=
  ⟨⟨5, 1, 4096, none, [1, 2, 3, 4], (ioS sv { opc := 0x7A, nsid := 1, cdw10 := 0x100000, cdw12 := 1023 }), by decide +kernel⟩,
   ⟨5, 1, 4096, some .full, [2], (ioS sv { opc := 0x7A, nsid := 1, cdw12 := 1023, cdw13 := 0x501 }), by decide +kernel⟩⟩

theorem witness_SlotsAreTaken :
    (∃ (n c k len : Nat) (s : State), s.writeHead n = some (c, k, len) ∧ (s.hop.wq.get n).head? = some c ∧ nextRound
    (s.hop.wq.map Prod.fst) s.hop.lastW (fun j => (s.writeHead j).isSome) = some n ∧ (s.cmd c).sqe.sgl = .transport ∧ (s.conn
    (s.cmd c).conn).rdma = false) ∧
    (∃ (n c : Nat) (u s : State), s.readHead n = some (c, u) ∧ nextRound (s.hop.rq.map Prod.fst) s.hop.lastR (fun j =>
    (s.readHead j).isSome) = some n) ∧
    (∃ (n c : Nat) (r : List Nat) (s : State), s.hop.rq.get n = c :: r ∧ s.hop.reserve = none) :=
  ⟨⟨0, 5, 0, 32768,
   { (setFs sv poolF) with cmds := [(5, { alive := true, cntlid := 1, sqe := { opc := 1, nsid := 1, sgl := .transport }, phase := .running, ns := 1, nlb := 8 })], hop := { wq := [(0, [5])] } },
   by decide +kernel⟩,
   ⟨0, 5,
   ((({ (setFs sv poolF) with cmds := [(5, { alive := true, cntlid := 1, sqe := { opc := 2, nsid := 1, sgl := .transport }, phase := .running, ns := 1, nlb := 8 })], hop := { rq := [(0, [5])] } }).readHead
   0).getD (0, sv)).2,
   { (setFs sv poolF) with cmds := [(5, { alive := true, cntlid := 1, sqe := { opc := 2, nsid := 1, sgl := .transport }, phase := .running, ns := 1, nlb := 8 })], hop := { rq := [(0, [5])] } },
   by decide +kernel⟩,
   ⟨0, 5, [],
   { sv with cmds := [(5, { alive := true, cntlid := 1, sqe := { opc := 2, nsid := 1, sgl := .transport }, phase := .running, ns := 1, nlb := 8 })], hop := { rq := [(0, [5])] } },
   by decide +kernel⟩⟩

theorem witness_SlotsMoveOn :
    (∃ (k c key n : Nat) (l : List SramErr) (s : State), (∀ e ∈ l, e.syms ≤ 4) ∧ (s.slot k).state = .filled ∧ (s.slot
    k).waitRoom = false ∧ s.up = true ∧ (s.slot k).cmd = c ∧ (s.cmd c).status = 0 ∧ s.cmdKey c = some key ∧ s.stageRoom
    (s.slot k).slice (s.slot k).length = true ∧ n = (s.slot k).length / s.blkSize (s.cmd c).ns) ∧
    (∃ (k c key : Nat) (s : State), (s.slot k).state = .filled ∧ (s.slot k).waitRoom = false ∧ s.up = true ∧ (s.slot k).cmd =
    c ∧ (s.cmd c).status = 0 ∧ s.cmdKey c = some key ∧ s.stageRoom (s.slot k).slice (s.slot k).length = false) ∧
    (∃ (k : Nat) (s : State), (s.slot k).state = .filled ∧ (s.slot k).waitRoom = true ∧ s.stageRoom (s.slot k).slice (s.slot
    k).length = true) ∧
    (∃ (k : Nat) (s : State), (s.slot k).state = .clearing) ∧
    (∃ (k : Nat) (s : State), (s.slot k).state = .loading ∧ (s.slot k).merged * s.blkSize (s.cmd (s.slot k).cmd).ns = (s.slot
    k).length ∧ (∀ j ∈ s.slotsOf (s.slot k).cmd (· == .loading), (s.slot k).offset ≤ (s.slot j).offset)) ∧
    (∃ (k c d key : Nat) (x : SlotTx) (p : List Nat) (s : State), (s.slot k).state = .sending ∧ (s.slot k).cmd = c ∧ (s.cmd
    c).conn = d ∧ s.cmdKey c = some key ∧ (∀ j ∈ s.slotsOf c (fun t => t == .loading || t == .sending), (s.slot k).offset ≤
    (s.slot j).offset) ∧ (s.conn d).alive = true ∧ (s.slot k).offset + (s.slot k).length ≤ s.readGood c ∧ (∀ b ∈ p, (s.slot
    k).length / s.blkSize (s.cmd c).ns ≤ b) ∧ 0 < (s.slot k).length ∧ ((s.conn d).rdma = true ∨ (s.slot k).length ≤ 65536) ∧
    x = { slot := k, key := key, ns := (s.cmd c).ns, lba := (s.cmd c).lba + (s.slot k).offset / s.blkSize (s.cmd c).ns }) ∧
    (∃ (k c b : Nat) (s : State), (s.slot k).state = .sending ∧ (s.slot k).cmd = c ∧ (∀ j ∈ s.slotsOf c (fun t => t ==
    .loading || t == .sending), (s.slot k).offset ≤ (s.slot j).offset) ∧ (s.conn (s.cmd c).conn).alive = true ∧ (s.slot
    k).offset + (s.slot k).length ≤ s.readGood c ∧ b < (s.slot k).length / s.blkSize (s.cmd c).ns) ∧
    (∃ (k : Nat) (s : State), (s.slot k).state = .sending ∧ (∃ j ∈ s.slotsOf (s.slot k).cmd (fun t => t == .loading || t ==
    .sending), (s.slot j).offset < (s.slot k).offset)) ∧
    (∃ (key ns lba : Nat) (b : Blk), b.ns = ns ∧ b.key = key ∧ b.lba = lba ∧ ns ≠ 0) :=
  ⟨⟨0, 5, 7, 8, [{ syms := 4 }],
   { (setFs sv poolF) with cmds := [(5, { alive := true, cntlid := 1, sqe := { opc := 1, nsid := 1, sgl := .transport }, phase := .running, ns := 1, nlb := 8 })], hop := { slots := [(0, { state := .filled, length := 32768, cmd := 5 })] } },
   by decide +kernel⟩,
   ⟨0, 5, 7,
   { (setFs { sv with media := { stage := [{ units := 1024 }] } } poolF) with cmds := [(5, { alive := true, cntlid := 1, sqe := { opc := 1, nsid := 1, sgl := .transport }, phase := .running, ns := 1, nlb := 8 })], hop := { slots := [(0, { state := .filled, length := 32768, cmd := 5 })] } },
   by decide +kernel⟩,
   ⟨0,
   { (setFs sv poolF) with cmds := [(5, { alive := true, cntlid := 1, sqe := { opc := 1, nsid := 1, sgl := .transport }, phase := .running, ns := 1, nlb := 8 })], hop := { slots := [(0, { state := .filled, length := 32768, cmd := 5, waitRoom := true })] } },
   by decide +kernel⟩,
   ⟨0, (slotS { state := .clearing, length := 4096 }), by decide +kernel⟩,
   ⟨0,
   { (setFs sv poolF) with cmds := [(5, { alive := true, cntlid := 1, sqe := { opc := 2, nsid := 1, sgl := .transport }, phase := .running, ns := 1, nlb := 8 })], hop := { slots := [(0, { state := .loading, length := 32768, cmd := 5, merged := 8 })] } },
   by decide +kernel⟩,
   ⟨0, 5, 0, 7, { slot := 0, key := 7, ns := 1, lba := 0 }, [8],
   { (setFs sv poolF) with cmds := [(5, { alive := true, cntlid := 1, sqe := { opc := 2, nsid := 1, sgl := .transport }, phase := .running, ns := 1, nlb := 8 })], hop := { slots := [(0, { state := .sending, length := 32768, cmd := 5, merged := 8 })] } },
   by decide +kernel⟩,
   ⟨0, 5, 7,
   { (setFs sv poolF) with cmds := [(5, { alive := true, cntlid := 1, sqe := { opc := 2, nsid := 1, sgl := .transport }, phase := .running, ns := 1, nlb := 8 })], hop := { slots := [(0, { state := .sending, length := 32768, cmd := 5, merged := 8 })] } },
   by decide +kernel⟩,
   ⟨0,
   { (setFs sv poolF) with cmds := [(5, { alive := true, cntlid := 1, sqe := { opc := 2, nsid := 1, sgl := .transport }, phase := .running, ns := 1, nlb := 8 })], hop := { slots := [(0, { state := .sending, length := 32768, cmd := 5, offset := 32768, merged := 8 }), (1, { state := .loading, length := 32768, cmd := 5 })] } },
   by decide +kernel⟩,
   ⟨7, 1, 8, { key := 7, ns := 1, lba := 8, plain := 3 }, by decide +kernel⟩⟩

theorem witness_DramRequests :
    (∃ (ch : Nat) (r : DramReq) (d : List Byte) (s : State), ch < 4 ∧ s.cstate ch = 3 ∧ s.dramAddr ch r.line < s.dramCap ∧
    r.byte = 0 ∧ r.data = some d ∧ d.length = 128 ∧ (s.chan ch).queue = []) ∧
    (∃ (ch : Nat) (r : DramReq) (s : State), ch < 4 ∧ s.cstate ch = 3 ∧ s.dramAddr ch r.line < s.dramCap ∧ r.byte < 128 ∧
    r.data = none ∧ (s.chan ch).queue = [] ∧ s.validAt (s.dramAddr ch r.line) = true) ∧
    (∃ (ch : Nat) (r : DramReq) (s : State), ch < 4 ∧ s.cstate ch = 4 ∧ s.dramAddr ch r.line < s.dramCap ∧ r.byte < 128 ∧
    r.data = none ∧ ((s.chan ch).queue.any fun w => w.req == r) = false) ∧
    (∃ (ch : Nat), ch < 4) ∧
    (∃ (ch : Nat) (r : DrRead) (q : List DrRead) (s : State), (s.chan ch).reads = r :: q) ∧
    (∃ (ch : Nat) (s : State), (s.cstate ch = 3 ∨ s.cstate ch = 4)) ∧
    (∃ (ch : Nat) (s : State), s.mode = .service ∧ ch < 4 ∧ s.on R.DR_RTCFG_RT_EN = true ∧ s.cstate ch = 3 ∧ (∀ c, c < 4 →
    s.cstate c ≠ 4) ∧ ((s.chan ch).queue.any fun w => w.promoted && w.req.cls == 0) = false) ∧
    (∃ (ch : Nat) (s : State), ch < 4 ∧ s.cstate ch = 4 ∧ (∀ h ∈ s.dram.held, h.ch ≠ ch)) ∧
    (∃ (ch : Nat) (s : State), ch < 4 ∧ s.mode ≠ .off) :=
  ⟨⟨3, { line := 5, data := some (List.replicate 128 0) }, List.replicate 128 0, (setFs sv [(R.DR_GCFG_WIDTH, 2, 0, 0),
   (R.DR_GCFG_GRAIN_EXP, 4, 0, 0), (R.DR_GCFG_CAP_GIB, 128, 0, 0), (R.DR_STS_CSTATE, 3, 3, 0)]), by decide +kernel⟩,
   ⟨3, { line := 5, byte := 127 },
   { (setFs sv [(R.DR_GCFG_WIDTH, 2, 0, 0), (R.DR_GCFG_GRAIN_EXP, 4, 0, 0), (R.DR_GCFG_CAP_GIB, 128, 0, 0), (R.DR_STS_CSTATE, 3, 3, 0)]) with dram := { valid := [((setFs sv [(R.DR_GCFG_WIDTH, 2, 0, 0), (R.DR_GCFG_GRAIN_EXP, 4, 0, 0)]).dramAddr 3 5 / 4096, true)] } },
   by decide +kernel⟩,
   ⟨3, { line := 5 }, (setFs sv [(R.DR_GCFG_WIDTH, 2, 0, 0), (R.DR_GCFG_GRAIN_EXP, 4, 0, 0), (R.DR_GCFG_CAP_GIB, 128, 0, 0),
   (R.DR_STS_CSTATE, 4, 3, 0)]), by decide +kernel⟩,
   ⟨3, by decide +kernel⟩,
   ⟨0, { line := 5 }, [], { sv with dram := { chans := [(0, { reads := [{ line := 5 }] })] } }, by decide +kernel⟩,
   ⟨3, (setFs sv [(R.DR_GCFG_WIDTH, 2, 0, 0), (R.DR_GCFG_GRAIN_EXP, 4, 0, 0), (R.DR_GCFG_CAP_GIB, 128, 0, 0),
   (R.DR_STS_CSTATE, 3, 3, 0)]), by decide +kernel⟩,
   ⟨3, (setFs sv [(R.DR_GCFG_WIDTH, 2, 0, 0), (R.DR_GCFG_GRAIN_EXP, 4, 0, 0), (R.DR_GCFG_CAP_GIB, 128, 0, 0),
   (R.DR_STS_CSTATE, 3, 3, 0), (R.DR_RTCFG_RT_EN, 1, 0, 0)]), by decide +kernel⟩,
   ⟨3, (setFs sv [(R.DR_GCFG_WIDTH, 2, 0, 0), (R.DR_GCFG_GRAIN_EXP, 4, 0, 0), (R.DR_GCFG_CAP_GIB, 128, 0, 0),
   (R.DR_STS_CSTATE, 4, 3, 0)]), by decide +kernel⟩,
   ⟨3, sv, by decide +kernel⟩⟩

theorem witness_DramRepair :
    (∃ (ch dev : Nat) (s : State), s.mode ≠ .off ∧ ch < 4 ∧ dev < 10 ∧ s.on R.DR_STS_MARK_VALID ch = false) ∧
    (∃ (ch dev : Nat) (s : State), s.mode ≠ .off ∧ ch < 4 ∧ dev < 10 ∧ s.on R.DR_STS_MARK_VALID ch = true) ∧
    (∃ (ch : Nat) (s : State), s.mode ≠ .off ∧ ch < 4 ∧ s.on R.DR_STS_MARK_VALID ch = true) ∧
    (∃ (p : Path) (ch e : Nat) (s : State), s.mode ≠ .off ∧ ch < 4 ∧ s.cstate ch = 3 ∧ e = (s.chan ch).rmStage.get (2 *
    s.idxF p R.DR_RMIDX_ENTRY ch) % 2 ^ 25 / 2 * 2 + 1 + (s.chan ch).rmStage.get (2 * s.idxF p R.DR_RMIDX_ENTRY ch + 1) % 64
    * 2 ^ 32 ∧ (s.chan ch).remap.get (s.idxF p R.DR_RMIDX_ENTRY ch) = 0 ∧ (s.chan ch).remap.any (fun (_, o) => entriesMeet o
    e) = false) ∧
    (∃ (p : Path) (ch e : Nat) (s : State), s.mode ≠ .off ∧ ch < 4 ∧ s.cstate ch = 3 ∧ e = (s.chan ch).rmStage.get (2 *
    s.idxF p R.DR_RMIDX_ENTRY ch) % 2 ^ 25 / 2 * 2 + 1 + (s.chan ch).rmStage.get (2 * s.idxF p R.DR_RMIDX_ENTRY ch + 1) % 64
    * 2 ^ 32 ∧ (s.chan ch).remap.get (s.idxF p R.DR_RMIDX_ENTRY ch) ≠ 0) ∧
    (∃ (p : Path) (ch e : Nat) (s : State), s.mode ≠ .off ∧ ch < 4 ∧ s.cstate ch ≠ 3 ∧ e = (s.chan ch).rmStage.get (2 *
    s.idxF p R.DR_RMIDX_ENTRY ch) % 2 ^ 25 / 2 * 2 + 1 + (s.chan ch).rmStage.get (2 * s.idxF p R.DR_RMIDX_ENTRY ch + 1) % 64
    * 2 ^ 32) ∧
    (∃ (ch : Nat) (s : State), s.mode ≠ .off ∧ ch < 4 ∧ s.cstate ch = 3) ∧
    (∃ (ch q : Nat) (s : State), ch < 4 ∧ (s.mode = .discovery ∨ s.mode = .trial) ∧ s.clk.stopped = false ∧ s.cstate ch ≠ 0 ∧
    q < 80 ∧ (s.f R.DR_TRN_CTL_PATTERN ch = 2 ∨ s.f R.DR_TRN_WORD_WORD ch ≠ 0)) ∧
    (∃ (f : TrainFound) (s : State), s.mode = .discovery ∧ s.boot.trainFail = true ∧ s.clk.stopped = false ∧ s.f
    R.DR_GCFG_WIDTH ≤ 2 ∧ f.topologyOk = true ∧ (∀ c, c < s.nch → ((List.range 10).filter fun d => bit ((f.bad[c]?).getD 0)
    d).length < 2)) ∧
    (∃ (f : TrainFound) (s : State), s.mode = .discovery ∧ s.boot.trainFail = true ∧ s.clk.stopped = false ∧ s.f
    R.DR_GCFG_WIDTH ≤ 2 ∧ f.topologyOk = false) :=
  ⟨⟨3, 9, sv, by decide +kernel⟩,
   ⟨3, 9, (setFs sv [(R.DR_GCFG_WIDTH, 2, 0, 0), (R.DR_GCFG_GRAIN_EXP, 4, 0, 0), (R.DR_GCFG_CAP_GIB, 128, 0, 0),
   (R.DR_STS_MARK_VALID, 1, 3, 0), (R.DR_STS_CSTATE, 3, 3, 0)]), by decide +kernel⟩,
   ⟨3, (setFs sv [(R.DR_GCFG_WIDTH, 2, 0, 0), (R.DR_GCFG_GRAIN_EXP, 4, 0, 0), (R.DR_GCFG_CAP_GIB, 128, 0, 0),
   (R.DR_STS_MARK_VALID, 1, 3, 0), (R.DR_STS_CSTATE, 3, 3, 0)]), by decide +kernel⟩,
   ⟨.sideband, 3, 7,
   { (setFs sv [(R.DR_GCFG_WIDTH, 2, 0, 0), (R.DR_GCFG_GRAIN_EXP, 4, 0, 0), (R.DR_GCFG_CAP_GIB, 128, 0, 0), (R.DR_STS_CSTATE, 3, 3, 0)]) with dram := { chans := [(3, { rmStage := [(0, 6)] })] } },
   by decide +kernel⟩,
   ⟨.sideband, 3, 7,
   { (setFs sv [(R.DR_GCFG_WIDTH, 2, 0, 0), (R.DR_GCFG_GRAIN_EXP, 4, 0, 0), (R.DR_GCFG_CAP_GIB, 128, 0, 0), (R.DR_STS_CSTATE, 3, 3, 0)]) with dram := { chans := [(3, { rmStage := [(0, 6)], remap := [(0, 9)] })] } },
   by decide +kernel⟩,
   ⟨.sideband, 3, 1, (setFs sv [(R.DR_GCFG_WIDTH, 2, 0, 0), (R.DR_GCFG_GRAIN_EXP, 4, 0, 0), (R.DR_GCFG_CAP_GIB, 128, 0, 0),
   (R.DR_STS_CSTATE, 4, 3, 0)]), by decide +kernel⟩,
   ⟨3, (setFs sv [(R.DR_GCFG_WIDTH, 2, 0, 0), (R.DR_GCFG_GRAIN_EXP, 4, 0, 0), (R.DR_GCFG_CAP_GIB, 128, 0, 0),
   (R.DR_STS_CSTATE, 3, 3, 0)]), by decide +kernel⟩,
   ⟨3, 79, (setFs (inMode .trial) [(R.DR_GCFG_WIDTH, 2, 0, 0), (R.DR_STS_CSTATE, 3, 3, 0), (R.DR_TRN_CTL_PATTERN, 2, 3, 0)]),
   by decide +kernel⟩,
   ⟨{ bad := [4] },
   { (setFs (inMode .discovery) [(R.DR_GCFG_WIDTH, 2, 0, 0), (R.DR_GCFG_GRAIN_EXP, 4, 0, 0), (R.DR_GCFG_CAP_GIB, 128, 0, 0)]) with boot := { trainFail := true } },
   by decide +kernel⟩,
   ⟨{ topologyOk := false },
   { (setFs (inMode .discovery) [(R.DR_GCFG_WIDTH, 2, 0, 0), (R.DR_GCFG_GRAIN_EXP, 4, 0, 0), (R.DR_GCFG_CAP_GIB, 128, 0, 0)]) with boot := { trainFail := true } },
   by decide +kernel⟩⟩

theorem witness_DramScrubs :
    (∃ (s : State), s.mode = .service ∧ s.on R.DR_SCR_CTL_ACTIVE = false ∧ s.f R.DR_SCR_LEN_SCR_LEN ≠ 0) ∧
    (∃ (s : State), s.mode ≠ .off ∧ s.on R.DR_SCR_CTL_ACTIVE = true) ∧
    (∃ (c a : Nat) (s : State), s.mode = .service ∧ s.on R.DR_SCR_CTL_ACTIVE = true ∧ s.on R.DR_SCR_CTL_PAUSED = false ∧
    s.clk.stopped = false ∧ s.dram.scrPos % 32 ≠ 0 ∧ s.dram.scrPos / 32 < s.dram.scrEnd ∧ s.dramAt (4096 * (s.dram.scrPos /
    32) + 128 * (s.dram.scrPos % 32)) = (c, a) ∧ s.cstate c = 3) ∧
    (∃ (s : State), (s.mode = .discovery ∨ s.mode = .rebuild ∨ s.mode = .trial) ∧ s.clk.stopped = false ∧ (∀ c, c < s.nch →
    s.cstate c = 3 ∧ (s.chan c).queue = []) ∧ 0 < s.dramCap / 4096 ∧ s.dram.valid.get (s.dram.patPos % (s.dramCap / 4096)) =
    false) :=
  ⟨⟨(setFs sv [(R.DR_SCR_LEN_SCR_LEN, 4, 0, 0)]), by decide +kernel⟩,
   ⟨(setFs sv [(R.DR_GCFG_WIDTH, 2, 0, 0), (R.DR_GCFG_GRAIN_EXP, 4, 0, 0), (R.DR_GCFG_CAP_GIB, 128, 0, 0),
   (R.DR_SCR_LEN_SCR_LEN, 4, 0, 0), (R.DR_SCR_CTL_ACTIVE, 1, 0, 0), (R.DR_STS_CSTATE, 3, 0, 0)]), by decide +kernel⟩,
   ⟨0, 1,
   { (setFs sv [(R.DR_GCFG_WIDTH, 2, 0, 0), (R.DR_GCFG_GRAIN_EXP, 4, 0, 0), (R.DR_GCFG_CAP_GIB, 128, 0, 0), (R.DR_SCR_LEN_SCR_LEN, 4, 0, 0), (R.DR_SCR_CTL_ACTIVE, 1, 0, 0), (R.DR_STS_CSTATE, 3, 0, 0)]) with dram := { scrPos := 1, scrEnd := 4 } },
   by decide +kernel⟩,
   ⟨(setFs (inMode .rebuild) [(R.DR_GCFG_WIDTH, 2, 0, 0), (R.DR_GCFG_GRAIN_EXP, 4, 0, 0), (R.DR_GCFG_CAP_GIB, 128, 0, 0),
   (R.DR_STS_CSTATE, 3, 0, 0), (R.DR_STS_CSTATE, 3, 1, 0), (R.DR_STS_CSTATE, 3, 2, 0), (R.DR_STS_CSTATE, 3, 3, 0)]), by
   decide +kernel⟩⟩

theorem witness_DramLineBuffer :
    (∃ (c a x : Nat) (s : State), s.mode ≠ .off ∧ x = s.f R.DR_LB_ADDR_LINE * 128 ∧ s.dramAt x = (c, a) ∧ x < s.dramCap ∧
    (s.mode = .trial ∨ s.inTest x = true) ∧ s.cstate c = 3 ∧ (∀ w ∈ (s.chan c).queue, w.req.line ≠ a)) ∧
    (∃ (c a x : Nat) (s : State), s.mode ≠ .off ∧ x = s.f R.DR_LB_ADDR_LINE * 128 ∧ s.dramAt x = (c, a) ∧ x < s.dramCap ∧
    (s.mode = .trial ∨ s.inTest x = true) ∧ s.cstate c = 3 ∧ (∀ w ∈ (s.chan c).queue, w.req.line ≠ a) ∧ s.validAt (s.dramAddr
    c a) = true) ∧
    (∃ (i : Instr) (s : State), i ∈ [Instr.lbRawRead, .lbRawWrite, .lbDataOnlyWrite, .lbCheckOnlyWrite, .lbPoisonWrite,
    .lbCorrectedRead] ∧ s.mode ≠ .off ∧ s.mode ≠ .trial ∧ s.inTest (s.f R.DR_LB_ADDR_LINE * 128) = false) ∧
    (∃ (i : Instr) (k c a x : Nat) (s : State), (i, k) ∈ [(Instr.lbRawRead, 1), (.lbRawWrite, 2), (.lbDataOnlyWrite, 3),
    (.lbCheckOnlyWrite, 4), (.lbPoisonWrite, 5), (.lbCorrectedRead, 6)] ∧ s.mode ≠ .off ∧ x = s.f R.DR_LB_ADDR_LINE * 128 ∧
    s.dramAt x = (c, a) ∧ x < s.dramCap ∧ (s.mode = .trial ∨ s.inTest x = true) ∧ s.cstate c ≠ 3) ∧
    (∃ (ch a d : Nat) (s : State), ch < 4 ∧ s.cstate ch = 4 ∧ s.dram.held = [⟨ch, 2, a, d⟩]) :=
  ⟨⟨0, 0, 0, (setFs (inMode .trial) [(R.DR_GCFG_WIDTH, 2, 0, 0), (R.DR_GCFG_GRAIN_EXP, 4, 0, 0), (R.DR_GCFG_CAP_GIB, 128, 0,
   0), (R.DR_STS_CSTATE, 3, 0, 0)]), by decide +kernel⟩,
   ⟨0, 0, 0,
   { (setFs (inMode .trial) [(R.DR_GCFG_WIDTH, 2, 0, 0), (R.DR_GCFG_GRAIN_EXP, 4, 0, 0), (R.DR_GCFG_CAP_GIB, 128, 0, 0), (R.DR_STS_CSTATE, 3, 0, 0)]) with dram := { valid := [(0, true)] } },
   by decide +kernel⟩,
   ⟨.lbRawWrite, (setFs sv [(R.DR_GCFG_WIDTH, 2, 0, 0), (R.DR_GCFG_GRAIN_EXP, 4, 0, 0), (R.DR_GCFG_CAP_GIB, 128, 0, 0),
   (R.DR_STS_CSTATE, 3, 3, 0)]), by decide +kernel⟩,
   ⟨.lbPoisonWrite, 5, 0, 0, 0, (setFs (inMode .trial) [(R.DR_GCFG_WIDTH, 2, 0, 0), (R.DR_GCFG_GRAIN_EXP, 4, 0, 0),
   (R.DR_GCFG_CAP_GIB, 128, 0, 0)]), by decide +kernel⟩,
   ⟨3, 5, 7,
   { (setFs sv [(R.DR_GCFG_WIDTH, 2, 0, 0), (R.DR_GCFG_GRAIN_EXP, 4, 0, 0), (R.DR_GCFG_CAP_GIB, 128, 0, 0), (R.DR_STS_CSTATE, 4, 3, 0)]) with dram := { held := [⟨3, 2, 5, 7⟩] } },
   by decide +kernel⟩⟩

theorem witness_ProgramsAndErases :
    (∃ (c k : Nat) (j : Job) (s : State), s.assignShells.pickProgram c k = some j ∧ c < 64 ∧ k < 32 ∧
    s.assignShells.progReady c k = true ∧ s.assignShells.budgetOk c k = false) ∧
    (∃ (c k : Nat) (j : Job) (s : State), s.assignShells.pickProgram c k = some j ∧ c < 64 ∧ k < 32 ∧
    s.assignShells.progReady c k = true ∧ s.assignShells.budgetOk c k = true ∧ s.assignShells.goesFirst c k (some j) = true) ∧
    (∃ (c k : Nat) (j : Job) (s : State), s.assignShells.pickProgram c k = some j ∧ c < 64 ∧ k < 32 ∧
    s.assignShells.progReady c k = true ∧ s.assignShells.budgetOk c k = true ∧ s.assignShells.goesFirst c k (some j) = false
    ∧ (j.row = 0 ∨ bit (s.assignShells.media.flash.get (flashKey (j.shell - 1) (j.row - 1))).done k = true) ∧ bit
    (s.assignShells.media.flash.get (flashKey (j.shell - 1) j.row)).done k = false) ∧
    (∃ (c k : Nat) (j : Job) (s : State), s.assignShells.pickProgram c k = some j ∧ c < 64 ∧ k < 32 ∧
    s.assignShells.progReady c k = true ∧ s.assignShells.budgetOk c k = true ∧ s.assignShells.goesFirst c k (some j) = false
    ∧ bit (s.assignShells.media.flash.get (flashKey (j.shell - 1) j.row)).done k = true) ∧
    (∃ (c k x : Nat) (s : State), s.nextErase c = some x ∧ c < 64 ∧ k < 32 ∧ bit (s.shell x).erased k = false ∧ (s.shell
    x).relSeq ≤ s.media.seqFlash ∧ s.readsShell x = false ∧ s.eraseWanted c x = true ∧ s.progReady c k = true ∧ s.pickProgram
    c k = none ∧ (s.ledgerAt c k (x % 8192)).grown = false ∧ (s.shell x).st = 4 ∧ s.budgetOk c k = true ∧ s.goesFirst c k
    none = true) ∧
    (∃ (c k x : Nat) (s : State), s.nextErase c = some x ∧ c < 64 ∧ k < 32 ∧ bit (s.shell x).erased k = false ∧ (s.shell
    x).relSeq ≤ s.media.seqFlash ∧ s.readsShell x = false ∧ s.eraseWanted c x = true ∧ s.progReady c k = true ∧ s.pickProgram
    c k = none ∧ (s.ledgerAt c k (x % 8192)).grown = false ∧ (s.shell x).st = 4 ∧ s.budgetOk c k = true ∧ s.goesFirst c k
    none = false) ∧
    (∃ (c k x : Nat) (s : State), s.nextErase c = some x ∧ c < 64 ∧ k < 32 ∧ bit (s.shell x).erased k = false ∧ (s.shell
    x).relSeq ≤ s.media.seqFlash ∧ s.readsShell x = false ∧ s.eraseWanted c x = true ∧ s.progReady c k = true ∧ s.pickProgram
    c k = none ∧ (s.ledgerAt c k (x % 8192)).grown = false ∧ (s.shell x).st = 4 ∧ s.budgetOk c k = false) :=
  ⟨⟨0, 0, { id := 1, shell := 2, row := 0, units := 4, todo := 1 },
   { (setFs sv [(R.LN_STS_LSTATE, 2, 0, 0), (R.PW_DIE_DIE_BUDGET, 0, 0, 0), (R.SH_CREW_BUSY_BUDGET, 1, 0, 0)]) with flash := { dies := [(0, { present := true, matched := true })] }, media := { jobs := [{ id := 1, shell := 2, row := 0, units := 4, todo := 1 }] } },
   by decide +kernel⟩,
   ⟨0, 0, { id := 2, shell := 2, units := 4, todo := 1 },
   { (setFs sv [(R.LN_STS_LSTATE, 2, 0, 0), (R.LN_STS_LSTATE, 2, 1, 0), (R.PW_DIE_DIE_BUDGET, 256, 0, 0), (R.SH_CREW_BUSY_BUDGET, 1, 0, 0)]) with flash := { dies := [(0, { present := true, matched := true }), (64, { present := true, matched := true })] }, media := { jobs := [{ id := 1, shell := 3, units := 4, todo := 2 }, { id := 2, shell := 2, units := 4, todo := 1 }] } },
   by decide +kernel⟩,
   ⟨0, 0, { id := 1, shell := 2, row := 0, units := 4, todo := 1 },
   { (setFs sv [(R.LN_STS_LSTATE, 2, 0, 0), (R.PW_DIE_DIE_BUDGET, 256, 0, 0), (R.SH_CREW_BUSY_BUDGET, 1, 0, 0)]) with flash := { dies := [(0, { present := true, matched := true })] }, media := { jobs := [{ id := 1, shell := 2, row := 0, units := 4, todo := 1 }] } },
   by decide +kernel⟩,
   ⟨0, 0, { id := 1, shell := 2, row := 0, units := 4, todo := 1 },
   { (setFs sv [(R.LN_STS_LSTATE, 2, 0, 0), (R.PW_DIE_DIE_BUDGET, 256, 0, 0), (R.SH_CREW_BUSY_BUDGET, 1, 0, 0)]) with flash := { dies := [(0, { present := true, matched := true })] }, media := { jobs := [{ id := 1, shell := 2, row := 0, units := 4, todo := 1 }], flash := [(1024, { done := 1 })] } },
   by decide +kernel⟩,
   ⟨0, 0, 1,
   { (setFs sv [(R.LN_STS_LSTATE, 2, 0, 0), (R.LN_STS_LSTATE, 2, 1, 0), (R.PW_DIE_DIE_BUDGET, 256, 0, 0), (R.SH_CREW_BUSY_BUDGET, 1, 0, 0)]) with flash := { dies := [(0, { present := true, matched := true }), (64, { present := true, matched := true })] }, media := { jobs := [{ id := 1, shell := 3, units := 4, todo := 2 }] }, per := { per0 with shells := [(1, { st := 4 })], logShells := [1] } },
   by decide +kernel⟩,
   ⟨0, 0, 1,
   { (setFs sv [(R.LN_STS_LSTATE, 2, 0, 0), (R.PW_DIE_DIE_BUDGET, 256, 0, 0), (R.SH_CREW_BUSY_BUDGET, 1, 0, 0)]) with flash := { dies := [(0, { present := true, matched := true })] }, per := { per0 with shells := [(1, { st := 4 })], logShells := [1] } },
   by decide +kernel⟩,
   ⟨0, 0, 1,
   { (setFs sv [(R.LN_STS_LSTATE, 2, 0, 0), (R.PW_DIE_DIE_BUDGET, 0, 0, 0), (R.SH_CREW_BUSY_BUDGET, 1, 0, 0)]) with flash := { dies := [(0, { present := true, matched := true })] }, per := { per0 with shells := [(1, { st := 4 })], logShells := [1] } },
   by decide +kernel⟩⟩

theorem witness_MediaTimers :
    (∃ (z : Nat) (s : State), s.mediaRuns = true ∧ s.partialRows z ≠ []) ∧
    (∃ (x : Nat) (s : State), s.mediaRuns = true ∧ s.media.tail ≠ [] ∧ s.logShell = some x) ∧
    (∃ (s t : State), (s.mode = .rebuild ∨ s.mode = .service ∨ s.mode = .readOnly) ∧ s.clk.stopped = false ∧ s.cpUp = true ∧
    s.relocActive < s.f R.MD_RELOC_RELOC_MAX ∧ ((s.media.relocs.keysWhere fun _ r => r.alive && !r.started).foldr
    s.relocInsert []).findSome? s.relocTry = some t) ∧
    (∃ (s : State), (s.mode = .service ∨ s.mode = .readOnly) ∧ s.clk.stopped = false ∧ s.per.tallyShells ≠ [] ∧
    s.media.jobs.any (fun j => j.kind == .tally) = false ∧ s.cpUp = true ∧ s.media.tallyFree ≤ s.clk.tb) ∧
    (∃ (s : State), (s.mode = .discovery ∨ s.mode = .rebuild ∨ s.mode = .feathered)) ∧
    (∃ (s : State), (s.mode = .service ∨ s.mode = .readOnly)) ∧
    (∃ (s : State), (s.mode = .rebuild ∨ s.mode = .service ∨ s.mode = .readOnly ∨ s.mode = .sanitize)) :=
  ⟨⟨0, { sv with per := { per0 with logShells := [7] }, media := { stage := [{ stream := 0 }] } }, by decide +kernel⟩,
   ⟨7, { sv with per := { per0 with logShells := [7] }, media := { tail := [{ seq := 1 }] } }, by decide +kernel⟩,
   ⟨sR, (((sR.media.relocs.keysWhere fun _ r => r.alive && !r.started).foldr sR.relocInsert []).findSome? sR.relocTry).getD
   sv, by decide +kernel⟩,
   ⟨{ sv with per := { per0 with tallyShells := [9] }, media := {  } }, by decide +kernel⟩,
   ⟨(inMode .feathered), by decide +kernel⟩,
   ⟨sv, by decide +kernel⟩,
   ⟨(inMode .sanitize), by decide +kernel⟩⟩

theorem witness_RecipesRun :
    (∃ (c k slot : Nat) (o : RecipeOp) (s : State), s.recipe c k slot = some o) ∧
    (∃ (l c : Nat) (r : Run) (s : State), l < 32 ∧ c < 64 ∧ (s.die c l).run = some r ∧ s.lstate l = 2 ∧ s.gated c l r = false
    ∧ s.busFirst l c r = true ∧ r.phase = 0 ∧ s.grantHeld l (opState (s.runOp c l r) r.pc).1 = false ∧ (opState (s.runOp c l
    r) r.pc).1 % 256 ∉ [4, 6, 9]) ∧
    (∃ (l c d : Nat) (r : Run) (s : State), l < 32 ∧ c < 64 ∧ (s.die c l).run = some r ∧ s.lstate l = 2 ∧ s.gated c l r =
    false ∧ s.busFirst l c r = true ∧ r.phase = 0 ∧ s.grantHeld l (opState (s.runOp c l r) r.pc).1 = false ∧ (opState
    (s.runOp c l r) r.pc).1 % 256 = 6 ∧ bit d 6 = false ∧ s.overTime c l r = false) ∧
    (∃ (l c d : Nat) (r : Run) (s : State), l < 32 ∧ c < 64 ∧ (s.die c l).run = some r ∧ s.lstate l = 2 ∧ s.gated c l r =
    false ∧ s.busFirst l c r = true ∧ r.phase = 0 ∧ s.grantHeld l (opState (s.runOp c l r) r.pc).1 = false ∧ (opState
    (s.runOp c l r) r.pc).1 % 256 = 6 ∧ bit d 6 = true) ∧
    (∃ (l c : Nat) (r : Run) (s : State), l < 32 ∧ c < 64 ∧ (s.die c l).run = some r ∧ s.lstate l = 2 ∧ s.gated c l r = false
    ∧ s.busFirst l c r = true ∧ r.phase = 0 ∧ s.grantHeld l (opState (s.runOp c l r) r.pc).1 = false ∧ (opState (s.runOp c l
    r) r.pc).1 % 256 = 4) ∧
    (∃ (l c : Nat) (r : Run) (s : State), l < 32 ∧ c < 64 ∧ s.lstate l = 2 ∧ (s.die c l).run = some r ∧ s.gated c l r = true
    ∧ (∀ (e : Nat) (q : Run), e < 64 → e ≠ c → (s.die e l).run = some q → s.gated e l q = true → r.tWait < q.tWait ∨ r.tWait
    = q.tWait ∧ c < e) ∧ s.slotOpen l = true ∧ s.busFirst l c r = true) ∧
    (∃ (l c : Nat) (r : Run) (s : State), (s.die c l).run = some r ∧ r.phase = 1) ∧
    (∃ (l c : Nat) (b : Byte) (r : Run) (s : State), (s.die c l).run = some r ∧ r.phase = 2 ∧ s.lstate l ≠ 4 ∧ bit b.toNat 6
    = true) ∧
    (∃ (l c : Nat) (r : Run) (s : State), (s.die c l).run = some r ∧ r.phase = 2 ∧ s.lstate l = 4) ∧
    (∃ (l c id : Nat) (r : Run) (s : State), (s.die c l).run = some r ∧ r.phase = 3 ∧ r.res ≠ 3 ∧ r.failed = none ∧ r.serves
    = .program id) ∧
    (∃ (l c : Nat) (r : Run) (s : State), (s.die c l).run = some r ∧ r.phase = 3 ∧ r.res = 3 ∧ r.failed = none) ∧
    (∃ (l c : Nat) (s : State), (s.die c l).easy = true) :=
  ⟨⟨0, 0, 3, { slot := 3, tMax := 100, states := [(6, 0)] },
   { (setFs (inMode .service) [(R.CK_SEL_SELECTED, 0, 0, 0), (R.LN_STS_LSTATE, 2, 0, 0)]) with flash := { dies := [(0, { present := true, matched := true, run := some { slot := 3 } })] }, boot := { image := { recipes := [{ ops := [{ slot := 3, tMax := 100, states := [(6, 0)] }] }] } } },
   by decide +kernel⟩,
   ⟨0, 0, { slot := 3 },
   { (setFs (inMode .service) [(R.CK_SEL_SELECTED, 0, 0, 0), (R.LN_STS_LSTATE, 2, 0, 0)]) with flash := { dies := [(0, { present := true, matched := true, run := some { slot := 3 } })] }, boot := { image := { recipes := [{ ops := [{ slot := 3, tMax := 100, states := [(1, 0)] }] }] } } },
   by decide +kernel⟩,
   ⟨31, 63, 0, { slot := 3 },
   { (setFs (inMode .service) [(R.CK_SEL_SELECTED, 0, 0, 0), (R.LN_STS_LSTATE, 2, 31, 0)]) with flash := { dies := [(2047, { present := true, matched := true, run := some { slot := 3 } })] }, boot := { image := { recipes := [{ ops := [{ slot := 3, tMax := 100, states := [(6, 0)] }] }] } } },
   by decide +kernel⟩,
   ⟨0, 0, 64, { slot := 3 },
   { (setFs (inMode .service) [(R.CK_SEL_SELECTED, 0, 0, 0), (R.LN_STS_LSTATE, 2, 0, 0)]) with flash := { dies := [(0, { present := true, matched := true, run := some { slot := 3 } })] }, boot := { image := { recipes := [{ ops := [{ slot := 3, tMax := 100, states := [(6, 0)] }] }] } } },
   by decide +kernel⟩,
   ⟨0, 0, { slot := 3 },
   { (setFs (inMode .service) [(R.CK_SEL_SELECTED, 0, 0, 0), (R.LN_STS_LSTATE, 2, 0, 0)]) with flash := { dies := [(0, { present := true, matched := true, run := some { slot := 3 } })] }, boot := { image := { recipes := [{ ops := [{ slot := 3, tMax := 100, states := [(4, 0)] }] }] } } },
   by decide +kernel⟩,
   ⟨0, 0, { slot := 3 },
   { (setFs (inMode .service) [(R.CK_SEL_SELECTED, 0, 0, 0), (R.LN_STS_LSTATE, 2, 0, 0), (R.LN_STROKE_SLOT_LEN, 64, 0, 0)]) with flash := { dies := [(0, { present := true, matched := true, run := some { slot := 3 } })] }, boot := { image := { recipes := [{ ops := [{ slot := 3, tMax := 100, states := [(0x10001, 0)] }] }] } } },
   by decide +kernel, by decide +kernel, by decide +kernel, by decide +kernel, by decide +kernel, oneRun _ _ _ _ (by
   decide +kernel), by decide +kernel, by decide +kernel⟩,
   ⟨0, 0, { slot := 3, phase := 1 },
   { (setFs (inMode .service) [(R.CK_SEL_SELECTED, 0, 0, 0), (R.LN_STS_LSTATE, 2, 0, 0)]) with flash := { dies := [(0, { present := true, matched := true, run := some { slot := 3, phase := 1 } })] }, boot := { image := { recipes := [{ ops := [{ slot := 3, tMax := 100, states := [(5, 0)] }] }] } } },
   by decide +kernel⟩,
   ⟨0, 0, 64, { slot := 3, phase := 2 },
   { (setFs (inMode .service) [(R.CK_SEL_SELECTED, 0, 0, 0), (R.LN_STS_LSTATE, 2, 0, 0)]) with flash := { dies := [(0, { present := true, matched := true, run := some { slot := 3, phase := 2 } })] }, boot := { image := { recipes := [{ ops := [{ slot := 3, tMax := 100, states := [(6, 0)] }] }] } } },
   by decide +kernel⟩,
   ⟨0, 0, { slot := 3, phase := 2 },
   { (setFs (inMode .service) [(R.CK_SEL_SELECTED, 0, 0, 0), (R.LN_STS_LSTATE, 4, 0, 0)]) with flash := { dies := [(0, { present := true, matched := true, run := some { slot := 3, phase := 2 } })] }, boot := { image := { recipes := [{ ops := [{ slot := 3, tMax := 100, states := [(6, 0)] }] }] } } },
   by decide +kernel⟩,
   ⟨0, 0, 1, { slot := 3, phase := 3, serves := .program 1 },
   { (setFs (inMode .service) [(R.CK_SEL_SELECTED, 0, 0, 0), (R.LN_STS_LSTATE, 2, 0, 0)]) with flash := { dies := [(0, { present := true, matched := true, run := some { slot := 3, phase := 3, serves := .program 1 } })] }, boot := { image := { recipes := [{ ops := [{ slot := 3, tMax := 100, states := [(6, 0)] }] }] } } },
   by decide +kernel⟩,
   ⟨0, 0, { slot := 3, phase := 3, res := 3 },
   { (setFs (inMode .service) [(R.CK_SEL_SELECTED, 0, 0, 0), (R.LN_STS_LSTATE, 2, 0, 0)]) with flash := { dies := [(0, { present := true, matched := true, run := some { slot := 3, phase := 3, res := 3 } })] }, boot := { image := { recipes := [{ ops := [{ slot := 3, tMax := 100, states := [(6, 0)] }] }] } } },
   by decide +kernel⟩,
   ⟨0, 0, { sv with flash := { dies := [(0, { easy := true })] } }, by decide +kernel⟩⟩

theorem witness_CodewordsDecode :
    (∃ (l n : Nat) (s : State), (s.cw n).alive = true ∧ (s.cw n).phase = 2 ∧ (s.cw n).seat = l) ∧
    (∃ (l n k : Nat) (s u0 : State), u0 = s.crcRejects l n k ∧ (s.cw n).alive = true ∧ (s.cw n).phase = 2 ∧ (s.cw n).seat = l
    ∧ (s.cw n).step < 16 ∧ (s.cw n).step + 1 < (s.cw n).count ∧ u0.joins n { s.cw n with phase := 0 } = false) ∧
    (∃ (l n k : Nat) (s u0 : State), u0 = s.crcRejects l n k ∧ (s.cw n).alive = true ∧ (s.cw n).phase = 2 ∧ (s.cw n).seat = l
    ∧ (s.cw n).step < 16 ∧ (s.cw n).count ≤ (s.cw n).step + 1 ∧ s.on R.DC_CFG_SOFT_EN l = true ∧ u0.joins n
    { s.cw n with phase := 0 } = false) ∧
    (∃ (l n k : Nat) (s u0 : State), u0 = s.crcRejects l n k ∧ (s.cw n).alive = true ∧ (s.cw n).phase = 2 ∧ (s.cw n).seat = l
    ∧ (s.cw n).step = 16 ∧ u0.joins n { s.cw n with phase := 0 } = false) ∧
    (∃ (l n k : Nat) (s u0 : State), u0 = s.crcRejects l n k ∧ (s.cw n).alive = true ∧ (s.cw n).phase = 2 ∧ (s.cw n).seat = l
    ∧ u0.joins n { s.cw n with phase := 0 } = true) ∧
    (∃ (n : Nat) (s : State), (s.cw n).alive = true ∧ (s.cw n).phase = 4) ∧
    (∃ (x r k p : Nat) (s : State), (s.mode = .service ∨ s.mode = .readOnly) ∧ s.cpUp = true ∧ s.patrols x = true ∧ r <
    (s.shell x).rows ∧ s.lostUnit x k = false ∧ k < 32 ∧ p < seatUnits (s.shell x).slc / 4) :=
  ⟨⟨0, 4, { sv with flash := { cws := [(4, { alive := true, phase := 2 })] } }, by decide +kernel⟩,
   ⟨0, 4, 2, { sv with flash := { cws := [(4, { alive := true, phase := 2, count := 2 })] } },
   ({ sv with flash := { cws := [(4, { alive := true, phase := 2, count := 2 })] } }).crcRejects 0 4 2, by decide +kernel⟩,
   ⟨0, 4, 2, { (setFs sv [(R.DC_CFG_SOFT_EN, 1, 0, 0)]) with flash := { cws := [(4, { alive := true, phase := 2 })] } },
   ({ (setFs sv [(R.DC_CFG_SOFT_EN, 1, 0, 0)]) with flash := { cws := [(4, { alive := true, phase := 2 })] } }).crcRejects 0
   4 2, by decide +kernel⟩,
   ⟨0, 4, 2, { sv with flash := { cws := [(4, { alive := true, phase := 2, step := 16 })] } },
   ({ sv with flash := { cws := [(4, { alive := true, phase := 2, step := 16 })] } }).crcRejects 0 4 2, by decide +kernel⟩,
   ⟨0, 4, 2,
   { sv with flash := { cws := [(4, { alive := true, phase := 2 }), (5, { alive := true, phase := 1, step := 1 })] } },
   ({ sv with flash := { cws := [(4, { alive := true, phase := 2 }), (5, { alive := true, phase := 1, step := 1 })] } }).crcRejects
   0 4 2, by decide +kernel⟩,
   ⟨4, { sv with flash := { cws := [(4, { alive := true, phase := 4 })] } }, by decide +kernel⟩,
   ⟨9, 2, 31, 15, { sv with per := { per0 with shells := [(9, { st := 3, kind := 4, rows := 3 })] } }, by decide +kernel⟩⟩

theorem witness_LanesRetrain :
    (∃ (l : Nat) (i : Instr) (s : State), l < 32 ∧ s.mode ≠ .off ∧ s.lstate l = 2 ∧ s.retrainRefused l = false ∧ s.on
    R.LN_RT_STS_ACTIVE l = false ∧ (i = .lnRetrain l ∨ i = .retrainAgeTimer l ∧ s.on R.LN_CFG_AUTO_RT l = true ∨ i =
    .retrainRecheckTimer l ∧ s.on R.LN_RT_STS_PENDING l = true)) ∧
    (∃ (l : Nat) (s : State), l < 32 ∧ s.mode ≠ .off ∧ s.lstate l = 2 ∧ s.retrainRefused l = true ∧ s.on R.LN_RT_STS_ACTIVE l
    = false) ∧
    (∃ (l : Nat) (s : State), l < 32 ∧ s.mode ≠ .off ∧ s.lstate l = 2 ∧ s.retrainRefused l = true ∧ s.on R.LN_RT_STS_ACTIVE l
    = false ∧ s.on R.LN_CFG_AUTO_RT l = true) ∧
    (∃ (l : Nat) (s : State), l < 32 ∧ s.lstate l = 3) ∧
    (∃ (l : Nat) (s : State), l < 32 ∧ s.lstate l = 4 ∧ (∀ c, c < 64 → ∀ r, (s.die c l).run = some r → r.phase ≠ 4)) ∧
    (∃ (l : Nat) (s : State), l < 32 ∧ s.lstate l = 4 ∧ (s.lane l).attempts < 2) ∧
    (∃ (l : Nat) (s : State), l < 32 ∧ s.lstate l = 4 ∧ 2 ≤ (s.lane l).attempts ∧ (∀ c, c < 64 → (s.die c l).matched =
    false)) :=
  ⟨⟨31, .lnRetrain 31, (setFs sv [(R.LN_STS_LSTATE, 2, 31, 0)]), by decide +kernel⟩,
   ⟨31, (setFs sv [(R.LN_STS_LSTATE, 2, 31, 0), (R.LN_RT_STS_ACTIVE, 1, 4, 0)]), by decide +kernel⟩,
   ⟨31, (setFs sv [(R.LN_STS_LSTATE, 2, 31, 0), (R.LN_RT_STS_ACTIVE, 1, 4, 0), (R.LN_CFG_AUTO_RT, 1, 31, 0)]), by
   decide +kernel⟩,
   ⟨31, (setFs sv [(R.LN_STS_LSTATE, 3, 31, 0)]), by decide +kernel⟩,
   ⟨31, (setFs sv [(R.LN_STS_LSTATE, 4, 31, 0)]), by decide +kernel, by decide +kernel, noRun _ _ (by decide +kernel)⟩,
   ⟨31, (setFs sv [(R.LN_STS_LSTATE, 4, 31, 0)]), by decide +kernel⟩,
   ⟨31, { (setFs sv [(R.LN_STS_LSTATE, 4, 31, 0)]) with flash := { lanes := [(31, { attempts := 2 })] } }, by decide +kernel⟩⟩

theorem witness_LaneControls :
    (∃ (l g : Nat) (s : State), l < 32 ∧ s.lstate l ∈ [2, 3, 4] ∧ s.on R.LN_STS_PACER l = false ∧ g = max (max (s.f
    R.LN_CFG_DIV_TARGET l) (s.f R.LN_STS_DIV_MIN l)) s.pwr.divFloor ∧ s.f R.LN_STS_DIV_CUR l ≠ g) ∧
    (∃ (l c : Nat) (b : RecipeSet) (s : State), l < 32 ∧ s.lstate l = 2 ∧ s.tempDie l = some c ∧ s.boot.image.recipes[(s.die
    c l).set]? = some b ∧ s.on R.LN_CFG_AUTO_RT l = false) ∧
    (∃ (v : Word) (c k : Nat) (s : State), s.mode ≠ .off ∧ c = bitsOf v.toNat 0 6 ∧ k = bitsOf v.toNat 8 5 ∧ bit v.toNat 16 =
    true ∧ s.on R.SH_FORCE_EN = false ∧ (s.crew c).st = 2 ∧ (∀ l, l < 32 → s.on R.LN_RT_STS_ACTIVE l = false) ∧
    s.retrainRefused k = false) ∧
    (∃ (v : Word) (c k : Nat) (s : State), s.mode ≠ .off ∧ c = bitsOf v.toNat 0 6 ∧ k = bitsOf v.toNat 8 5 ∧ bit v.toNat 16 =
    true ∧ s.on R.SH_FORCE_EN = false ∧ (s.crew c).st ≠ 2) ∧
    (∃ (v : Word) (s : State), s.mode ≠ .off ∧ bit v.toNat 16 = false) ∧
    (∃ (c v : Nat) (s : State), s.mode ≠ .off ∧ c < 64 ∧ (v = 1 ∨ v = 2 ∧ s.fmt c = 3)) ∧
    (∃ (c v : Nat) (s : State), s.mode ≠ .off ∧ c < 64 ∧ (¬ (v = 1 ∨ v = 2 ∧ s.fmt c = 3))) ∧
    (∃ (l : Nat) (s : State), l < 32 ∧ s.mode = .trial ∧ s.on R.DC_ST_STS_ACTIVE l = false) ∧
    (∃ (l : Nat) (s : State), l < 32 ∧ s.mode ≠ .off ∧ s.mode ≠ .trial) ∧
    (∃ (l f m n : Nat) (s : State), l < 32 ∧ s.on R.DC_ST_STS_ACTIVE l = true ∧ m = ((s.lane l).selftest[4]?).getD 1 ∧ n =
    min m (Config.selftestFails (s.lane l).selftest % (m + 1) + f)) :=
  ⟨⟨31, 16, (setFs sv [(R.LN_STS_LSTATE, 2, 31, 0), (R.LN_STS_DIV_CUR, 20, 31, 0), (R.LN_CFG_DIV_TARGET, 16, 31, 0)]), by
   decide +kernel⟩,
   ⟨0, 0, { tempOff := 5, tempGain := 16, ops := [{ slot := 7 }] },
   { (setFs sv [(R.LN_STS_LSTATE, 2, 0, 0), (R.LN_CFG_AUTO_RT, 0, 0, 0)]) with boot := { image := { recipes := [{ tempOff := 5, tempGain := 16, ops := [{ slot := 7 }] }] } }, flash := { dies := [(0, { matched := true })] } },
   by decide +kernel⟩,
   ⟨0x11F00, 0, 31, sv, by decide +kernel⟩,
   ⟨0x11F01, 1, 31, sv, by decide +kernel⟩,
   ⟨0, sv, by decide +kernel⟩,
   ⟨0, 2, sv, by decide +kernel⟩,
   ⟨63, 2, sv, by decide +kernel⟩,
   ⟨31, (inMode .trial), by decide +kernel⟩,
   ⟨31, sv, by decide +kernel⟩,
   ⟨31, 2, 1, min 1 (Config.selftestFails [] % (1 + 1) + 2), (setFs sv [(R.DC_ST_STS_ACTIVE, 1, 31, 0)]), by decide +kernel,
   by decide +kernel, by decide +kernel, rfl⟩⟩

theorem witness_BootstrapSteps :
    (∃ (s : State), s.bootWaits = true ∧ s.live 0 = false ∧ s.live 1 = false) ∧
    (∃ (s : State), s.bootWaits = true ∧ s.live 0 = false ∧ s.live 1 = false) ∧
    (∃ (s : State), s.bootWaits = true ∧ (s.live 0 = true ∨ s.live 1 = true) ∧ s.boot.revokePend = false) ∧
    (∃ (a : SignedFacts) (s : State), s.mode = .bootstrap ∧ s.f R.BT_STS_STEP = 6 ∧ (s.live 0 = true ∨ s.live 1 = true) ∧
    s.boot.revokePend = false ∧ s.boot.trialPend = false ∧ s.life ≠ 0 ∧ s.f R.BT_STS_PREFER = 0 ∧ s.imageOk a = true) ∧
    (∃ (a b : SignedFacts) (s : State), s.mode = .bootstrap ∧ s.f R.BT_STS_STEP = 6 ∧ (s.live 0 = true ∨ s.live 1 = true) ∧
    s.boot.revokePend = false ∧ s.f R.BT_STS_PREFER = 0 ∧ s.imageOk a = false ∧ s.imageOk b = false) ∧
    (∃ (x y : IdolobCopy) (s : State), s.mode = .bootstrap ∧ s.f R.BT_STS_STEP = 8 ∧ (s.live 0 = true ∨ s.live 1 = true) ∧
    s.boot.revokePend = false ∧ y.gen ≤ x.gen ∧ s.copyOk x = true) ∧
    (∃ (x y : IdolobCopy) (s : State), s.mode = .bootstrap ∧ s.f R.BT_STS_STEP = 8 ∧ (s.live 0 = true ∨ s.live 1 = true) ∧
    s.boot.revokePend = false ∧ x.gen < y.gen ∧ s.copyOk y = true) ∧
    (∃ (x y : IdolobCopy) (s : State), s.mode = .bootstrap ∧ s.f R.BT_STS_STEP = 8 ∧ (s.live 0 = true ∨ s.live 1 = true) ∧
    s.boot.revokePend = false ∧ s.copyOk x = false ∧ s.copyOk y = false) ∧
    (∃ (k : Nat) (s : State), s.mode = .bootstrap ∧ k < 8) ∧
    (∃ (f : SignedFacts) (b : Nat) (s : State), s.boot.otherPending = true ∧ (s.mode = .discovery ∨ s.mode = .service) ∧ s.f
    R.BT_STS_BANK_BOOTED ≤ 1 ∧ b = 1 - s.f R.BT_STS_BANK_BOOTED ∧ s.imageOk f = true) ∧
    (∃ (f : SignedFacts) (b : Nat) (s : State), s.boot.otherPending = true ∧ (s.mode = .discovery ∨ s.mode = .service) ∧ s.f
    R.BT_STS_BANK_BOOTED ≤ 1 ∧ b = 1 - s.f R.BT_STS_BANK_BOOTED ∧ s.imageOk f = false) :=
  ⟨⟨(inMode .bootstrap), by decide +kernel⟩,
   ⟨(inMode .bootstrap), by decide +kernel⟩,
   ⟨{ (inMode .bootstrap) with clk := { qual := 1 } }, by decide +kernel⟩,
   ⟨{ marker := 0x53465701, rsaOk := true, slhOk := true, bodyOk := true, svn := 3 },
   { (setFs (inMode .bootstrap) [(R.BT_STS_STEP, 6, 0, 0)]) with clk := { qual := 1 } }, by decide +kernel⟩,
   ⟨{}, {}, { (setFs (inMode .bootstrap) [(R.BT_STS_STEP, 6, 0, 0)]) with clk := { qual := 1 } }, by decide +kernel⟩,
   ⟨{ cert := { marker := 0x53465704, rsaOk := true, slhOk := true, bodyOk := true }, header := { marker := 0x53465703, rsaOk := true, slhOk := true, bodyOk := true }, gen := 5, image := goodImage },
   { cert := { marker := 0x53465704, rsaOk := true, slhOk := true, bodyOk := true }, header := { marker := 0x53465703, rsaOk := true, slhOk := true, bodyOk := true }, gen := 5, image := goodImage },
   { (setFs (inMode .bootstrap) [(R.BT_STS_STEP, 8, 0, 0)]) with clk := { qual := 1 } }, by decide +kernel⟩,
   ⟨{ cert := { marker := 0x53465704, rsaOk := true, slhOk := true, bodyOk := true }, header := { marker := 0x53465703, rsaOk := true, slhOk := true, bodyOk := true }, gen := 4, image := goodImage },
   { cert := { marker := 0x53465704, rsaOk := true, slhOk := true, bodyOk := true }, header := { marker := 0x53465703, rsaOk := true, slhOk := true, bodyOk := true }, gen := 5, image := goodImage },
   { (setFs (inMode .bootstrap) [(R.BT_STS_STEP, 8, 0, 0)]) with clk := { qual := 1 } }, by decide +kernel⟩,
   ⟨{}, {}, { (setFs (inMode .bootstrap) [(R.BT_STS_STEP, 8, 0, 0)]) with clk := { qual := 1 } }, by decide +kernel⟩,
   ⟨7, (inMode .bootstrap), by decide +kernel⟩,
   ⟨{ marker := 0x53465701, rsaOk := true, slhOk := true, bodyOk := true }, 1,
   { (inMode .service) with boot := { otherPending := true } }, by decide +kernel⟩,
   ⟨{}, 1, { (inMode .service) with boot := { otherPending := true } }, by decide +kernel⟩⟩

theorem witness_DiscoveryAndRebuildEnd :
    (∃ (s : State), s.mode = .discovery ∧ s.boot.trainFail = false ∧ s.clk.stopped = false ∧ s.boot.clean = false) ∧
    (∃ (s u : State), s.mode = .discovery ∧ s.boot.trainFail = false ∧ s.clk.stopped = false ∧ s.boot.clean = true ∧ u =
    ((s.slicesStart.unwrapKeys.handleOpen.zoneSettleAll false).requeue.requeueShells).loadEnd.spareReport ∧ s.per.san ≠ 2) ∧
    (∃ (bad : List ScanBad) (l : List ScanRow) (s u : State), l = s.scan bad ∧ s.mode = .rebuild ∧ s.clk.stopped = false ∧ u
    = ((((l.foldl State.scanWp (l.foldl State.adopt (s.scanReads l))).requeue.handleOpen.zoneSettleAll
    true).requeueShells).loadEnd.spareReport) ∧ u.per.san ≠ 2 ∧ u.spareOk = true) ∧
    (∃ (bad : List ScanBad) (l : List ScanRow) (s u : State), l = s.scan bad ∧ s.mode = .rebuild ∧ s.clk.stopped = false ∧ u
    = ((((l.foldl State.scanWp (l.foldl State.adopt (s.scanReads l))).requeue.handleOpen.zoneSettleAll
    true).requeueShells).loadEnd.spareReport) ∧ u.per.san ≠ 2 ∧ u.spareOk = false) ∧
    (∃ (t : Nat) (m : Mode) (s : State), canMove s.mode t m = true) :=
  ⟨⟨{ (inMode .discovery) with boot := { clean := false } }, by decide +kernel⟩,
   ⟨(inMode .discovery), (((((inMode .discovery).slicesStart.unwrapKeys.handleOpen.zoneSettleAll
   false).requeue.requeueShells).loadEnd.spareReport)), by decide +kernel, by decide +kernel, by decide +kernel, by
   decide +kernel, rfl, by decide +kernel⟩,
   ⟨[], sG.scan [], sG, (((((State.scan sG []).foldl State.scanWp ((State.scan sG []).foldl State.adopt (State.scanReads sG
   (State.scan sG [])))).requeue.handleOpen.zoneSettleAll true).requeueShells).loadEnd.spareReport), rfl, by decide +kernel,
   by decide +kernel, rfl, by decide +kernel, by decide +kernel⟩,
   ⟨[], State.scan (inMode .rebuild) [], (inMode .rebuild), (((((State.scan (inMode .rebuild) []).foldl State.scanWp
   ((State.scan (inMode .rebuild) []).foldl State.adopt (State.scanReads (inMode .rebuild) (State.scan (inMode .rebuild)
   [])))).requeue.handleOpen.zoneSettleAll true).requeueShells).loadEnd.spareReport), rfl, by decide +kernel, by
   decide +kernel, rfl, by decide +kernel, by decide +kernel⟩,
   ⟨4, .service, (inMode .discovery), by decide +kernel⟩⟩

theorem witness_ModeRequestsAndFaults :
    (∃ (s : State), s.mode = .service ∧ s.mayRest = true ∧ s.boot.image.idleTimeoutS ≠ 0) ∧
    (∃ (s : State), s.mode = .service ∧ s.mayRest = true) ∧
    (∃ (s : State), s.mode = .service ∧ s.mayRest = false) ∧
    (∃ (s : State), s.mode = .bootstrap ∧ s.pwr.porst = false ∧ s.boot.trialPend = true ∧ s.trialAllowed = true) ∧
    (∃ (s : State), s.mode = .trial ∧ s.life ≠ 4 ∧ s.life ≠ 5 ∧ (∀ l, s.linkUp l = false)) ∧
    (∃ (s : State), s.mode = .sealed ∧ s.boot.monitor = true ∧ s.life ≠ 4 ∧ s.life ≠ 5 ∧ (∀ l, s.linkUp l = false)) ∧
    (∃ (s : State), (s.mode = .service ∨ s.mode = .readOnly)) ∧
    (∃ (s : State), (s.mode = .service ∨ s.mode = .readOnly) ∧ s.boot.fwReset = true) ∧
    (∃ (bad : List ScanBad) (i : Instr) (m : List Mode) (s : State), (i, m) ∈ [(Instr.featheredIdleTimeout, [Mode.service]),
    (.featheredRequest, [.service]), (.trialRequest, [.bootstrap]), (.trialExitRequest, [.trial]), (.monitorRestartRequest,
    [.sealed]), (.managerControllerReset, [.service, .readOnly]), (.discoveryDone, [.discovery]), (.rebuildDone bad,
    [.rebuild])] ∧ s.mode ≠ .off ∧ s.mode ∉ m) ∧
    (∃ (i : Instr) (c k : Nat) (s : State), (i = .lockstepMismatch c ∧ k = 0 ∨ i = .watchdogExpiry c ∧ k = 1) ∧ s.mode ≠ .off
    ∧ c < 12 ∧ bit s.cpus.stopped c = false) ∧
    (∃ (s : State), s.mode ≠ .off ∧ 0 < s.cpus.pending ∧ s.cpUp = true) ∧
    (∃ (c n : Nat) (q : Sqe) (e : SramErr) (s u : State), (s.conn c).alive = true ∧ (s.conn c).rdma = false ∧ s.frame (s.conn
    c).link = some u ∧ (s.conn c).tls ≠ 1 ∧ (s.conn c).icDone = true ∧ (s.conn c).connected = false ∧ isConnect q = true ∧ 0
    < e.syms ∧ e.syms ≤ 4 ∧ n = u.cpus.sramHits.get (sramSub e * 512 + e.row) ∧ n < 3) ∧
    (∃ (c n : Nat) (q : Sqe) (e : SramErr) (s u : State), (s.conn c).alive = true ∧ (s.conn c).rdma = false ∧ s.frame (s.conn
    c).link = some u ∧ (s.conn c).tls ≠ 1 ∧ (s.conn c).icDone = true ∧ (s.conn c).connected = false ∧ isConnect q = true ∧ 0
    < e.syms ∧ e.syms ≤ 4 ∧ u.cpus.sramHits.get (sramSub e * 512 + e.row) = 3 ∧ n = u.cpus.sramSpares.get (sramSub e) ∧ n <
    8) ∧
    (∃ (c : Nat) (q : Sqe) (e : SramErr) (s u : State), (s.conn c).alive = true ∧ (s.conn c).rdma = false ∧ s.frame (s.conn
    c).link = some u ∧ (s.conn c).tls ≠ 1 ∧ (s.conn c).icDone = true ∧ (s.conn c).connected = false ∧ isConnect q = true ∧ 4
    < e.syms) ∧
    (∃ (n l : Nat) (b : StBlk) (s : State), (s.per.ns.get n).zoned = false ∧ s.media.stage = [b] ∧ b.vis = true ∧ b.sup =
    false ∧ b.blk.ns = n ∧ b.blk.lba = l) :=
  ⟨⟨{ (inMode .service) with boot := { image := { idleTimeoutS := 10 } }, gov := { loops := [(4097, { mode := 3 })] } }, by
   decide +kernel⟩,
   ⟨{ (inMode .service) with boot := { image := { idleTimeoutS := 10 } }, gov := { loops := [(4097, { mode := 3 })] } }, by
   decide +kernel⟩,
   ⟨{ sv with media := { tail := [{ seq := 1 }] } }, by decide +kernel⟩,
   ⟨{ (inMode .bootstrap) with boot := { trialPend := true, fuses := { lifecycle := 1 } } }, by decide +kernel⟩,
   ⟨(inMode .trial), by decide +kernel, by decide +kernel, by decide +kernel, noUp _ (by decide +kernel)⟩,
   ⟨{ (inMode .sealed) with boot := { monitor := true } }, by decide +kernel, by decide +kernel, by decide +kernel, by
   decide +kernel, noUp _ (by decide +kernel)⟩,
   ⟨sv, by decide +kernel⟩,
   ⟨{ sv with boot := { fwReset := true } }, by decide +kernel⟩,
   ⟨[{}], .trialRequest, [.bootstrap], sv, by decide +kernel⟩,
   ⟨.watchdogExpiry 11, 11, 1, sv, by decide +kernel⟩,
   ⟨{ sv with cpus := { pending := 1 } }, by decide +kernel⟩,
   ⟨2, 2, { opc := 0x7F, fctype := 1 }, { syms := 4 }, { sv with cpus := { sramHits := [(0, 2)] } }, fr
   { sv with cpus := { sramHits := [(0, 2)] } }, by decide +kernel⟩,
   ⟨2, 7, { opc := 0x7F, fctype := 1 }, { syms := 4 }, { sv with cpus := { sramHits := [(0, 3)], sramSpares := [(0, 7)] } },
   fr { sv with cpus := { sramHits := [(0, 3)], sramSpares := [(0, 7)] } }, by decide +kernel⟩,
   ⟨2, { opc := 0x7F, fctype := 1 }, { syms := 5 }, sv, fr sv, by decide +kernel⟩,
   ⟨2, 9, { vis := true, blk := { ns := 2, lba := 9 } },
   { sv with media := { stage := [{ vis := true, blk := { ns := 2, lba := 9 } }] } }, by decide +kernel⟩⟩

theorem witness_TokensTakeEffect :
    (∃ (k : TokenFacts) (s : State), s.tokenPath = true ∧ s.rootVerifies k.sig 0x53465705 = true ∧ k.uid = s.boot.fuses.uid ∧
    k.nonce = s.nonceValue ∧ s.life = 0 ∧ s.mode = .sealed) ∧
    (∃ (k : TokenFacts) (s : State), s.tokenPath = true ∧ s.rootVerifies k.sig 0x53465705 = true ∧ k.uid = s.boot.fuses.uid ∧
    k.nonce = s.nonceValue ∧ s.life = 1) ∧
    (∃ (k : TokenFacts) (s : State), s.tokenPath = true ∧ s.rootVerifies k.sig 0x53465705 = true ∧ k.uid = s.boot.fuses.uid ∧
    k.nonce = s.nonceValue ∧ (s.life = 1 ∨ s.life = 2) ∧ s.mode = .sealed) ∧
    (∃ (k : TokenFacts) (s : State), s.tokenPath = true ∧ s.rootVerifies k.sig 0x53465705 = true ∧ k.uid = s.boot.fuses.uid ∧
    k.nonce = s.nonceValue ∧ s.life ≠ 4 ∧ s.mode = .bootstrap) ∧
    (∃ (k : TokenFacts) (s : State), s.tokenPath = true ∧ s.rootVerifies k.sig 0x53465705 = true ∧ k.uid = s.boot.fuses.uid ∧
    k.nonce = s.nonceValue ∧ s.life ≠ 4 ∧ s.mode = .sealed) ∧
    (∃ (k : TokenFacts) (s : State), s.tokenPath = true ∧ s.rootVerifies k.sig 0x53465705 = true ∧ k.uid = s.boot.fuses.uid ∧
    k.nonce = s.nonceValue ∧ s.life ∈ [0, 1, 3] ∧ (s.mode = .sealed ∨ s.mode = .service ∨ s.mode = .trial)) ∧
    (∃ (k : TokenFacts) (s : State), s.tokenPath = true ∧ s.rootVerifies k.sig 0x53465705 = true ∧ k.uid = s.boot.fuses.uid ∧
    k.nonce = s.nonceValue ∧ s.life ≠ 4 ∧ s.boot.fuses.debugLock = false ∧ (s.mode = .sealed ∨ s.mode = .trial)) ∧
    (∃ (k : TokenFacts) (s : State) (a : _) (b : _) (c : _), s.tokenPath = true ∧ s.rootVerifies k.sig 0x53465705 = true ∧
    k.uid = s.boot.fuses.uid ∧ k.nonce = s.nonceValue ∧ s.life ∈ [1, 2, 3] ∧ k.arg = [a, b, c, 0] ∧ a < 8 ∧ b < 16 ∧ c < 128
    ∧ (c = 0 ∨ s.boot.fuses.sbAddr = 0)) ∧
    (∃ (k : TokenFacts) (i : Instr) (s : State), i ∈ [Instr.tokenProvision k, .tokenDeploy k, .tokenReturn k, .tokenRevoke k,
    .tokenTrial k, .tokenDebugUnlock k, .tokenFuseSet k] ∧ s.tokenPath = true ∧ s.rootVerifies k.sig 0x53465705 = false) ∧
    (∃ (k : TokenFacts) (i : Instr) (s : State), i ∈ [Instr.tokenProvision k, .tokenDeploy k, .tokenReturn k, .tokenRevoke k,
    .tokenTrial k, .tokenDebugUnlock k, .tokenFuseSet k] ∧ s.tokenPath = true ∧ s.rootVerifies k.sig 0x53465705 = true ∧
    (k.uid ≠ s.boot.fuses.uid ∨ k.nonce ≠ s.nonceValue)) :=
  ⟨⟨{ sig := { marker := 0x53465705, rsaOk := true, slhOk := true, bodyOk := true }, nonce := State.nonceValue { (inMode .sealed) with boot := { fuses := { lifecycle := 0 } } } },
   { (inMode .sealed) with boot := { fuses := { lifecycle := 0 } } }, by decide +kernel, by decide +kernel, by
   decide +kernel, rfl, by decide +kernel, by decide +kernel⟩,
   ⟨{ sig := { marker := 0x53465705, rsaOk := true, slhOk := true, bodyOk := true }, nonce := State.nonceValue { (inMode .service) with boot := { fuses := { lifecycle := 1 } } } },
   { (inMode .service) with boot := { fuses := { lifecycle := 1 } } }, by decide +kernel, by decide +kernel, by
   decide +kernel, rfl, by decide +kernel⟩,
   ⟨{ sig := { marker := 0x53465705, rsaOk := true, slhOk := true, bodyOk := true }, nonce := State.nonceValue { (inMode .sealed) with boot := { fuses := { lifecycle := 3 } } } },
   { (inMode .sealed) with boot := { fuses := { lifecycle := 3 } } }, by decide +kernel, by decide +kernel, by
   decide +kernel, rfl, by decide +kernel, by decide +kernel⟩,
   ⟨{ sig := { marker := 0x53465705, rsaOk := true, slhOk := true, bodyOk := true }, nonce := State.nonceValue { (inMode .bootstrap) with boot := { fuses := { lifecycle := 7 } } } },
   { (inMode .bootstrap) with boot := { fuses := { lifecycle := 7 } } }, by decide +kernel, by decide +kernel, by
   decide +kernel, rfl, by decide +kernel, by decide +kernel⟩,
   ⟨{ sig := { marker := 0x53465705, rsaOk := true, slhOk := true, bodyOk := true }, nonce := State.nonceValue { (inMode .sealed) with boot := { fuses := { lifecycle := 3 } } } },
   { (inMode .sealed) with boot := { fuses := { lifecycle := 3 } } }, by decide +kernel, by decide +kernel, by
   decide +kernel, rfl, by decide +kernel, by decide +kernel⟩,
   ⟨{ sig := { marker := 0x53465705, rsaOk := true, slhOk := true, bodyOk := true }, nonce := State.nonceValue { (inMode .trial) with boot := { fuses := { lifecycle := 7 } } } },
   { (inMode .trial) with boot := { fuses := { lifecycle := 7 } } }, by decide +kernel, by decide +kernel, by decide +kernel,
   rfl, by decide +kernel, by decide +kernel⟩,
   ⟨{ sig := { marker := 0x53465705, rsaOk := true, slhOk := true, bodyOk := true }, nonce := State.nonceValue { (inMode .sealed) with boot := { fuses := { lifecycle := 7 } } } },
   { (inMode .sealed) with boot := { fuses := { lifecycle := 7 } } }, by decide +kernel, by decide +kernel, by
   decide +kernel, rfl, by decide +kernel, by decide +kernel, by decide +kernel⟩,
   ⟨{ sig := { marker := 0x53465705, rsaOk := true, slhOk := true, bodyOk := true }, nonce := State.nonceValue { (inMode .service) with boot := { fuses := { lifecycle := 3 } } }, arg := [7, 15, 127, 0] },
   { (inMode .service) with boot := { fuses := { lifecycle := 3 } } }, 7, 15, 127, by decide +kernel, by decide +kernel, by
   decide +kernel, rfl, by decide +kernel, by decide +kernel, by decide +kernel, by decide +kernel, by decide +kernel, by
   decide +kernel⟩,
   ⟨{}, .tokenDeploy {}, sv, by decide +kernel⟩,
   ⟨{ sig := { marker := 0x53465705, rsaOk := true, slhOk := true, bodyOk := true }, uid := 1 }, .tokenTrial
   { sig := { marker := 0x53465705, rsaOk := true, slhOk := true, bodyOk := true }, uid := 1 }, sv, by decide +kernel, by
   decide +kernel, by decide +kernel, .inl (by decide)⟩⟩

theorem witness_NorCommands :
    (∃ (a : Nat) (s : State), s.mode = .trial ∧ s.on R.BT_NCMD_BUSY = false ∧ s.f R.CK_SEL_SELECTED ≠ 15 ∧ a = s.f
    R.BT_NADDR_ADDR / 4096 * 4096) ∧
    (∃ (s : State), s.mode = .trial ∧ s.on R.BT_NCMD_BUSY = false ∧ s.on R.BT_STS_FETCH_ACTIVE = false) ∧
    (∃ (i : Instr) (s : State), i ∈ [Instr.norRead, .norProgram, .norErase] ∧ s.mode = .service ∧ s.on R.BT_NCMD_BUSY = false
    ∧ s.boot.norOp = none) ∧
    (∃ (s : State), s.mode = .trial ∧ s.on R.BT_NCMD_BUSY = false ∧ s.on R.BT_STS_FETCH_ACTIVE = true ∧ s.f
    R.BT_STS_FETCH_BANK = b2n (decide (0x2000000 ≤ s.f R.BT_NADDR_ADDR / 65536 * 65536))) ∧
    (∃ (a : Nat) (s : State), s.mode ≠ .off ∧ s.f R.CK_SEL_SELECTED ≠ 15 ∧ s.boot.norOp = some (3, a)) ∧
    (∃ (a i : Nat) (s : State), s.mode ≠ .off ∧ s.f R.CK_SEL_SELECTED ≠ 15 ∧ s.boot.norOp = some (2, a) ∧ i < 1024 ∧ norBase
    s.boot.norObj (a / 4 + i) = 0xFFFFFFFF) :=
  ⟨⟨4096, (setFs (inMode .trial) [(R.BT_NADDR_ADDR, 5000, 0, 0), (R.CK_SEL_SELECTED, 0, 0, 0)]), by decide +kernel⟩,
   ⟨(setFs (inMode .trial) [(R.BT_NADDR_ADDR, 5000, 0, 0)]), by decide +kernel⟩,
   ⟨.norErase, sv, by decide +kernel⟩,
   ⟨(setFs (inMode .trial) [(R.BT_NADDR_ADDR, 0x2000000, 0, 0), (R.BT_STS_FETCH_ACTIVE, 1, 0, 0), (R.BT_STS_FETCH_BANK, 1, 0,
   0)]), by decide +kernel⟩,
   ⟨65536, { (setFs sv []) with boot := { norOp := some (3, 65536) } }, by decide +kernel⟩,
   ⟨4096, 1023, { (setFs sv []) with boot := { norOp := some (2, 4096) } }, by decide +kernel⟩⟩

theorem witness_KeysAndTestPins :
    (∃ (p : Path) (e : Nat) (s : State), s.regMode p = true ∧ e = s.idxF p R.BT_PSKIDX_ENTRY ∧ (s.per.psk.keysWhere fun j x
    => x.valid && x.identity == s.pskStaged.identity && j != e) = [] ∧ (s.pskStaged.hash = 1 ∨ s.pskStaged.hash = 2) ∧
    s.pskStaged.identity ≠ 0) ∧
    (∃ (p : Path) (e : Nat) (s : State), s.regMode p = true ∧ e = s.idxF p R.BT_PSKIDX_ENTRY ∧ (s.per.psk.keysWhere fun j x
    => x.valid && x.identity == s.pskStaged.identity && j != e) ≠ []) ∧
    (∃ (p : Path) (e : Nat) (s : State), s.regMode p = true ∧ e = s.idxF p R.BT_PSKIDX_ENTRY) ∧
    (∃ (s : State), s.mode ≠ .off) ∧
    (∃ (a : Nat) (s : State), s.mode ≠ .off ∧ a < 128) ∧
    (∃ (a : Nat) (s : State) (b : _), s.mode ≠ .off ∧ a < 128 ∧ b ≠ s.f R.FU_SBADDR_SB_ADDR) ∧
    (∃ (s : State), (s.mode = .discovery ∨ s.mode = .service ∨ s.mode = .becalmed)) :=
  ⟨⟨.sideband, 0, { sv with boot := { pskStage := [(0, 0x41), (48, 2 ^ 31 + 2)] } }, by decide +kernel⟩,
   ⟨.sideband, 0,
   { sv with boot := { pskStage := [(0, 0x41), (48, 2 ^ 31 + 2)] }, per := { per0 with psk := [(3, { valid := true, identity := 0x41 })] } },
   by decide +kernel⟩,
   ⟨.sideband, 0, sv, by decide +kernel⟩,
   ⟨sv, by decide +kernel⟩,
   ⟨127, sv, by decide +kernel⟩,
   ⟨127, sv, 1, by decide +kernel⟩,
   ⟨(inMode .becalmed), by decide +kernel⟩⟩

theorem witness_SpdmAnswers :
    (∃ (v : SpdmVia) (s : State), s.spdmServed v = true) ∧
    (∃ (v : SpdmVia) (s : State), s.spdmServed v = true ∧ 1 ≤ (s.boot.spdm.get (viaKey v)).phase) ∧
    (∃ (v : SpdmVia) (a h : Nat) (s : State), s.spdmServed v = true ∧ 2 ≤ (s.boot.spdm.get (viaKey v)).phase ∧ bit a 3 = true
    ∧ bit h 1 = true) ∧
    (∃ (v : SpdmVia) (a h : Nat) (s : State), s.spdmServed v = true ∧ 2 ≤ (s.boot.spdm.get (viaKey v)).phase ∧ (bit a 3 =
    false ∨ bit h 1 = false)) ∧
    (∃ (v : SpdmVia) (s : State) (n : Nat), s.spdmServed v = true ∧ 2 ≤ (s.boot.spdm.get (viaKey v)).phase ∧ n =
    (s.boot.spdm.get (viaKey v)).chunkSeq) ∧
    (∃ (v : SpdmVia) (s : State) (n : Nat), s.spdmServed v = true ∧ 2 ≤ (s.boot.spdm.get (viaKey v)).phase ∧ n ≠
    (s.boot.spdm.get (viaKey v)).chunkSeq) ∧
    (∃ (v : SpdmVia) (s : State), s.spdmServed v = true ∧ 2 ≤ (s.boot.spdm.get (viaKey v)).phase ∧ (s.boot.spdm.get (viaKey
    v)).chunkOut = []) ∧
    (∃ (v : SpdmVia) (s : State) (d : Nat) (r : List Nat), s.spdmServed v = true ∧ 2 ≤ (s.boot.spdm.get (viaKey v)).phase ∧
    (s.boot.spdm.get (viaKey v)).chunkOut = d :: r) ∧
    (∃ (v : SpdmVia) (s : State), s.spdmServed v = true ∧ 3 ≤ (s.boot.spdm.get (viaKey v)).phase) ∧
    (∃ (v : SpdmVia) (s : State), s.spdmServed v = true ∧ 3 ≤ (s.boot.spdm.get (viaKey v)).phase) ∧
    (∃ (v : SpdmVia) (s : State) (k : Nat), s.spdmServed v = true ∧ 3 ≤ (s.boot.spdm.get (viaKey v)).phase ∧ k ≠ 0) ∧
    (∃ (v : SpdmVia) (s : State), s.spdmServed v = true ∧ 3 ≤ (s.boot.spdm.get (viaKey v)).phase) ∧
    (∃ (v : SpdmVia) (s : State) (i : _), s.spdmServed v = true ∧ 3 ≤ (s.boot.spdm.get (viaKey v)).phase ∧ 0 < i ∧ i ≤ 9) ∧
    (∃ (v : SpdmVia) (s : State), s.spdmServed v = true ∧ 3 ≤ (s.boot.spdm.get (viaKey v)).phase) ∧
    (∃ (v : SpdmVia) (s : State) (i : _), s.spdmServed v = true ∧ 3 ≤ (s.boot.spdm.get (viaKey v)).phase ∧ 0 < i ∧ i ≤ 9) ∧
    (∃ (v : SpdmVia) (s : State) (i : Nat), s.spdmServed v = true ∧ 3 ≤ (s.boot.spdm.get (viaKey v)).phase ∧ 9 < i ∧ i ≠ 255) ∧
    (∃ (v : SpdmVia) (s : State), s.spdmServed v = true ∧ 3 ≤ (s.boot.spdm.get (viaKey v)).phase) ∧
    (∃ (v : SpdmVia) (s : State), s.spdmServed v = true ∧ 3 ≤ (s.boot.spdm.get (viaKey v)).phase ∧ (s.boot.spdm.get (viaKey
    v)).signed = true) ∧
    (∃ (v : SpdmVia) (s : State), s.spdmServed v = true ∧ 3 ≤ (s.boot.spdm.get (viaKey v)).phase ∧ (s.boot.spdm.get (viaKey
    v)).signed = false) ∧
    (∃ (v : SpdmVia) (i : Instr) (m : Nat) (s : State), s.spdmServed v = true ∧ (s.boot.spdm.get (viaKey v)).phase < m ∧ (i,
    m) ∈ [(Instr.spdmGetCapabilities v, 1), (.spdmNegotiateAlgorithms v 8 2, 2), (.spdmGetDigests v, 3), (.spdmGetCertificate
    v 0, 3), (.spdmChallenge v 0 0, 3), (.spdmGetMeasurements v 0 true 0, 3), (.spdmVendorSlhChain v, 3),
    (.spdmVendorSlhSignature v, 3), (.spdmChunkGet v 0, 2)]) ∧
    (∃ (v : SpdmVia) (a b : Nat) (x : Bool) (d : List Nat) (i : Instr), i ∈ [Instr.spdmGetVersion v, .spdmGetCapabilities v,
    .spdmNegotiateAlgorithms v a b, .spdmGetDigests v, .spdmGetCertificate v a, .spdmChallenge v a b, .spdmGetMeasurements v
    a x b, .spdmChunkSend v a x d, .spdmChunkGet v a, .spdmVendorSlhChain v, .spdmVendorSlhSignature v]) :=
  ⟨⟨.mctp, sv, by decide +kernel⟩,
   ⟨.mctp, { sv with boot := { spdm := [(0, { phase := 1 })] } }, by decide +kernel⟩,
   ⟨.mctp, 8, 2, { sv with boot := { spdm := [(0, { phase := 2 })] } }, by decide +kernel⟩,
   ⟨.mctp, 0, 2, { sv with boot := { spdm := [(0, { phase := 2 })] } }, by decide +kernel⟩,
   ⟨.mctp, { sv with boot := { spdm := [(0, { phase := 2, chunkSeq := 4 })] } }, 4, by decide +kernel⟩,
   ⟨.mctp, { sv with boot := { spdm := [(0, { phase := 2, chunkSeq := 4 })] } }, 3, by decide +kernel⟩,
   ⟨.mctp, { sv with boot := { spdm := [(0, { phase := 2, chunkSeq := 4 })] } }, by decide +kernel⟩,
   ⟨.mctp, { sv with boot := { spdm := [(0, { phase := 2, chunkOut := [5] })] } }, 5, [], by decide +kernel⟩,
   ⟨.mctp, { sv with boot := { spdm := [(0, { phase := 3 })] } }, by decide +kernel⟩,
   ⟨.mctp, { sv with boot := { spdm := [(0, { phase := 3 })] } }, by decide +kernel⟩,
   ⟨.mctp, { sv with boot := { spdm := [(0, { phase := 3 })] } }, 1, by decide +kernel⟩,
   ⟨.mctp, { sv with boot := { spdm := [(0, { phase := 3 })] } }, by decide +kernel⟩,
   ⟨.mctp, { sv with boot := { spdm := [(0, { phase := 3 })] } }, 9, by decide +kernel⟩,
   ⟨.mctp, { sv with boot := { spdm := [(0, { phase := 3 })] } }, by decide +kernel⟩,
   ⟨.mctp, { sv with boot := { spdm := [(0, { phase := 3 })] } }, 9, by decide +kernel⟩,
   ⟨.mctp, { sv with boot := { spdm := [(0, { phase := 3 })] } }, 10, by decide +kernel⟩,
   ⟨.mctp, { sv with boot := { spdm := [(0, { phase := 3 })] } }, by decide +kernel⟩,
   ⟨.mctp, { sv with boot := { spdm := [(0, { phase := 3, signed := true })] } }, by decide +kernel⟩,
   ⟨.mctp, { sv with boot := { spdm := [(0, { phase := 3 })] } }, by decide +kernel⟩,
   ⟨.ctrl 1, .spdmGetDigests (.ctrl 1), 3, sv, by decide +kernel⟩,
   ⟨.mctp, 0, 0, true, [], .spdmGetVersion .mctp, by decide +kernel⟩⟩

theorem witness_RegisterWrites :
    (∃ (p : Path) (s : State), s.regMode p = false) ∧
    (∃ (p : Path) (a w : Nat) (s : State), s.regMode p = true ∧ (w ≠ 4 ∨ a % 4 ≠ 0)) ∧
    (∃ (i : Nat) (s : State), s.regMode .sideband = true ∧ i < 2) ∧
    (∃ (F : R.Fld) (s : State), s.regMode .sideband = true ∧ F ∈ [R.CK_EVT_REF_LOST, R.CK_EVT_SWITCHED, R.CK_EVT_HOLD_LONG,
    R.CK_EVT_NO_REF, R.CK_EVT_REF_BACK, R.CK_EVT_FREQ_BAD, R.CK_EVT_CSI_LOW, R.CK_EVT_REF_WAIT] ∧ s.f F ≤ 1) ∧
    (∃ (s : State), s.regMode .sideband = true) :=
  ⟨⟨.ctrl 1, sv, by decide +kernel⟩,
   ⟨.sideband, 2, 4, sv, by decide +kernel⟩,
   ⟨1, sv, by decide +kernel⟩,
   ⟨R.CK_EVT_SWITCHED, (setFs sv [(R.CK_EVT_SWITCHED, 1, 0, 0)]), by decide +kernel⟩,
   ⟨sv, by decide +kernel⟩⟩

theorem witness_RegisterPaths :
    (∃ (r : WindowReq) (s : State), s.mode ≠ .off ∧ windowBad r 1 = true) ∧
    (∃ (r : WindowReq) (s : State), s.mode ≠ .off ∧ windowBad r 2 = true) ∧
    (∃ (r : WindowReq) (s : State), s.mode ≠ .off ∧ windowBad r 2 = false ∧ s.regMode .sideband = false) ∧
    (∃ (r : WindowReq) (s : State), s.mode ≠ .off ∧ windowBad r 1 = false ∧ s.regMode .sideband (windowLow r) = true) ∧
    (∃ (r : WindowReq) (s : State), s.mode ≠ .off ∧ windowBad r 2 = false ∧ s.regMode .sideband = true) ∧
    (∃ (c a n : Nat) (s : State), s.AdmDue c 0xC1 ∧ s.regTurn c = true ∧ a = (s.cmd c).sqe.cdw10.toNat % 2 ^ 24 ∧ n = (s.cmd
    c).sqe.cdw11.toNat % 64 + 1 ∧ a % 4 = 0 ∧ a + 4 * (n - 1) ≤ 0xFFFFFC ∧ s.sglCheck c (4 * n) false = none) ∧
    (∃ (c a n : Nat) (s : State), s.AdmDue c 0xC1 ∧ s.regTurn c = true ∧ a = (s.cmd c).sqe.cdw10.toNat % 2 ^ 24 ∧ n = (s.cmd
    c).sqe.cdw11.toNat % 64 + 1 ∧ a % 4 ≠ 0) ∧
    (∃ (c a n : Nat) (s : State), s.AdmDue c 0xC2 ∧ s.regTurn c = true ∧ a = (s.cmd c).sqe.cdw10.toNat % 2 ^ 24 ∧ n = (s.cmd
    c).sqe.cdw11.toNat % 64 + 1 ∧ a % 4 = 0 ∧ a + 4 * (n - 1) ≤ 0xFFFFFC ∧ s.sglCheck c (4 * n) true = none) ∧
    (∃ (c a n : Nat) (s : State), s.AdmDue c 0xC2 ∧ s.regTurn c = true ∧ a = (s.cmd c).sqe.cdw10.toNat % 2 ^ 24 ∧ n = (s.cmd
    c).sqe.cdw11.toNat % 64 + 1 ∧ a % 4 ≠ 0) ∧
    (∃ (s : State), s.mode ≠ .off ∧ s.f R.GL_SB_STS_BUS = 0 ∧ s.ctl.sbAlert = true) :=
  ⟨⟨{ op := 1, count := 17 }, sv, by decide +kernel⟩,
   ⟨{ op := 2, count := 2, addr := 0xFFFFFC, data := [0, 0] }, sv, by decide +kernel⟩,
   ⟨{ op := 2, data := [0] }, (inMode .bootstrap), by decide +kernel⟩,
   ⟨{ op := 1, count := 16 }, sv, by decide +kernel⟩,
   ⟨{ op := 2, data := [0], addr := 0x10 }, sv, by decide +kernel⟩,
   ⟨196608, 0xFFFFFC, 1, (admS { sv with per := { per0 with slices := [(0, { cfg0 with mgmt := true })] } }
   { opc := 0xC1, cdw10 := 0xFFFFFC, sgl := .inCapsule, words := [5] }), by decide +kernel⟩,
   ⟨196608, 2, 64, (admS { sv with per := { per0 with slices := [(0, { cfg0 with mgmt := true })] } }
   { opc := 0xC1, cdw10 := 2, cdw11 := 63 }), by decide +kernel⟩,
   ⟨196608, 0, 64, (admS { sv with per := { per0 with slices := [(0, { cfg0 with mgmt := true })] } }
   { opc := 0xC2, cdw11 := 63, sgl := .transport }), by decide +kernel⟩,
   ⟨196608, 2, 64, (admS { sv with per := { per0 with slices := [(0, { cfg0 with mgmt := true })] } }
   { opc := 0xC2, cdw10 := 2, cdw11 := 63 }), by decide +kernel⟩,
   ⟨{ sv with ctl := { mode := .service, sbAlert := true } }, by decide +kernel⟩⟩

end Sys2Proof.Tests
end

section
/-! SUPPORT. What a command answers, for every command and every state. A meaning ends in one of four ways: it ends its handshake
(`done`), waits with the state as it is (log entry 11), hands on a state that differs in nothing that the alert pin and the Event
Log see, or leaves the part without power. -/

namespace Sys2Proof.Machine

/-- The outcome o of a command in s is a next state, one that is settled where s is. -/
def State.Answers (s : State) (o : Host.Outcome State Fault Refusal) : Prop := ∃ t, o = .next t ∧ (s.Settled → t.Settled)

/-- Without power no event bit is set, nothing waits to be logged, and the alert pin is released. -/
theorem State.powerOff_settled (s : State) : s.powerOff.Settled := by
  refine ⟨rfl, ?_⟩
  show false = ((0 &&& s.powerOff.f R.GL_EVT_EN_EN) != 0)
  simp

/-- Being settled is a matter of the waiting occurrences, the alert pin, the event summary and its enables alone. -/
theorem State.Settled.of_eq {s t : State} (h : s.Settled) (hq : t.ctl.evq = s.ctl.evq) (ha : t.ctl.sbAlert = s.ctl.sbAlert)
    (hs : t.evtSum = s.evtSum) (he : t.f R.GL_EVT_EN_EN = s.f R.GL_EVT_EN_EN) : t.Settled := by
  unfold State.Settled State.allLogged State.alertRight at h ⊢
  rw [hq, ha, hs, he]
  exact h

namespace State.Answers

variable {s t : State} {o o' : Host.Outcome State Fault Refusal} {c : Prop} [Decidable c]

/-! The four ways to end, and a choice between two of them. -/

theorem quiet (h : s.Settled → t.Settled) : s.Answers (.next t) := ⟨t, rfl, h⟩

theorem waits : s.Answers (.next s) := quiet id

theorem ends : s.Answers (done t) := quiet fun _ => t.settle_settled

theorem off : s.Answers (.next t.powerOff) := quiet fun _ => t.powerOff_settled

theorem ite (h : s.Answers o) (h' : s.Answers o') : s.Answers (if c then o else o') := by
  split
  · exact h
  · exact h'

theorem guard : s.Answers (if c then .next s else done t) := ite waits ends

theorem when : s.Answers (if c then done t else .next s) := ite ends waits

/-! The operations through which many commands go. -/

theorem admStep {n opc : Nat} {k : State → Cmd → Ctrl → State} : s.Answers (s.admStep n opc k) := when

theorem fabricsStep {n ty : Nat} {k : Cmd → State} : s.Answers (s.fabricsStep n ty k) := when

theorem ioStep {n : Nat} {ops : List Nat} {k : State → Nat → State} : s.Answers (s.ioStep n ops k) := by
  refine ite ?_ waits
  split <;> exact ends

theorem onLink {l : Nat} {r : RxFrame} {k : State → State} : s.Answers (s.onLink l r k) := by
  unfold State.onLink
  split
  · exact waits
  · exact ends

theorem onFrame {n : Nat} {rdma : Bool} {r : RxFrame} {k : State → Conn → State} : s.Answers (s.onFrame n rdma r k) :=
  ite waits onLink

theorem onConn {n : Nat} {rdma : Bool} {r : RxFrame} {k : State → Conn → State} : s.Answers (s.onConn n rdma r k) :=
  ite onFrame waits

theorem onConnect {n : Nat} {r : RxFrame} {k : State → Conn → State} : s.Answers (s.onConnect n r k) :=
  ite waits onFrame

theorem spdmAt {v : SpdmVia} {phase : Nat} {k : State → State} : s.Answers (s.spdmAt v phase k) := ite waits (ite ends ends)

theorem kpio {n nsid tag : Nat} {k : State → Nat → State} : s.Answers (s.kpio n nsid tag k) := by
  refine ite waits ?_
  split
  · exact ends
  · exact ite ends ends

theorem lbRun {code : Nat} : s.Answers (s.lbRun code) := ite waits (ite ends (ite ends ends))

theorem monFw {r : Nat × State} : s.Answers (s.monFw r) := when

/-! Commands whose answer depends on what a look-up finds. -/

theorem slotGrant {slice : Nat} : s.Answers (execSlotGrant slice s) := by
  refine ite ends ?_
  split
  · exact ends
  · exact waits

theorem readSlotsTake {take : SliceLookups} : s.Answers (execReadSlotsTake take s) := by
  unfold execReadSlotsTake
  split
  · exact ends
  · exact waits

theorem readReserveTimer {slice : Nat} : s.Answers (execReadReserveTimer slice s) := by
  unfold execReadReserveTimer
  split
  · exact waits
  · exact ite ends ends

theorem aesStaged {slot : Nat} {sram : List SramErr} : s.Answers (execAesStaged slot sram s) := by
  refine ite waits (ite ends (ite waits (ite ends ?_)))
  split
  · exact ends
  · exact ite ends ends

theorem slotSent {slot : Nat} {poison : List Nat} : s.Answers (execSlotSent slot poison s) := by
  refine ite ends (ite waits ?_)
  split
  · exact ends
  · split
    · exact ends
    · exact ite ends ends

theorem sluiceAdmit {slice queue : Nat} : s.Answers (execSluiceAdmit slice queue s) := by
  unfold execSluiceAdmit
  split
  · exact when
  · exact waits

theorem relocJobStart : s.Answers (execRelocJobStart s) := by
  refine ite waits ?_
  extract_lets
  split
  · exact ends
  · exact waits

theorem programStart {crew seat : Nat} : s.Answers (execProgramStart crew seat s) := by
  unfold execProgramStart
  extract_lets
  split
  · exact waits
  · exact ite waits (ite ends (ite waits (ite ends ends)))

theorem eraseStart {crew seat : Nat} : s.Answers (execEraseStart crew seat s) := by
  unfold execEraseStart
  split
  · exact waits
  · exact ite waits (ite ends (ite waits (ite ends ends)))

theorem busGrant {lane die : Nat} {strobe : Bool} {data : Nat} : s.Answers (execBusGrant lane die strobe data s) := by
  unfold execBusGrant
  extract_lets
  split
  · exact waits
  · refine ite waits (ite guard (ite waits ?_))
    split
    · exact ite ends ends
    · exact ite ends ends
    · exact ite ends (ite ends ends)
    · exact ends

theorem strokeSlotOpen {lane : Nat} : s.Answers (execStrokeSlotOpen lane s) := by
  unfold execStrokeSlotOpen
  extract_lets waiting
  clear_value waiting
  obtain _ | ⟨die, r⟩ := waiting
  · exact waits
  · exact guard

theorem recipeWaitExpiry {lane die : Nat} : s.Answers (execRecipeWaitExpiry lane die s) := by
  unfold execRecipeWaitExpiry
  split
  · exact guard
  · exact waits

theorem pollInterval {lane die : Nat} {status : Option Byte} : s.Answers (execPollInterval lane die status s) := by
  unfold execPollInterval
  split
  · refine ite waits (ite ends ?_)
    split
    · exact ends
    · exact when
  · exact waits

theorem recipeEnd {lane die : Nat} : s.Answers (execRecipeEnd lane die s) := by
  unfold execRecipeEnd
  extract_lets
  split
  · exact waits
  · exact ite waits (ite ends ends)

theorem codewordDecoded {lane cw : Nat} {res : Decode} : s.Answers (execCodewordDecoded lane cw res s) := by
  refine ite waits ?_
  split
  · exact ends
  · exact ite ends ends

theorem tempReadTimer {lane : Nat} {raw : Int} : s.Answers (execTempReadTimer lane raw s) := by
  refine ite waits ?_
  split
  · exact waits
  · exact ite ends ends

theorem dramReadComplete {ch flip : Nat} : s.Answers (execDramReadComplete ch flip s) := by
  unfold execDramReadComplete
  split
  · exact waits
  · exact ends

theorem oldInputRelease : s.Answers (execOldInputRelease s) := by
  unfold execOldInputRelease
  split
  · exact guard
  · exact waits

theorem pllLocked {phase : Int} : s.Answers (execPllLocked phase s) := by
  unfold execPllLocked
  split
  · exact waits
  · refine ite waits ?_
    extract_lets
    split <;> exact ends

theorem pllLockTimeout : s.Answers (execPllLockTimeout s) := by
  unfold execPllLockTimeout
  split
  · exact waits
  · exact guard

theorem revertTimer : s.Answers (execRevertTimer s) := by
  refine ite waits ?_
  split
  · exact when
  · exact waits

theorem pfcPauseRx {link prio : Nat} : s.Answers (execPfcPauseRx link prio s) := by
  unfold execPfcPauseRx
  split
  · exact waits
  · exact ends

theorem flush {n : Nat} : s.Answers (execFlush n s) := by
  refine ite (ite ends ?_) waits
  split <;> exact ends

theorem firmwareImageDownload {n : Nat} {mon : Option MonFw} : s.Answers (execFirmwareImageDownload n mon s) := by
  unfold execFirmwareImageDownload
  split
  · exact monFw
  · exact admStep

theorem firmwareCommit {n : Nat} {obj : FwObject} {readBack : Bool} {mon : Option MonFw} :
    s.Answers (execFirmwareCommit n obj readBack mon s) := by
  unfold execFirmwareCommit
  split
  · exact monFw
  · exact admStep

/-! Commands that may hand on a changed state without the end of a handshake. -/

/-- SCRUB_LINE counts skipped regions before it finds its channel not Ready; the count is no event. -/
theorem scrubLine {flip : Nat} : s.Answers (execScrubLine flip s) := by
  refine ite waits (ite ends (ite (quiet fun h => h.of_eq rfl rfl ?_ ?_) ends))
  · exact State.evtSum_setF _ _ _ _ _ (by decide)
  · exact State.f_setF_other _ _ _ _ _ _ _ _ (by decide)

/-- GOV_PASS_END drops the pass of a mode that has none. -/
theorem govPassEnd : s.Answers (execGovPassEnd s) := by
  unfold execGovPassEnd
  split
  · exact waits
  · exact ite (quiet fun h => h.of_eq rfl rfl rfl rfl) ends

theorem powerLoss : s.Answers (execPowerLoss s) := ite waits (ite (ite off ends) (ite ends (ite ends (ite ends off))))

theorem flushDone {fl : FlushEnd} : s.Answers (execFlushDone fl s) := ite (ite off (ite off ends)) guard

theorem tripFlushDone {fl : FlushEnd} : s.Answers (execTripFlushDone fl s) := ite waits (ite off (ite off (ite ends ends)))

theorem sensorReading {temps : List Int} : s.Answers (execSensorReading temps s) := by
  unfold execSensorReading
  exact ite waits (ite (ite ends ends) (ite ends ends))

end State.Answers

/-- Every command answers a next state in every state, and none leaves a settled state unsettled. The cases stand together by the
form of their answers. -/
theorem exec_answers (i : Instr) (s : State) : s.Answers (exec i s) := by
  cases i with
  | becalmedFlushDone | bootIdolobAccepted | bootImageVerified | bootRefWaitTimer | bootReferenceReady | ckPrioWrite | ckSwitch
  | comparatorDisagreeTimer | csiMeasure | divStep | drMark | dramAgePromote | dramAlertN | dramRequestIssue | dramRetrainWindow
  | dramRetrainWindowEnd | edgeSentinelClear | edgeSentinelFire | envReqWrite | freqCheck | gvProfileLoad | holdupOkFall
  | holdupOkRise | i3cEntdaa | jtagInstruction | linkAddressCommit | linkDisable | linkRetrain | linkSignalDetect | linkUpTimer
  | lnRetrain | lockstepMismatch | norErase | norOpDone | norProgram | nvmeMiMessage | originInvalidate | pacerCalDone
  | pacerCalStart | parityRebuildDone | patrolRead | ptCfgWrite | ptDiscCtlWrite | retrainAgeTimer | retrainRecheckTimer
  | retrainTrainingDone | rngHealthFail | rngReseedDone | scrubStart | selftestDone | slLoad | sourceQualified | takeoverDone
  | tallySegmentStart | tcgLevel0Discovery | tokenDebugUnlock | tokenDeploy | tokenFuseSet | tokenProvision | tokenReturn
  | tokenRevoke | tokenTrial | trainRetryTimer | watchdogExpiry => exact .guard
  | alertResponse | dramMr4Poll | dramRefresh | easyIntervalEnd | keepAliveExpiry | ledgerClockRecord | linkLoss | logHoldTimer
  | mdnsAnnounceRepeat | pfcPauseExpiry | pskCommit | pskInvalidate | queueRelease | readMergeDone | resetFenceWaitEnd
  | resetSlowTimer | scrubStop | slHoldWrite | slotCleared | sluicePieceCharge | sluiceRefill | spillDwellTimer
  | spillHoldMaxTimer | stagingAdmit | tcpGiveupExpiry | tcpRtoExpiry | writePauseEnd => exact .when
  | drClear => exact .ite .waits .when
  | i3cSetdasa => exact .ite .waits .guard
  | rdmaAckTimeout | zoneResetEffect => exact .ite (.ite .ends .ends) .waits
  | porstNRelease => exact .ite .ends (.ite .ends .ends)
  | busyBudgetWrite | dramPatrolStep | gvManUWrite | gvModeReqWrite | gvProfileCommit | holdupArmTimer
  | ledgerClockMinute | managerControllerReset | norRead | pwrgdInRise | regWrite | remapInstall | remapRemove | sampleBoundary
  | secondImageVerify | slCreate | slDelete | slModify | slReset | trainingRun | trialExitRequest =>
    exact .ite .waits (.ite .ends .ends)
  | featheredIdleTimeout | monitorRestartRequest | selftestStart | trialRequest => exact .ite .waits (.ite .ends .guard)
  | featheredRequest | fwActivationReset | laneRecoveryDone | originCommit | registerWindowRead | registerWindowWrite =>
    exact .ite .waits (.ite .ends (.ite .ends .ends))
  | porstNAssert | thermalTrip => exact .ite .waits (.ite .ends (.ite .ends (.ite .ends .ends)))
  | discoveryDone => exact .ite .waits (.ite .ends (.ite .waits (.ite .ends .ends)))
  | rebuildDone => exact .ite .waits (.ite .ends (.ite .waits (.ite .ends (.ite .ends .ends))))
  | powerGoodTimer | thermalRestExitTimer => exact .ite .waits (.ite (.ite .waits (.ite .ends .ends)) .ends)
  | shForceWrite => exact .ite .waits (.ite (.ite .ends (.ite .ends .ends)) .ends)
  | taggedOpsZero => exact .ite .waits (.ite .guard (.ite (.ite .ends .ends) .waits))
  | abort | asyncEventRequest | directiveReceive | directiveSend | getEventLog | getFeatures | getLogPage | identify | keepAlive
  | nsAttachment | securityReceive | securitySend | setFeatures =>
    dsimp only [exec]
    exact .admStep
  | getRegister | nsCreate | sanitizeBlockErase | sanitizeCryptoErase | sanitizeExitFailure | setRegister =>
    exact .ite .waits .admStep
  | formatNvm | nsDelete => exact .ite .waits (.ite .ends .admStep)
  | authenticationReceive | authenticationSend | disconnect | propertyGet | propertySet =>
    dsimp only [exec]
    exact .fabricsStep
  | spdmChallenge | spdmChunkGet | spdmChunkSend | spdmGetCapabilities | spdmGetCertificate | spdmGetDigests
  | spdmGetMeasurements | spdmGetVersion | spdmNegotiateAlgorithms | spdmVendorSlhChain | spdmVendorSlhSignature =>
    dsimp only [exec]
    exact .spdmAt
  | datasetManagement | read | verify | write | writeZeroes | zoneAppend =>
    dsimp only [exec]
    exact .ioStep
  | extendedReportZones | reportZones | zoneClose | zoneFinish | zoneOffline | zoneOpen | zoneReset | zoneSetDescExt =>
    exact .ite .waits .ioStep
  | arpRequest | cmReq | mdnsQuery | neighborSolicitation | tcpSyn => exact .onLink
  | h2cdata | hopperDataWrite | ownerWordWrite | rdmaReadResponse =>
    dsimp only [exec]
    exact .onFrame
  | capsuleCmd | cmDreq | cnpRx | h2ctermreq | hostRdmaReadOrAtomic | icreq | rdmaAckRx | rdmaSendCapsule | tcpAckRx | tcpFinRx
  | tcpRstRx | tlsClientFinished | tlsClientHello | tlsKeyUpdate => exact .onConn
  | connectAdmin | connectIo => exact .ite .waits .onConnect
  | kpioClearKey | kpioInjectKey =>
    dsimp only [exec]
    exact .kpio
  | lbCheckOnlyWrite | lbCorrectedRead | lbDataOnlyWrite | lbPoisonWrite | lbRawRead | lbRawWrite => exact .lbRun
  | aesStaged => exact .aesStaged
  | busGrant => exact .busGrant
  | codewordDecoded => exact .codewordDecoded
  | dramReadComplete => exact .dramReadComplete
  | eraseStart => exact .eraseStart
  | firmwareCommit => exact .firmwareCommit
  | firmwareImageDownload => exact .firmwareImageDownload
  | flush => exact .flush
  | flushDone => exact .flushDone
  | govPassEnd => exact .govPassEnd
  | oldInputRelease => exact .oldInputRelease
  | pfcPauseRx => exact .pfcPauseRx
  | pllLockTimeout => exact .pllLockTimeout
  | pllLocked => exact .pllLocked
  | pollInterval => exact .pollInterval
  | powerLoss => exact .powerLoss
  | programStart => exact .programStart
  | readReserveTimer => exact .readReserveTimer
  | readSlotsTake => exact .readSlotsTake
  | recipeEnd => exact .recipeEnd
  | recipeWaitExpiry => exact .recipeWaitExpiry
  | relocJobStart => exact .relocJobStart
  | revertTimer => exact .revertTimer
  | scrubLine => exact .scrubLine
  | sensorReading => exact .sensorReading
  | slotGrant => exact .slotGrant
  | slotSent => exact .slotSent
  | sluiceAdmit => exact .sluiceAdmit
  | strokeSlotOpen => exact .strokeSlotOpen
  | tempReadTimer => exact .tempReadTimer
  | tripFlushDone => exact .tripFlushDone

/-- Settles O3: on the empty queue the block ticks, and every command answers. -/
theorem everyStepRuns : Obligations.EveryStepRuns := by
  intro s
  unfold State.Runs step
  split
  · exact ⟨_, rfl⟩
  · obtain ⟨t, ht, -⟩ := exec_answers _ _
    exact ⟨t, ht⟩

end Sys2Proof.Machine
end

section
/-! SUPPORT. A register write, from its path to the fields that it reaches (R9, R10, R13, R454), and the frame of a command that
raises events. -/

namespace Sys2Proof.Machine

/-! ### The end of a handshake: messages and frame -/

/-- An IBI is a frame of no link: it goes out at once, and no connection holds it as outstanding. -/
theorem State.send_ibi (s : State) : s.send .ibi 0 [0xAE] = { s with ctl.out := ibiMsg :: s.ctl.out } := rfl

theorem State.alertUpdate_out (s : State) : s.alertUpdate.ctl.out = s.ctl.out ∨ s.alertUpdate.ctl.out = ibiMsg :: s.ctl.out := by
  unfold State.alertUpdate
  dsimp only
  split
  · split
    · right
      rw [State.send_ibi]
      rfl
    · exact .inl rfl
  · exact .inl rfl

/-- The end of a handshake sends an IBI or nothing (R459). -/
theorem State.settle_out (s : State) : s.settle.ctl.out = s.ctl.out ∨ s.settle.ctl.out = ibiMsg :: s.ctl.out := by
  have h : (s.settleEvs.foldl State.logEntry s.settleWrap.evqClear).ctl.out = s.ctl.out := by
    rw [State.foldl_logEntry, State.settleWrap_eq]
    rfl
  unfold State.settle
  rw [← h]
  exact State.alertUpdate_out _

/-- A command that changes only the fields under `ks`, and raises events, keeps its frame to the end of its handshake. -/
theorem State.only_settle {s u : State} {ks : List Nat} (hf : ∀ (F : R.Fld) (i k : Nat), F.key i k ∉ ks → u.f F i k = s.f F i k)
    (hu : u = { s with fields := u.fields, ctl := { s.ctl with evq := u.ctl.evq } }) : s.Only u.settle ks := by
  have hout : u.ctl.out = s.ctl.out := by rw [hu]
  refine ⟨fun F i k hk hw ha => (State.f_settle u F i k hw ha).trans (hf F i k hk), ?_, hout ▸ u.settle_out⟩
  rw [State.settle_eq, hu]

/-! ### An access fault and an invalid encoding -/

theorem satAdd_lt (w n k : Nat) : satAdd w n k < 2 ^ w := by
  have := Nat.two_pow_pos w
  unfold satAdd
  split <;> omega

theorem State.f_accessFault_other (s : State) (a : Nat) (p : Path) (G : R.Fld) (i k : Nat)
    (h : G.key i k ∉ [R.GL_ACC_ACCESS_FAULTS.key 0 0, R.GL_EVT_ACCESS_FAULT.key 0 0]) : (s.accessFault a p).f G i k = s.f G i k := by
  simp only [List.mem_cons, List.not_mem_nil, or_false, not_or] at h
  obtain ⟨hacc, hevt⟩ := h
  exact (State.f_raise_other _ _ _ _ _ _ _ _ _ hevt).trans (State.f_addF_other _ _ _ _ _ _ _ _ hacc)

theorem State.f_accessFault_evt (s : State) (a : Nat) (p : Path) : (s.accessFault a p).f R.GL_EVT_ACCESS_FAULT = 1 :=
  State.f_raise_same _ _ _ _ _ _

/-- An access fault is counted (R9). -/
theorem State.f_accessFault_count (s : State) (a : Nat) (p : Path) :
    (s.accessFault a p).f R.GL_ACC_ACCESS_FAULTS = satAdd R.GL_ACC_ACCESS_FAULTS.w (s.f R.GL_ACC_ACCESS_FAULTS) 1 := by
  have hkey : R.GL_ACC_ACCESS_FAULTS.key 0 0 ≠ R.GL_EVT_ACCESS_FAULT.key 0 0 := by decide
  calc (s.accessFault a p).f R.GL_ACC_ACCESS_FAULTS
      = (s.addF R.GL_ACC_ACCESS_FAULTS).f R.GL_ACC_ACCESS_FAULTS := State.f_raise_other _ _ _ _ _ _ _ _ _ hkey
    _ = satAdd R.GL_ACC_ACCESS_FAULTS.w (s.f R.GL_ACC_ACCESS_FAULTS) 1 % 2 ^ R.GL_ACC_ACCESS_FAULTS.w := State.f_addF_same ..
    _ = _ := Nat.mod_eq_of_lt (satAdd_lt ..)

theorem State.f_invalidEnc_evt (s : State) (a v : Nat) (p : Path) : (s.invalidEnc a v p).f R.GL_EVT_INVALID_ENC = 1 :=
  State.f_raise_same _ _ _ _ _ _

theorem State.f_invalidEnc_other (s : State) (a v : Nat) (p : Path) (G : R.Fld) (i k : Nat)
    (hacc : G.key i k ≠ R.GL_ACC_INVALID_ENCS.key 0 0) (hevt : G.key i k ≠ R.GL_EVT_INVALID_ENC.key 0 0) :
    (s.invalidEnc a v p).f G i k = s.f G i k :=
  (State.f_raise_other _ _ _ _ _ _ _ _ _ hevt).trans (State.f_addF_other _ _ _ _ _ _ _ _ hacc)

@[simp] theorem bitsOf_mod (n lo w : Nat) : bitsOf n lo w % 2 ^ w = bitsOf n lo w := Nat.mod_mod _ _

/-- The part of a word that a one-bit field takes is its bit. -/
theorem bitsOf_one (n lo : Nat) : bitsOf n lo 1 = b2n (bit n lo) := by
  simp only [bitsOf, bit, b2n, Nat.testBit_eq_decide_div_mod_eq, Nat.shiftRight_eq_div_pow, decide_eq_true_eq, pow_one]
  split <;> omega

/-! ### A field by its access code (Table 00-3) -/

/-- The value that field F, holding `old`, has after word v is written to its register. -/
def written (F : R.Fld) (old v : Nat) (keep : R.Fld → Nat → Bool) : Nat :=
  let x := bitsOf v F.lo F.w
  match F.acc with
  | .rw => if !F.ok x || keep F x then old else x
  | .w1c => if x = 0 then old else (old &&& (2 ^ F.w - 1 - x)) % 2 ^ F.w
  | .w1s => (old ||| x) % 2 ^ F.w
  | _ => old

/-- Field F takes no reserved encoding, and word v holds one for it (R13). -/
def refused (F : R.Fld) (v : Nat) (keep : R.Fld → Nat → Bool) : Bool :=
  F.acc == .rw && (!F.ok (bitsOf v F.lo F.w) || keep F (bitsOf v F.lo F.w))

section
variable (s : State) (F G : R.Fld) (v i k : Nat) (p : Path) (keep : R.Fld → Nat → Bool)

theorem State.writeField_snd : (s.writeField F v i k p keep).2 = refused F v keep := by
  unfold State.writeField refused
  cases F.acc with
  | rw => by_cases hx : (!F.ok (bitsOf v F.lo F.w) || keep F (bitsOf v F.lo F.w)) = true <;> cases hb : F.reg.banked <;> simp [hx]
  | w1c => by_cases hx : bitsOf v F.lo F.w = 0 <;> simp [hx]
  | ro | wo | w1s | rwf | ros => rfl

theorem State.f_writeField_same (hb : F.reg.banked = false) :
    (s.writeField F v i k p keep).1.f F i k = written F (s.f F i k) v keep := by
  unfold State.writeField written
  cases F.acc with
  | rw => by_cases hx : (!F.ok (bitsOf v F.lo F.w) || keep F (bitsOf v F.lo F.w)) = true <;> simp [hx, hb]
  | w1c => by_cases hx : bitsOf v F.lo F.w = 0 <;> simp [hx]
  | w1s => exact State.f_setF_same _ _ _ _ _
  | ro | wo | rwf | ros => rfl

theorem State.f_writeField_other (i' k' : Nat) (h : G.key i' k' ≠ F.key i k) :
    (s.writeField F v i k p keep).1.f G i' k' = s.f G i' k' := by
  have hset : ∀ x, (s.setF F x i k).f G i' k' = s.f G i' k' := fun x => State.f_setF_other _ _ _ _ _ _ _ _ h
  have hidx : ∀ x, (s.setIdx p F x i).f G i' k' = s.f G i' k' := fun _ => rfl
  unfold State.writeField
  cases F.acc with
  | rw =>
    dsimp only
    split
    · rfl
    · cases F.reg.banked with
      | true => exact hidx _
      | false => exact hset _
  | w1c =>
    dsimp only
    split
    · rfl
    · exact hset _
  | w1s => exact hset _
  | ro | wo | rwf | ros => rfl

end

/-! ### A word that is written to the fields of a register (R10, R13) -/

/-- Word v taken by a list of fields in turn, without the event of a reserved encoding. -/
def State.writeFields (s : State) (fs : List R.Fld) (i k v : Nat) (p : Path) (keep : R.Fld → Nat → Bool) : State :=
  fs.foldl (fun s F => (s.writeField F v i k p keep).1) s

theorem State.foldl_writeField (fs : List R.Fld) (v i k : Nat) (p : Path) (keep : R.Fld → Nat → Bool) (s : State) (b : Bool) :
    fs.foldl (fun (acc : State × Bool) F =>
      ((acc.1.writeField F v i k p keep).1, acc.2 || (acc.1.writeField F v i k p keep).2)) (s, b) =
    (s.writeFields fs i k v p keep, b || fs.any fun F => refused F v keep) := by
  induction fs generalizing s b with
  | nil => simp [State.writeFields]
  | cons F r ih =>
    rw [List.foldl_cons, ih, State.writeField_snd]
    simp [State.writeFields, Bool.or_assoc]

/-- A register write is its fields' writes, and one event where a field refuses its value (R13). -/
theorem State.writeReg_eq (s : State) (F : R.Fld) (r : List R.Fld) (i k v : Nat) (p : Path) (keep : R.Fld → Nat → Bool) :
    s.writeReg (F :: r) i k v p keep =
      if (F :: r).any (fun G => refused G v keep) then (s.writeFields (F :: r) i k v p keep).invalidEnc (F.reg.at i k) v p
      else s.writeFields (F :: r) i k v p keep := by
  unfold State.writeReg
  dsimp only
  rw [State.foldl_writeField, Bool.false_or]

section
variable {fs : List R.Fld} {G : R.Fld} (s : State) (v i k : Nat) (p : Path) (keep : R.Fld → Nat → Bool)

theorem State.f_writeFields_other (i' k' : Nat) (h : ∀ F ∈ fs, G.key i' k' ≠ F.key i k) :
    (s.writeFields fs i k v p keep).f G i' k' = s.f G i' k' := by
  induction fs generalizing s with
  | nil => rfl
  | cons F r ih =>
    obtain ⟨hF, hr⟩ := List.forall_mem_cons.mp h
    exact (ih _ hr).trans (State.f_writeField_other _ _ _ _ _ _ _ _ _ _ hF)

/-- Each field of a register takes its own part of the word, whatever the others take. -/
theorem State.f_writeFields_mem (hd : fs.Pairwise fun F F' => F.key i k ≠ F'.key i k) (hG : G ∈ fs) (hb : G.reg.banked = false) :
    (s.writeFields fs i k v p keep).f G i k = written G (s.f G i k) v keep := by
  induction fs generalizing s with
  | nil => cases hG
  | cons F r ih =>
    obtain ⟨hF, hr⟩ := List.pairwise_cons.mp hd
    obtain rfl | hmem := List.mem_cons.mp hG
    · exact (State.f_writeFields_other _ _ _ _ _ _ _ _ hF).trans (State.f_writeField_same _ _ _ _ _ _ _ hb)
    · refine (ih _ hr hmem).trans ?_
      rw [State.f_writeField_other _ _ _ _ _ _ _ _ _ _ (hF G hmem).symm]

end

/-- A written field of a register whose fields are no counter of invalid encodings and not their event. -/
theorem State.f_writeReg_mem {F G : R.Fld} {r : List R.Fld} (s : State) (v i k : Nat) (p : Path) (keep : R.Fld → Nat → Bool)
    (hd : (F :: r).Pairwise fun F F' => F.key i k ≠ F'.key i k) (hG : G ∈ F :: r) (hb : G.reg.banked = false)
    (hacc : G.key i k ≠ R.GL_ACC_INVALID_ENCS.key 0 0) (hevt : G.key i k ≠ R.GL_EVT_INVALID_ENC.key 0 0) :
    (s.writeReg (F :: r) i k v p keep).f G i k = written G (s.f G i k) v keep := by
  rw [State.writeReg_eq]
  split
  · rw [State.f_invalidEnc_other _ _ _ _ _ _ _ hacc hevt, State.f_writeFields_mem _ _ _ _ _ _ hd hG hb]
  · exact State.f_writeFields_mem _ _ _ _ _ _ hd hG hb

/-- A reserved encoding in any field is an event (R13). -/
theorem State.f_writeReg_refused {F G : R.Fld} {r : List R.Fld} (s : State) (v i k : Nat) (p : Path) (keep : R.Fld → Nat → Bool)
    (hG : G ∈ F :: r) (h : refused G v keep = true) : (s.writeReg (F :: r) i k v p keep).f R.GL_EVT_INVALID_ENC = 1 := by
  rw [State.writeReg_eq, if_pos (List.any_eq_true.mpr ⟨G, hG, h⟩)]
  exact State.f_invalidEnc_evt _ _ _ _

/-! ### REG_WRITE (R9, R454) -/

theorem exec_regWrite_unserved {p : Path} {a w : Nat} {v : Word} {s : State} (h : s.regMode p = false) :
    exec (.regWrite p a w v) s = .next s := by
  show execRegWrite p a w v s = _
  simp [execRegWrite, h]

theorem exec_regWrite_fault {p : Path} {a w : Nat} {v : Word} {s : State} (h : s.regMode p = true) (ha : w ≠ 4 ∨ a % 4 ≠ 0) :
    exec (.regWrite p a w v) s = .next (s.accessFault a p).settle := by
  show execRegWrite p a w v s = _
  simp only [execRegWrite, h, not_true_eq_false, if_false, if_pos ha]
  rfl

/-- A write to a register whose fields store by their access codes. -/
theorem exec_regWrite_fields {p : Path} {a i k : Nat} {v : Word} {s : State} {F : R.Fld} {r : List R.Fld} (h : s.regMode p = true)
    (ha : a % 4 = 0) (hw : a < 0xF00000) (hat : regAt a = some (F :: r, i, k)) (hon : s.arrayOff F.reg i = false)
    (hp : s.pathBlind p a = false)
    (heff : s.regEffect p (F :: r) F.reg.addr i k v.toNat = s.writeReg (F :: r) i k v.toNat p) :
    exec (.regWrite p a 4 v) s = .next (s.writeReg (F :: r) i k v.toNat p).settle.settle := by
  have hput : s.windowPut p a v.toNat = (s.writeReg (F :: r) i k v.toNat p).settle := by
    simp only [State.windowPut, Nat.not_le.mpr hw, if_false, State.regPut, hat, hon, hp, Bool.or_self, Bool.false_eq_true, heff]
  show execRegWrite p a 4 v s = _
  simp [execRegWrite, h, ha, hput, done]

theorem State.f_settle_settle (s : State) (F : R.Fld) (i k : Nat) (h1 : F.key i k ≠ R.GL_EVT_LOG_WRAP.key 0 0)
    (h2 : F.key i k ≠ R.GL_SB_STS_ALERTS.key 0 0) : s.settle.settle.f F i k = s.f F i k :=
  (State.f_settle _ F i k h1 h2).trans (State.f_settle s F i k h1 h2)

/-! ### The registers of the statement -/

/-- The fields of PT_TRANS_CFG. -/
def transFields : List R.Fld :=
  [R.PT_TRANS_CFG_GIVEUP, R.PT_TRANS_CFG_RTO_MIN, R.PT_TRANS_CFG_PMTU, R.PT_TRANS_CFG_RETRY_CNT, R.PT_TRANS_CFG_ACK_TO]

/-- The fields of CK_EVT. -/
def ckEvtFields : List R.Fld :=
  [R.CK_EVT_REF_LOST, R.CK_EVT_SWITCHED, R.CK_EVT_HOLD_LONG, R.CK_EVT_NO_REF, R.CK_EVT_REF_BACK, R.CK_EVT_FREQ_BAD,
    R.CK_EVT_CSI_LOW, R.CK_EVT_REF_WAIT]

theorem exec_regWrite_transCfg {i : Nat} {v : Word} {s : State} (h : s.regMode .sideband = true) (hi : i < 2) :
    exec (.regWrite .sideband (R.PT_TRANS_CFG.at i 0) 4 v) s =
      .next (s.writeReg transFields i 0 v.toNat .sideband).settle.settle := by
  interval_cases i
  · exact exec_regWrite_fields h (by decide) (by decide) (by decide) rfl rfl rfl
  · exact exec_regWrite_fields h (by decide) (by decide) (by decide) rfl rfl rfl

theorem exec_regWrite_ckEvt {v : Word} {s : State} (h : s.regMode .sideband = true) :
    exec (.regWrite .sideband 0x30040 4 v) s = .next (s.writeReg ckEvtFields 0 0 v.toNat .sideband).settle.settle :=
  exec_regWrite_fields h (by decide) (by decide) (by decide) rfl rfl rfl

theorem exec_regWrite_evtEn {v : Word} {s : State} (h : s.regMode .sideband = true) :
    exec (.regWrite .sideband (R.GL_EVT_EN.at 0 0) 4 v) s =
      .next (s.writeReg [R.GL_EVT_EN_EN] 0 0 v.toNat .sideband).settle.settle :=
  exec_regWrite_fields h (by decide) (by decide) (by decide) rfl rfl rfl

/-- The fields of GLOBAL that a register write and the end of its handshake may change by themselves: the count and the event of
invalid encodings, LOG_WRAP, and the count of alerts. -/
def bookKeys : List Nat :=
  [R.GL_ACC_INVALID_ENCS.key 0 0, R.GL_EVT_INVALID_ENC.key 0 0, R.GL_EVT_LOG_WRAP.key 0 0, R.GL_SB_STS_ALERTS.key 0 0]

/-- A written field of a register, read after the command. -/
theorem State.f_writeReg_settled {F G : R.Fld} {r : List R.Fld} (s : State) (v i k : Nat) (p : Path) (keep : R.Fld → Nat → Bool)
    (hd : (F :: r).Pairwise fun F F' => F.key i k ≠ F'.key i k) (hG : G ∈ F :: r) (hb : G.reg.banked = false)
    (hgl : G.key i k ∉ bookKeys) :
    (s.writeReg (F :: r) i k v p keep).settle.settle.f G i k = written G (s.f G i k) v keep := by
  simp only [bookKeys, List.mem_cons, List.not_mem_nil, or_false, not_or] at hgl
  obtain ⟨hacc, hevt, hwrap, halert⟩ := hgl
  rw [State.f_settle_settle _ _ _ _ hwrap halert, State.f_writeReg_mem _ _ _ _ _ _ hd hG hb hacc hevt]

/-- A one-bit event field after a write: 1 clears it, and 0 leaves it. -/
theorem written_w1c {F : R.Fld} {old v : Nat} {keep : R.Fld → Nat → Bool} (hacc : F.acc = .w1c) (hw : F.w = 1) :
    written F old v keep = if bit v F.lo then 0 else old := by
  unfold written
  rw [hacc, hw, bitsOf_one]
  cases bit v F.lo <;> simp [b2n]

/-- A plain field after a write: its part of the word, or its old value where that is a reserved encoding (R13). -/
theorem written_rw {F : R.Fld} {old v : Nat} (hacc : F.acc = .rw) :
    written F old v (fun _ _ => false) = if F.ok (bitsOf v F.lo F.w) then bitsOf v F.lo F.w else old := by
  unfold written
  rw [hacc]
  by_cases hok : F.ok (bitsOf v F.lo F.w) = true <;> simp [hok]

theorem refused_rw {F : R.Fld} {v : Nat} {keep : R.Fld → Nat → Bool} (hacc : F.acc = .rw)
    (hok : F.ok (bitsOf v F.lo F.w) = false) : refused F v keep = true := by
  simp [refused, hacc, hok]

theorem regWrite_accessFault (p : Path) (a w : Nat) (v : Word) (s : State) (h : s.regMode p = true) (ha : w ≠ 4 ∨ a % 4 ≠ 0) :
    ∃ t, exec (.regWrite p a w v) s = .next t ∧ t.f R.GL_EVT_ACCESS_FAULT = 1 ∧
      t.f R.GL_ACC_ACCESS_FAULTS = satAdd R.GL_ACC_ACCESS_FAULTS.w (s.f R.GL_ACC_ACCESS_FAULTS) 1 ∧
      s.Only t [R.GL_ACC_ACCESS_FAULTS.key 0 0, R.GL_EVT_ACCESS_FAULT.key 0 0] := by
  refine ⟨_, exec_regWrite_fault h ha, ?_, ?_, State.only_settle (State.f_accessFault_other s a p) rfl⟩
  · rw [State.f_settle _ _ _ _ (by decide) (by decide), State.f_accessFault_evt]
  · rw [State.f_settle _ _ _ _ (by decide) (by decide), State.f_accessFault_count]

theorem regWrite_transCfg (i : Nat) (v : Word) (s : State) (h : s.regMode .sideband = true) (hi : i < 2) :
    ∃ t, exec (.regWrite .sideband (R.PT_TRANS_CFG.at i 0) 4 v) s = .next t ∧
      (∀ F, F ∈ [R.PT_TRANS_CFG_GIVEUP, R.PT_TRANS_CFG_RTO_MIN, R.PT_TRANS_CFG_PMTU] →
        t.f F i = if F.ok (bitsOf v.toNat F.lo F.w) then bitsOf v.toNat F.lo F.w else s.f F i) ∧
      ((∃ F, F ∈ [R.PT_TRANS_CFG_GIVEUP, R.PT_TRANS_CFG_RTO_MIN, R.PT_TRANS_CFG_PMTU] ∧ F.ok (bitsOf v.toNat F.lo F.w) = false) →
        t.f R.GL_EVT_INVALID_ENC = 1) := by
  have hsub : ∀ F ∈ [R.PT_TRANS_CFG_GIVEUP, R.PT_TRANS_CFG_RTO_MIN, R.PT_TRANS_CFG_PMTU],
      F ∈ transFields ∧ F.acc = .rw ∧ F.reg.banked = false := by decide
  have hkeys : ∀ j < 2, (transFields.Pairwise fun F F' => F.key j 0 ≠ F'.key j 0) ∧
      ∀ F ∈ transFields, F.key j 0 ∉ bookKeys := by decide
  obtain ⟨hd, hgl⟩ := hkeys i hi
  refine ⟨_, exec_regWrite_transCfg h hi, fun F hF => ?_, fun ⟨F, hF, hok⟩ => ?_⟩
  · obtain ⟨hmem, hacc, hb⟩ := hsub F hF
    exact (State.f_writeReg_settled _ _ _ _ _ _ hd hmem hb (hgl F hmem)).trans (written_rw hacc)
  · obtain ⟨hmem, hacc, -⟩ := hsub F hF
    rw [State.f_settle_settle _ _ _ _ (by decide) (by decide)]
    exact State.f_writeReg_refused _ _ _ _ _ _ hmem (refused_rw hacc hok)

theorem regWrite_ckEvt (v : Word) (F : R.Fld) (s : State) (h : s.regMode .sideband = true) (hF : F ∈ ckEvtFields) :
    ∃ t, exec (.regWrite .sideband 0x30040 4 v) s = .next t ∧ t.f F = if bit v.toNat F.lo then 0 else s.f F := by
  have hfld : ∀ F ∈ ckEvtFields, F.acc = .w1c ∧ F.w = 1 ∧ F.reg.banked = false ∧ F.key 0 0 ∉ bookKeys := by decide
  obtain ⟨hacc, hw, hb, hgl⟩ := hfld F hF
  refine ⟨_, exec_regWrite_ckEvt h, ?_⟩
  exact (State.f_writeReg_settled _ _ _ _ _ _ (by decide) hF hb hgl).trans (written_w1c hacc hw)

theorem regWrite_evtEn (v : Word) (s : State) (h : s.regMode .sideband = true) :
    ∃ t, exec (.regWrite .sideband (R.GL_EVT_EN.at 0 0) 4 v) s = .next t ∧ t.alertRight ∧
      t.f R.GL_EVT_EN_EN = bitsOf v.toNat R.GL_EVT_EN_EN.lo R.GL_EVT_EN_EN.w := by
  refine ⟨_, exec_regWrite_evtEn h, (State.settle_settled _).2, ?_⟩
  exact (State.f_writeReg_settled _ _ _ _ _ _ (by decide) (by decide) rfl (by decide)).trans (written_rw rfl)

/-- Settles O59: clause by clause, an unserved path, an access fault, and the three registers that the statement names. -/
theorem registerWrites : Obligations.RegisterWrites :=
  ⟨fun _ _ _ _ _ h => exec_regWrite_unserved h, regWrite_accessFault, regWrite_transCfg,
   fun v F s h hF _ => regWrite_ckEvt v F s h hF, regWrite_evtEn⟩

end Sys2Proof.Machine
end

section
/-! SUPPORT. What records and DRAM leave as it is: the mode with its last change, the boot state, and the record on flash. -/

namespace Sys2Proof.Machine

/-- The mode with its last change (R32), the boot state, and what the Logbook holds on flash. -/
def State.standing (s : State) : (Mode × Nat × Nat) × Boot × Persist := ((s.ctl.mode, s.ctl.prev, s.ctl.trigger), s.boot, s.disk)

section
variable {s t : State} (h : t.standing = s.standing)
include h

theorem State.mode_of_standing : t.ctl.mode = s.ctl.mode := congrArg (fun x => x.1.1) h
theorem State.prev_of_standing : t.ctl.prev = s.ctl.prev := congrArg (fun x => x.1.2.1) h
theorem State.trigger_of_standing : t.ctl.trigger = s.ctl.trigger := congrArg (fun x => x.1.2.2) h

end

/-! ### Choices and repetitions -/

theorem standing_ite {c : Prop} [Decidable c] {s a b : State} (ha : a.standing = s.standing) (hb : b.standing = s.standing) :
    (if c then a else b).standing = s.standing := by
  split
  · exact ha
  · exact hb

theorem standing_foldl {α : Type} {f : State → α → State} (h : ∀ s a, (f s a).standing = s.standing) (l : List α) (s : State) :
    (l.foldl f s).standing = s.standing := by
  induction l generalizing s with
  | nil => rfl
  | cons a r ih => exact (ih _).trans (h s a)

theorem standing_each {f : State → Nat → State} (h : ∀ s a, (f s a).standing = s.standing) (n : Nat) (s : State) :
    (s.each n f).standing = s.standing := standing_foldl h _ s

/-! ### Fields and events -/

theorem standing_withMedia (s : State) (m : Media) : { s with media := m }.standing = s.standing := rfl
theorem standing_modShell (s : State) (x : Nat) (f : Shell → Shell) : (s.modShell x f).standing = s.standing := rfl
theorem standing_setF (s : State) (F : R.Fld) (v i k : Nat) : (s.setF F v i k).standing = s.standing := rfl
theorem standing_addF (s : State) (F : R.Fld) (n i k : Nat) : (s.addF F n i k).standing = s.standing := rfl
theorem standing_raise (s : State) (F : R.Fld) (p1 p2 p3 i : Nat) : (s.raise F p1 p2 p3 i).standing = s.standing := rfl

theorem standing_raiseLimited (s : State) (k : Nat) (F : R.Fld) (p1 p2 p3 i : Nat) :
    (s.raiseLimited k F p1 p2 p3 i).standing = s.standing := standing_ite rfl rfl

/-! ### The Logbook (R271, R272) -/

theorem standing_openShell (s : State) (x kind owner : Nat) (slc : Bool) : (s.openShell x kind owner slc).standing = s.standing :=
  standing_ite ((standing_raise ..).trans (standing_modShell ..)) (standing_modShell ..)

theorem standing_addJob (s : State) (j : Job) : (s.addJob j).standing = s.standing := rfl

theorem standing_pushRec (s : State) (kind : RecKind) (obj : Nat) (body : List Nat) :
    (s.pushRec kind obj body).standing = s.standing := rfl

/-- A Logbook shell is opened where it was Erased. -/
theorem standing_logOpen (s : State) (c : Prop) [Decidable c] (x : Nat) :
    (if c then { s.openShell x 4 0 true with per.logPos := x + 1 } else s).standing = s.standing :=
  standing_ite (show (s.openShell x 4 0 true).standing = _ from standing_openShell ..) rfl

theorem standing_tailOut (s : State) : s.tailOut.standing = s.standing := by
  unfold State.tailOut
  split
  · rfl
  · refine standing_ite rfl (standing_ite ((standing_pushRec ..).trans ?_) ?_)
    all_goals
      refine (standing_withMedia _ _).trans ((standing_addJob _ _).trans ((standing_logOpen _ _ _).trans ?_))
      exact standing_ite rfl (standing_withMedia _ _)

theorem standing_recordB (s : State) (kind : RecKind) (obj : Nat) (body : List Nat) :
    (s.recordB kind obj body).standing = s.standing :=
  (standing_pushRec _ _ _ _).trans (standing_ite (standing_tailOut s) rfl)

theorem standing_recordCfg (s : State) (kind idx : Nat) (words : List Nat) : (s.recordCfg kind idx words).standing = s.standing :=
  standing_recordB ..

end Sys2Proof.Machine
end

section
/-! SUPPORT. A change of mode (R32, R34): what it writes, the register fields that it may change, and what a message leaves behind. -/

namespace Sys2Proof.Machine

/-! ### The register fields of a change of mode -/

/-- The fields that a change of mode may write: its event, HOLDUP_EN with what disarms hold-up (R392), and the event of the rollback
count (R428). -/
def modeKeys : List Nat :=
  [R.GL_EVT_MODE_CHG.key 0 0, R.GL_EVT_TRIG_IGNORED.key 0 0, R.PW_STS_HOLDUP_EN.key 0 0, R.PW_STS_ARMED.key 0 0,
    R.RC_ACK_STS_ACK_RULE.key 0 0, R.RC_ACK_STS_RULE_CHANGES.key 0 0, R.PW_EVT_DISARMED.key 0 0,
    R.RC_EVT_ACK_RULE_CHG.key 0 0, R.BT_EVT_RB_RAISED.key 0 0]

theorem State.f_disarm_other (s : State) (F : R.Fld) (i k : Nat) (h : F.key i k ∉ [R.PW_STS_ARMED.key 0 0,
    R.RC_ACK_STS_ACK_RULE.key 0 0, R.RC_ACK_STS_RULE_CHANGES.key 0 0, R.PW_EVT_DISARMED.key 0 0, R.RC_EVT_ACK_RULE_CHG.key 0 0]) :
    s.disarm.f F i k = s.f F i k := by
  simp only [List.mem_cons, List.not_mem_nil, or_false, not_or] at h
  obtain ⟨harmed, hrule, hcount, hdis, hchg⟩ := h
  unfold State.disarm
  split
  · rw [State.f_raise_other _ _ _ _ _ _ _ _ _ hchg, State.f_raise_other _ _ _ _ _ _ _ _ _ hdis, State.f_addF_other _ _ _ _ _ _ _ _ hcount,
      State.f_setF_other _ _ _ _ _ _ _ _ hrule, State.f_setF_other _ _ _ _ _ _ _ _ harmed]
  · rfl

theorem State.f_serviceEntry_other (s : State) (F : R.Fld) (i k : Nat) (h : F.key i k ≠ R.BT_EVT_RB_RAISED.key 0 0) :
    s.serviceEntry.f F i k = s.f F i k := by
  unfold State.serviceEntry State.raiseCount
  split
  · split
    · split
      · exact State.f_raise_other _ _ _ _ _ _ _ _ _ h
      · rfl
    · rfl
  · rfl

/-- After its event a change of mode writes no field but these. -/
theorem State.f_chmode (s : State) (t : Nat) (m : Mode) (F : R.Fld) (i k : Nat) (h : F.key i k ∉ modeKeys.tail) :
    (s.chmode t m).f F i k = (s.raise R.GL_EVT_MODE_CHG s.mode.num m.num t).f F i k := by
  simp only [modeKeys, List.tail_cons, List.mem_cons, List.not_mem_nil, or_false, not_or] at h
  obtain ⟨-, hen, harmed, hrule, hcount, hdis, hchg, hrb⟩ := h
  have hdisarm : ∀ u : State, u.disarm.f F i k = u.f F i k := fun u => State.f_disarm_other u F i k (by simp [*])
  have hentry : ∀ u : State, u.serviceEntry.f F i k = u.f F i k := fun u => State.f_serviceEntry_other u F i k hrb
  have hset : ∀ (u : State) (v : Nat), (u.setF R.PW_STS_HOLDUP_EN v).f F i k = u.f F i k := fun u v =>
    State.f_setF_other _ _ _ _ _ _ _ _ hen
  unfold State.chmode
  dsimp only
  split <;> split <;> simp only [hdisarm, hentry, hset] <;> rfl

theorem State.f_move_other (s : State) (t : Nat) (m : Mode) (F : R.Fld) (i k : Nat) (h : F.key i k ∉ modeKeys) :
    (s.move t m).f F i k = s.f F i k := by
  unfold State.move
  split
  · rw [State.f_chmode _ _ _ _ _ _ fun hm => h (List.mem_of_mem_tail hm)]
    exact State.f_raise_other _ _ _ _ _ _ _ _ _ fun he => h (by simp [modeKeys, he])
  · exact State.f_raise_other _ _ _ _ _ _ _ _ _ fun he => h (by simp [modeKeys, he])

theorem State.move_of_canMove {s : State} {t : Nat} {m : Mode} (h : canMove s.mode t m = true) : s.move t m = s.chmode t m := by
  unfold State.move
  rw [if_pos h]

theorem State.f_move_evt {s : State} {t : Nat} {m : Mode} (h : canMove s.mode t m = true) :
    (s.move t m).f R.GL_EVT_MODE_CHG = 1 := by
  rw [State.move_of_canMove h, State.f_chmode _ _ _ _ _ _ (by decide)]
  exact State.f_raise_same ..

/-! ### The mode and what stands beside it -/

theorem standing_disarm (s : State) : s.disarm.standing = s.standing := by
  unfold State.disarm
  refine standing_ite ((standing_raise ..).trans ((standing_raise ..).trans ?_)) rfl
  exact (standing_addF ..).trans ((standing_setF ..).trans (standing_setF ..))

/-- A rollback count that rises leaves the mode with its last change. -/
theorem State.serviceEntry_ctl (s : State) : s.serviceEntry.ctl = { s.ctl with evq := s.serviceEntry.ctl.evq } := by
  unfold State.serviceEntry State.raiseCount
  split
  · split
    · split <;> rfl
    · rfl
  · rfl

theorem State.chmode_standing (s : State) (t : Nat) {m : Mode} (hm : m ≠ .service) :
    (s.chmode t m).standing = ((m, s.mode.num, t), s.boot, s.disk) := by
  unfold State.chmode
  rw [if_neg hm]
  dsimp only
  split
  · rfl
  · exact standing_disarm _

theorem State.chmode_mode (s : State) (t : Nat) (m : Mode) :
    (s.chmode t m).mode = m ∧ (s.chmode t m).ctl.prev = s.mode.num ∧ (s.chmode t m).ctl.trigger = t := by
  by_cases hm : m = .service
  · unfold State.chmode
    rw [if_pos hm]
    rw [State.mode, State.serviceEntry_ctl]
    dsimp only
    split
    · exact ⟨rfl, rfl, rfl⟩
    · rw [State.mode_of_standing (standing_disarm _), State.prev_of_standing (standing_disarm _),
        State.trigger_of_standing (standing_disarm _)]
      exact ⟨rfl, rfl, rfl⟩
  · have hst := s.chmode_standing t hm
    exact ⟨congrArg (fun x => x.1.1) hst, congrArg (fun x => x.1.2.1) hst, congrArg (fun x => x.1.2.2) hst⟩

theorem State.move_standing {s : State} {t : Nat} {m : Mode} (h : canMove s.mode t m = true) (hm : m ≠ .service) :
    (s.move t m).standing = ((m, s.mode.num, t), s.boot, s.disk) :=
  (congrArg State.standing (State.move_of_canMove h)).trans (s.chmode_standing t hm)

/-! ### Messages (R51) -/

/-- What was sent or is held back stays so at the end of the handshake. -/
theorem State.Sent.settle {s : State} {kind : MK} {dst : Nat} {args data : List Nat} (h : s.Sent kind dst args data) :
    s.settle.Sent kind dst args data := by
  obtain ⟨m, hm, hrest⟩ := h
  have hheld : s.settle.ctl.held = s.ctl.held := by rw [State.settle_eq]
  refine ⟨m, ?_, hrest⟩
  rw [hheld]
  rcases s.settle_out with hout | hout
  · rw [hout]; exact hm
  · rw [hout]; exact List.mem_cons_of_mem _ hm

theorem State.sent_send (s : State) (kind : MK) (dst : Nat) (args data : List Nat) :
    (s.send kind dst args data).Sent kind dst args data := by
  unfold State.send Ctl.post
  refine ⟨{ kind := kind, dst := dst, args := args, data := data, tx := s.txMark kind dst none }, ?_, rfl, rfl, rfl, rfl⟩
  dsimp only
  split <;> simp

end Sys2Proof.Machine
end

section
/-! SUPPORT. The ends of Discovery and Rebuild (R276, Table 01-8). -/

namespace Sys2Proof.Machine

/-- Discovery without a clean close goes on in Rebuild. -/
theorem exec_discoveryDone_unclean {s : State} (hm : s.mode = .discovery) (htrain : s.boot.trainFail = false)
    (hstop : s.clk.stopped = false) (hclean : s.boot.clean = false) :
    exec .discoveryDone s = .next (((((({ s.slicesStart.unwrapKeys with media.loadStart := s.clk.tb } : State).setF
      R.MD_REBUILD_STEP 1).move 0x05 .rebuild).portsTrain).discSync s).settle) := by
  show execDiscoveryDone s = _
  simp [execDiscoveryDone, hm, htrain, hstop, hclean, done]

/-- Discovery after a clean close, with no Sanitize to go on with, ends in Service. -/
theorem exec_discoveryDone_clean {s u : State} (hm : s.mode = .discovery) (htrain : s.boot.trainFail = false)
    (hstop : s.clk.stopped = false) (hclean : s.boot.clean = true)
    (hu : u = ((s.slicesStart.unwrapKeys.handleOpen.zoneSettleAll false).requeue.requeueShells).loadEnd.spareReport)
    (hsan : s.per.san ≠ 2) :
    exec .discoveryDone s = .next ((((u.move 0x04 .service).portsTrain.spareCheck).discSync s).settle) := by
  show execDiscoveryDone s = _
  simp [execDiscoveryDone, hm, htrain, hstop, hclean, done, ← hu, hsan]

section
variable {bad : List ScanBad} {l : List ScanRow} {s u : State} (hl : l = s.scan bad) (hm : s.mode = .rebuild)
  (hstop : s.clk.stopped = false)
  (hu : u = ((((l.foldl State.scanWp (l.foldl State.adopt (s.scanReads l))).requeue.handleOpen.zoneSettleAll
    true).requeueShells).loadEnd.spareReport))
  (hsan : u.per.san ≠ 2)
include hl hm hstop hu hsan

theorem exec_rebuildDone_service (hok : u.spareOk = true) :
    exec (.rebuildDone bad) s = .next ((({ u with per.roEntry := false }.move 0x06 .service).afterRows).settle) := by
  show execRebuildDone bad s = _
  simp [execRebuildDone, hm, hstop, done, ← hl, ← hu, hsan, hok]

theorem exec_rebuildDone_readOnly (hok : u.spareOk = false) :
    exec (.rebuildDone bad) s =
      .next (((({ u with per.roEntry := true }.record .mode 3).raise R.MD_EVT_READ_ONLY).move 0x08 .readOnly).afterRows.settle) := by
  show execRebuildDone bad s = _
  simp [execRebuildDone, hm, hstop, done, ← hl, ← hu, hsan, hok]

end

/-- Settles O53: the ends of Discovery and of Rebuild, and what each change of mode writes. -/
theorem discoveryAndRebuildEnd : Obligations.DiscoveryAndRebuildEnd := by
  refine ⟨fun s => exec_discoveryDone_unclean, fun s u => exec_discoveryDone_clean, ?_, ?_⟩
  · intro bad l s u hl hm hstop hu hsan
    exact ⟨exec_rebuildDone_service hl hm hstop hu hsan, exec_rebuildDone_readOnly hl hm hstop hu hsan⟩
  · intro t m s h
    have hmode := s.chmode_mode t m
    rw [← State.move_of_canMove h] at hmode
    obtain ⟨hm, hprev, htrig⟩ := hmode
    exact ⟨hm, hprev, htrig, State.f_move_evt h⟩

end Sys2Proof.Machine
end

section
/-! SUPPORT. The work of DRAM leaves the mode, the boot state and the record on flash: lines and marks, the completion of held requests
before self-refresh (Table 12-6), and training (R331). -/

namespace Sys2Proof.Machine

theorem standing_modChan (s : State) (c : Nat) (f : Channel → Channel) : (s.modChan c f).standing = s.standing := rfl

theorem standing_withDram (s : State) (d : Dram) : { s with dram := d }.standing = s.standing := rfl
theorem standing_drawGarbage (s : State) : s.drawGarbage.2.standing = s.standing := rfl
theorem standing_validSync (s : State) : s.validSync.standing = s.standing := standing_setF ..

/-! ### Lines and marks (R337, R338) -/

theorem standing_setLine (s : State) (c a v : Nat) : (s.setLine c a v).standing = s.standing :=
  standing_ite (standing_modChan ..) (standing_modChan ..)

theorem standing_markDev (s : State) (c d : Nat) (record : Bool) : (s.markDev c d record).standing = s.standing := by
  unfold State.markDev
  refine standing_ite (standing_raise ..) (standing_ite ((standing_recordCfg ..).trans ?_) ?_)
  · exact (standing_raise (F := R.DR_EVT_DEV_MARKED) ..).trans ((standing_setF ..).trans (standing_setF ..))
  · exact (standing_raise ..).trans ((standing_setF ..).trans (standing_setF ..))

theorem standing_devCount (s : State) (c d : Nat) : (s.devCount c d).standing = s.standing :=
  standing_ite ((standing_markDev ..).trans (standing_addF ..)) (standing_addF ..)

theorem standing_countRead (s : State) (c a : Nat) (r : LineRes) : (s.countRead c a r).standing = s.standing := by
  unfold State.countRead
  refine standing_ite ((standing_raise ..).trans (standing_addF ..)) (standing_ite ?_ rfl)
  exact (standing_foldl (fun t d => standing_devCount t c d) _ _).trans ((standing_raiseLimited ..).trans (standing_addF ..))

theorem standing_fillRegion (s : State) (x : Nat) : (s.fillRegion x).standing = s.standing := by
  unfold State.fillRegion
  refine standing_ite rfl ((standing_validSync _).trans ((standing_withDram ..).trans ?_))
  exact standing_foldl (fun t k => standing_setLine t _ _ 0) _ s

theorem standing_writeLine (s : State) (c a byte : Nat) (data : List Nat) : (s.writeLine c a byte data).standing = s.standing := by
  unfold State.writeLine
  have hfill := standing_fillRegion s (s.dramAddr c a)
  have hcount : ∀ r, ((s.fillRegion (s.dramAddr c a)).countRead c a r).standing = s.standing := fun r =>
    (standing_countRead ..).trans hfill
  refine standing_ite ((standing_setLine ..).trans hfill) (standing_ite ((standing_raise ..).trans hfill) (standing_ite ?_ ?_))
  · exact (standing_raise ..).trans ((standing_setLine ..).trans (hcount _))
  · exact (standing_setLine ..).trans (hcount _)

/-! ### Requests and reads (R336, R346) -/

theorem standing_perform (s : State) (c : Nat) (w : DrWait) : (s.perform c w).standing = s.standing := by
  unfold State.perform
  split
  · exact (standing_writeLine ..).trans (standing_modChan ..)
  · exact standing_ite (standing_modChan ..) rfl

theorem standing_performAll (s : State) (c : Nat) (l : List DrWait) : (s.performAll c l).standing = s.standing := by
  have h : ∀ (a : Bool × State), (l.foldl (fun (a : Bool × State) w =>
      if w.req.data.isSome then (true, a.2.perform c w) else (a.1, if a.1 then a.2 else a.2.perform c w)) a).2.standing =
      a.2.standing := by
    induction l with
    | nil => exact fun _ => rfl
    | cons w r ih =>
      intro a
      refine (ih _).trans ?_
      dsimp only
      split
      · exact standing_perform ..
      · exact standing_ite rfl (standing_perform ..)
  exact h (false, s)

theorem standing_lineUp (s : State) (c a : Nat) : (s.lineUp c a).standing = s.standing :=
  (standing_performAll ..).trans (standing_modChan ..)

theorem standing_readDone (s : State) (c : Nat) (rd : DrRead) : (s.readDone c rd).standing = s.standing := by
  unfold State.readDone
  have hcount := standing_countRead s c rd.line (decodeLine (s.markOf c) rd.raw)
  refine standing_ite (standing_ite hcount ?_) (standing_ite ((standing_modChan ..).trans hcount) hcount)
  refine standing_ite ((standing_setLine ..).trans ((standing_drawGarbage _).trans ?_)) ((standing_raise ..).trans hcount)
  exact (standing_raise ..).trans hcount

/-! ### Self-refresh (R353) -/

theorem standing_dramSelfRefresh (s : State) : s.dramSelfRefresh.standing = s.standing := by
  unfold State.dramSelfRefresh
  have hchannels : ∀ (t : State) (c : Nat), (if t.dramRuns c then
      ((((t.chan c).queue.foldl (fun (u : State) w => if w.req.data.isSome then u.lineUp c w.req.line else u) t).chan c).reads.foldl
        (fun (u : State) r => u.readDone c r)
        (((t.chan c).queue.foldl (fun (u : State) w => if w.req.data.isSome then u.lineUp c w.req.line else u) t).modChan c
          fun x => { x with reads := [] })).setF R.DR_STS_CSTATE 5 c
      else t).standing = t.standing := by
    intro t c
    refine standing_ite ((standing_setF ..).trans ((standing_foldl (fun u r => standing_readDone u c r) _ _).trans ?_)) rfl
    exact (standing_modChan ..).trans (standing_foldl (fun u w => standing_ite (standing_lineUp ..) rfl) _ t)
  exact standing_ite ((standing_setF ..).trans (standing_each hchannels 4 s)) (standing_each hchannels 4 s)

/-! ### Training (R331) -/

theorem standing_testBits (s : State) : s.testBits.standing = s.standing := by
  unfold State.testBits
  refine standing_ite rfl ((standing_validSync _).trans ?_)
  exact standing_each (fun t k => standing_withDram t _) _ s

theorem standing_copyLine (s : State) (c a : Nat) : (s.copyLine c a).2.standing = s.standing :=
  (standing_countRead ..).trans (standing_lineUp s c a)

theorem standing_remapPut (s : State) (c i e : Nat) : (s.remapPut c i e).standing = s.standing := by
  unfold State.remapPut
  refine (standing_modChan ..).trans (standing_foldl (fun t a => ?_) _ s)
  exact (standing_modChan ..).trans (standing_copyLine t c a)

theorem standing_dramTrain (s : State) (bad : List Nat) (topologyOk : Bool) :
    (s.dramTrain bad topologyOk).2.standing = s.standing := by
  unfold State.dramTrain
  extract_lets count n fails ok u v w
  have hfirst : u.standing = s.standing := by
    refine standing_each (fun t c => standing_ite ((standing_raise ..).trans (standing_setF ..)) ?_) n s
    split
    · exact standing_ite ((standing_modChan ..).trans (standing_setF ..))
        ((standing_markDev ..).trans ((standing_modChan ..).trans (standing_setF ..)))
    · exact (standing_modChan ..).trans (standing_setF ..)
  have hrecorded : w.standing = v.standing := by
    refine standing_each (fun t c => (standing_foldl (fun a i => standing_ite rfl (standing_remapPut ..)) _ _).trans ?_) n v
    exact standing_ite rfl (standing_markDev ..)
  by_cases hok : ¬ ok = true
  · rw [if_pos hok]
    exact hfirst
  · rw [if_neg hok]
    exact (standing_withDram ..).trans ((standing_setF ..).trans (hrecorded.trans ((standing_testBits u).trans hfirst)))

end Sys2Proof.Machine
end

section
/-! SUPPORT. The other changes of mode (Table 01-8): Feathered, Trial, and the ways back to Bootstrap. -/

namespace Sys2Proof.Machine

theorem State.change_of_standing {s : State} {m : Mode} {p t : Nat} {b : Boot} {d : Persist} (h : s.standing = ((m, p, t), b, d)) :
    s.mode = m ∧ s.ctl.prev = p ∧ s.ctl.trigger = t ∧ s.boot = b ∧ s.disk = d := by
  simp only [State.standing, Prod.mk.injEq] at h
  obtain ⟨⟨hm, hp, ht⟩, hb, hd⟩ := h
  exact ⟨hm, hp, ht, hb, hd⟩

/-! ### Feathered (R39) -/

theorem State.rest_standing {s : State} {t : Nat} (hm : s.mode = .service) (ht : canMove .service t .feathered = true) :
    (s.rest t).standing = ((.feathered, 4, t), s.boot, s.disk) := by
  have hmove := State.move_standing (s := s) (t := t) (m := .feathered) (by rw [hm]; exact ht) (by decide)
  rw [hm] at hmove
  exact (standing_dramSelfRefresh _).trans hmove

theorem exec_featheredIdleTimeout {s : State} (hm : s.mode = .service) (hrest : s.mayRest = true)
    (hidle : s.boot.image.idleTimeoutS ≠ 0) : exec .featheredIdleTimeout s = .next (s.rest 0x09).settle := by
  show execFeatheredIdleTimeout s = _
  simp [execFeatheredIdleTimeout, hm, hrest, hidle, done]

theorem exec_featheredRequest {s : State} (hm : s.mode = .service) (hrest : s.mayRest = true) :
    exec .featheredRequest s = .next ((s.rest 0x0A).send .fmEnter 0 [1]).settle := by
  show execFeatheredRequest s = _
  simp [execFeatheredRequest, hm, hrest, done]

theorem exec_featheredRequest_busy {s : State} (hm : s.mode = .service) (hrest : s.mayRest = false) :
    exec .featheredRequest s = .next (s.send .fmEnter 0 [0]).settle := by
  show execFeatheredRequest s = _
  simp [execFeatheredRequest, hm, hrest, done]

theorem feathered_entered (s : State) (hm : s.mode = .service) (hrest : s.mayRest = true) :
    (s.boot.image.idleTimeoutS ≠ 0 → ∃ t, exec .featheredIdleTimeout s = .next t ∧ t.mode = .feathered ∧ t.ctl.trigger = 9 ∧
      t.ctl.prev = 4) ∧
    ∃ t, exec .featheredRequest s = .next t ∧ t.mode = .feathered ∧ t.ctl.trigger = 10 ∧ t.Sent .fmEnter 0 [1] [] := by
  constructor
  · intro hidle
    obtain ⟨hmode, hprev, htrig, -, -⟩ := State.change_of_standing (State.rest_standing (t := 0x09) hm rfl)
    exact ⟨_, exec_featheredIdleTimeout hm hrest hidle, by simpa using hmode, by simpa using htrig, by simpa using hprev⟩
  · obtain ⟨hmode, -, htrig, -, -⟩ := State.change_of_standing (State.rest_standing (t := 0x0A) hm rfl)
    exact ⟨_, exec_featheredRequest hm hrest, by simpa using hmode, by simpa using htrig, (State.sent_send ..).settle⟩

theorem feathered_refused (s : State) (hm : s.mode = .service) (hrest : s.mayRest = false) :
    ∃ t, exec .featheredRequest s = .next t ∧ t.mode = .service ∧ t.Sent .fmEnter 0 [0] [] ∧
      State.Only (s.send .fmEnter 0 [0]) t [] :=
  ⟨_, exec_featheredRequest_busy hm hrest, by simpa using hm, (State.sent_send ..).settle, State.only_settle (fun _ _ _ _ => rfl) rfl⟩

/-! ### Trial (R44, R417) -/

theorem standing_trialRegs (s : State) : s.trialRegs.standing = s.standing := by
  unfold State.trialRegs
  exact (standing_setF ..).trans ((standing_setF ..).trans ((standing_setF ..).trans
    ((standing_setF ..).trans ((standing_setF ..).trans (standing_setF ..)))))

theorem standing_withClk (s : State) (k : Clk) : { s with clk := k }.standing = s.standing := rfl

/-- The move to Trial and its registers. -/
theorem standing_trialMove {s : State} (hm : s.mode = .bootstrap) :
    (((s.move 0x17 .trial).setF R.BT_STS_STEP 0).trialRegs).standing = ((.trial, 1, 0x17), s.boot, s.disk) := by
  have hmove := State.move_standing (s := s) (t := 0x17) (m := .trial) (by rw [hm]; rfl) (by decide)
  rw [hm] at hmove
  exact (standing_trialRegs _).trans ((standing_setF ..).trans hmove)

theorem State.trialEnter_standing {s : State} (hm : s.mode = .bootstrap) :
    s.trialEnter.standing =
      ((.trial, 1, 0x17), { s.boot with trialPend := false }, { s.disk with trialSession := true, closed := false }) := by
  have hregs := standing_trialMove
    (s := { s with boot.trialPend := false, disk.trialSession := true, disk.closed := false }) hm
  unfold State.trialEnter
  extract_lets u
  split
  · exact (standing_withClk ..).trans hregs
  · exact (standing_dramTrain ..).trans hregs

theorem trial_entered (s : State) (hm : s.mode = .bootstrap) (hporst : s.pwr.porst = false) (hpend : s.boot.trialPend = true)
    (hlife : s.trialAllowed = true) :
    ∃ t, exec .trialRequest s = .next t ∧ t.mode = .trial ∧ t.disk.trialSession = true ∧ t.boot.trialPend = false ∧
      t.ctl.trigger = 0x17 := by
  obtain ⟨hmode, -, htrig, hboot, hdisk⟩ := State.change_of_standing (State.trialEnter_standing hm)
  have hexec : exec .trialRequest s = .next s.trialEnter.settle := by
    show execTrialRequest s = _
    simp [execTrialRequest, hm, hporst, hpend, hlife, done]
  exact ⟨_, hexec, by simpa using hmode, by simp [hdisk], by simp [hboot], by simpa using htrig⟩

/-! ### Back to Bootstrap (R44, R420) -/

/-- No field of a link's state is one that a change of mode writes. -/
theorem State.linkUp_move (s : State) (t : Nat) (m : Mode) (l : Nat) : (s.move t m).linkUp l = s.linkUp l := by
  have hkey : ∀ l < 8, R.PT_LINK_STS_LSTATE.key (l / 4) (l % 4) ∉ modeKeys := by decide
  unfold State.linkUp State.linkState
  by_cases hl : l < 8
  · rw [State.f_move_other _ _ _ _ _ _ (hkey l hl)]
  · simp [hl]

theorem State.each_of_fixed {s : State} {f : State → Nat → State} (h : ∀ l, f s l = s) (n : Nat) : s.each n f = s := by
  unfold State.each
  induction List.range n with
  | nil => rfl
  | cons l r ih => rw [List.foldl_cons, h, ih]

theorem State.linksEnd_of_down {s : State} (h : ∀ l, s.linkUp l = false) : s.linksEnd = s :=
  State.each_of_fixed (fun l => by rw [h l]; rfl) 8

/-- With no link Up and a lifecycle that does not seal, Bootstrap begins without another change of mode. -/
theorem State.bootstrapEnter_of_down {s : State} (hlinks : ∀ l, s.linkUp l = false) (h4 : s.life ≠ 4) (h5 : s.life ≠ 5) :
    s.bootstrapEnter false = (s.cleared false).newNonce.setF R.BT_STS_STEP 3 := by
  have hlife : ((s.cleared false).newNonce.setF R.BT_STS_STEP 3).life = s.life := rfl
  rw [State.bootstrapEnter, if_neg Bool.false_ne_true, State.linksEnd_of_down hlinks]
  unfold State.bootStart
  dsimp only
  rw [hlife, if_neg h4, if_neg h5]

/-- A mode with a row for the trigger is left for Bootstrap, and every command goes. -/
theorem bootstrap_begins {s : State} {i : Instr} {k : Nat} (hmove : canMove s.mode k .bootstrap = true) (h4 : s.life ≠ 4)
    (h5 : s.life ≠ 5) (hlinks : ∀ l, s.linkUp l = false)
    (hexec : exec i s = .next ((s.move k .bootstrap).bootstrapEnter false).settle) :
    ∃ t, exec i s = .next t ∧ t.mode = .bootstrap ∧ t.ctl.trigger = k ∧ t.ctl.prev = s.mode.num ∧ t.cmds = [] := by
  obtain ⟨hmode, hprev, htrig, hboot, -⟩ := State.change_of_standing (State.move_standing hmove (by decide))
  have hlife : (s.move k .bootstrap).life = s.life := by rw [State.life, hboot]
  have hlinks' : ∀ l, (s.move k .bootstrap).linkUp l = false := fun l => (State.linkUp_move ..).trans (hlinks l)
  rw [State.bootstrapEnter_of_down hlinks' (by rwa [hlife]) (by rwa [hlife])] at hexec
  refine ⟨_, hexec, ?_, ?_, ?_, ?_⟩
  · rw [State.mode, State.settle_mode]; exact hmode
  · rw [State.settle_trigger]; exact htrig
  · rw [State.settle_prev]; exact hprev
  · rw [State.settle_cmds]; rfl

theorem trial_left (s : State) (hm : s.mode = .trial) (h4 : s.life ≠ 4) (h5 : s.life ≠ 5) (hlinks : ∀ l, s.linkUp l = false) :
    ∃ t, exec .trialExitRequest s = .next t ∧ t.mode = .bootstrap ∧ t.ctl.trigger = 0x18 ∧ t.ctl.prev = 11 ∧ t.cmds = [] := by
  have hexec : exec .trialExitRequest s = .next ((s.move 0x18 .bootstrap).bootstrapEnter false).settle := by
    show execTrialExitRequest s = _
    simp [execTrialExitRequest, hm, done]
  have h := bootstrap_begins (by rw [hm]; rfl) h4 h5 hlinks hexec
  rwa [hm] at h

theorem sealed_left (s : State) (hm : s.mode = .sealed) (hmon : s.boot.monitor = true) (h4 : s.life ≠ 4) (h5 : s.life ≠ 5)
    (hlinks : ∀ l, s.linkUp l = false) :
    ∃ t, exec .monitorRestartRequest s = .next t ∧ t.mode = .bootstrap ∧ t.ctl.trigger = 0x19 ∧ t.ctl.prev = 12 ∧ t.cmds = [] := by
  have hexec : exec .monitorRestartRequest s = .next ((s.move 0x19 .bootstrap).bootstrapEnter false).settle := by
    show execMonitorRestartRequest s = _
    simp [execMonitorRestartRequest, hm, hmon, done]
  have h := bootstrap_begins (by rw [hm]; rfl) h4 h5 hlinks hexec
  rwa [hm] at h

/-- A manager's reset and a firmware activation restart the block (R34, R426). -/
theorem restarts (s : State) (hm : s.mode = .service ∨ s.mode = .readOnly) :
    exec .managerControllerReset s = .next s.restart.settle ∧
      (s.boot.fwReset = true → exec .fwActivationReset s = .next s.restart.settle) := by
  have hin : s.modeIn [.service, .readOnly] = true := by rcases hm with hm | hm <;> simp [State.modeIn, hm]
  have hoff : s.mode ≠ .off := by rcases hm with hm | hm <;> simp [hm]
  constructor
  · show execManagerControllerReset s = _
    simp [execManagerControllerReset, hoff, hin, done]
  · intro hreset
    show execFwActivationReset s = _
    simp [execFwActivationReset, hoff, hreset, hin, done]

/-! ### Ignored triggers (R34) -/

/-- A command that answers o in s was a trigger without a row for the mode: its event is raised, and mode, media and commands stand. -/
def State.Ignores (s : State) (o : Host.Outcome State Fault Refusal) : Prop :=
  ∃ t, o = .next t ∧ t.mode = s.mode ∧ t.f R.GL_EVT_TRIG_IGNORED = 1 ∧ t.media = s.media ∧ t.cmds = s.cmds

section
variable {s : State} {k : Nat} {c : Prop} [Decidable c] {o : Host.Outcome State Fault Refusal}

theorem State.Ignores.ends : s.Ignores (done (s.trigIgnored k)) := by
  refine ⟨_, rfl, by simp, ?_, by simp, by simp⟩
  rw [State.f_settle _ _ _ _ (by decide) (by decide)]
  exact State.f_raise_same ..

/-- A request for Feathered is answered all the same (R39). -/
theorem State.Ignores.answers : s.Ignores (done ((s.trigIgnored k).send .fmEnter 0 [0])) := by
  refine ⟨_, rfl, by simp, ?_, by simp, by simp⟩
  rw [State.f_settle _ _ _ _ (by decide) (by decide), State.f_send]
  exact State.f_raise_same ..

/-- The shape of a command with one trigger: nothing without power, the event where c finds no row for the mode. -/
theorem State.Ignores.guard (hoff : s.mode ≠ .off) (hc : c) :
    s.Ignores (if s.mode = .off then .next s else if c then done (s.trigIgnored k) else o) := by
  rw [if_neg hoff, if_pos hc]
  exact .ends

end

theorem trigger_ignored (bad : List ScanBad) (i : Instr) (m : List Mode) (s : State)
    (h : (i, m) ∈ [(Instr.featheredIdleTimeout, [Mode.service]), (.featheredRequest, [.service]), (.trialRequest, [.bootstrap]),
      (.trialExitRequest, [.trial]), (.monitorRestartRequest, [.sealed]), (.managerControllerReset, [.service, .readOnly]),
      (.discoveryDone, [.discovery]), (.rebuildDone bad, [.rebuild])]) (hoff : s.mode ≠ .off) (hm : s.mode ∉ m) :
    s.Ignores (exec i s) := by
  simp only [List.mem_cons, List.not_mem_nil, or_false, Prod.mk.injEq] at h
  rcases h with ⟨rfl, rfl⟩ | ⟨rfl, rfl⟩ | ⟨rfl, rfl⟩ | ⟨rfl, rfl⟩ | ⟨rfl, rfl⟩ | ⟨rfl, rfl⟩ | ⟨rfl, rfl⟩ | ⟨rfl, rfl⟩ <;>
    simp only [List.mem_cons, List.not_mem_nil, or_false] at hm
  case inr.inl =>
    show s.Ignores (execFeatheredRequest s)
    rw [execFeatheredRequest, if_neg hoff, if_pos hm]
    exact .answers
  case inr.inr.inr.inr.inr.inl =>
    show s.Ignores (execManagerControllerReset s)
    rw [execManagerControllerReset, if_neg hoff, if_neg (by simpa [State.modeIn] using hm)]
    exact .ends
  all_goals exact .guard hoff hm

end Sys2Proof.Machine
end

section
/-! SUPPORT. Control processors that stop, and SRAM words with symbols in error (R442 to R445, R448). -/

namespace Sys2Proof.Machine

/-! ### Bits of a mask -/

theorem bit_setBit_true (n b : Nat) : bit (setBit n b true) b = true := by
  simp [bit, setBit, Nat.testBit_or, Nat.one_shiftLeft, Nat.testBit_two_pow_self]

theorem bit_setBit_false (n b : Nat) : bit (setBit n b false) b = false := by
  simp [bit, setBit, Nat.testBit_and, Nat.testBit_xor, Nat.one_shiftLeft, Nat.testBit_two_pow_self]

/-! ### Control processors (R444, R445) -/

section
variable (s : State) (cp cause : Nat)

theorem State.f_cpStop_evt : (s.cpStop cp cause).f R.GL_FLT_EVT_CP_FAULT = 1 := State.f_raise_same ..

theorem State.f_cpStop_cause (h : cause < 2) : (s.cpStop cp cause).f R.GL_CP_STS_CAUSE = cause := by
  unfold State.cpStop
  rw [State.f_raise_other _ _ _ _ _ _ _ _ _ (by decide), State.f_setF_same]
  exact Nat.mod_eq_of_lt h

theorem State.f_cpStop_lastCp (h : cp < 12) : (s.cpStop cp cause).f R.GL_CP_STS_LAST_CP = cp := by
  unfold State.cpStop
  rw [State.f_raise_other _ _ _ _ _ _ _ _ _ (by decide), State.f_setF_other _ _ _ _ _ _ _ _ (by decide), State.f_setF_same]
  exact Nat.mod_eq_of_lt (h.trans (by decide))

theorem State.f_cpStop_cpOk : bit ((s.cpStop cp cause).f R.GL_CP_STS_CP_OK) cp = false := by
  unfold State.cpStop
  rw [State.f_raise_other _ _ _ _ _ _ _ _ _ (by decide), State.f_setF_other _ _ _ _ _ _ _ _ (by decide),
    State.f_setF_other _ _ _ _ _ _ _ _ (by decide), State.f_setF_same]
  have hbit := bit_setBit_false (s.f R.GL_CP_STS_CP_OK) cp
  unfold bit at hbit ⊢
  rw [Nat.testBit_mod_two_pow]
  exact Bool.and_eq_false_imp.mpr fun _ => hbit

theorem State.f_cpStop_other (F : R.Fld) (i k : Nat) (h : F.key i k ∉ [R.GL_CP_STS_CP_OK.key 0 0, R.GL_CP_STS_LAST_CP.key 0 0,
    R.GL_CP_STS_CAUSE.key 0 0, R.GL_FLT_EVT_CP_FAULT.key 0 0]) : (s.cpStop cp cause).f F i k = s.f F i k := by
  simp only [List.mem_cons, List.not_mem_nil, or_false, not_or] at h
  obtain ⟨hok, hlast, hcause, hevt⟩ := h
  unfold State.cpStop
  rw [State.f_raise_other _ _ _ _ _ _ _ _ _ hevt, State.f_setF_other _ _ _ _ _ _ _ _ hcause,
    State.f_setF_other _ _ _ _ _ _ _ _ hlast, State.f_setF_other _ _ _ _ _ _ _ _ hok]
  rfl

end

theorem exec_processorFault {i : Instr} {c k : Nat} {s : State} (hi : i = .lockstepMismatch c ∧ k = 0 ∨ i = .watchdogExpiry c ∧ k = 1)
    (hoff : s.mode ≠ .off) (hc : c < 12) (hrun : bit s.cpus.stopped c = false) : exec i s = .next (s.cpStop c k).settle := by
  have hgo : ¬ (s.mode = .off ∨ 12 ≤ c ∨ bit s.cpus.stopped c = true) := by simp [hoff, hc, hrun]
  rcases hi with ⟨rfl, rfl⟩ | ⟨rfl, rfl⟩
  · show execLockstepMismatch c s = _
    rw [execLockstepMismatch, if_neg hgo]; rfl
  · show execWatchdogExpiry c s = _
    rw [execWatchdogExpiry, if_neg hgo]; rfl

theorem processor_stops (i : Instr) (c k : Nat) (s : State) (hi : i = .lockstepMismatch c ∧ k = 0 ∨ i = .watchdogExpiry c ∧ k = 1)
    (hoff : s.mode ≠ .off) (hc : c < 12) (hrun : bit s.cpus.stopped c = false) :
    ∃ t, exec i s = .next t ∧ bit (t.f R.GL_CP_STS_CP_OK) c = false ∧ t.f R.GL_CP_STS_LAST_CP = c ∧ t.f R.GL_CP_STS_CAUSE = k ∧
      t.f R.GL_FLT_EVT_CP_FAULT = 1 ∧ bit t.cpus.stopped c = true ∧ t.cpus.pending = s.cpus.pending + 1 ∧
      State.Only { s with cpus := t.cpus } t [R.GL_CP_STS_CP_OK.key 0 0, R.GL_CP_STS_LAST_CP.key 0 0, R.GL_CP_STS_CAUSE.key 0 0,
        R.GL_FLT_EVT_CP_FAULT.key 0 0] := by
  have hk : k < 2 := by rcases hi with ⟨-, rfl⟩ | ⟨-, rfl⟩ <;> decide
  refine ⟨_, exec_processorFault hi hoff hc hrun, ?_⟩
  rw [State.settle_cpus, State.f_settle _ _ _ _ (by decide) (by decide), State.f_settle _ _ _ _ (by decide) (by decide),
    State.f_settle _ _ _ _ (by decide) (by decide), State.f_settle _ _ _ _ (by decide) (by decide)]
  refine ⟨State.f_cpStop_cpOk .., State.f_cpStop_lastCp _ _ _ hc, State.f_cpStop_cause _ _ _ hk, State.f_cpStop_evt .., ?_, rfl, ?_⟩
  · exact bit_setBit_true s.cpus.stopped c
  · exact State.only_settle (State.f_cpStop_other s c k) rfl

/-- The work of a stopped processor is counted as moved (R445). -/
def State.takenOver (s : State) : State :=
  (({ s with cpus := { s.cpus with pending := s.cpus.pending - 1 } } : State).addF R.GL_CP_STS_TAKEOVERS).raise R.GL_FLT_EVT_CP_MOVED
    (s.f R.GL_CP_STS_LAST_CP)

theorem exec_takeoverDone {s : State} (hoff : s.mode ≠ .off) (hpend : 0 < s.cpus.pending) (hup : s.cpUp = true) :
    exec .takeoverDone s = .next (((s.media.relocs.keysWhere fun _ r => r.alive && r.started).foldl State.abandon
      s.takenOver).afterRows.settle) := by
  show execTakeoverDone s = _
  rw [execTakeoverDone, if_neg (by simp [hoff, hup, Nat.ne_of_gt hpend])]
  rfl

theorem takeover_counts (s : State) (hoff : s.mode ≠ .off) (hpend : 0 < s.cpus.pending) (hup : s.cpUp = true) :
    ∃ u : State, exec .takeoverDone s =
        .next (((s.media.relocs.keysWhere fun _ r => r.alive && r.started).foldl State.abandon u).afterRows.settle) ∧
      u.cpus.pending = s.cpus.pending - 1 ∧ u.f R.GL_FLT_EVT_CP_MOVED = 1 ∧ u.media = s.media ∧
      u.f R.GL_CP_STS_TAKEOVERS = satAdd R.GL_CP_STS_TAKEOVERS.w (s.f R.GL_CP_STS_TAKEOVERS) 1 := by
  refine ⟨s.takenOver, exec_takeoverDone hoff hpend hup, rfl, State.f_raise_same .., rfl, ?_⟩
  unfold State.takenOver
  rw [State.f_raise_other _ _ _ _ _ _ _ _ _ (by decide), State.f_addF_same]
  exact Nat.mod_eq_of_lt (satAdd_lt ..)

/-! ### Rate-limited events (R478) -/

section
variable (s : State) (key : Nat) (F : R.Fld) (p1 p2 p3 i : Nat)

theorem State.f_raiseLimited_same : (s.raiseLimited key F p1 p2 p3 i).f F i = 1 % 2 ^ F.w := by
  unfold State.raiseLimited
  dsimp only
  split
  · exact State.f_raise_same s F p1 p2 p3 i
  · exact State.f_setF_same s F 1 i 0

theorem State.f_raiseLimited_other (G : R.Fld) (i' k' : Nat) (h : G.key i' k' ≠ F.key i 0) :
    (s.raiseLimited key F p1 p2 p3 i).f G i' k' = s.f G i' k' := by
  unfold State.raiseLimited
  dsimp only
  split
  · exact State.f_raise_other s F G p1 p2 p3 i i' k' h
  · exact State.f_setF_other s F G 1 i 0 i' k' h

theorem State.raiseLimited_cpus : (s.raiseLimited key F p1 p2 p3 i).cpus = s.cpus := by
  unfold State.raiseLimited
  dsimp only
  split <;> rfl

theorem State.raiseLimited_cmds : (s.raiseLimited key F p1 p2 p3 i).cmds = s.cmds := by
  unfold State.raiseLimited
  dsimp only
  split <;> rfl

end

/-! ### SRAM words (R442, R443) -/

/-- The key of a word's row in the counts of corrected reads. -/
def sramRow (e : SramErr) : Nat := sramSub e * 512 + e.row

/-- A word is corrected, and its row holds n such reads. -/
def State.sramCorrected (s : State) (e : SramErr) (n : Nat) : State :=
  ({ s.addF R.GL_SRAM_STS_CORRECTED with cpus.sramHits := s.cpus.sramHits.set (sramRow e) n }).raiseLimited
    (2 ^ 40 + sramSub e) R.GL_FLT_EVT_SRAM_CORR e.array e.sub e.row

section
variable {s : State} {e : SramErr} {n : Nat}

theorem State.sramRead_uncorrectable (h : 4 < e.syms) : s.sramRead e = s.raise R.GL_FLT_EVT_SRAM_UNCORR e.array e.sub e.row := by
  unfold State.sramRead
  rw [if_neg (by omega), if_pos h]

theorem State.sramRead_corrected (h0 : 0 < e.syms) (h4 : e.syms ≤ 4) (hn : n = s.cpus.sramHits.get (sramRow e)) (h3 : n < 3) :
    s.sramRead e = s.sramCorrected e (n + 1) := by
  unfold State.sramRead
  subst hn
  rw [if_neg (by omega), if_neg (by omega)]
  exact if_neg (show ¬ 4 ≤ s.cpus.sramHits.get (sramRow e) + 1 by omega)

theorem State.sramRead_replaced (h0 : 0 < e.syms) (h4 : e.syms ≤ 4) (h3 : s.cpus.sramHits.get (sramRow e) = 3) :
    s.sramRead e = (s.sramCorrected e 4).sramReplace e := by
  unfold State.sramRead
  rw [if_neg (by omega), if_neg (by omega), show s.cpus.sramHits.get (sramSub e * 512 + e.row) = 3 from h3]
  exact if_pos (by decide)

end

section
variable (s : State) (e : SramErr) (n : Nat)

theorem State.f_sramCorrected_count :
    (s.sramCorrected e n).f R.GL_SRAM_STS_CORRECTED = satAdd R.GL_SRAM_STS_CORRECTED.w (s.f R.GL_SRAM_STS_CORRECTED) 1 := by
  unfold State.sramCorrected
  rw [State.f_raiseLimited_other _ _ _ _ _ _ _ _ _ _ (by decide)]
  show (s.addF R.GL_SRAM_STS_CORRECTED).f R.GL_SRAM_STS_CORRECTED = _
  rw [State.f_addF_same]
  exact Nat.mod_eq_of_lt (satAdd_lt ..)

theorem State.f_sramCorrected_evt : (s.sramCorrected e n).f R.GL_FLT_EVT_SRAM_CORR = 1 := State.f_raiseLimited_same ..

theorem State.sramCorrected_cpus :
    (s.sramCorrected e n).cpus = { s.cpus with sramHits := s.cpus.sramHits.set (sramRow e) n } := State.raiseLimited_cpus ..

theorem State.sramCorrected_hits : (s.sramCorrected e n).cpus.sramHits.get (sramRow e) = n := by
  rw [State.sramCorrected_cpus]
  exact Tab.getD_setD_same ..

theorem State.sramCorrected_spares : (s.sramCorrected e n).cpus.sramSpares = s.cpus.sramSpares := by
  rw [State.sramCorrected_cpus]

theorem State.sramCorrected_cmds : (s.sramCorrected e n).cmds = s.cmds := State.raiseLimited_cmds ..

end

section
variable {s : State} {e : SramErr} (h8 : s.cpus.sramSpares.get (sramSub e) < 8)
include h8

theorem State.sramReplace_cpus : (s.sramReplace e).cpus =
    { s.cpus with
      sramSpares := s.cpus.sramSpares.set (sramSub e) (s.cpus.sramSpares.get (sramSub e) + 1),
      sramHits := s.cpus.sramHits.set (sramRow e) 0 } := by
  unfold State.sramReplace
  rw [if_neg (by omega)]
  dsimp only
  split <;> rfl

theorem State.sramReplace_spares :
    (s.sramReplace e).cpus.sramSpares.get (sramSub e) = s.cpus.sramSpares.get (sramSub e) + 1 := by
  rw [State.sramReplace_cpus h8]
  simp

theorem State.sramReplace_hits : (s.sramReplace e).cpus.sramHits.get (sramRow e) = 0 := by
  rw [State.sramReplace_cpus h8]
  simp

theorem State.sramReplace_cmds : (s.sramReplace e).cmds = s.cmds := by
  unfold State.sramReplace
  rw [if_neg (by omega)]
  dsimp only
  split <;> rfl

theorem State.f_sramReplace_spare : (s.sramReplace e).f R.GL_FLT_EVT_SRAM_SPARE = 1 := by
  unfold State.sramReplace
  rw [if_neg (by omega)]
  dsimp only
  split
  · rw [State.f_raise_other _ _ _ _ _ _ _ _ _ (by decide)]
    exact State.f_raise_same ..
  · exact State.f_raise_same ..

end

/-- The last spare row of a sub-array has its event (R443). -/
theorem State.f_sramReplace_last {s : State} {e : SramErr} (h7 : s.cpus.sramSpares.get (sramSub e) = 7) :
    (s.sramReplace e).f R.GL_FLT_EVT_SRAM_NOSPARE = 1 := by
  unfold State.sramReplace
  rw [if_neg (by omega), if_pos h7]
  exact State.f_raise_same ..

/-! ### A frame that is read with errors (R47, R442) -/

/-- A frame with nothing but a word in error is taken by its link, and the word is read. -/
theorem State.arrive_sram {s u : State} {l : Nat} (e : SramErr) (h : s.frame l = some u) :
    s.arrive l { sram := [e] } = some (u.sramRead e, true) := by
  unfold State.arrive
  rw [h]
  simp [Link.mine, State.xoff, State.sramWords]

/-- A Connect capsule on a connection that is not connected changes nothing by itself. -/
theorem exec_capsuleCmd_connect {c : Nat} {q : Sqe} {s u : State} (e : SramErr) (hlive : (s.conn c).alive = true)
    (htcp : (s.conn c).rdma = false) (hframe : s.frame (s.conn c).link = some u) (htls : (s.conn c).tls ≠ 1)
    (hic : (s.conn c).icDone = true) (hcon : (s.conn c).connected = false) (hq : isConnect q = true) :
    exec (.capsuleCmd c q { sram := [e] }) s = .next (u.sramRead e).settle := by
  show execCapsuleCmd c q { sram := [e] } s = _
  unfold execCapsuleCmd State.onConn State.onFrame State.onLink
  simp [hlive, htcp, htls, hic, hcon, hq, State.arrive_sram e hframe, State.tlsLacks, done]

/-! ### What reads see of host staging (R213, R443, R448) -/

/-- A block of a conventional namespace whose only staged copy is visible stands there, or is lost with it. -/
theorem State.resolve_staged {n l : Nat} {b : StBlk} {s : State} (hz : (s.per.ns.get n).zoned = false) (hs : s.media.stage = [b])
    (hvis : b.vis = true) (hsup : b.sup = false) (hn : b.blk.ns = n) (hl : b.blk.lba = l) :
    s.resolve n l = if b.lost then .lost else .staged b.blk := by
  unfold State.resolve
  simp [hz, hs, hvis, hsup, hn, hl]

theorem State.loseStaged_stage {n l : Nat} {b : StBlk} {s : State} (hs : s.media.stage = [b])
    (hvis : b.vis = true) (hsup : b.sup = false) (hn : b.blk.ns = n) (hl : b.blk.lba = l) :
    (s.loseStaged n l true).media.stage = [{ b with lost := true }] := by
  unfold State.loseStaged
  simp [hs, hvis, hsup, hn, hl]

theorem staged_lost (n l : Nat) (b : StBlk) (s : State) (hz : (s.per.ns.get n).zoned = false) (hs : s.media.stage = [b])
    (hvis : b.vis = true) (hsup : b.sup = false) (hn : b.blk.ns = n) (hl : b.blk.lba = l) :
    s.resolve n l = (if b.lost then .lost else .staged b.blk) ∧ (s.loseStaged n l true).resolve n l = .lost :=
  ⟨State.resolve_staged hz hs hvis hsup hn hl,
    State.resolve_staged (s := s.loseStaged n l true) hz (State.loseStaged_stage hs hvis hsup hn hl) hvis hsup hn hl⟩

/-- Settles O54: clause by clause, the changes of mode, the ignored triggers, the control processors, and SRAM. -/
theorem modeRequestsAndFaults : Obligations.ModeRequestsAndFaults := by
  refine ⟨feathered_entered, feathered_refused, trial_entered, trial_left, sealed_left, restarts, trigger_ignored, processor_stops,
    takeover_counts, ?_, ?_, ?_, staged_lost⟩
  · intro c n q e s u hlive htcp hframe htls hic hcon hq h0 h4 hn h3
    refine ⟨_, exec_capsuleCmd_connect e hlive htcp hframe htls hic hcon hq, ?_⟩
    rw [State.sramRead_corrected h0 h4 hn h3, State.f_settle _ _ _ _ (by decide) (by decide),
      State.f_settle _ _ _ _ (by decide) (by decide), State.settle_cpus, State.settle_cmds]
    exact ⟨State.f_sramCorrected_count .., State.f_sramCorrected_evt .., State.sramCorrected_hits ..,
      State.sramCorrected_spares .., State.sramCorrected_cmds ..⟩
  · intro c n q e s u hlive htcp hframe htls hic hcon hq h0 h4 h3 hn h8
    have hspares : (u.sramCorrected e 4).cpus.sramSpares.get (sramSub e) = n := by rw [State.sramCorrected_spares, hn]
    have hleft : (u.sramCorrected e 4).cpus.sramSpares.get (sramSub e) < 8 := hspares.trans_lt h8
    refine ⟨_, exec_capsuleCmd_connect e hlive htcp hframe htls hic hcon hq, ?_⟩
    rw [State.sramRead_replaced h0 h4 h3, State.f_settle _ _ _ _ (by decide) (by decide),
      State.f_settle _ _ _ _ (by decide) (by decide), State.settle_cpus, State.settle_cmds]
    exact ⟨(State.sramReplace_spares hleft).trans (congrArg (· + 1) hspares), State.sramReplace_hits hleft,
      State.f_sramReplace_spare hleft, fun h7 => State.f_sramReplace_last (hspares.trans h7),
      (State.sramReplace_cmds hleft).trans (State.sramCorrected_cmds ..)⟩
  · intro c q e s u hlive htcp hframe htls hic hcon hq h4
    refine ⟨_, exec_capsuleCmd_connect e hlive htcp hframe htls hic hcon hq, ?_⟩
    rw [State.sramRead_uncorrectable h4, State.f_settle _ _ _ _ (by decide) (by decide)]
    refine ⟨State.f_raise_same .., State.only_settle (fun F i k h => ?_) rfl⟩
    exact State.f_raise_other _ _ _ _ _ _ _ _ _ (by simpa using h)

end Sys2Proof.Machine
end

section
/-! SUPPORT. What the completion of a command does (R81, R85, R87): its message, its free entry, and what it leaves as it is. -/

namespace Sys2Proof.Machine

/-! ### What choices and repetitions leave as it is -/

section
variable {α β : Type} {p : State → β}

theorem State.keeps_foldl {f : State → α → State} (h : ∀ s a, p (f s a) = p s) (l : List α) (s : State) : p (l.foldl f s) = p s := by
  induction l generalizing s with
  | nil => rfl
  | cons a r ih => exact (ih _).trans (h s a)

theorem State.keeps_ite {c : Prop} [Decidable c] {a b : State} {x : β} (ha : p a = x) (hb : p b = x) :
    p (if c then a else b) = x := by
  split
  · exact ha
  · exact hb

end

/-! ### Messages sent or held back (R51) -/

/-- What was sent, and what a pause holds back. -/
def State.msgs (s : State) : List Msg := s.ctl.out ++ s.ctl.held

theorem State.Sent.mono {s t : State} {kind : MK} {dst : Nat} {args data : List Nat} (h : s.Sent kind dst args data)
    (hm : s.msgs ⊆ t.msgs) : t.Sent kind dst args data := by
  obtain ⟨m, hmem, hrest⟩ := h
  exact ⟨m, hm hmem, hrest⟩

theorem Ctl.mem_post {c : Ctl} {m x : Msg} {hold : Bool} :
    x ∈ (c.post m hold).out ++ (c.post m hold).held ↔ x = m ∨ x ∈ c.out ++ c.held := by
  cases hold
  · simp [Ctl.post]
  · simp only [Ctl.post, if_true, List.mem_append, List.mem_singleton]
    tauto

theorem State.msgs_foldl {α : Type} {f : State → α → State} (h : ∀ s a, s.msgs ⊆ (f s a).msgs) (l : List α) (s : State) :
    s.msgs ⊆ (l.foldl f s).msgs := by
  induction l generalizing s with
  | nil => exact List.Subset.refl _
  | cons a r ih => exact List.Subset.trans (h s a) (ih _)

section
variable (s : State) (kind : MK) (dst : Nat) (args data : List Nat) (slot : Option SlotTx) (link : Option Nat)

theorem State.msgs_send : s.msgs ⊆ (s.send kind dst args data slot link).msgs := fun _ hx => Ctl.mem_post.mpr (.inr hx)

/-- The message of a send stands among those of the state after it, whatever link it names. -/
theorem State.sent_send_on : (s.send kind dst args data slot link).Sent kind dst args data :=
  ⟨_, Ctl.mem_post.mpr (.inl rfl), rfl, rfl, rfl, rfl⟩

/-- A message that no peer acknowledges leaves the connections as they are. -/
theorem State.send_conns_of_not_acked (h : acked.contains kind = false) :
    (s.send kind dst args data slot link).conns = s.conns := by
  unfold State.send
  dsimp only
  rw [h]
  rfl

end

/-! ### Connections that are open -/

/-- Which connections are open. -/
def State.open? (s : State) : Nat → Bool := fun d => (s.conn d).alive

theorem State.conn_modConn_same (s : State) (c : Nat) (f : Conn → Conn) : (s.modConn c f).conn c = f (s.conn c) :=
  Tab.getD_setD_same ..

theorem State.conn_modConn_other (s : State) {c d : Nat} (f : Conn → Conn) (h : d ≠ c) : (s.modConn c f).conn d = s.conn d :=
  Tab.getD_setD_other _ _ _ _ _ _ h

theorem State.open_modConn (s : State) (c : Nat) (f : Conn → Conn) (h : ∀ x, (f x).alive = x.alive) :
    (s.modConn c f).open? = s.open? := by
  funext d
  by_cases hd : d = c
  · subst hd
    unfold State.open?
    rw [State.conn_modConn_same, h]
  · unfold State.open?
    rw [State.conn_modConn_other _ _ hd]

theorem State.open_send (s : State) (kind : MK) (dst : Nat) (args data : List Nat) (slot : Option SlotTx) (link : Option Nat) :
    (s.send kind dst args data slot link).open? = s.open? := by
  unfold State.send
  dsimp only
  split
  · exact State.open_modConn s dst _ fun _ => rfl
  · rfl

/-! ### Backpressure (R61, R85) -/

/-- All of a state but its register fields, its messages and events, and its connections. -/
def State.core (s : State) : State := { s with fields := [], ctl := {}, conns := [] }

theorem State.core_advertise (s : State) (c : Nat) : (s.advertise c).core = s.core := State.keeps_ite rfl rfl

theorem State.core_bpConn (s : State) (c : Nat) : (s.bpConn c).core = s.core :=
  State.keeps_ite rfl (State.keeps_ite (State.core_advertise ..) rfl)

theorem State.f_advertise (s : State) (c : Nat) (F : R.Fld) (i k : Nat) : (s.advertise c).f F i k = s.f F i k := by
  unfold State.advertise
  dsimp only
  split <;> rfl

theorem State.f_bpConn (s : State) (c : Nat) (F : R.Fld) (i k : Nat) : (s.bpConn c).f F i k = s.f F i k := by
  unfold State.bpConn
  dsimp only
  split
  · rfl
  · split
    · exact State.f_advertise ..
    · rfl

theorem State.msgs_advertise (s : State) (c : Nat) : s.msgs ⊆ (s.advertise c).msgs := by
  unfold State.advertise
  dsimp only
  split
  · exact State.msgs_send ..
  · exact State.msgs_send (s.modConn c _) ..

theorem State.msgs_bpConn (s : State) (c : Nat) : s.msgs ⊆ (s.bpConn c).msgs := by
  unfold State.bpConn
  dsimp only
  split
  · exact List.Subset.refl _
  · split
    · exact State.msgs_advertise (s.modConn c _) c
    · exact List.Subset.refl _

theorem State.open_advertise (s : State) (c : Nat) : (s.advertise c).open? = s.open? := by
  unfold State.advertise
  dsimp only
  split
  · exact State.open_send ..
  · exact (State.open_send ..).trans (State.open_modConn _ _ _ fun _ => rfl)

theorem State.open_bpConn (s : State) (c : Nat) : (s.bpConn c).open? = s.open? := by
  have hmod : (s.modConn c fun x => { x with bp := s.bpWanted (s.conn c) }).open? = s.open? :=
    State.open_modConn _ _ _ fun _ => rfl
  unfold State.bpConn
  dsimp only
  split
  · rfl
  · split
    · exact (State.open_advertise ..).trans hmod
    · exact hmod

/-- The fields that the thresholds of R85 write. -/
def bpKeys : List Nat :=
  [R.RC_CBP_STS_CMDTAB_BP.key 0 0, R.RC_CBP_STS_HRBUF_BP.key 0 0, R.RC_CBP_STS_BP_STARTS.key 0 0,
    R.RC_EVT_CMDTAB_BP.key 0 0, R.RC_EVT_HRBUF_BP.key 0 0]

/-- One threshold of R85: its start sets the mark F to v, counts and raises G, and its end sets the mark to w. -/
theorem State.keeps_threshold {β : Type} {p : State → β} (s : State) (F G : R.Fld) (v w p1 : Nat) (a b : Prop) [Decidable a] [Decidable b]
    (hset : ∀ v, p (s.setF F v) = p s) (hadd : ∀ u, p (u.addF R.RC_CBP_STS_BP_STARTS) = p u) (hraise : ∀ u : State, p (u.raise G p1) = p u) :
    p (if a then ((s.setF F v).addF R.RC_CBP_STS_BP_STARTS).raise G p1 else if b then s.setF F w else s) = p s :=
  State.keeps_ite ((hraise _).trans ((hadd _).trans (hset v))) (State.keeps_ite (hset w) rfl)

/-- What the marks, the count and the events of R85 leave as it is, their update leaves as it is. -/
theorem State.keeps_bpThresholds {β : Type} {p : State → β}
    (hset : ∀ (u : State) (F : R.Fld) (v : Nat), F.key 0 0 ∈ bpKeys → p (u.setF F v) = p u)
    (hraise : ∀ (u : State) (F : R.Fld) (p1 : Nat), F.key 0 0 ∈ bpKeys → p (u.raise F p1) = p u) (s : State) :
    p s.bpThresholds = p s := by
  have hadd : ∀ u : State, p (u.addF R.RC_CBP_STS_BP_STARTS) = p u := fun u => hset u _ _ (by decide)
  refine (State.keeps_foldl (fun u q => ?_) _ _).trans ?_
  · exact State.keeps_threshold u _ _ _ _ _ _ _ (fun v => hset u _ v (by decide)) hadd fun u => hraise u _ _ (by decide)
  · exact State.keeps_threshold s _ _ _ _ _ _ _ (fun v => hset s _ v (by decide)) hadd fun u => hraise u _ _ (by decide)

theorem State.core_bpUpdate (s : State) : s.bpUpdate.core = s.core :=
  (State.keeps_foldl State.core_bpConn _ _).trans (State.keeps_bpThresholds (fun _ _ _ _ => rfl) (fun _ _ _ _ => rfl) s)

theorem State.bpUpdate_cmds (s : State) : s.bpUpdate.cmds = s.cmds :=
  show s.bpUpdate.core.cmds = s.core.cmds from congrArg State.cmds s.core_bpUpdate

theorem State.bpUpdate_ctrls (s : State) : s.bpUpdate.ctrls = s.ctrls :=
  show s.bpUpdate.core.ctrls = s.core.ctrls from congrArg State.ctrls s.core_bpUpdate

theorem State.open_bpUpdate (s : State) : s.bpUpdate.open? = s.open? :=
  (State.keeps_foldl State.open_bpConn _ _).trans (State.keeps_bpThresholds (fun _ _ _ _ => rfl) (fun _ _ _ _ => rfl) s)

theorem State.f_bpUpdate_other (s : State) (F : R.Fld) (i k : Nat) (h : F.key i k ∉ bpKeys) : s.bpUpdate.f F i k = s.f F i k := by
  have hne : ∀ G : R.Fld, G.key 0 0 ∈ bpKeys → F.key i k ≠ G.key 0 0 := fun G hG he => h (he ▸ hG)
  refine (State.keeps_foldl (p := fun s => s.f F i k) (fun u c => State.f_bpConn u c F i k) _ _).trans ?_
  exact State.keeps_bpThresholds (p := fun s => s.f F i k) (fun u G v hG => State.f_setF_other _ _ _ _ _ _ _ _ (hne G hG))
    (fun u G p1 hG => State.f_raise_other _ _ _ _ _ _ _ _ _ (hne G hG)) s

theorem State.msgs_bpUpdate (s : State) : s.msgs ⊆ s.bpUpdate.msgs := by
  have hthr : s.bpThresholds.msgs = s.msgs := State.keeps_bpThresholds (fun _ _ _ _ => rfl) (fun _ _ _ _ => rfl) s
  rw [← hthr]
  exact State.msgs_foldl State.msgs_bpConn _ _

/-! ### An entry is freed (R81) -/

/-- All of a state but what a completion may change. -/
def State.bed (s : State) : State :=
  { s with fields := [], ctl := {}, conns := [], gov := {}, ctrls := [], queues := [], cmds := [], hop := {} }

theorem State.bed_of_core {s t : State} (h : t.core = s.core) : t.bed = s.bed := by
  have := congrArg State.bed h
  exact this

/-- An entry's end before the thresholds are looked at: SQHD advances, and nothing of the command waits. -/
def State.entryEnd (s : State) (c : Nat) : State :=
  let t := (s.dropWaits c).modQueue (s.cmd c).queue fun q =>
    { q with sqhd := (q.sqhd + 1) % (q.sqsize + 1), waiting := q.waiting.filter (· ≠ c) }
  { t with cmds := t.cmds.set c {} }

section
variable (s : State) (c : Nat)

theorem State.freeCmd_eq : s.freeCmd c = (s.entryEnd c).bpUpdate := rfl

theorem State.bed_freeCmd : (s.freeCmd c).bed = s.bed := (State.bed_of_core (State.core_bpUpdate _)).trans rfl

theorem State.freeCmd_cmd : (s.freeCmd c).cmd c = {} := by
  rw [State.freeCmd_eq, State.cmd, State.bpUpdate_cmds]
  exact Tab.getD_setD_same s.cmds default c {}

theorem State.freeCmd_ctrls : (s.freeCmd c).ctrls = s.ctrls := State.bpUpdate_ctrls (s.entryEnd c)

theorem State.open_freeCmd : (s.freeCmd c).open? = s.open? := State.open_bpUpdate (s.entryEnd c)

theorem State.msgs_freeCmd : s.msgs ⊆ (s.freeCmd c).msgs := State.msgs_bpUpdate (s.entryEnd c)

theorem State.f_freeCmd_other (F : R.Fld) (i k : Nat) (h : F.key i k ∉ bpKeys) : (s.freeCmd c).f F i k = s.f F i k :=
  State.f_bpUpdate_other (s.entryEnd c) F i k h

end

/-! ### Completion (R87) -/

/-- Command c is answered, and its entry still in use. -/
def State.answered (s : State) (c status dw0 dw1 loc : Nat) : State :=
  let cm := s.cmd c
  let q := s.queue cm.queue
  let t := s.measure cm
  let t := if status = 0 then t else t.logError cm.cntlid cm.sqe.cid status loc
  let t := t.send .completion cm.conn
    ([cm.sqe.cid, (q.sqhd + 1) % (q.sqsize + 1), status, b2n (dnrOf status), dw0, dw1] ++ invalidates cm.sqe)
  t.modQueue cm.queue fun q => { q with posted := (q.posted + 1) % 2 ^ 32 }

section
variable (s : State) (c status dw0 dw1 loc : Nat)

theorem State.complete_eq (halive : (s.cmd c).alive = true) (hmute : (s.cmd c).mute = false) :
    s.complete c status dw0 dw1 loc = (s.answered c status dw0 dw1 loc).freeCmd c := by
  unfold State.complete State.answered
  simp only [halive, hmute, not_true_eq_false, if_false, Bool.false_eq_true]

/-- A completion leaves the command alone, frees its entry without a word, or answers it. -/
theorem State.complete_cases : s.complete c status dw0 dw1 loc = s ∨ s.complete c status dw0 dw1 loc = s.freeCmd c ∨
    s.complete c status dw0 dw1 loc = (s.answered c status dw0 dw1 loc).freeCmd c := by
  by_cases halive : (s.cmd c).alive = true
  · by_cases hmute : (s.cmd c).mute = true
    · refine .inr (.inl ?_)
      unfold State.complete
      simp only [halive, hmute, not_true_eq_false, if_false, if_true]
    · exact .inr (.inr (State.complete_eq _ _ _ _ _ _ halive (by simpa using hmute)))
  · refine .inl ?_
    unfold State.complete
    rw [if_pos halive]

theorem State.measure_eq (cm : Cmd) : s.measure cm = { s with gov := (s.measure cm).gov } := by
  unfold State.measure
  split <;> rfl

/-- What the measure of a command and its error entry leave as it is. -/
theorem State.keeps_logged {β : Type} {p : State → β} (hgov : ∀ (u : State) g, p { u with gov := g } = p u)
    (hctrls : ∀ (u : State) k, p { u with ctrls := k } = p u) (cm : Cmd) :
    p (if status = 0 then s.measure cm else (s.measure cm).logError cm.cntlid cm.sqe.cid status loc) = p s := by
  have hm : p (s.measure cm) = p s := by rw [State.measure_eq]; exact hgov ..
  exact State.keeps_ite hm ((hctrls ..).trans hm)

theorem State.bed_answered : (s.answered c status dw0 dw1 loc).bed = s.bed :=
  State.keeps_logged s status loc (p := State.bed) (fun _ _ => rfl) (fun _ _ => rfl) (s.cmd c)

theorem State.f_answered (F : R.Fld) (i k : Nat) : (s.answered c status dw0 dw1 loc).f F i k = s.f F i k :=
  State.keeps_logged s status loc (p := fun s => s.f F i k) (fun _ _ => rfl) (fun _ _ => rfl) (s.cmd c)

theorem State.open_answered : (s.answered c status dw0 dw1 loc).open? = s.open? :=
  (State.open_send (slot := none) (link := none) ..).trans
    (State.keeps_logged s status loc (p := State.open?) (fun _ _ => rfl) (fun _ _ => rfl) (s.cmd c))

theorem State.msgs_answered : s.msgs ⊆ (s.answered c status dw0 dw1 loc).msgs := by
  have hlog := State.keeps_logged s status loc (p := State.msgs) (fun _ _ => rfl) (fun _ _ => rfl) (s.cmd c)
  intro m hm
  exact State.msgs_send _ _ _ _ _ none none (hlog.symm ▸ hm)

theorem State.sent_answered : (s.answered c status dw0 dw1 loc).Sent .completion (s.cmd c).conn
    ([(s.cmd c).sqe.cid, ((s.queue (s.cmd c).queue).sqhd + 1) % ((s.queue (s.cmd c).queue).sqsize + 1), status, b2n (dnrOf status),
     dw0, dw1] ++ invalidates (s.cmd c).sqe) [] := State.sent_send_on (slot := none) (link := none) ..

theorem State.answered_ctrls : (s.answered c 0 dw0 dw1 loc).ctrls = s.ctrls := by
  show (s.measure (s.cmd c)).ctrls = s.ctrls
  rw [State.measure_eq]

theorem State.bed_complete : (s.complete c status dw0 dw1 loc).bed = s.bed := by
  rcases s.complete_cases c status dw0 dw1 loc with h | h | h <;> rw [h]
  · exact State.bed_freeCmd ..
  · exact (State.bed_freeCmd ..).trans (State.bed_answered ..)

theorem State.open_complete : (s.complete c status dw0 dw1 loc).open? = s.open? := by
  rcases s.complete_cases c status dw0 dw1 loc with h | h | h <;> rw [h]
  · exact State.open_freeCmd ..
  · exact (State.open_freeCmd ..).trans (State.open_answered ..)

theorem State.msgs_complete : s.msgs ⊆ (s.complete c status dw0 dw1 loc).msgs := by
  rcases s.complete_cases c status dw0 dw1 loc with h | h | h <;> rw [h]
  · exact List.Subset.refl _
  · exact State.msgs_freeCmd ..
  · exact List.Subset.trans (State.msgs_answered ..) (State.msgs_freeCmd ..)

theorem State.f_complete_other (F : R.Fld) (i k : Nat) (hk : F.key i k ∉ bpKeys) :
    (s.complete c status dw0 dw1 loc).f F i k = s.f F i k := by
  rcases s.complete_cases c status dw0 dw1 loc with h | h | h <;> rw [h]
  · exact State.f_freeCmd_other _ _ _ _ _ hk
  · exact (State.f_freeCmd_other _ _ _ _ _ hk).trans (State.f_answered ..)

/-- A success leaves the controllers as they are. -/
theorem State.complete_ctrls : (s.complete c 0 dw0 dw1 loc).ctrls = s.ctrls := by
  rcases s.complete_cases c 0 dw0 dw1 loc with h | h | h <;> rw [h]
  · exact State.freeCmd_ctrls ..
  · exact (State.freeCmd_ctrls ..).trans (State.answered_ctrls ..)

end

/-! ### A posted completion -/

theorem State.posted_complete {s : State} {c : Nat} (status dw0 dw1 : Nat) (halive : (s.cmd c).alive = true)
    (hmute : (s.cmd c).mute = false) : s.Posted (s.complete c status dw0 dw1) c status dw0 dw1 := by
  rw [State.complete_eq _ _ _ _ _ _ halive hmute]
  exact ⟨(State.sent_answered ..).mono (State.msgs_freeCmd ..), State.freeCmd_cmd ..⟩

/-- A completion is that of an earlier state whose command and queue were the same. -/
theorem State.Posted.of_eq {s u t : State} {c status dw0 dw1 : Nat} (h : u.Posted t c status dw0 dw1) (hcmd : u.cmds = s.cmds)
    (hqueue : u.queues = s.queues) : s.Posted t c status dw0 dw1 := by
  unfold State.Posted State.cmd State.queue at h ⊢
  rwa [hcmd, hqueue] at h

theorem State.Posted.settle {s t : State} {c status dw0 dw1 : Nat} (h : s.Posted t c status dw0 dw1) :
    s.Posted t.settle c status dw0 dw1 := by
  obtain ⟨hsent, hfree⟩ := h
  refine ⟨hsent.settle, ?_⟩
  rw [State.cmd, State.settle_cmds]
  exact hfree

/-- A command that completes in u, whose commands and queues are those of s. -/
theorem State.posted_settle {s u : State} {c : Nat} (status dw0 dw1 : Nat) (hcmd : u.cmds = s.cmds) (hqueue : u.queues = s.queues)
    (halive : (s.cmd c).alive = true) (hmute : (s.cmd c).mute = false) :
    s.Posted (u.complete c status dw0 dw1).settle c status dw0 dw1 := by
  have hc : u.cmd c = s.cmd c := by rw [State.cmd, hcmd]
  exact ((State.posted_complete status dw0 dw1 (hc ▸ halive) (hc ▸ hmute)).of_eq hcmd hqueue).settle

end Sys2Proof.Machine
end

section
/-! SUPPORT. Fabrics and admin commands that are due, and the data that they return (R69, R97, R98, R103). -/

namespace Sys2Proof.Machine

/-! ### The step of a command that is due -/

section
variable {s : State} {c n : Nat}

theorem State.AdmDue.alive (h : s.AdmDue c n) : (s.cmd c).alive = true := by
  obtain ⟨hcmd, -⟩ := h
  simp only [State.admCmd, Bool.and_eq_true] at hcmd
  obtain ⟨⟨⟨⟨halive, -⟩, -⟩, -⟩, -⟩ := hcmd
  exact halive

theorem State.FabDue.alive (h : s.FabDue c n) : (s.cmd c).alive = true := by
  obtain ⟨hcmd, -⟩ := h
  simp only [State.fabricsCmd, Bool.and_eq_true] at hcmd
  obtain ⟨⟨⟨halive, -⟩, -⟩, -⟩ := hcmd
  exact halive

theorem State.AdmDue.mute (h : s.AdmDue c n) : (s.cmd c).mute = false := h.2.2.1

theorem State.FabDue.mute (h : s.FabDue c n) : (s.cmd c).mute = false := h.2.1

theorem State.AdmDue.step (h : s.AdmDue c n) (k : State → Cmd → Ctrl → State) :
    s.admStep c n k = .next (k s (s.cmd c) (s.ctrl (s.cmd c).cntlid)).settle := by
  obtain ⟨hcmd, hmode, -, hfuse⟩ := h
  unfold State.admStep
  rw [if_pos ⟨hcmd, hmode⟩, if_neg (not_not.mpr hfuse)]
  rfl

theorem State.FabDue.step (h : s.FabDue c n) (k : Cmd → State) : s.fabricsStep c n k = .next (k (s.cmd c)).settle := by
  obtain ⟨hcmd, -, hfuse⟩ := h
  unfold State.fabricsStep
  rw [if_pos hcmd, if_neg (not_not.mpr hfuse)]
  rfl

theorem State.AdmDue.posted (h : s.AdmDue c n) {u : State} (status dw0 dw1 : Nat) (hcmd : u.cmds = s.cmds)
    (hqueue : u.queues = s.queues) : s.Posted (u.complete c status dw0 dw1).settle c status dw0 dw1 :=
  State.posted_settle status dw0 dw1 hcmd hqueue h.alive h.mute

theorem State.FabDue.posted (h : s.FabDue c n) {u : State} (status dw0 dw1 : Nat) (hcmd : u.cmds = s.cmds)
    (hqueue : u.queues = s.queues) : s.Posted (u.complete c status dw0 dw1).settle c status dw0 dw1 :=
  State.posted_settle status dw0 dw1 hcmd hqueue h.alive h.mute

/-- A command that returns data sends it to its connection, and completes. -/
theorem State.AdmDue.answered (h : s.AdmDue c n) (args data : List Nat) :
    s.Posted (s.answer c args data).settle c 0 0 0 ∧
      (s.answer c args data).settle.Sent .adminData (s.cmd c).conn ((s.cmd c).sqe.cid :: args) data := by
  have hdata : s.adminData c args data = s.send .adminData (s.cmd c).conn ((s.cmd c).sqe.cid :: args) data := by
    unfold State.adminData
    simp only [h.mute, Bool.false_eq_true, if_false]
  unfold State.answer
  rw [hdata]
  exact ⟨h.posted 0 0 0 rfl rfl, ((State.sent_send ..).mono (State.msgs_complete ..)).settle⟩

end

/-- A data pointer that passes its checks lets the command go on. -/
theorem State.withData_of_ok {s : State} {c : Nat} (h : s.sglCheck c 0 true = none) (k : State → State) : s.withData c k = k s := by
  unfold State.withData
  rw [h]

/-! ### Fabrics commands -/

theorem disconnect_posts (c : Nat) (s : State) (h : s.FabDue c 0x08) :
    ∃ u : State, exec (.disconnect c) s = .next (u.close (s.cmd c).conn).settle ∧ s.Posted u c 0 0 0 := by
  refine ⟨s.complete c, ?_, State.posted_complete 0 0 0 h.alive h.mute⟩
  refine (show execDisconnect c s = _ from h.step _).trans ?_
  rw [if_neg (by simp [h.mute])]

theorem propertyGet_posts (c : Nat) (s : State) (h : s.FabDue c 0x04) (hcc : (s.cmd c).sqe.cdw11.toNat = 0x14) :
    ∃ t, exec (.propertyGet c) s = .next t ∧
      s.Posted t c 0 ((s.ctrl (s.cmd c).cntlid).cc % 2 ^ 32) ((s.ctrl (s.cmd c).cntlid).cc / 2 ^ 32) := by
  refine ⟨_, (show execPropertyGet c s = _ from h.step _).trans ?_, h.posted 0 _ _ rfl rfl⟩
  simp only [hcc]

theorem propertySet_posts (c : Nat) (s : State) (h : s.FabDue c 0x00) (hcc : (s.cmd c).sqe.cdw11.toNat = 0x14)
    (hen : bit (s.ctrl (s.cmd c).cntlid).cc 0 = false) :
    ∃ t, exec (.propertySet c) s = .next t ∧ s.Posted t c 0 0 0 ∧ (t.ctrl (s.cmd c).cntlid).cc = (s.cmd c).sqe.cdw12.toNat := by
  refine ⟨((s.modCtrl (s.cmd c).cntlid fun k => { k with cc := (s.cmd c).sqe.cdw12.toNat }).complete c).settle,
    (show execPropertySet c s = _ from h.step _).trans ?_, h.posted 0 0 0 rfl rfl, ?_⟩
  · simp only [hcc, hen, ne_eq, not_true_eq_false, if_false, Bool.false_eq_true, false_and]
  · rw [State.ctrl, State.settle_ctrls, State.complete_ctrls]
    exact congrArg Ctrl.cc (Tab.getD_setD_same ..)

theorem authenticationSend_fails (c : Nat) (s : State) (h : s.FabDue c 0x05) :
    ∃ t, exec (.authenticationSend c) s = .next t ∧ s.Posted t c 0x02 0 0 :=
  ⟨_, show execAuthenticationSend c s = _ from h.step _, h.posted 0x02 0 0 rfl rfl⟩

theorem authenticationReceive_fails (c : Nat) (s : State) (h : s.FabDue c 0x06) :
    ∃ t, exec (.authenticationReceive c) s = .next t ∧ s.Posted t c 0x02 0 0 :=
  ⟨_, show execAuthenticationReceive c s = _ from h.step _, h.posted 0x02 0 0 rfl rfl⟩

/-- The end of a handshake that changed only components outside of the register fields and ctl keeps its frame. -/
theorem State.only_settle_same (u : State) (ks : List Nat) : State.Only u u.settle ks :=
  State.only_settle (fun _ _ _ _ => rfl) rfl

theorem queueRelease_frees (q : Nat) (s : State) (hvalid : (s.queue q).valid = true) (hdel : (s.queue q).deleting = true)
    (hout : s.outstanding q = []) :
    ∃ t, exec (.queueRelease q) s = .next t ∧ t.queue q = {} ∧ State.Only { s with queues := t.queues } t [] := by
  refine ⟨{ s with queues := s.queues.set q {} }.settle, ?_, ?_, ?_⟩
  · show execQueueRelease q s = _
    exact if_pos ⟨hvalid, hdel, by rw [hout]; rfl⟩
  · rw [State.queue, State.settle_queues]
    exact Tab.getD_setD_same s.queues default q {}
  · rw [State.settle_queues]
    exact State.only_settle_same _ _

/-! ### Identify, log pages and the event log -/

theorem identify_answers (c : Nat) (d : List Nat) (s : State) (h : s.AdmDue c 0x06)
    (hd : s.identifyData (s.cmd c) (s.ctrl (s.cmd c).cntlid) = .ok d) (hsgl : s.sglCheck c 0 true = none) :
    ∃ t, exec (.identify c) s = .next t ∧ s.Posted t c 0 0 0 ∧
      t.Sent .adminData (s.cmd c).conn ((s.cmd c).sqe.cid :: [0x06, (s.cmd c).sqe.cdw10.toNat % 256]) d := by
  refine ⟨_, (show execIdentify c s = _ from h.step _).trans ?_, h.answered [0x06, (s.cmd c).sqe.cdw10.toNat % 256] d⟩
  simp only [hd, State.withData_of_ok hsgl]

theorem getLogPage_firmware (c : Nat) (s : State) (h : s.AdmDue c 0x02) (hlid : (s.cmd c).sqe.cdw10.toNat % 256 = 0x03)
    (hlen : (s.cmd c).sqe.cdw10.toNat / 65536 = 127) (hlenU : (s.cmd c).sqe.cdw11.toNat % 65536 = 0)
    (hdisc : (s.ctrl (s.cmd c).cntlid).disc = false) (hsgl : s.sglCheck c 0 true = none) :
    ∃ t d, exec (.getLogPage c) s = .next t ∧ s.logPage (s.cmd c) (s.ctrl (s.cmd c).cntlid) 0x03 = .ok d ∧ s.Posted t c 0 0 0 ∧
      t.Sent .adminData (s.cmd c).conn
        [(s.cmd c).sqe.cid, 0x02, 0x03, (s.cmd c).sqe.cdw12.toNat + 2 ^ 32 * (s.cmd c).sqe.cdw13.toNat, 512]
        (logCut 0x03 ((s.cmd c).sqe.cdw12.toNat + 2 ^ 32 * (s.cmd c).sqe.cdw13.toNat) 512 d) := by
  obtain ⟨d, hd⟩ : ∃ d, s.logPage (s.cmd c) (s.ctrl (s.cmd c).cntlid) 0x03 = .ok d := ⟨_, rfl⟩
  have hread : s.logRead (s.cmd c) 0x03 = s := rfl
  refine ⟨_, d, (show execGetLogPage c s = _ from h.step _).trans ?_, hd, h.answered _ _⟩
  simp [hlid, hlen, hlenU, hdisc, hd, hread, lids, State.withData_of_ok hsgl]

theorem getLogPage_unknown (c : Nat) (s : State) (h : s.AdmDue c 0x02)
    (hlen : (s.cmd c).sqe.cdw10.toNat / 65536 + 65536 * ((s.cmd c).sqe.cdw11.toNat % 65536) < 524288)
    (hlid : (lids (s.ctrl (s.cmd c).cntlid).disc).contains ((s.cmd c).sqe.cdw10.toNat % 256) = false) :
    ∃ t, exec (.getLogPage c) s = .next t ∧ s.Posted t c 0x109 0 0 := by
  refine ⟨_, (show execGetLogPage c s = _ from h.step _).trans ?_, h.posted 0x109 0 0 rfl rfl⟩
  dsimp only
  rw [if_neg (by omega), if_pos (by rw [hlid]; exact Bool.false_ne_true)]

/-- The words of n entries of the ring from index i on. -/
def State.ringWords (s : State) (i n : Nat) : List Nat :=
  ((List.range n).map fun j => (List.range 8).map fun w => logWord (s.log.ring.get ((i + j) % 4096)) w).flatten

theorem State.ringWords_length (s : State) (i n : Nat) : (s.ringWords i n).length = 8 * n := by
  simp [State.ringWords, List.length_flatten, Function.comp_def, Nat.mul_comm]

/-- The first entry's words come first. -/
theorem State.ringWords_first (s : State) (i n w : Nat) (hi : i < 4096) (hw : w < 8) :
    (s.ringWords i (n + 1))[w]? = some (logWord (s.log.ring.get i) w) := by
  unfold State.ringWords
  rw [List.range_succ_eq_map (n := n), List.map_cons, List.flatten_cons, List.getElem?_append_left (by simpa using hw)]
  simp [hw, Nat.mod_eq_of_lt hi]

theorem getEventLog_answers (c : Nat) (s : State) (h : s.AdmDue c 0xC6)
    (hsgl : s.sglCheck c (32 * ((s.cmd c).sqe.cdw11.toNat % 128 + 1)) true = none) :
    ∃ t d, exec (.getEventLog c) s = .next t ∧ s.Posted t c 0 0 0 ∧
      t.Sent .adminData (s.cmd c).conn
        [(s.cmd c).sqe.cid, (s.cmd c).sqe.cdw10.toNat % 4096, (s.cmd c).sqe.cdw11.toNat % 128 + 1] d ∧
      d.length = 8 * ((s.cmd c).sqe.cdw11.toNat % 128 + 1) ∧
      ∀ w, w < 8 → d[w]? = some (logWord (s.log.ring.get ((s.cmd c).sqe.cdw10.toNat % 4096)) w) := by
  obtain ⟨hpost, hsent⟩ := h.answered [(s.cmd c).sqe.cdw10.toNat % 4096, (s.cmd c).sqe.cdw11.toNat % 128 + 1]
    (s.ringWords ((s.cmd c).sqe.cdw10.toNat % 4096) ((s.cmd c).sqe.cdw11.toNat % 128 + 1))
  refine ⟨_, _, (show execGetEventLog c s = _ from h.step _).trans ?_, hpost, hsent, State.ringWords_length .., fun w hw => ?_⟩
  · simp only [hsgl]
    rfl
  · exact State.ringWords_first _ _ _ _ (Nat.mod_lt _ (by decide)) hw

/-- Settles O29: clause by clause, the Fabrics commands, the release of a queue, and the commands that return data. -/
theorem fabricsAndDataCommands : Obligations.FabricsAndDataCommands :=
  ⟨disconnect_posts, propertyGet_posts, propertySet_posts, authenticationSend_fails, authenticationReceive_fails,
   queueRelease_frees, identify_answers, getLogPage_firmware, getLogPage_unknown, getEventLog_answers⟩

/-! ### Keep Alive and asynchronous events -/

theorem keepAlive_posts (c : Nat) (s : State) (h : s.AdmDue c 0x18) :
    ∃ t, exec (.keepAlive c) s = .next t ∧ s.Posted t c 0 0 0 := ⟨_, show execKeepAlive c s = _ from h.step _, h.posted 0 0 0 rfl rfl⟩

theorem asyncEventRequest_held (c : Nat) (s : State) (h : s.AdmDue c 0x0C) (hroom : (s.ctrl (s.cmd c).cntlid).aers.length < 4)
    (hnone : (s.ctrl (s.cmd c).cntlid).aevs = []) :
    ∃ t, exec (.asyncEventRequest c) s = .next t ∧ (t.cmd c).phase = .running ∧ (t.cmd c).alive = true ∧
      (t.ctrl (s.cmd c).cntlid).aers = (s.ctrl (s.cmd c).cntlid).aers ++ [c] ∧
      State.Only { s with cmds := t.cmds, ctrls := t.ctrls } t [] := by
  have hcmd : ((s.running c).cmd c) = { s.cmd c with phase := .running } := Tab.getD_setD_same ..
  refine ⟨((s.running c).modCtrl (s.cmd c).cntlid fun x => { x with aers := x.aers ++ [c] }).settle,
      (show execAsyncEventRequest c s = _ from h.step _).trans ?_, ?_⟩
  · simp only [hnone, Nat.not_le.mpr hroom, if_false]
  · rw [State.cmd, State.ctrl, State.settle_cmds, State.settle_ctrls]
    refine ⟨congrArg Cmd.phase hcmd, (congrArg Cmd.alive hcmd).trans h.alive, congrArg Ctrl.aers (Tab.getD_setD_same ..), ?_⟩
    exact State.only_settle_same _ _

theorem asyncEventRequest_fifth (c : Nat) (s : State) (h : s.AdmDue c 0x0C) (hfull : 4 ≤ (s.ctrl (s.cmd c).cntlid).aers.length) :
    ∃ t, exec (.asyncEventRequest c) s = .next t ∧ s.Posted t c 0x105 0 0 := by
  refine ⟨_, (show execAsyncEventRequest c s = _ from h.step _).trans ?_, h.posted 0x105 0 0 rfl rfl⟩
  simp only [hfull, if_true]

/-! ### Features -/

/-- Every controller has the keep-alive timer. -/
theorem mem_fids_keepAlive (disc : Bool) : 0x0F ∈ fids disc := by cases disc <;> decide

theorem setFeatures_keepAlive (c : Nat) (s : State) (h : s.AdmDue c 0x09) (hfid : (s.cmd c).sqe.cdw10.toNat = 0x0F)
    (hlo : 1000 ≤ (s.cmd c).sqe.cdw11.toNat) (hhi : (s.cmd c).sqe.cdw11.toNat ≤ 3600000) :
    ∃ t, exec (.setFeatures c) s = .next t ∧ s.Posted t c 0 0 0 ∧
      (t.ctrl (s.cmd c).cntlid).katoMs = (s.cmd c).sqe.cdw11.toNat := by
  refine ⟨((s.modCtrl (s.cmd c).cntlid fun k => { k with katoMs := (s.cmd c).sqe.cdw11.toNat }).complete c).settle,
    (show execSetFeatures c s = _ from h.step _).trans ?_, h.posted 0 0 0 rfl rfl, ?_⟩
  · have hsave : bit 0x0F 31 = false := by decide
    have hmod : 0x0F % 256 = 0x0F := by decide
    simp [hfid, hsave, hmod, mem_fids_keepAlive, hlo, hhi]
  · rw [State.ctrl, State.settle_ctrls, State.complete_ctrls]
    exact congrArg Ctrl.katoMs (Tab.getD_setD_same ..)

theorem getFeatures_keepAlive (c : Nat) (s : State) (h : s.AdmDue c 0x0A) (hfid : (s.cmd c).sqe.cdw10.toNat = 0x0F) :
    ∃ t, exec (.getFeatures c) s = .next t ∧ s.Posted t c 0 (s.ctrl (s.cmd c).cntlid).katoMs 0 := by
  refine ⟨_, (show execGetFeatures c s = _ from h.step _).trans ?_, h.posted 0 _ 0 rfl rfl⟩
  simp [hfid, mem_fids_keepAlive, State.featValue]

/-! ### Directives -/

theorem directiveReceive_identify (c n : Nat) (s : State) (h : s.AdmDue c 0x1A)
    (hns : s.nsOf (s.cmd c).cntlid (s.cmd c).sqe.nsid = some n) (hty : dirType (s.cmd c).sqe = 0)
    (hop : (s.cmd c).sqe.cdw11.toNat % 256 = 1) (hsgl : s.sglCheck c 0 true = none) :
    ∃ t, exec (.directiveReceive c) s = .next t ∧ s.Posted t c 0 0 0 ∧
      t.Sent .adminData (s.cmd c).conn [(s.cmd c).sqe.cid, 0x1A] [5, 1 + 4 * b2n (s.dirFdp n), 4 * b2n (s.dirFdp n)] := by
  refine ⟨_, (show execDirectiveReceive c s = _ from h.step _).trans ?_, h.answered [0x1A] [5, 1 + 4 * b2n (s.dirFdp n), 4 * b2n (s.dirFdp n)]⟩
  simp only [hns, hty, hop, and_self, if_true, State.withData_of_ok hsgl]

theorem directiveSend_enable (c n : Nat) (s : State) (h : s.AdmDue c 0x19)
    (hns : s.nsOf (s.cmd c).cntlid (s.cmd c).sqe.nsid = some n) (hty : dirType (s.cmd c).sqe = 0)
    (hop : (s.cmd c).sqe.cdw11.toNat % 256 = 1) (hdir : (s.cmd c).sqe.cdw12.toNat / 256 % 256 = 2)
    (hen : bit (s.cmd c).sqe.cdw12.toNat 0 = s.dirFdp n) :
    ∃ t, exec (.directiveSend c) s = .next t ∧ s.Posted t c 0 0 0 := by
  refine ⟨_, (show execDirectiveSend c s = _ from h.step _).trans ?_, h.posted 0 0 0 rfl rfl⟩
  simp only [hns, hty, hop, hdir, hen, and_self, if_true]

/-- Settles O31: clause by clause, Keep Alive, the requests for asynchronous events, the keep-alive timeout, and Identify of the
directives. -/
theorem controllerCommands : Obligations.ControllerCommands :=
  ⟨keepAlive_posts, asyncEventRequest_held, asyncEventRequest_fifth, setFeatures_keepAlive, getFeatures_keepAlive,
   directiveReceive_identify, directiveSend_enable⟩

end Sys2Proof.Machine
end

section
/-! SUPPORT. The closure of a connection (R67, R96): what the deletion of its queue does with commands, slots and zones closes no other
connection and opens none. -/

namespace Sys2Proof.Machine

/-! ### Media management and the connections -/

/-- All of a state but its register fields, its messages and events, and what media management holds. -/
def State.front (s : State) : State := { s with fields := [], ctl := {}, per := {}, media := {}, flash := {} }

theorem State.open_of_front {s t : State} (h : t.front = s.front) : t.open? = s.open? :=
  show t.front.open? = s.front.open? from congrArg State.open? h

theorem State.front_ite {c : Prop} [Decidable c] {s a b : State} (ha : a.front = s.front) (hb : b.front = s.front) :
    (if c then a else b).front = s.front := State.keeps_ite ha hb

theorem State.front_foldl {α : Type} {f : State → α → State} (h : ∀ s a, (f s a).front = s.front) (l : List α) (s : State) :
    (l.foldl f s).front = s.front := State.keeps_foldl h l s

theorem State.open_ite {c : Prop} [Decidable c] {s a b : State} (ha : a.open? = s.open?) (hb : b.open? = s.open?) :
    (if c then a else b).open? = s.open? := State.keeps_ite ha hb

theorem State.open_foldl {α : Type} {f : State → α → State} (h : ∀ s a, (f s a).open? = s.open?) (l : List α) (s : State) :
    (l.foldl f s).open? = s.open? := State.keeps_foldl h l s

theorem State.front_withMedia (s : State) (m : Media) : { s with media := m }.front = s.front := rfl
theorem State.front_withPer (s : State) (p : Persist) : { s with per := p }.front = s.front := rfl
theorem State.front_modShell (s : State) (x : Nat) (f : Shell → Shell) : (s.modShell x f).front = s.front := rfl
theorem State.front_raise (s : State) (F : R.Fld) (p1 p2 p3 i : Nat) : (s.raise F p1 p2 p3 i).front = s.front := rfl
theorem State.front_addJob (s : State) (j : Job) : (s.addJob j).front = s.front := rfl
theorem State.front_dropJobs (s : State) (p : Job → Bool) : (s.dropJobs p).front = s.front := rfl
theorem State.front_pushRec (s : State) (kind : RecKind) (obj : Nat) (body : List Nat) :
    (s.pushRec kind obj body).front = s.front := rfl

theorem State.front_openShell (s : State) (x kind owner : Nat) (slc : Bool) : (s.openShell x kind owner slc).front = s.front :=
  State.front_ite ((State.front_raise ..).trans (State.front_modShell ..)) (State.front_modShell ..)

/-- A Logbook shell is opened where it was Erased. -/
theorem State.front_logOpen (s : State) (c : Prop) [Decidable c] (x : Nat) :
    (if c then { s.openShell x 4 0 true with per.logPos := x + 1 } else s).front = s.front :=
  State.front_ite (show (s.openShell x 4 0 true).front = _ from State.front_openShell ..) rfl

theorem State.front_tailOut (s : State) : s.tailOut.front = s.front := by
  unfold State.tailOut
  split
  · rfl
  · refine State.front_ite rfl (State.front_ite ((State.front_pushRec ..).trans ?_) ?_)
    all_goals
      refine (State.front_withMedia _ _).trans ((State.front_addJob _ _).trans ((State.front_logOpen _ _ _).trans ?_))
      exact State.front_ite rfl (State.front_withMedia _ _)

theorem State.front_recordB (s : State) (kind : RecKind) (obj : Nat) (body : List Nat) : (s.recordB kind obj body).front = s.front :=
  (State.front_pushRec ..).trans (State.front_ite (State.front_tailOut s) rfl)

theorem State.front_giveUp (s : State) (x : Nat) : (s.giveUp x).front = s.front := State.front_ite (State.front_modShell ..) rfl

theorem State.front_releaseShell (s : State) (x : Nat) : (s.releaseShell x).front = s.front :=
  State.front_ite ((State.front_modShell ..).trans ((State.front_recordB ..).trans (State.front_giveUp ..))) rfl

theorem State.front_millRelease (s : State) (x : Nat) : (s.millRelease x).front = s.front :=
  State.front_ite (State.front_releaseShell ..) rfl

theorem State.front_queueReloc (s : State) (order x : Nat) : (s.queueReloc order x).front = s.front :=
  State.front_ite (State.front_withMedia ..) (State.front_withMedia ..)

theorem State.front_destClose (s : State) (x owner : Nat) : (s.destClose x owner).front = s.front := by
  have hfull : ∀ (t : State) (c : Prop) [Decidable c] (f : Shell → Shell) (p1 p2 p3 : Nat), t.front = s.front →
      (if c then (t.modShell x f).record .shell x
        else ((t.modShell x f).record .shell x).raise R.SH_EVT_SHELL_SHORT p1 p2 p3).front = s.front := fun t c _ f _ _ _ ht =>
    have hrec := (State.front_recordB ..).trans ((State.front_modShell t x f).trans ht)
    State.front_ite hrec ((State.front_raise ..).trans hrec)
  unfold State.destClose
  refine State.front_ite (State.front_withMedia ..) (State.front_ite ?_ (State.front_ite ?_ ?_))
  · exact (State.front_releaseShell ..).trans (State.front_withMedia ..)
  · exact hfull _ _ _ _ _ _ (State.front_withMedia ..)
  · exact (State.front_queueReloc ..).trans (hfull _ _ _ _ _ _ (State.front_withMedia ..))

theorem State.front_abandon (s : State) (id : Nat) : (s.abandon id).front = s.front := by
  unfold State.abandon
  refine State.front_ite rfl ((State.front_raise ..).trans ((State.front_withMedia ..).trans ?_))
  refine (State.front_foldl (fun t x => State.front_destClose t x _) _ _).trans ?_
  exact (State.front_modShell ..).trans (State.front_dropJobs ..)

theorem State.front_zoneTo (s : State) (z : Nat) (zs : ZState) : (s.zoneTo z zs).front = s.front :=
  (State.front_recordB ..).trans rfl

theorem State.front_zoneDrop (s : State) (z : Nat) : (s.zoneDrop z).front = s.front := by
  have hmill : ∀ (l : List Nat) (t : State) (m : Media) (p : Persist), t.front = s.front →
      (l.foldl State.millRelease { { t with media := m } with per := p }).front = s.front := fun l t m p ht =>
    (State.front_foldl State.front_millRelease _ _).trans ((State.front_withPer _ p).trans ((State.front_withMedia t m).trans ht))
  have hjobs : ∀ p, (s.dropJobs p).front = s.front := State.front_dropJobs s
  unfold State.zoneDrop
  refine State.front_ite ?_ (hmill _ _ _ _ (hjobs _))
  exact (State.front_foldl State.front_abandon _ _).trans ((State.front_releaseShell ..).trans (hmill _ _ _ _ (hjobs _)))

theorem State.front_zoneEmpty (s : State) (z : Nat) : (s.zoneEmpty z).front = s.front :=
  (State.front_recordB ..).trans ((State.front_withPer ..).trans (State.front_zoneDrop s z))

theorem State.front_spillsCut (s : State) (z end_ : Nat) : (s.spillsCut z end_).front = s.front :=
  (State.front_foldl State.front_millRelease _ _).trans (State.front_withPer ..)

/-! ### A write that ends short (R196) -/

/-- A later write of the zone fails, and nothing of it waits. -/
theorem State.open_failWrite (s : State) (c : Nat) :
    ((s.modCmd c fun d => { d with status := 0x1BC, want := false }).dropWaits c).open? = s.open? := rfl

theorem State.open_pullBack (s : State) (z off ord : Nat) : (s.pullBack z off ord).open? = s.open? := by
  unfold State.pullBack
  refine State.open_ite rfl ?_
  refine (State.open_foldl (fun t k => State.open_ite (State.open_complete ..) rfl) _ _).trans ?_
  have hzone : ∀ (c : Prop) [Decidable c] (t : State) (zs : ZState), (if c then t.zoneEmpty z else t.zoneTo z zs).front = t.front :=
    fun c _ t zs => State.front_ite (State.front_zoneEmpty ..) (State.front_zoneTo ..)
  refine (State.open_of_front (hzone _ _ _)).trans ?_
  refine (State.open_of_front (State.front_spillsCut _ z _)).trans ?_
  exact State.open_foldl (fun t k => State.open_failWrite t k) _ _

theorem State.open_writeFinal (s : State) (c : Nat) : (s.writeFinal c).open? = s.open? := by
  unfold State.writeFinal
  refine State.open_ite rfl (State.open_ite (State.open_complete ..) ((State.open_complete ..).trans ?_))
  split
  · exact State.open_ite (State.open_pullBack ..) rfl
  · rfl

/-! ### Slots and reads of a deleted queue (R96, Table 04-4) -/

theorem State.open_reserveNext (s : State) : s.reserveNext.open? = s.open? := by
  unfold State.reserveNext
  split
  · rfl
  · dsimp only
    split <;> rfl

theorem State.open_freeSlotN (s : State) (n : Nat) : (s.freeSlotN n).open? = s.open? := rfl

theorem State.open_slotsDeleted (s : State) (c : Nat) : (s.slotsDeleted c).open? = s.open? := by
  refine State.open_foldl (fun t n => ?_) _ _
  dsimp only
  split
  · exact State.open_ite rfl rfl
  · exact State.open_ite rfl rfl
  · rfl
  · rfl

theorem State.open_readEnd (s : State) (c : Nat) : (s.readEnd c).open? = s.open? := by
  have hdrop : ∀ (l : List Nat) (t : State), (l.foldl State.freeSlotN t).reserveNext.open? = t.open? := fun l t =>
    (State.open_reserveNext _).trans (State.open_foldl State.open_freeSlotN l t)
  unfold State.readEnd
  refine State.open_ite (State.open_ite (State.open_complete ..) (State.open_ite ?_ (State.open_ite ?_ rfl))) rfl
  · exact (State.open_freeCmd ..).trans (hdrop ..)
  · exact (State.open_complete ..).trans (hdrop ..)

/-! ### Deletion of a queue (R96, Table 03-2) -/

theorem State.open_cmdDeleted (s : State) (c : Nat) : (s.cmdDeleted c).open? = s.open? := by
  have hfree : ∀ t : State, (t.freeCmd c).open? = t.open? := fun t => State.open_freeCmd t c
  unfold State.cmdDeleted
  refine State.open_ite (hfree _) (State.open_ite (State.open_ite (hfree _) (State.open_ite rfl rfl)) ?_)
  split
  · exact hfree _
  · exact State.open_ite (hfree _) rfl
  · refine State.open_ite (State.open_ite (hfree _) ?_) (State.open_ite ?_ (State.open_ite ?_ rfl))
    · exact (State.open_readEnd ..).trans (State.open_slotsDeleted ..)
    · exact State.open_readEnd ..
    · exact (State.open_writeFinal ..).trans (State.open_slotsDeleted ..)

theorem State.open_queueDelete (s : State) (q : Nat) : (s.queueDelete q).open? = s.open? :=
  State.open_ite rfl ((State.open_bpUpdate _).trans ((State.open_reserveNext _).trans (State.open_foldl State.open_cmdDeleted _ _)))

/-! ### The connection closes (R67) -/

theorem State.conns_reserveNext (s : State) : s.reserveNext.conns = s.conns := by
  unfold State.reserveNext
  split
  · rfl
  · dsimp only
    split <;> rfl

/-- The slots of a connection that closes are freed; the connections are as they were. -/
theorem State.conns_slotsClosed (s : State) (c : Nat) : (s.slotsClosed c).reserveNext.conns = s.conns := by
  refine (State.conns_reserveNext _).trans (State.keeps_foldl (p := State.conns) (fun t n => ?_) _ _)
  split <;> rfl

/-- The state in which an open connection has gone, and its queue is not yet deleted. -/
def State.connGone (s : State) (c : Nat) (tell : Bool) : State :=
  let t := s.dropHeldOf c
  let t := if tell then t.send (if (s.conn c).rdma then .dreq else .tcpRst) c else t
  let t := (t.slotsClosed c).reserveNext
  { t with conns := t.conns.set c (s.conn c).ended }

theorem State.connEnd_eq {s : State} {c : Nat} (tell : Bool) (h : (s.conn c).alive = true) :
    s.connEnd c tell = if (s.conn c).connected then (s.connGone c tell).queueDelete (s.conn c).queue else s.connGone c tell := by
  unfold State.connEnd
  simp only [h, not_true_eq_false, if_false]
  rfl

theorem State.connGone_conns (s : State) (c : Nat) (tell : Bool) :
    (s.connGone c tell).conns = s.conns.set c (s.conn c).ended := by
  have htell : (if tell then (s.dropHeldOf c).send (if (s.conn c).rdma then .dreq else .tcpRst) c else s.dropHeldOf c).conns = s.conns := by
    refine State.keeps_ite ?_ rfl
    refine State.send_conns_of_not_acked _ _ _ _ _ _ _ ?_
    split <;> decide
  unfold State.connGone
  dsimp only
  rw [State.conns_slotsClosed, htell]

theorem State.open_connGone (s : State) (c : Nat) (tell : Bool) (d : Nat) :
    (s.connGone c tell).open? d = (decide (d ≠ c) && s.open? d) := by
  unfold State.open? State.conn
  rw [State.connGone_conns]
  by_cases hd : d = c
  · subst hd
    simp [Conn.ended]
  · simp [hd, Tab.getD_setD_other _ _ _ _ _ _ hd]

/-- The end of a connection closes it, and no other connection opens or closes. -/
theorem State.open_connEnd (s : State) (c : Nat) (tell : Bool) (d : Nat) :
    (s.connEnd c tell).open? d = (decide (d ≠ c) && s.open? d) := by
  by_cases h : (s.conn c).alive = true
  · rw [State.connEnd_eq tell h, ← State.open_connGone s c tell d]
    refine congrFun (State.keeps_ite (State.open_queueDelete ..) rfl) d
  · have hend : s.connEnd c tell = s := by
      unfold State.connEnd
      exact if_pos h
    rw [hend]
    by_cases hd : d = c
    · subst hd
      simpa [State.open?] using h
    · simp [hd]

/-- A closed connection stays closed when others end. -/
theorem State.closed_connEnd {s : State} {d : Nat} (h : s.open? d = false) (c : Nat) (tell : Bool) :
    (s.connEnd c tell).open? d = false := by
  rw [State.open_connEnd, h, Bool.and_false]

theorem State.closed_ctrlEnd {s : State} {d : Nat} (h : s.open? d = false) (k : Nat) : (s.ctrlEnd k).open? d = false := by
  have hfold : ∀ (l : List Nat) (t : State), t.open? d = false →
      (l.foldl (fun (t : State) c => t.connEnd c true) t).open? d = false := by
    intro l
    induction l with
    | nil => exact fun t ht => ht
    | cons c r ih => exact fun t ht => ih _ (State.closed_connEnd ht c true)
  exact hfold _ s h

/-- A connection is closed once it has been closed (R67). -/
theorem State.open_close (s : State) (c : Nat) (tell : Bool) : (s.close c tell).open? c = false := by
  unfold State.close
  dsimp only
  split
  · next h => simpa [State.open?] using h
  · have hend : (s.connEnd c tell).open? c = false := by simp [State.open_connEnd]
    split
    · exact State.closed_ctrlEnd hend _
    · exact hend

/-- A connection that no Connect had bound leaves only what may still arrive on it. -/
theorem State.close_unbound {s : State} {c : Nat} (tell : Bool) (halive : (s.conn c).alive = true)
    (hcon : (s.conn c).connected = false) : s.close c tell = s.connGone c tell := by
  unfold State.close
  simp only [halive, hcon, not_true_eq_false, if_false, Bool.false_eq_true, false_and]
  rw [State.connEnd_eq tell halive]
  simp only [hcon, Bool.false_eq_true, if_false]

/-- All of a state but its register fields, its messages and events, its connections, and the slots. -/
def State.afield (s : State) : State := { s with fields := [], ctl := {}, conns := [], hop := {} }

theorem State.afield_reserveNext (s : State) : s.reserveNext.afield = s.afield := by
  unfold State.reserveNext
  split
  · rfl
  · dsimp only
    split <;> rfl

theorem State.afield_connGone (s : State) (c : Nat) (tell : Bool) : (s.connGone c tell).afield = s.afield := by
  have hslots : ∀ t : State, (t.slotsClosed c).afield = t.afield := by
    refine fun t => State.keeps_foldl (p := State.afield) (fun u n => ?_) _ _
    split <;> rfl
  show State.afield (State.reserveNext _) = _
  exact (State.afield_reserveNext _).trans ((hslots _).trans (State.keeps_ite rfl rfl))

theorem close_unbound_leaves (c : Nat) (s : State) (halive : (s.conn c).alive = true) (hcon : (s.conn c).connected = false) :
    (s.close c).conn c = (s.conn c).ended ∧ (s.close c).cmds = s.cmds ∧ (s.close c).queues = s.queues ∧
      (s.close c).ctrls = s.ctrls := by
  have hrest := State.afield_connGone s c false
  rw [State.close_unbound false halive hcon]
  refine ⟨?_, ?_, ?_, ?_⟩
  · rw [State.conn, State.connGone_conns]
    exact Tab.getD_setD_same ..
  · exact show (s.connGone c false).afield.cmds = s.afield.cmds from congrArg State.cmds hrest
  · exact show (s.connGone c false).afield.queues = s.afield.queues from congrArg State.queues hrest
  · exact show (s.connGone c false).afield.ctrls = s.afield.ctrls from congrArg State.ctrls hrest

end Sys2Proof.Machine
end

section
/-! SUPPORT. Frames that a connection hears, connections that open, and those that close (R53, R55, R58, R60, R67, R68). -/

namespace Sys2Proof.Machine

/-! ### A frame that is taken -/

theorem State.onLink_taken {s u : State} {l : Nat} {rx : RxFrame} (h : s.arrive l rx = some (u, true)) (k : State → State) :
    s.onLink l rx k = .next (k u).settle := by
  unfold State.onLink
  rw [h]
  rfl

theorem State.onFrame_heard {s u : State} {c : Nat} {rx : RxFrame} {b : Bool} (halive : (s.conn c).alive = true)
    (hrdma : (s.conn c).rdma = b) (h : s.Heard c rx u) (k : State → Conn → State) :
    s.onFrame c b rx k = .next (k u (s.conn c)).settle := by
  obtain ⟨v, harrive, rfl⟩ := h
  subst hrdma
  unfold State.onFrame
  dsimp only
  rw [if_neg (by simp [halive]), State.onLink_taken harrive]

theorem State.onConn_heard {s u : State} {c : Nat} {rx : RxFrame} {b : Bool} (halive : (s.conn c).alive = true)
    (hrdma : (s.conn c).rdma = b) (h : s.Heard c rx u) (k : State → Conn → State) :
    s.onConn c b rx k = .next (k u (s.conn c)).settle := by
  unfold State.onConn
  rw [if_pos halive, State.onFrame_heard halive hrdma h]

/-! ### A message that no peer acknowledges -/

section
variable {u w : State} {kind : MK} (c : Nat) (args data : List Nat) (link : Option Nat)

/-- Such a message leaves in its frame what stood before it, where only connections had changed. -/
theorem State.sends_settle (hw : w = { u with conns := w.conns }) (hk : acked.contains kind = false) :
    u.Sends (w.send kind c args data none link).settle kind c args data [] := by
  have hm : ∀ m, w.pauseHolds m = u.pauseHolds m := fun m => by rw [hw]; rfl
  have hctl : w.ctl = u.ctl := by rw [hw]
  have hsend : w.send kind c args data none link =
      { u with conns := w.conns, ctl := u.ctl.post { kind, dst := c, args, data, tx := w.txMark kind c link } (u.pauseHolds
        { kind, dst := c, args, data, tx := w.txMark kind c link }) } := by
    unfold State.send
    simp only [hk, Bool.false_and, Bool.false_eq_true, if_false, hm, hctl]
    rw [hw]
  refine ⟨{ kind, dst := c, args, data, tx := w.txMark kind c link }, rfl, rfl, rfl, rfl, ?_⟩
  rw [State.settle_conns, State.send_conns_of_not_acked _ _ _ _ _ _ _ hk, ← hsend]
  exact State.only_settle_same _ _

end

/-! ### A connection opens (R53, R60) -/

/-- The connection that a port sets up. -/
def State.newConn (s : State) (link dport : Nat) (rdma : Bool) (kind : ConnKind) (want : Nat) (v6 : Bool) : Conn :=
  { alive := true, rdma, kind, link, dport, want, v6,
    giveup := s.f R.PT_TRANS_CFG_GIVEUP (portOf link), retryCnt := s.f R.PT_TRANS_CFG_RETRY_CNT (portOf link),
    rtoMin := s.f R.PT_TRANS_CFG_RTO_MIN (portOf link), rtoMs := s.f R.PT_TRANS_CFG_RTO_MIN (portOf link), bufs := 1,
    pmtu := 1024 * 2 ^ s.f R.PT_TRANS_CFG_PMTU (portOf link), rate := if rdma then 50000 * 2 ^ s.linkSpeed link else 0,
    window := 65536 }

theorem State.connOpen_eq (s : State) (c link dport : Nat) (rdma : Bool) (kind : ConnKind) (want : Nat) (v6 : Bool) :
    s.connOpen c link dport rdma kind want v6 =
      s.modConn c fun _ => s.newConn link dport rdma kind want v6 := rfl

theorem State.conn_connOpen_same (s : State) (c link dport : Nat) (rdma : Bool) (kind : ConnKind) (want : Nat) (v6 : Bool) :
    (s.connOpen c link dport rdma kind want v6).conn c = s.newConn link dport rdma kind want v6 := by
  rw [State.connOpen_eq]
  exact State.conn_modConn_same ..

theorem State.conn_connOpen_other (s : State) {c d : Nat} (link dport : Nat) (rdma : Bool) (kind : ConnKind) (want : Nat) (v6 : Bool)
    (h : d ≠ c) : (s.connOpen c link dport rdma kind want v6).conn d = s.conn d := by
  rw [State.connOpen_eq]
  exact State.conn_modConn_other _ _ h

/-- A connection that was opened and answered with a message that no peer acknowledges. -/
theorem State.conn_opened (s : State) (c d link dport : Nat) (rdma : Bool) (want : Nat) (v6 : Bool) {kind : MK} (args : List Nat)
    (hk : acked.contains kind = false) :
    ((s.connOpen c link dport rdma .unbound want v6).send kind c args).settle.conn d =
      (s.connOpen c link dport rdma .unbound want v6).conn d := by
  rw [State.conn, State.settle_conns, State.send_conns_of_not_acked _ _ _ _ _ _ _ hk]

theorem tcpSyn_opens (c l : Nat) (rx : RxFrame) (s u : State) (h : s.arrive l rx = some (u, true)) (hfree : (u.conn c).alive = false)
    (haddr : (u.linkOf l).hasAddr = true) (hroom : u.hostConns < 20480) :
    ∃ t, exec (.tcpSyn c l ⟨4420, rx⟩) s = .next t ∧
      u.Sends t .tcpSynAck c
        [7, u.f R.PT_LINK_CTL_MTU (l / 4) (l % 4) - (if u.overV6 l rx then 60 else 40), 1, 1, 65536] [] [] ∧
      (t.conn c).alive = true ∧ (t.conn c).rdma = false ∧ (t.conn c).link = l ∧ (t.conn c).connected = false ∧ (t.conn c).sent = [] ∧
      (∀ d, d ≠ c → t.conn d = u.conn d) := by
  have hack : acked.contains MK.tcpSynAck = false := by decide
  refine ⟨((u.connOpen c l 4420 false .unbound 0 (u.overV6 l rx)).send .tcpSynAck c
    [7, u.f R.PT_LINK_CTL_MTU (l / 4) (l % 4) - (if u.overV6 l rx then 60 else 40), 1, 1, 65536]).settle, ?_,
    State.sends_settle _ _ _ _ rfl hack, ?_⟩
  · show execTcpSyn c l ⟨4420, rx⟩ s = _
    unfold execTcpSyn
    rw [State.onLink_taken h, if_neg (by simp [hfree, haddr]), if_pos rfl, if_neg (Nat.not_le.mpr hroom)]
    unfold State.synAck
    rw [State.conn_connOpen_same]
    rfl
  · rw [State.conn_opened _ _ _ _ _ _ _ _ _ hack, State.conn_connOpen_same]
    refine ⟨rfl, rfl, rfl, rfl, rfl, fun d hd => ?_⟩
    rw [State.conn_opened _ _ _ _ _ _ _ _ _ hack, State.conn_connOpen_other _ _ _ _ _ _ _ hd]

theorem cmReq_opens (c l : Nat) (pd : CmPrivate) (rx : RxFrame) (s u : State) (h : s.arrive l rx = some (u, true))
    (hfree : (u.conn c).alive = false) (haddr : (u.linkOf l).hasAddr = true) (hroce : u.on R.PT_CFG_ROCE_EN (portOf l) = true)
    (hroom : (pd.qid ≠ 0 ∧ u.ioConns < 16384 ∧ u.hostConns < 20480) ∨ (pd.qid = 0 ∧ u.admConns < 4096)) :
    ∃ t, exec (.cmReq c l ⟨4420, pd, rx⟩) s = .next t ∧ u.Sends t .cmRep c [] [] [] ∧ (t.conn c).alive = true ∧ (t.conn c).rdma = true ∧
      (t.conn c).link = l ∧ (t.conn c).connected = false ∧ (∀ d, d ≠ c → t.conn d = u.conn d) := by
  have hack : acked.contains MK.cmRep = false := by decide
  have hfull : u.cmFull (cmWant pd) = false := by
    unfold State.cmFull cmWant
    rcases hroom with ⟨hq, hio, hhost⟩ | ⟨hq, hadm⟩
    · simp [hq, hio, hhost]
    · simp [hq, hadm]
  refine ⟨((u.connOpen c l 4420 true .unbound (cmWant pd) (u.overV6 l rx)).send .cmRep c).settle, ?_,
    State.sends_settle _ _ _ _ rfl hack, ?_⟩
  · show execCmReq c l ⟨4420, pd, rx⟩ s = _
    unfold execCmReq
    rw [State.onLink_taken h]
    dsimp only
    rw [if_neg (by simp [hfree, haddr]), if_neg (by simp [hroce]), hfull, if_neg Bool.false_ne_true]
  · rw [State.conn_opened _ _ _ _ _ _ _ _ _ hack, State.conn_connOpen_same]
    refine ⟨rfl, rfl, rfl, rfl, fun d hd => ?_⟩
    rw [State.conn_opened _ _ _ _ _ _ _ _ _ hack, State.conn_connOpen_other _ _ _ _ _ _ _ hd]

/-! ### A connection is refused (R53, R55, R60) -/

theorem portOf_lt (l : Nat) : portOf l < 2 := Nat.mod_lt _ (by decide)

/-- A full pool: the refusal goes out on the link that the frame came on, CONN_LIMIT is set, and no connection changes. -/
theorem State.connLimit_settle (u : State) {kind : MK} (c l : Nat) (args : List Nat) (hk : acked.contains kind = false) :
    ((u.send kind c args (link := some l)).connLimit l).settle.Sent kind c args [] ∧
      ((u.send kind c args (link := some l)).connLimit l).settle.f R.PT_EVT_CONN_LIMIT (portOf l) = 1 ∧
      ((u.send kind c args (link := some l)).connLimit l).settle.conns = u.conns := by
  have hkey : ∀ p < 2, R.PT_EVT_CONN_LIMIT.key p 0 ≠ R.GL_EVT_LOG_WRAP.key 0 0 ∧
      R.PT_EVT_CONN_LIMIT.key p 0 ≠ R.GL_SB_STS_ALERTS.key 0 0 := by decide
  obtain ⟨hwrap, halert⟩ := hkey _ (portOf_lt l)
  refine ⟨State.Sent.settle ?_, ?_, ?_⟩
  · exact (State.sent_send_on u kind c args [] none (some l)).mono (List.Subset.refl _)
  · rw [State.f_settle _ _ _ _ hwrap halert]
    exact State.f_raise_same ..
  · rw [State.settle_conns]
    exact State.send_conns_of_not_acked u kind c args [] none (some l) hk

theorem tcpSyn_full (c l : Nat) (rx : RxFrame) (s u : State) (h : s.arrive l rx = some (u, true)) (hfree : (u.conn c).alive = false)
    (haddr : (u.linkOf l).hasAddr = true) (hfull : 20480 ≤ u.hostConns) :
    ∃ t, exec (.tcpSyn c l ⟨4420, rx⟩) s = .next t ∧ t.Sent .tcpRst c [] [] ∧ t.f R.PT_EVT_CONN_LIMIT (portOf l) = 1 ∧
      t.conns = u.conns := by
  refine ⟨_, ?_, u.connLimit_settle c l [] (by decide)⟩
  show execTcpSyn c l ⟨4420, rx⟩ s = _
  unfold execTcpSyn
  rw [State.onLink_taken h, if_neg (by simp [hfree, haddr]), if_pos rfl, if_pos hfull]

theorem cmReq_full (c l : Nat) (pd : CmPrivate) (rx : RxFrame) (s u : State) (h : s.arrive l rx = some (u, true))
    (hfree : (u.conn c).alive = false) (haddr : (u.linkOf l).hasAddr = true) (hroce : u.on R.PT_CFG_ROCE_EN (portOf l) = true)
    (hroom : (pd.qid ≠ 0 ∧ 16384 ≤ u.ioConns) ∨ (pd.qid = 0 ∧ 4096 ≤ u.admConns ∧ 64 ≤ u.discConns)) :
    ∃ t, exec (.cmReq c l ⟨4420, pd, rx⟩) s = .next t ∧ t.Sent .cmRej c [1] [] ∧ t.f R.PT_EVT_CONN_LIMIT (portOf l) = 1 ∧
      t.conns = u.conns := by
  have hfull : u.cmFull (cmWant pd) = true := by
    unfold State.cmFull cmWant
    rcases hroom with ⟨hq, hio⟩ | ⟨hq, hadm, hdisc⟩
    · simp [hq, hio]
    · simp [hq, hadm, hdisc]
  refine ⟨_, ?_, u.connLimit_settle c l [1] (by decide)⟩
  show execCmReq c l ⟨4420, pd, rx⟩ s = _
  unfold execCmReq
  rw [State.onLink_taken h]
  dsimp only
  rw [if_neg (by simp [hfree, haddr]), if_neg (by simp [hroce]), if_pos hfull]

theorem cmReq_noService (c l p : Nat) (pd : CmPrivate) (rx : RxFrame) (s u : State) (h : s.arrive l rx = some (u, true))
    (hfree : (u.conn c).alive = false) (haddr : (u.linkOf l).hasAddr = true)
    (hno : p ≠ 4420 ∨ u.on R.PT_CFG_ROCE_EN (portOf l) = false) :
    ∃ t, exec (.cmReq c l ⟨p, pd, rx⟩) s = .next t ∧ t.conns = u.conns ∧ u.Sends t .cmRej c [8] [] [] := by
  have hack : acked.contains MK.cmRej = false := by decide
  refine ⟨(u.send .cmRej c [8] (link := some l)).settle, ?_, ?_, State.sends_settle _ _ _ _ rfl hack⟩
  · show execCmReq c l ⟨p, pd, rx⟩ s = _
    unfold execCmReq
    rw [State.onLink_taken h]
    dsimp only
    rw [if_neg (by simp [hfree, haddr]), if_pos (by simpa [or_comm] using hno)]
  · rw [State.settle_conns, State.send_conns_of_not_acked _ _ _ _ _ _ _ hack]

/-! ### What ends a connection (R56, R58, R67, R68, R482) -/

theorem tcp_ends (c : Nat) (rx : RxFrame) (s u : State) (halive : (s.conn c).alive = true) (htcp : (s.conn c).rdma = false)
    (h : s.Heard c rx u) :
    exec (.tcpRstRx ⟨c, rx⟩) s = .next (u.close c).settle ∧
    exec (.tcpFinRx ⟨c, rx⟩) s = .next ((u.close c).send .tcpFin c).settle ∧
    (u.tlsLacks (s.conn c) = false → exec (.h2ctermreq ⟨c, rx⟩) s = .next (u.close c).settle) ∧
    (u.tlsLacks (s.conn c) = true → exec (.h2ctermreq ⟨c, rx⟩) s = .next (u.tlsRefuse c).settle) := by
  have hterm : exec (.h2ctermreq ⟨c, rx⟩) s = .next (if u.tlsLacks (s.conn c) then u.tlsRefuse c else u.close c).settle :=
    show execH2ctermreq ⟨c, rx⟩ s = _ from State.onConn_heard halive htcp h _
  refine ⟨show execTcpRstRx ⟨c, rx⟩ s = _ from State.onConn_heard halive htcp h _,
    show execTcpFinRx ⟨c, rx⟩ s = _ from State.onConn_heard halive htcp h _, fun hok => ?_, fun hlack => ?_⟩
  · rw [hterm, hok, if_neg Bool.false_ne_true]
  · rw [hterm, if_pos hlack]

theorem cmDreq_ends (c : Nat) (rx : RxFrame) (s u : State) (halive : (s.conn c).alive = true) (hrdma : (s.conn c).rdma = true)
    (h : s.Heard c rx u) : exec (.cmDreq ⟨c, rx⟩) s = .next (u.close c).settle :=
  show execCmDreq ⟨c, rx⟩ s = _ from State.onConn_heard halive hrdma h _

theorem tcpGiveupExpiry_ends (c : Nat) (s : State) (halive : (s.conn c).alive = true) (htcp : (s.conn c).rdma = false)
    (hout : (s.conn c).unacked = true) : exec (.tcpGiveupExpiry c) s = .next (s.close c true).settle := by
  show execTcpGiveupExpiry c s = _
  unfold execTcpGiveupExpiry
  exact if_pos ⟨halive, by simp [htcp], hout⟩

theorem keepAliveExpiry_ends (k : Nat) (s : State) (halive : (s.ctrl k).alive = true) (hkato : (s.ctrl k).katoMs ≠ 0)
    (hoff : s.mode ≠ .off) : exec (.keepAliveExpiry k) s = .next (s.close (s.ctrl k).adminConn true).settle := by
  show execKeepAliveExpiry k s = _
  unfold execKeepAliveExpiry
  exact if_pos ⟨halive, hkato, by simpa [State.up] using hoff⟩

/-- Settles O23: clause by clause, connections that open, those that are refused, and those that end. -/
theorem connectionsOpenAndClose : Obligations.ConnectionsOpenAndClose :=
  ⟨tcpSyn_opens, tcpSyn_full, cmReq_opens, cmReq_full, cmReq_noService, tcp_ends, cmDreq_ends, tcpGiveupExpiry_ends,
   keepAliveExpiry_ends, close_unbound_leaves⟩

end Sys2Proof.Machine
end

section
/-! SUPPORT. Acknowledgements, timeouts and retries (R56, R60, R66, R123, R482), and TLS with the ICReq (R56, R57). -/

namespace Sys2Proof.Machine

/-! ### A connection that changes by itself -/

/-- A command that changes one connection changes nothing but connections. -/
theorem State.only_modConn (u : State) (c : Nat) (f : Conn → Conn) :
    State.Only { u with conns := (u.modConn c f).settle.conns } (u.modConn c f).settle [] := by
  rw [State.settle_conns]
  exact State.only_settle_same (u.modConn c f) []

theorem State.settle_conn (s : State) (c : Nat) : s.settle.conn c = s.conn c := by rw [State.conn, State.settle_conns]

/-- A message that is sent changes nothing of a connection but what is outstanding on it. -/
theorem State.conn_send {β : Type} {p : Conn → β} (hp : ∀ x l, p { x with sent := l } = p x) (s : State) (kind : MK) (dst : Nat)
    (args data : List Nat) (slot : Option SlotTx) (link : Option Nat) (d : Nat) :
    p ((s.send kind dst args data slot link).conn d) = p (s.conn d) := by
  by_cases hack : (acked.contains kind && (s.conn dst).alive) = true
  · have hconns : (s.send kind dst args data slot link).conns = (s.modConn dst fun c =>
        { c with sent := c.sent ++ [{ kind, args, data := if slot.isSome then [] else data, slot }] }).conns := if_pos hack
    rw [State.conn, hconns]
    by_cases hd : d = dst
    · subst hd
      exact (congrArg p (State.conn_modConn_same ..)).trans (hp _ _)
    · exact congrArg p (State.conn_modConn_other s _ hd)
  · have hconns : (s.send kind dst args data slot link).conns = s.conns := if_neg hack
    rw [State.conn, hconns]

/-! ### Slots that an acknowledgement frees (R123, Table 04-4) -/

theorem State.reserveNext_slots (s : State) : s.reserveNext.hop.slots = s.hop.slots := by
  unfold State.reserveNext
  split
  · rfl
  · dsimp only
    split <;> rfl

theorem State.slotAcked_conns (s : State) (c n : Nat) : (s.slotAcked c n).conns = s.conns :=
  State.keeps_ite (p := State.conns) (State.conns_reserveNext _) rfl

theorem State.slotAcked_same {s : State} {c k : Nat} (hst : (s.slot k).state = .draining) (hc : (s.slot k).conn = c) :
    (s.slotAcked c k).slot k = {} := by
  unfold State.slotAcked
  rw [if_pos ⟨hst, hc⟩, State.slot, State.reserveNext_slots]
  exact Tab.getD_setD_same s.hop.slots default k {}

theorem State.slotAcked_other (s : State) (c : Nat) {n k : Nat} (h : k ≠ n) : (s.slotAcked c n).slot k = s.slot k := by
  unfold State.slotAcked
  split
  · rw [State.slot, State.reserveNext_slots]
    exact Tab.getD_setD_other s.hop.slots default default n k {} h
  · rfl

/-- A free slot stays free. -/
theorem State.slotAcked_free {s : State} {k : Nat} (h : s.slot k = {}) (c n : Nat) : (s.slotAcked c n).slot k = {} := by
  by_cases hn : k = n
  · subst hn
    unfold State.slotAcked
    rw [if_neg (by rw [h]; simp), h]
  · rw [State.slotAcked_other s c hn, h]

/-- Acknowledgements of a list of slots free each Draining one of the connection. -/
theorem State.slotsAcked_free {c k : Nat} (l : List Nat) {s : State}
    (h : s.slot k = {} ∨ (k ∈ l ∧ (s.slot k).state = .draining ∧ (s.slot k).conn = c)) :
    (l.foldl (fun (s : State) n => s.slotAcked c n) s).slot k = {} := by
  induction l generalizing s with
  | nil => simpa using h
  | cons n r ih =>
    refine ih ?_
    rcases h with hfree | ⟨hk, hst, hc⟩
    · exact .inl (State.slotAcked_free hfree c n)
    · by_cases hn : k = n
      · subst hn
        exact .inl (State.slotAcked_same hst hc)
      · rw [State.slotAcked_other s c hn]
        exact .inr ⟨(List.mem_cons.mp hk).resolve_left hn, hst, hc⟩

section
variable (s : State) (c : Nat) (rest : List Unacked) (slots : List Nat)

theorem State.ackTo_conn : (s.ackTo c rest slots).conn c = { s.conn c with sent := rest } := by
  have hconns : (s.ackTo c rest slots).conns = (s.modConn c fun x => { x with sent := rest }).conns :=
    State.keeps_foldl (p := State.conns) (fun t n => State.slotAcked_conns t c n) _ _
  rw [State.conn, hconns]
  exact State.conn_modConn_same ..

variable {s c rest slots} in
/-- A Draining slot that the acknowledgement covers, and of which nothing is outstanding any more, is free. -/
theorem State.ackTo_slot {k : Nat} (hk : k ∈ slots ∨ k ∈ slotsIn (s.conn c).sent) (hrest : k ∉ slotsIn rest)
    (hst : (s.slot k).state = .draining) (hc : (s.slot k).conn = c) : (s.ackTo c rest slots).slot k = {} := by
  unfold State.ackTo
  refine State.slotsAcked_free _ (.inr ⟨?_, hst, hc⟩)
  simp [hk, hrest]

end

/-- What is left outstanding carries no slot of a list, once the messages that do are taken out. -/
theorem not_mem_slotsIn_filter {l : List Unacked} {p : Unacked → Bool} {k : Nat} (h : ∀ x, k ∈ slotsIn [x] → p x = false) :
    k ∉ slotsIn (l.filter p) := by
  intro hk
  obtain ⟨x, hx, hslot⟩ := List.mem_filterMap.mp hk
  have hpx := (List.mem_filter.mp hx).2
  rw [h x (List.mem_filterMap.mpr ⟨x, List.mem_singleton_self x, hslot⟩)] at hpx
  exact Bool.false_ne_true hpx

/-! ### TCP acknowledgements (R56, R482) -/

/-- An ACK that leaves `rest` outstanding. -/
def State.tcpAcked (u : State) (c : Nat) (rest : List Unacked) (l : List Nat) : State :=
  (u.ackTo c rest l).modConn c fun x => { x with rtoMs := x.rtoMin }

theorem State.tcpAcked_conn (u : State) (c : Nat) (rest : List Unacked) (l : List Nat) :
    (u.tcpAcked c rest l).settle.conn c = { u.conn c with sent := rest, rtoMs := (u.conn c).rtoMin } := by
  rw [State.settle_conn]
  refine (State.conn_modConn_same ..).trans ?_
  rw [State.ackTo_conn]

theorem State.tcpAcked_slot {u : State} {c k : Nat} {rest : List Unacked} {l : List Nat} (h : (u.ackTo c rest l).slot k = {}) :
    (u.tcpAcked c rest l).settle.slot k = {} := by
  rw [State.slot, State.settle_hop]
  exact h

theorem tcpAckRx_all (c n : Nat) (l : List Nat) (rx : RxFrame) (s u : State) (halive : (s.conn c).alive = true)
    (htcp : (s.conn c).rdma = false) (h : s.Heard c rx u) :
    ∃ t, exec (.tcpAckRx c l ⟨false, n, rx⟩) s = .next t ∧ (t.conn c).sent = [] ∧ (t.conn c).rtoMs = (t.conn c).rtoMin ∧
      (∀ k, (k ∈ l ∨ k ∈ slotsIn (u.conn c).sent) → (u.slot k).state = .draining → (u.slot k).conn = c → t.slot k = {}) := by
  refine ⟨(u.tcpAcked c [] l).settle, show execTcpAckRx c l ⟨false, n, rx⟩ s = _ from State.onConn_heard halive htcp h _, ?_⟩
  rw [State.tcpAcked_conn]
  exact ⟨rfl, rfl, fun k hk hst hc => State.tcpAcked_slot (State.ackTo_slot hk (by simp [slotsIn]) hst hc)⟩

theorem tcpAckRx_some (c n : Nat) (l : List Nat) (rx : RxFrame) (s u : State) (halive : (s.conn c).alive = true)
    (htcp : (s.conn c).rdma = false) (h : s.Heard c rx u) (_ : u.conn c = s.conn c) :
    ∃ t, exec (.tcpAckRx c l ⟨true, n, rx⟩) s = .next t ∧ (t.conn c).rtoMs = (t.conn c).rtoMin ∧
      (t.conn c).sent = ((s.conn c).sent.drop n).filter (fun x => !(slotsIn [x]).any l.contains) ∧
      (∀ k, k ∈ l → (u.slot k).state = .draining → (u.slot k).conn = c → t.slot k = {}) := by
  refine ⟨(u.tcpAcked c (((s.conn c).sent.drop n).filter fun x => !(slotsIn [x]).any l.contains) l).settle,
    show execTcpAckRx c l ⟨true, n, rx⟩ s = _ from State.onConn_heard halive htcp h _, ?_⟩
  rw [State.tcpAcked_conn]
  refine ⟨rfl, rfl, fun k hk hst hc => State.tcpAcked_slot (State.ackTo_slot (.inl hk) (not_mem_slotsIn_filter ?_) hst hc)⟩
  intro x hx
  simp only [Bool.not_eq_false', List.any_eq_true]
  exact ⟨k, hx, by simpa using hk⟩

/-! ### Retransmission (R123, R482) -/

/-- A slot is read with the draw of free values as its only trace. -/
theorem State.slotRead_state (s : State) (t : SlotTx) (b n : Nat) : ∃ k, (s.slotRead t b n).2 = { s with ctl.freeCtr := k } := by
  have hdec : ∀ (u : State) (key ns lba : Nat) (x : Blk), ∃ k, (u.decrypt key ns lba x).2 = { u with ctl.freeCtr := k } := by
    intro u key ns lba x
    unfold State.decrypt
    split
    · exact ⟨_, rfl⟩
    · split
      · exact ⟨_, rfl⟩
      · exact ⟨_, rfl⟩
  unfold State.slotRead
  suffices hfold : ∀ (l : List Nat) (acc : List Nat × State), (∃ k, acc.2 = { s with ctl.freeCtr := k }) →
      ∃ k, (l.foldl (fun (acc : List Nat × State) k =>
        (acc.1 ++ [(acc.2.decrypt t.key t.ns (t.lba + b + k) ((acc.2.slot t.slot).blks.get (b + k))).1],
          (acc.2.decrypt t.key t.ns (t.lba + b + k) ((acc.2.slot t.slot).blks.get (b + k))).2)) acc).2 =
        { s with ctl.freeCtr := k } from hfold _ _ ⟨_, rfl⟩
  intro l
  induction l with
  | nil => exact fun acc h => h
  | cons a r ih =>
    rintro acc ⟨k, hk⟩
    refine ih _ ?_
    obtain ⟨j, hj⟩ := hdec acc.2 t.key t.ns (t.lba + b + a) ((acc.2.slot t.slot).blks.get (b + a))
    exact ⟨j, hj.trans (by rw [hk])⟩

/-- One message that goes out again is posted with its data, which is read anew where a slot holds it; nothing but ctl changes. -/
theorem State.sendAgain_eq (s : State) (c : Nat) (x : Unacked) : ∃ (d : List Nat) (k : Nat) (tx : Option TxMark) (hold : Bool),
    (x.slot = none → d = x.data) ∧
    s.sendAgain c x =
      { s with ctl := ({ s.ctl with freeCtr := k } : Ctl).post { kind := x.kind, dst := c, args := x.args, data := d, tx } hold } := by
  unfold State.sendAgain
  cases hx : x.slot with
  | none => exact ⟨x.data, s.ctl.freeCtr, _, _, fun _ => rfl, rfl⟩
  | some t =>
    dsimp only
    obtain ⟨k, hk⟩ := s.slotRead_state t (((x.args[1]?).getD 0 - (s.slot t.slot).offset) / max 1 (s.blkSize t.ns))
      (((x.args[2]?).getD 0) / max 1 (s.blkSize t.ns))
    revert hk
    generalize s.slotRead t _ _ = read
    obtain ⟨d, v⟩ := read
    rintro rfl
    exact ⟨d, k, _, _, fun h => absurd h (by simp), rfl⟩

theorem State.sendAgain_conns (s : State) (c : Nat) (x : Unacked) : (s.sendAgain c x).conns = s.conns := by
  obtain ⟨d, k, tx, hold, -, he⟩ := s.sendAgain_eq c x
  rw [he]

theorem State.msgs_sendAgain (s : State) (c : Nat) (x : Unacked) : s.msgs ⊆ (s.sendAgain c x).msgs := by
  obtain ⟨d, k, tx, hold, -, he⟩ := s.sendAgain_eq c x
  rw [he]
  exact fun m hm => Ctl.mem_post.mpr (.inr hm)

theorem State.sent_sendAgain (s : State) (c : Nat) (x : Unacked) :
    ∃ d, (x.slot = none → d = x.data) ∧ (s.sendAgain c x).Sent x.kind c x.args d := by
  obtain ⟨d, k, tx, hold, hd, he⟩ := s.sendAgain_eq c x
  rw [he]
  exact ⟨d, hd, _, Ctl.mem_post.mpr (.inl rfl), rfl, rfl, rfl, rfl⟩

theorem State.sent_sendAgains (c : Nat) (l : List Unacked) (s : State) {x : Unacked} (hx : x ∈ l) :
    ∃ d, (x.slot = none → d = x.data) ∧ (l.foldl (fun (s : State) u => s.sendAgain c u) s).Sent x.kind c x.args d := by
  induction l generalizing s with
  | nil => cases hx
  | cons y r ih =>
    obtain rfl | hmem := List.mem_cons.mp hx
    · obtain ⟨d, hd, hsent⟩ := s.sent_sendAgain c x
      exact ⟨d, hd, hsent.mono (State.msgs_foldl (fun t u => t.msgs_sendAgain c u) r _)⟩
    · exact ih _ hmem

theorem State.retransmit_conns (s : State) (c : Nat) : (s.retransmit c).conns = s.conns :=
  State.keeps_ite (p := State.conns) (State.keeps_foldl (p := State.conns) (fun t u => t.sendAgain_conns c u) _ _) rfl

/-- On a link that is Up everything outstanding goes out again (R123). -/
theorem State.sent_retransmit {s : State} {c : Nat} (hup : s.linkUp (s.conn c).link = true) {x : Unacked} (hx : x ∈ (s.conn c).sent) :
    ∃ d, (x.slot = none → d = x.data) ∧ (s.retransmit c).Sent x.kind c x.args d := by
  unfold State.retransmit
  rw [if_pos hup]
  exact State.sent_sendAgains c _ s hx

/-- What is outstanding goes out again, and the connection changes by f. -/
def State.resent (s : State) (c : Nat) (f : Conn → Conn) : State := (s.retransmit c).modConn c f

theorem State.resent_conn (s : State) (c : Nat) (f : Conn → Conn) : (s.resent c f).settle.conn c = f (s.conn c) := by
  rw [State.settle_conn]
  refine (State.conn_modConn_same ..).trans ?_
  rw [State.conn, State.retransmit_conns]

theorem State.sent_resent {s : State} {c : Nat} (f : Conn → Conn) (hup : s.linkUp (s.conn c).link = true) {x : Unacked}
    (hx : x ∈ (s.conn c).sent) : ∃ d, (x.slot = none → d = x.data) ∧ (s.resent c f).settle.Sent x.kind c x.args d := by
  obtain ⟨d, hd, hsent⟩ := State.sent_retransmit hup hx
  exact ⟨d, hd, (hsent.mono (t := s.resent c f) (List.Subset.refl _)).settle⟩

theorem tcpRtoExpiry_resends (c : Nat) (s : State) (halive : (s.conn c).alive = true) (htcp : (s.conn c).rdma = false)
    (hout : (s.conn c).unacked = true) (hup : s.linkUp (s.conn c).link = true) :
    ∃ t, exec (.tcpRtoExpiry c) s = .next t ∧ (t.conn c).rtoMs = min 2000 (2 * (s.conn c).rtoMs) ∧
      (t.conn c).sent = (s.conn c).sent ∧
      (∀ x ∈ (s.conn c).sent, x.slot = none → t.Sent x.kind c x.args x.data) ∧
      (∀ x ∈ (s.conn c).sent, x.slot ≠ none → ∃ d, t.Sent x.kind c x.args d) := by
  refine ⟨(s.resent c fun x => { x with rtoMs := min 2000 (2 * x.rtoMs) }).settle, ?_, ?_⟩
  · show execTcpRtoExpiry c s = _
    unfold execTcpRtoExpiry
    exact if_pos ⟨halive, by simp [htcp], hout⟩
  · rw [State.resent_conn]
    refine ⟨rfl, rfl, fun x hx hslot => ?_, fun x hx _ => ?_⟩
    · obtain ⟨d, hd, hsent⟩ := State.sent_resent _ hup hx
      exact hd hslot ▸ hsent
    · obtain ⟨d, -, hsent⟩ := State.sent_resent _ hup hx
      exact ⟨d, hsent⟩

/-! ### RDMA (R60, R66, R123) -/

theorem rdmaAckRx_frees (c k n : Nat) (rx : RxFrame) (s u : State) (halive : (s.conn c).alive = true)
    (hrdma : (s.conn c).rdma = true) (h : s.Heard c rx u) :
    ∃ t, exec (.rdmaAckRx c ⟨k, n, rx⟩) s = .next t ∧ (t.conn c).retries = 0 ∧
      ((u.slot k).state = .draining → (u.slot k).conn = c → t.slot k = {}) := by
  refine ⟨_, show execRdmaAckRx c ⟨k, n, rx⟩ s = _ from State.onConn_heard halive hrdma h _, ?_, fun hst hc => ?_⟩
  · rw [State.settle_conn]
    exact congrArg Conn.retries (State.conn_modConn_same ..)
  · rw [State.slot, State.settle_hop]
    refine State.ackTo_slot (slots := [k]) (.inl (List.mem_singleton_self k)) (not_mem_slotsIn_filter fun x hx => ?_) hst hc
    simpa using hx

theorem rdmaAckTimeout_resends (c : Nat) (s : State) (halive : (s.conn c).alive = true) (hrdma : (s.conn c).rdma = true)
    (hout : (s.conn c).unacked = true) (hleft : (s.conn c).retries < (s.conn c).retryCnt) :
    ∃ t, exec (.rdmaAckTimeout c) s = .next t ∧ (t.conn c).retries = (s.conn c).retries + 1 ∧ (t.conn c).sent = (s.conn c).sent ∧
      (s.linkUp (s.conn c).link = true → ∀ x ∈ (s.conn c).sent, x.slot = none → t.Sent x.kind c x.args x.data) ∧
      (s.linkUp (s.conn c).link = false → State.Only { s with conns := t.conns } t []) := by
  refine ⟨(s.resent c fun x => { x with retries := x.retries + 1 }).settle, ?_, ?_⟩
  · show execRdmaAckTimeout c s = _
    unfold execRdmaAckTimeout
    exact (if_pos ⟨halive, hrdma, hout⟩).trans (if_pos hleft)
  · rw [State.resent_conn]
    refine ⟨rfl, rfl, fun hup x hx hslot => ?_, fun hdown => ?_⟩
    · obtain ⟨d, hd, hsent⟩ := State.sent_resent _ hup hx
      exact hd hslot ▸ hsent
    · have hquiet : s.retransmit c = s := by
        unfold State.retransmit
        rw [hdown, if_neg Bool.false_ne_true]
      unfold State.resent
      rw [hquiet]
      exact State.only_modConn ..

theorem rdmaAckTimeout_ends (c : Nat) (s : State) (halive : (s.conn c).alive = true) (hrdma : (s.conn c).rdma = true)
    (hout : (s.conn c).unacked = true) (hused : (s.conn c).retryCnt ≤ (s.conn c).retries) :
    exec (.rdmaAckTimeout c) s = .next (s.close c).settle := by
  show execRdmaAckTimeout c s = _
  unfold execRdmaAckTimeout
  exact (if_pos ⟨halive, hrdma, hout⟩).trans (if_neg (Nat.not_lt.mpr hused))

theorem cnpRx_slows (c : Nat) (rx : RxFrame) (s u : State) (halive : (s.conn c).alive = true) (hrdma : (s.conn c).rdma = true)
    (h : s.Heard c rx u) :
    ∃ t, exec (.cnpRx ⟨c, rx⟩) s = .next t ∧ (t.conn c).cnps = (u.conn c).cnps + 1 ∧
      (0 < (u.conn c).rate → (t.conn c).rate < (u.conn c).rate) ∧ State.Only { u with conns := t.conns } t [] := by
  refine ⟨_, show execCnpRx ⟨c, rx⟩ s = _ from State.onConn_heard halive hrdma h _, ?_, fun hrate => ?_, State.only_modConn ..⟩
  · rw [State.settle_conn, State.conn_modConn_same]
  · rw [State.settle_conn, State.conn_modConn_same]
    dsimp only
    rw [if_neg (Nat.ne_of_gt hrate)]
    exact Nat.mod_lt _ hrate

/-- Settles O24: clause by clause, acknowledgements, timeouts and retries on TCP and on RDMA, and a CNP. -/
theorem acksAndRetries : Obligations.AcksAndRetries :=
  ⟨tcpAckRx_all, tcpAckRx_some, tcpRtoExpiry_resends, rdmaAckRx_frees, rdmaAckTimeout_resends, rdmaAckTimeout_ends, cnpRx_slows⟩

/-! ### TLS (R57, R58) -/

/-- The suite of a PSK whose hash the client's offer has (R431). -/
theorem Psk.suite_of_offered {k : Psk} {h : Hello} (hk : (k.hash = 1 ∧ h.aes128 = true) ∨ (k.hash = 2 ∧ h.aes256 = true)) :
    k.suite h = some (k.hash - 1) := by
  unfold Psk.suite
  rcases hk with ⟨hhash, haes⟩ | ⟨hhash, haes⟩ <;> simp [hhash, haes]

theorem Psk.suite_none {k : Psk} {h : Hello} (h128 : h.aes128 = false) (h256 : h.aes256 = false) : k.suite h = none := by
  simp [Psk.suite, h128, h256]

/-- The handshake starts with a suite and a group. -/
def State.tlsStart (u : State) (c suite group : Nat) : State :=
  (u.drawRandom.2.modConn c fun x => { x with tls := 1, suite, group }).send .tlsServerHello c [suite, group]
    [Config.random u.ctl.freeCtr]

section
variable {c : Nat} {h : Hello} {rx : RxFrame} {s u : State} (halive : (s.conn c).alive = true) (htcp : (s.conn c).rdma = false)
  (hheard : s.Heard c rx u) (htls : (s.conn c).tls = 0) (hic : (s.conn c).icDone = false) (hhello : h.isTls = true)
include halive htcp hheard htls hic hhello

theorem exec_tlsClientHello_starts {suite group : Nat} (hs : ((u.pskOf h.identity).bind fun k => k.suite h) = some suite)
    (hg : u.tlsGroup (portOf (s.conn c).link) h = some group) (hbind : h.binderOk = true) :
    exec (.tlsClientHello c ⟨h, rx⟩) s = .next (u.tlsStart c suite group).settle := by
  refine (show execTlsClientHello c ⟨h, rx⟩ s = _ from State.onConn_heard halive htcp hheard _).trans ?_
  dsimp only
  rw [if_neg (by simp [htls, hic]), if_neg (by simp [hhello]), hs, hg]
  dsimp only
  rw [if_pos hbind]
  rfl

theorem exec_tlsClientHello_fails (hbad : h.binderOk = false ∨ ((u.pskOf h.identity).bind fun k => k.suite h) = none ∨
      u.tlsGroup (portOf (s.conn c).link) h = none) :
    exec (.tlsClientHello c ⟨h, rx⟩) s = .next (u.tlsFail c).settle := by
  refine (show execTlsClientHello c ⟨h, rx⟩ s = _ from State.onConn_heard halive htcp hheard _).trans ?_
  dsimp only
  rw [if_neg (by simp [htls, hic]), if_neg (by simp [hhello])]
  rcases hbad with hbind | hs | hg
  · split
    · rw [hbind, if_neg Bool.false_ne_true]
    · rfl
  · rw [hs]
  · rw [hg]
    split
    · contradiction
    · rfl

end

theorem tlsClientHello_starts (c g : Nat) (k : Psk) (h : Hello) (rx : RxFrame) (s u : State) (halive : (s.conn c).alive = true)
    (htcp : (s.conn c).rdma = false) (hheard : s.Heard c rx u) (htls : (s.conn c).tls = 0) (hic : (s.conn c).icDone = false)
    (hhello : h.isTls = true) (hpsk : u.pskOf h.identity = some k) (hbind : h.binderOk = true)
    (hsuite : (k.hash = 1 ∧ h.aes128 = true) ∨ (k.hash = 2 ∧ h.aes256 = true))
    (hg : u.tlsGroup (portOf (s.conn c).link) h = some g) (_ : u.boot.deriveBlocked = false) :
    ∃ t, exec (.tlsClientHello c ⟨h, rx⟩) s = .next t ∧ (t.conn c).tls = 1 ∧ (t.conn c).suite = k.hash - 1 ∧ (t.conn c).group = g ∧
      t.Sent .tlsServerHello c [k.hash - 1, g] [Config.random u.ctl.freeCtr] ∧ t.ctl.freeCtr = u.ctl.freeCtr + 1 := by
  have hs : ((u.pskOf h.identity).bind fun k => k.suite h) = some (k.hash - 1) := by
    rw [hpsk]
    exact Psk.suite_of_offered hsuite
  have hconn : ∀ {p : Conn → Nat}, (∀ x l, p { x with sent := l } = p x) →
      p ((u.tlsStart c (k.hash - 1) g).settle.conn c) = p { u.conn c with tls := 1, suite := k.hash - 1, group := g } := by
    intro p hp
    rw [State.settle_conn]
    exact (State.conn_send hp _ _ _ _ _ _ _ _).trans (congrArg p (State.conn_modConn_same u.drawRandom.2 c _))
  refine ⟨_, exec_tlsClientHello_starts halive htcp hheard htls hic hhello hs hg hbind, hconn (p := Conn.tls) fun _ _ => rfl,
    hconn (p := Conn.suite) fun _ _ => rfl, hconn (p := Conn.group) fun _ _ => rfl, (State.sent_send ..).settle, ?_⟩
  rw [State.settle_freeCtr]
  exact State.send_ctl_freeCtr ..

theorem tlsClientHello_fails (c : Nat) (h : Hello) (rx : RxFrame) (s u : State) (halive : (s.conn c).alive = true)
    (htcp : (s.conn c).rdma = false) (hheard : s.Heard c rx u) (htls : (s.conn c).tls = 0) (hic : (s.conn c).icDone = false)
    (hhello : h.isTls = true)
    (hbad : h.binderOk = false ∨ u.pskOf h.identity = none ∨ (h.aes128 = false ∧ h.aes256 = false) ∨
      (h.pskKe = false ∧ h.pskDheKe = false) ∨ (h.pskDheKe = false ∧ u.on R.PT_CFG_TLS_DHE_REQ (portOf (s.conn c).link) = true)) :
    exec (.tlsClientHello c ⟨h, rx⟩) s = .next (u.tlsFail c).settle := by
  refine exec_tlsClientHello_fails halive htcp hheard htls hic hhello ?_
  rcases hbad with hbind | hpsk | ⟨h128, h256⟩ | ⟨hke, hdhe⟩ | ⟨hdhe, hreq⟩
  · exact .inl hbind
  · exact .inr (.inl (by rw [hpsk]; rfl))
  · refine .inr (.inl (Option.bind_eq_none_iff.mpr fun k _ => Psk.suite_none h128 h256))
  · exact .inr (.inr (by simp [State.tlsGroup, hke, hdhe]))
  · exact .inr (.inr (by simp [State.tlsGroup, hdhe, hreq]))

theorem tlsFail_ends (c : Nat) (s : State) :
    (s.tlsFail c).f R.PT_EVT_TLS_FAIL (portOf (s.conn c).link) = 1 ∧ ((s.tlsFail c).conn c).alive = false := by
  have halert : (((s.close c).send .tlsAlert c).conn c).alive = ((s.close c).conn c).alive :=
    State.conn_send (p := Conn.alive) (fun _ _ => rfl) ..
  exact ⟨State.f_raise_same .., halert.trans (State.open_close s c false)⟩

theorem tlsClientFinished_ends (c : Nat) (rx : RxFrame) (s u : State) (halive : (s.conn c).alive = true)
    (htcp : (s.conn c).rdma = false) (h : s.Heard c rx u) (htls : (s.conn c).tls = 1) :
    (∃ t, exec (.tlsClientFinished c ⟨true, rx⟩) s = .next t ∧ (t.conn c).tls = 2 ∧ State.Only { u with conns := t.conns } t []) ∧
    exec (.tlsClientFinished c ⟨false, rx⟩) s = .next (u.tlsFail c).settle := by
  have hrun : ∀ ok, exec (.tlsClientFinished c ⟨ok, rx⟩) s =
      .next (if ok then u.modConn c fun x => { x with tls := 2 } else u.tlsFail c).settle := by
    intro ok
    refine (show execTlsClientFinished c ⟨ok, rx⟩ s = _ from State.onConn_heard halive htcp h _).trans ?_
    rw [if_neg (not_not.mpr htls)]
  refine ⟨⟨(u.modConn c fun x => { x with tls := 2 }).settle, hrun true, ?_, State.only_modConn ..⟩, hrun false⟩
  rw [State.settle_conn, State.conn_modConn_same]

theorem tlsKeyUpdate_moves (c : Nat) (rx : RxFrame) (s u : State) (halive : (s.conn c).alive = true)
    (htcp : (s.conn c).rdma = false) (h : s.Heard c rx u) (htls : (s.conn c).tls = 2) :
    ∃ t, exec (.tlsKeyUpdate ⟨c, rx⟩) s = .next t ∧ (t.conn c).tlsGen = (u.conn c).tlsGen + 1 ∧
      State.Only { u with conns := t.conns } t [] := by
  refine ⟨(u.modConn c fun x => { x with tlsGen := x.tlsGen + 1 }).settle,
    (show execTlsKeyUpdate ⟨c, rx⟩ s = _ from State.onConn_heard halive htcp h _).trans ?_, ?_, State.only_modConn ..⟩
  · rw [if_pos htls]
  · rw [State.settle_conn, State.conn_modConn_same]

/-! ### ICReq (R56, Table 02-5) -/

/-- An ACK changes nothing of a connection but its window. -/
theorem State.conn_tcpAcks {β : Type} {p : Conn → β} (hp : ∀ x l, p { x with sent := l } = p x) (hw : ∀ x n, p { x with window := n } = p x)
    (s : State) (c : Nat) : p ((s.tcpAcks c).conn c) = p (s.conn c) := by
  unfold State.tcpAcks State.advertise
  split
  · dsimp only
    split
    · exact State.conn_send hp _ _ _ _ _ none none _
    · refine (State.conn_send hp _ _ _ _ _ none none _).trans ?_
      rw [State.conn_modConn_same]
      exact hw _ _
  · rfl

theorem State.msgs_tcpAcks (s : State) (c : Nat) : s.msgs ⊆ (s.tcpAcks c).msgs := by
  unfold State.tcpAcks
  split
  · exact State.msgs_advertise ..
  · exact List.Subset.refl _

/-- A good ICReq is answered, before the ACK with the window. -/
def State.icAnswered (u : State) (c : Nat) (q : IcReq) : State :=
  (u.modConn c fun x => { x with icDone := true, hdgst := q.hdgst, ddgst := q.ddgst, maxr2t := q.maxr2t }).send .icResp c
    [0, 0, b2n q.hdgst, b2n q.ddgst, 65536]

theorem icreq_answered (c : Nat) (q : IcReq) (rx : RxFrame) (s u : State) (halive : (s.conn c).alive = true)
    (htcp : (s.conn c).rdma = false) (h : s.Heard c rx u) (htls : (s.conn c).tls ≠ 1)
    (hreq : (s.conn c).tls ≠ 0 ∨ u.on R.PT_CFG_TLS_REQ (portOf (s.conn c).link) = false) (hic : (s.conn c).icDone = false)
    (hform : q.malformed = false) (hpfv : q.pfv = 0) (hpda : q.hpda ≤ 31) :
    ∃ t, exec (.icreq c ⟨q, rx⟩) s = .next t ∧ (t.conn c).icDone = true ∧ (t.conn c).hdgst = q.hdgst ∧ (t.conn c).ddgst = q.ddgst ∧
      (t.conn c).maxr2t = q.maxr2t ∧ t.Sent .icResp c [0, 0, b2n q.hdgst, b2n q.ddgst, 65536] [] := by
  have hlacks : u.tlsLacks (s.conn c) = false := by
    unfold State.tlsLacks
    rcases hreq with htls0 | hoff
    · simp [htls0]
    · simp [hoff]
  have hconn : ∀ {β : Type} {p : Conn → β}, (∀ x l, p { x with sent := l } = p x) → (∀ x n, p { x with window := n } = p x) →
      p (((u.icAnswered c q).tcpAcks c).settle.conn c) =
        p { u.conn c with icDone := true, hdgst := q.hdgst, ddgst := q.ddgst, maxr2t := q.maxr2t } := by
    intro β p hp hw
    rw [State.settle_conn]
    refine (State.conn_tcpAcks hp hw _ _).trans ((State.conn_send hp _ _ _ _ _ none none _).trans ?_)
    rw [State.conn_modConn_same]
  refine ⟨((u.icAnswered c q).tcpAcks c).settle, (show execIcreq c ⟨q, rx⟩ s = _ from State.onConn_heard halive htcp h _).trans ?_,
    hconn (p := Conn.icDone) (fun _ _ => rfl) fun _ _ => rfl, hconn (p := Conn.hdgst) (fun _ _ => rfl) fun _ _ => rfl,
    hconn (p := Conn.ddgst) (fun _ _ => rfl) fun _ _ => rfl, hconn (p := Conn.maxr2t) (fun _ _ => rfl) fun _ _ => rfl, ?_⟩
  · rw [if_neg htls, hlacks, if_neg Bool.false_ne_true, hic, if_neg Bool.false_ne_true, if_neg (by simp [hform, hpfv, hpda])]
    rfl
  · exact ((State.sent_send ..).mono (State.msgs_tcpAcks ..)).settle

/-- Settles O25: clause by clause, the ClientHello, the failure of a handshake, the Finished, the KeyUpdate, and the ICReq. -/
theorem tlsAndIcReq : Obligations.TlsAndIcReq :=
  ⟨tlsClientHello_starts, tlsClientHello_fails, tlsFail_ends, tlsClientFinished_ends, tlsKeyUpdate_moves, icreq_answered⟩

end Sys2Proof.Machine
end

section
/-! SUPPORT. The ports and their links (R45, R48, R49, R66), and the reference clocks that follow a link (R361, R362). -/

namespace Sys2Proof.Machine

/-! ### Frames of a few register fields -/

/-- A state that differs in its register fields alone keeps the frame of the fields that differ. -/
theorem State.only_of_fields {s u : State} {ks : List Nat} (hf : ∀ (F : R.Fld) (i k : Nat), F.key i k ∉ ks → u.f F i k = s.f F i k)
    (hu : u = { s with fields := u.fields }) : s.Only u ks := by
  have hctl : u.ctl = s.ctl := by rw [hu]
  have hlog : u.log = s.log := by rw [hu]
  refine ⟨fun F i k hk _ _ => hf F i k hk, ?_, .inl (by rw [hctl])⟩
  rw [hctl, hlog]
  exact hu

theorem State.f_invalidEnc_count (s : State) (a v : Nat) (p : Path) :
    (s.invalidEnc a v p).f R.GL_ACC_INVALID_ENCS = satAdd R.GL_ACC_INVALID_ENCS.w (s.f R.GL_ACC_INVALID_ENCS) 1 := by
  unfold State.invalidEnc
  rw [State.f_raise_other _ _ _ _ _ _ _ _ _ (by decide), State.f_addF_same]
  exact Nat.mod_eq_of_lt (satAdd_lt ..)

/-- A field that takes its part of the word (R10). -/
theorem written_rw_kept {F : R.Fld} {old v : Nat} {keep : R.Fld → Nat → Bool} (hacc : F.acc = .rw)
    (hok : F.ok (bitsOf v F.lo F.w) = true) (hkeep : keep F (bitsOf v F.lo F.w) = false) :
    written F old v keep = bitsOf v F.lo F.w := by
  unfold written
  rw [hacc]
  simp [hok, hkeep]

/-- A write to a register changes no mode. -/
theorem State.mode_writeReg (s : State) (fs : List R.Fld) (i k v : Nat) (p : Path) (keep : R.Fld → Nat → Bool) :
    (s.writeReg fs i k v p keep).mode = s.mode := by
  have hfield : ∀ (t : State) (F : R.Fld), (t.writeField F v i k p keep).1.mode = t.mode := by
    intro t F
    unfold State.writeField
    cases F.acc with
    | rw => dsimp only; split <;> [rfl; split] <;> rfl
    | w1c => dsimp only; split <;> rfl
    | ro | wo | w1s | rwf | ros => rfl
  have hfields : ∀ t : State, (t.writeFields fs i k v p keep).mode = t.mode :=
    State.keeps_foldl (p := State.mode) hfield fs
  cases fs with
  | nil => rfl
  | cons F r =>
    rw [State.writeReg_eq]
    exact State.keeps_ite (p := State.mode) (hfields s) (hfields s)

/-! ### The write of PT_CFG (R45) -/

/-- The fields of PT_CFG. -/
def ptCfgFields : List R.Fld :=
  [R.PT_CFG_ENABLE, R.PT_CFG_BREAKOUT, R.PT_CFG_MEDIA_TYPE, R.PT_CFG_TLS_REQ, R.PT_CFG_TLS_DHE_REQ, R.PT_CFG_ROCE_EN]

theorem ptFields_cfg : ptFields R.PT_CFG = ptCfgFields := by decide

theorem State.linkEval_of_off {s : State} (h : s.portsLive = false) (l : Nat) : s.linkEval l = s := by
  unfold State.linkEval
  rw [h]
  rfl

/-- A write of PT_CFG while the ports are off, before the Discovery log is looked at. -/
def State.ptCfgStored (s : State) (p v : Nat) : State :=
  s.writeReg ptCfgFields p 0 v .sideband fun F x => s.on R.PT_CFG_ENABLE p && F == R.PT_CFG_MEDIA_TYPE && x != s.f F p

theorem exec_ptCfgWrite {p : Nat} {v : Word} {s : State} (hoff : s.mode ≠ .off) (hp : p < 2) :
    exec (.ptCfgWrite p v) s = .next (s.ptCfgWrite p v.toNat .sideband).settle := by
  show execPtCfgWrite p v s = _
  unfold execPtCfgWrite
  exact if_neg (by simp [hoff, hp])

theorem exec_ptCfgWrite_stores {p : Nat} {v : Word} {s : State} (hoff : s.mode ≠ .off) (hlive : s.portsLive = false) (hp : p < 2)
    (hen : s.on R.PT_CFG_ENABLE p = false) :
    exec (.ptCfgWrite p v) s = .next ((s.ptCfgStored p v.toNat).discSync s).settle := by
  have hmode : (s.ptCfgStored p v.toNat).mode = s.mode := State.mode_writeReg ..
  have hstill : (s.ptCfgStored p v.toNat).portsLive = false := by
    rw [← hlive]
    unfold State.portsLive State.modeIn
    rw [hmode]
  rw [exec_ptCfgWrite hoff hp]
  unfold State.ptCfgWrite
  dsimp only
  rw [if_neg (by simp [hen]), ptFields_cfg]
  change Host.Outcome.next (State.discSync (List.foldl _ (s.ptCfgStored p v.toNat) _) s).settle = _
  rw [List.foldl_fixed' (f := fun (t : State) k => t.linkEval (4 * p + k)) fun k => State.linkEval_of_off hstill _]

/-- A field of PT_CFG takes its part of the word while ENABLE is 0. -/
theorem State.f_ptCfgStored {s : State} {p v : Nat} {F : R.Fld} (hp : p < 2) (hen : s.on R.PT_CFG_ENABLE p = false)
    (hF : F ∈ ptCfgFields) (hok : F.ok (bitsOf v F.lo F.w) = true) : (s.ptCfgStored p v).f F p = bitsOf v F.lo F.w := by
  have hkeys : ∀ p < 2, (ptCfgFields.Pairwise fun F F' => F.key p 0 ≠ F'.key p 0) ∧ ∀ F ∈ ptCfgFields,
      F.key p 0 ≠ R.GL_ACC_INVALID_ENCS.key 0 0 ∧ F.key p 0 ≠ R.GL_EVT_INVALID_ENC.key 0 0 := by decide
  have hfld : ∀ F ∈ ptCfgFields, F.acc = .rw ∧ F.reg.banked = false := by decide
  obtain ⟨hd, hgl⟩ := hkeys p hp
  obtain ⟨hacc, hb⟩ := hfld F hF
  refine (State.f_writeReg_mem _ _ _ _ _ _ hd hF hb (hgl F hF).1 (hgl F hF).2).trans (written_rw_kept hacc hok ?_)
  rw [hen]
  rfl

theorem ptCfgWrite_stores (p : Nat) (v : Word) (s : State) (hoff : s.mode ≠ .off) (hlive : s.portsLive = false) (hp : p < 2)
    (hen : s.on R.PT_CFG_ENABLE p = false) (hbreak : bitsOf v.toNat 1 2 ≠ 3) (hmedia : bitsOf v.toNat 3 2 ≠ 3) :
    ∃ u : State, exec (.ptCfgWrite p v) s = .next (u.discSync s).settle ∧ u.f R.PT_CFG_ENABLE p = bitsOf v.toNat 0 1 ∧
      u.f R.PT_CFG_BREAKOUT p = bitsOf v.toNat 1 2 ∧ u.f R.PT_CFG_MEDIA_TYPE p = bitsOf v.toNat 3 2 := by
  have hlt : ∀ lo, bitsOf v.toNat lo 2 < 4 := fun lo => Nat.mod_lt _ (by decide)
  have hthree : ∀ n < 4, n ≠ 3 → R.PT_CFG_BREAKOUT.ok n = true ∧ R.PT_CFG_MEDIA_TYPE.ok n = true := by decide
  exact ⟨_, exec_ptCfgWrite_stores hoff hlive hp hen, State.f_ptCfgStored hp hen (by decide) rfl,
    State.f_ptCfgStored hp hen (by decide) (hthree _ (hlt 1) hbreak).1,
    State.f_ptCfgStored hp hen (by decide) (hthree _ (hlt 3) hmedia).2⟩

theorem ptCfgWrite_ignored (p : Nat) (v : Word) (s : State) (hoff : s.mode ≠ .off) (hp : p < 2)
    (hen : s.on R.PT_CFG_ENABLE p = true) (hbreak : bitsOf v.toNat 1 2 ≠ s.f R.PT_CFG_BREAKOUT p) :
    ∃ t, exec (.ptCfgWrite p v) s = .next t ∧ t.f R.GL_EVT_INVALID_ENC = 1 ∧
      t.f R.GL_ACC_INVALID_ENCS = satAdd R.GL_ACC_INVALID_ENCS.w (s.f R.GL_ACC_INVALID_ENCS) 1 ∧
      s.Only t [R.GL_EVT_INVALID_ENC.key 0 0, R.GL_ACC_INVALID_ENCS.key 0 0] := by
  refine ⟨(s.invalidEnc (R.PT_CFG.at p 0) v.toNat .sideband).settle, ?_, ?_, ?_, State.only_settle (fun F i k hk => ?_) rfl⟩
  · rw [exec_ptCfgWrite hoff hp]
    unfold State.ptCfgWrite
    dsimp only
    rw [if_pos ⟨hen, hbreak⟩]
  · rw [State.f_settle _ _ _ _ (by decide) (by decide), State.f_invalidEnc_evt]
  · rw [State.f_settle _ _ _ _ (by decide) (by decide), State.f_invalidEnc_count]
  · simp only [List.mem_cons, List.not_mem_nil, or_false, not_or] at hk
    exact State.f_invalidEnc_other _ _ _ _ _ _ _ hk.2 hk.1

/-! ### The state of a link (R49, Table 02-3) -/

theorem State.f_setLink_other (s : State) (l st : Nat) (F : R.Fld) (i k : Nat)
    (h : F.key i k ∉ [R.PT_LINK_STS_LSTATE.key (l / 4) (l % 4), R.PT_LINK_STS_SPEED.key (l / 4) (l % 4)]) :
    (s.setLink l st).f F i k = s.f F i k := by
  simp only [List.mem_cons, List.not_mem_nil, or_false, not_or] at h
  obtain ⟨hstate, hspeed⟩ := h
  exact (State.f_setF_other _ _ _ _ _ _ _ _ hspeed).trans (State.f_setF_other _ _ _ _ _ _ _ _ hstate)

theorem State.linkState_setLink (s : State) (l : Nat) {st : Nat} (h : st < 8) : (s.setLink l st).linkState l = st := by
  have hkey : R.PT_LINK_STS_LSTATE.key (l / 4) (l % 4) ≠ R.PT_LINK_STS_SPEED.key (l / 4) (l % 4) := by
    simp [R.Fld.key, R.PT_LINK_STS_LSTATE, R.PT_LINK_STS_SPEED]
  unfold State.linkState State.setLink
  rw [State.f_setF_other _ _ _ _ _ _ _ _ hkey, State.f_setF_same]
  exact Nat.mod_eq_of_lt h

/-- LSTATE of a link is no field that the end of a command, the thresholds of R85, the Discovery log or the clocks write. -/
def linkFreeKeys : List Nat :=
  [R.GL_EVT_LOG_WRAP.key 0 0, R.GL_SB_STS_ALERTS.key 0 0, R.PT_DISC_CTL_LOG_GEN.key 0 0, R.CK_LIVE_LIVE.key 0 0,
    R.CK_SEL_SELECTED.key 0 0, R.CK_SEL_TB_PACER.key 0 0, R.CK_EVT_REF_BACK.key 0 0] ++ bpKeys

theorem linkState_key_free : ∀ l < 8, R.PT_LINK_STS_LSTATE.key (l / 4) (l % 4) ∉ linkFreeKeys := by decide

theorem State.f_settle_of_free (s : State) (F : R.Fld) (i k : Nat) (h : F.key i k ∉ linkFreeKeys) : s.settle.f F i k = s.f F i k :=
  State.f_settle _ _ _ _ (fun he => h (by simp [linkFreeKeys, he])) fun he => h (by simp [linkFreeKeys, he])

theorem State.linkState_settle (s : State) {l : Nat} (h : l < 8) : s.settle.linkState l = s.linkState l :=
  State.f_settle_of_free _ _ _ _ (linkState_key_free l h)

/-- A link that trains, and nothing else. -/
theorem State.setLink_trains (s : State) {l : Nat} (h : l < 8) : (s.setLink l 1).settle.linkState l = 1 ∧
    s.Only (s.setLink l 1).settle [R.PT_LINK_STS_LSTATE.key (l / 4) (l % 4), R.PT_LINK_STS_SPEED.key (l / 4) (l % 4)] := by
  refine ⟨?_, State.only_settle (State.f_setLink_other s l 1) rfl⟩
  rw [State.linkState_settle _ h, State.linkState_setLink _ _ (by decide)]

/-- The ports are live in no mode without power. -/
theorem State.mode_of_portsLive {s : State} (h : s.portsLive = true) : s.mode ≠ .off := by
  intro hoff
  unfold State.portsLive State.modeIn at h
  rw [hoff] at h
  exact absurd h (by decide)

/-- A link is Up in one value of LSTATE only. -/
theorem State.linkUp_of_state {s : State} {l : Nat} (h : s.linkState l ≠ 2) : s.linkUp l = false := by
  simp [State.linkUp, h]

/-! ### DISABLE and RETRAIN (R49, R66) -/

theorem exec_linkDisable {l : Nat} {s : State} (hoff : s.mode ≠ .off) (hl : l < 8) :
    exec (.linkDisable l) s = .next (((s.setF R.PT_LINK_CTL_DISABLE 1 (l / 4) (l % 4)).linkEval l).discSync s).settle := by
  show execLinkDisable l s = _
  unfold execLinkDisable
  exact if_neg (by simp [hoff, hl])

theorem linkDisable_stores (l : Nat) (s : State) (hoff : s.mode ≠ .off) (hlive : s.portsLive = false) (hl : l < 8) :
    ∃ u : State, exec (.linkDisable l) s = .next (u.discSync s).settle ∧ u.f R.PT_LINK_CTL_DISABLE (l / 4) (l % 4) = 1 ∧
      s.Only u [R.PT_LINK_CTL_DISABLE.key (l / 4) (l % 4)] := by
  have hstill : (s.setF R.PT_LINK_CTL_DISABLE 1 (l / 4) (l % 4)).portsLive = false := hlive
  refine ⟨s.setF R.PT_LINK_CTL_DISABLE 1 (l / 4) (l % 4), ?_, State.f_setF_same .., State.only_of_fields (fun F i k hk => ?_) rfl⟩
  · rw [exec_linkDisable hoff hl, State.linkEval_of_off hstill]
  · exact State.f_setF_other _ _ _ _ _ _ _ _ (by simpa using hk)

/-- A link in training with no connection and no announced service that is disabled goes to Disabled (R66). -/
theorem State.linkEval_disables {s : State} {l : Nat} (hlive : s.portsLive = true) (hoff : s.linkOff l = some 0)
    (hst : s.linkState l = 1) (hann : (s.linkOf l).announced = false) (hconns : s.connsOn l = []) :
    s.linkEval l = s.setLink l 0 := by
  have hdown : s.linkUp l = false := State.linkUp_of_state (by rw [hst]; decide)
  have hbye : s.goodbye l = s := by
    unfold State.goodbye
    rw [hann, if_neg Bool.false_ne_true]
  have hend : s.endConns l = s := by
    unfold State.endConns
    rw [hconns]
    rfl
  unfold State.linkEval
  rw [if_neg (by simp [hlive]), hoff]
  dsimp only
  rw [if_neg (by simp [hst])]
  unfold State.linkPlanned State.linkLeave State.linkLeaves
  rw [hbye, hend, hdown]
  rfl

theorem linkDisable_disables (l : Nat) (s : State) (hlive : s.portsLive = true) (hl : l < 8) (hused : s.linkUsed l = true)
    (hst : s.linkState l = 1) (hann : (s.linkOf l).announced = false) (hconns : s.connsOn l = []) :
    ∃ u : State, exec (.linkDisable l) s = .next (u.discSync s).settle ∧ u.linkState l = 0 ∧
      u.f R.PT_LINK_CTL_DISABLE (l / 4) (l % 4) = 1 := by
  have hkeys : ∀ l < 8, R.PT_CFG_BREAKOUT.key (l / 4) 0 ≠ R.PT_LINK_CTL_DISABLE.key (l / 4) (l % 4) ∧
      R.PT_LINK_STS_LSTATE.key (l / 4) (l % 4) ≠ R.PT_LINK_CTL_DISABLE.key (l / 4) (l % 4) ∧
      R.PT_LINK_CTL_DISABLE.key (l / 4) (l % 4) ∉
        [R.PT_LINK_STS_LSTATE.key (l / 4) (l % 4), R.PT_LINK_STS_SPEED.key (l / 4) (l % 4)] := by decide
  obtain ⟨hbreak, hlstate, hdis⟩ := hkeys l hl
  have hset : (s.setF R.PT_LINK_CTL_DISABLE 1 (l / 4) (l % 4)).f R.PT_LINK_CTL_DISABLE (l / 4) (l % 4) = 1 := State.f_setF_same ..
  have hoff : (s.setF R.PT_LINK_CTL_DISABLE 1 (l / 4) (l % 4)).linkOff l = some 0 := by
    have hstill : (s.setF R.PT_LINK_CTL_DISABLE 1 (l / 4) (l % 4)).linkUsed l = true := by
      unfold State.linkUsed at hused ⊢
      rwa [State.f_setF_other _ _ _ _ _ _ _ _ hbreak]
    unfold State.linkOff
    rw [if_neg (by simp [hstill]), if_pos (.inr (by rw [State.on, hset]; rfl))]
  refine ⟨(s.setF R.PT_LINK_CTL_DISABLE 1 (l / 4) (l % 4)).setLink l 0, ?_, State.linkState_setLink _ _ (by decide),
    (State.f_setLink_other _ _ _ _ _ _ hdis).trans hset⟩
  rw [exec_linkDisable (State.mode_of_portsLive hlive) hl,
    State.linkEval_disables (s := s.setF R.PT_LINK_CTL_DISABLE 1 (l / 4) (l % 4)) hlive hoff
      ((State.f_setF_other _ _ _ _ _ _ _ _ hlstate).trans hst) hann hconns]

theorem exec_linkRetrain {l : Nat} {s : State} (hoff : s.mode ≠ .off) (hl : l < 8) :
    exec (.linkRetrain l) s = .next (s.linkRetrain l).settle := by
  show execLinkRetrain l s = _
  unfold execLinkRetrain
  exact if_neg (by simp [hoff, hl])

theorem linkRetrain_down (l : Nat) (s : State) (hlive : s.portsLive = true) (hbec : s.mode ≠ .becalmed) (hl : l < 8)
    (hst : s.linkState l = 3) :
    ∃ t, exec (.linkRetrain l) s = .next t ∧ t.linkState l = 1 ∧
      s.Only t [R.PT_LINK_STS_LSTATE.key (l / 4) (l % 4), R.PT_LINK_STS_SPEED.key (l / 4) (l % 4)] := by
  refine ⟨_, (exec_linkRetrain (State.mode_of_portsLive hlive) hl).trans ?_, s.setLink_trains hl⟩
  unfold State.linkRetrain
  rw [if_neg (by simp [hlive, hbec]), if_neg (by simp [hst]), if_pos hst]

theorem linkRetrain_up (l : Nat) (s : State) (hlive : s.portsLive = true) (hbec : s.mode ≠ .becalmed) (hl : l < 8)
    (hst : s.linkState l = 2) : exec (.linkRetrain l) s = .next ((s.linkLeave l 1).discSyncOnce s).settle := by
  refine (exec_linkRetrain (State.mode_of_portsLive hlive) hl).trans ?_
  unfold State.linkRetrain
  rw [if_neg (by simp [hlive, hbec]), if_pos hst]

/-! ### The Discovery log follows (R73) -/

theorem State.bed_asyncEvent (s : State) (k : Nat) (e : Nat × Nat × Nat) : (s.asyncEvent k e).bed = s.bed := by
  unfold State.asyncEvent
  split
  · exact (State.bed_complete ..).trans rfl
  · rfl

theorem State.f_asyncEvent_other (s : State) (k : Nat) (e : Nat × Nat × Nat) (F : R.Fld) (i j : Nat) (h : F.key i j ∉ bpKeys) :
    (s.asyncEvent k e).f F i j = s.f F i j := by
  unfold State.asyncEvent
  split
  · exact (State.f_complete_other _ _ _ _ _ _ _ _ _ h).trans rfl
  · rfl

/-- What LOG_GEN, the controllers and an asynchronous event leave as it is, a change of the Discovery log leaves as it is. -/
theorem State.keeps_discSync {β : Type} {p : State → β} (hgen : ∀ (u : State) (v : Nat), p (u.setF R.PT_DISC_CTL_LOG_GEN v) = p u)
    (hctrl : ∀ (u : State) (k : Nat) (f : Ctrl → Ctrl), p (u.modCtrl k f) = p u)
    (hevent : ∀ (u : State) (k : Nat) (e : Nat × Nat × Nat), p (u.asyncEvent k e) = p u) (s old : State) :
    p (s.discSync old) = p s := by
  unfold State.discSync
  refine State.keeps_ite rfl ?_
  refine (State.keeps_foldl (p := p) (fun u k => ?_) _ _).trans (hgen _ _)
  exact State.keeps_ite (p := p) ((hevent _ _ _).trans (hctrl _ _ _)) (hctrl _ _ _)

theorem State.discSync_links (s old : State) : (s.discSync old).links = s.links := by
  have hbed : (s.discSync old).bed = s.bed :=
    State.keeps_discSync (p := State.bed) (fun _ _ => rfl) (fun _ _ _ => rfl) State.bed_asyncEvent s old
  exact show (s.discSync old).bed.links = s.bed.links from congrArg State.links hbed

theorem State.f_discSync_other (s old : State) (F : R.Fld) (i k : Nat) (h : F.key i k ∉ linkFreeKeys) :
    (s.discSync old).f F i k = s.f F i k :=
  State.keeps_discSync (p := fun s => s.f F i k)
    (fun _ _ => State.f_setF_other _ _ _ _ _ _ _ _ fun he => h (by simp [linkFreeKeys, he]))
    (fun _ _ _ => rfl) (fun u k e => State.f_asyncEvent_other u k e F _ _ fun hm => h (List.mem_append_right _ hm)) s old

/-! ### Addresses of a link (R48) -/

theorem State.linkOf_modLink (s : State) (l : Nat) (f : Link → Link) : (s.modLink l f).linkOf l = f (s.linkOf l) :=
  Tab.getD_setD_same ..

/-- Goodbyes close no connection and change no staged word. -/
theorem State.goodbye_keeps (s : State) (l : Nat) :
    ((s.goodbye l).linkOf l).stage = (s.linkOf l).stage ∧ (s.goodbye l).conns = s.conns := by
  unfold State.goodbye
  split
  · refine ⟨?_, State.send_conns_of_not_acked _ _ _ _ _ none none (by decide)⟩
    exact (congrArg Link.stage (s.linkOf_modLink l Link.quiet)).trans rfl
  · exact ⟨rfl, rfl⟩

theorem State.announce_addr (s : State) (l : Nat) : ((s.announce l).linkOf l).addr = (s.linkOf l).addr := by
  unfold State.announce
  split
  · rw [State.linkOf, State.send_links, ← State.linkOf, State.linkOf_modLink]
  · rfl

theorem linkAddressCommit_runs (p : Path) (n : Nat) (s : State) (hoff : s.mode ≠ .off) (hn : n < 2) :
    exec (.linkAddressCommit p n) s = .next (s.addrCommit (4 * n + s.idxF p R.PT_AIDX_LINK n)).settle := by
  show execLinkAddressCommit p n s = _
  unfold execLinkAddressCommit
  exact if_neg (by simp [hoff, hn])

theorem addrCommit_takes (l : Nat) (s : State) (hconns : s.connsOn l = []) :
    ((s.addrCommit l).linkOf l).addr = (List.range 11).map fun w => (s.linkOf l).stage.get w := by
  obtain ⟨hstage, hkept⟩ := s.goodbye_keeps l
  have hend : (s.goodbye l).endConns l = s.goodbye l := by
    have hnone : (s.goodbye l).connsOn l = [] := by
      unfold State.connsOn at hconns ⊢
      rwa [hkept]
    unfold State.endConns
    rw [hnone]
    rfl
  unfold State.addrCommit
  dsimp only
  rw [State.linkOf, State.discSync_links, hend]
  refine (State.announce_addr _ l).trans ?_
  rw [State.linkOf_modLink]
  dsimp only
  rw [hstage]

/-! ### A signal (R49) -/

theorem linkSignalDetect_trains (l : Nat) (s : State) (hlive : s.portsLive = true) (hbec : s.mode ≠ .becalmed)
    (hfea : s.mode ≠ .feathered) (hl : l < 8) (hon : s.linkOff l = none) (hst : s.linkState l = 3) :
    ∃ t, exec (.linkSignalDetect l) s = .next t ∧ t.linkState l = 1 ∧
      s.Only t [R.PT_LINK_STS_LSTATE.key (l / 4) (l % 4), R.PT_LINK_STS_SPEED.key (l / 4) (l % 4)] := by
  have hact : s.activity = s := by
    unfold State.activity
    exact if_neg hfea
  refine ⟨_, ?_, s.setLink_trains hl⟩
  show execLinkSignalDetect l s = _
  unfold execLinkSignalDetect
  rw [if_neg (by simp [hlive, hbec, hl, hon]), hact]
  dsimp only
  rw [if_pos hst]
  rfl

/-! ### Live sources (R361, R362) -/

theorem bit_setBit_other (n : Nat) {b x : Nat} (v : Bool) (h : x ≠ b) : bit (setBit n b v) x = bit n x := by
  have hb : (1 <<< b).testBit x = false := by
    rw [Nat.one_shiftLeft, Nat.testBit_two_pow]
    exact decide_eq_false (Ne.symm h)
  cases v <;> simp [bit, setBit, Nat.testBit_or, Nat.testBit_and, Nat.testBit_xor, hb]

theorem bit_setBit_same (n b : Nat) (v : Bool) : bit (setBit n b v) b = v := by
  cases v
  · exact bit_setBit_false n b
  · exact bit_setBit_true n b

/-- A mask that is filled bit by bit. -/
theorem bit_maskOf (p : Nat → Bool) (n x : Nat) :
    bit ((List.range n).foldl (fun m b => setBit m b (p b)) 0) x = (decide (x < n) && p x) := by
  induction n with
  | zero => simp [bit]
  | succ n ih =>
    rw [List.range_succ, List.foldl_append]
    show bit (setBit _ n (p n)) x = _
    by_cases hx : x = n
    · subst hx
      simp [bit_setBit_same]
    · rw [bit_setBit_other _ _ hx, ih]
      congr 1
      exact decide_eq_decide.mpr (by omega)

theorem State.f_liveUpdate_other (s : State) (F : R.Fld) (i k : Nat) (h : F.key i k ≠ R.CK_LIVE_LIVE.key 0 0) :
    s.liveUpdate.f F i k = s.f F i k := State.f_setF_other _ _ _ _ _ _ _ _ h

theorem State.bit_liveUpdate (s : State) {x : Nat} (h : x < 10) : bit (s.liveUpdate.f R.CK_LIVE_LIVE) x = s.live x := by
  have hmask := bit_maskOf s.live 10 x
  unfold State.liveUpdate bit at *
  rw [State.f_setF_same, Nat.testBit_mod_two_pow, hmask]
  simp [h, R.CK_LIVE_LIVE]

/-- Whether a source is live is a matter of the links' states, two register fields and the clock alone. -/
theorem State.live_congr {s t : State} (hlink : ∀ l < 8, t.linkState l = s.linkState l)
    (hfired : t.f R.CK_LIVE_FIRED = s.f R.CK_LIVE_FIRED) (hsel : t.f R.CK_SEL_SELECTED = s.f R.CK_SEL_SELECTED)
    (hclk : t.clk = s.clk) (x : Nat) : t.live x = s.live x := by
  have hup : ∀ l, t.linkUp l = s.linkUp l := by
    intro l
    unfold State.linkUp
    by_cases hl : l < 8
    · rw [hlink l hl]
    · simp [hl]
  unfold State.live State.srcEligible
  rw [hup, hfired, hsel, hclk]

/-- At the end of a command that looked at the sources last, CK_LIVE shows those that are live. -/
theorem State.liveUpdate_settled (s : State) (x : Nat) (h : x < 10) :
    bit (s.liveUpdate.settle.f R.CK_LIVE_LIVE) x = s.liveUpdate.settle.live x := by
  have hlive : ∀ l < 8, R.PT_LINK_STS_LSTATE.key (l / 4) (l % 4) ≠ R.CK_LIVE_LIVE.key 0 0 := by decide
  rw [State.f_settle _ _ _ _ (by decide) (by decide), State.bit_liveUpdate s h]
  refine (State.live_congr (s := s) (t := s.liveUpdate.settle) (fun l hl => ?_) ?_ ?_ ((State.settle_clk _).trans rfl) x).symm
  · rw [State.linkState_settle _ hl]
    exact State.f_liveUpdate_other _ _ _ _ (hlive l hl)
  · rw [State.f_settle _ _ _ _ (by decide) (by decide), State.f_liveUpdate_other _ _ _ _ (by decide)]
  · rw [State.f_settle _ _ _ _ (by decide) (by decide), State.f_liveUpdate_other _ _ _ _ (by decide)]

theorem State.f_selectIfNone_other (s : State) (F : R.Fld) (i k : Nat) (h : F.key i k ∉ linkFreeKeys) :
    s.selectIfNone.f F i k = s.f F i k := by
  have hsel : F.key i k ≠ R.CK_SEL_SELECTED.key 0 0 := fun he => h (by simp [linkFreeKeys, he])
  have hpacer : F.key i k ≠ R.CK_SEL_TB_PACER.key 0 0 := fun he => h (by simp [linkFreeKeys, he])
  have hback : F.key i k ≠ R.CK_EVT_REF_BACK.key 0 0 := fun he => h (by simp [linkFreeKeys, he])
  have hresume : s.resumeStart.f F i k = s.f F i k := by
    unfold State.resumeStart
    split
    · exact (State.f_raise_other _ _ _ _ _ _ _ _ _ hback).trans (State.f_setF_other _ _ _ _ _ _ _ _ hsel)
    · rfl
  unfold State.selectIfNone
  split
  · rfl
  · split
    · split
      · exact hresume
      · rfl
    · split
      · exact hresume
      · split
        · exact (State.f_raise_other _ _ _ _ _ _ _ _ _ hback).trans ((State.f_setF_other _ _ _ _ _ _ _ _ hsel).trans
            (State.f_setF_other _ _ _ _ _ _ _ _ hpacer))
        · rfl

/-! ### A link comes up (R49, R361) -/

theorem State.f_announce (s : State) (l : Nat) (F : R.Fld) (i k : Nat) : (s.announce l).f F i k = s.f F i k :=
  State.keeps_ite (p := fun s => s.f F i k) rfl rfl

/-- An Up link: LSTATE, LINK_UP, its announcement, and its entries in the Discovery log. -/
def State.linkRises (s : State) (l : Nat) : State :=
  (((s.activity.setLink l 2).raise (linkUpBit (l % 4)) l noP noP (l / 4)).announce l).discSync s

theorem linkUpBit_facts : ∀ l < 8, (linkUpBit (l % 4)).key (l / 4) 0 ∉ linkFreeKeys ∧ (linkUpBit (l % 4)).w = 1 ∧
    R.PT_LINK_STS_LSTATE.key (l / 4) (l % 4) ≠ (linkUpBit (l % 4)).key (l / 4) 0 := by decide

theorem State.linkRises_state (s : State) {l : Nat} (h : l < 8) :
    (s.linkRises l).linkState l = 2 ∧ (s.linkRises l).f (linkUpBit (l % 4)) (l / 4) = 1 := by
  obtain ⟨hfree, hw, hne⟩ := linkUpBit_facts l h
  unfold State.linkRises State.linkState
  rw [State.f_discSync_other _ _ _ _ _ (linkState_key_free l h), State.f_discSync_other _ _ _ _ _ hfree, State.f_announce,
    State.f_announce, State.f_raise_other _ _ _ _ _ _ _ _ _ hne, State.f_raise_same, hw]
  exact ⟨State.linkState_setLink _ l (by decide), rfl⟩

/-- The clocks look at a link's state and leave it. -/
theorem State.f_clocksFollow (s : State) (F : R.Fld) (i k : Nat) (h : F.key i k ∉ linkFreeKeys) :
    s.liveUpdate.selectIfNone.liveUpdate.settle.f F i k = s.f F i k := by
  have hlive : F.key i k ≠ R.CK_LIVE_LIVE.key 0 0 := fun he => h (by simp [linkFreeKeys, he])
  rw [State.f_settle_of_free _ _ _ _ h, State.f_liveUpdate_other _ _ _ _ hlive, State.f_selectIfNone_other _ _ _ _ h,
    State.f_liveUpdate_other _ _ _ _ hlive]

theorem linkUpTimer_rises (l : Nat) (s : State) (hlive : s.portsLive = true) (hbec : s.mode ≠ .becalmed)
    (hrun : s.clk.stopped = false) (hl : l < 8) (hst : s.linkState l = 1) :
    ∃ t, exec (.linkUpTimer l) s = .next t ∧ t.linkState l = 2 ∧ t.f (linkUpBit (l % 4)) (l / 4) = 1 ∧
      ∀ x, x < 10 → bit (t.f R.CK_LIVE_LIVE) x = t.live x := by
  obtain ⟨hstate, hevt⟩ := s.linkRises_state hl
  refine ⟨(s.linkRises l).liveUpdate.selectIfNone.liveUpdate.settle, ?_, ?_, ?_, fun x hx => State.liveUpdate_settled _ x hx⟩
  · show execLinkUpTimer l s = _
    unfold execLinkUpTimer
    rw [if_neg (by simp [hlive, hbec, hrun, hl, hst])]
    rfl
  · exact (State.f_clocksFollow _ _ _ _ (linkState_key_free l hl)).trans hstate
  · exact (State.f_clocksFollow _ _ _ _ (linkUpBit_facts l hl).1).trans hevt

/-! ### A link is lost (R66, R362) -/

theorem linkLoss_runs (l : Nat) (s : State) (hup : s.linkUp l = true) :
    exec (.linkLoss l) s = .next ((s.linkLeave l 3).discSyncOnce s).settle := by
  show execLinkLoss l s = _
  unfold execLinkLoss
  exact if_pos hup

/-- The register fields of an Up link that is lost: LSTATE and SPEED, the count, the source's mark, and LINK_DOWN. -/
def State.lostFields (s : State) (l : Nat) : State :=
  let t := (s.setLink l 3).addF R.PT_LINK_STS_DOWN_COUNT 1 (l / 4) (l % 4)
  (t.setF R.CK_FREQ_FREQ_BAD (setBit (t.f R.CK_FREQ_FREQ_BAD) (l + 2) false)).raise (linkDownBit (l % 4)) l noP noP (l / 4)

theorem State.f_linkLeaves_lost {s : State} {l : Nat} (hup : s.linkUp l = true) (F : R.Fld) (i k : Nat) :
    (s.linkLeaves l 3).f F i k = (s.lostFields l).f F i k := by
  unfold State.linkLeaves
  rw [hup]
  rfl

/-- The keys of what is lost with a link are different fields, and none of them the selected source or CK_LIVE. -/
theorem linkDown_facts : ∀ l < 8,
    (∀ F ∈ [R.PT_LINK_STS_LSTATE, R.PT_LINK_STS_DOWN_COUNT], F.key (l / 4) (l % 4) ≠ (linkDownBit (l % 4)).key (l / 4) 0 ∧
      F.key (l / 4) (l % 4) ≠ R.CK_FREQ_FREQ_BAD.key 0 0 ∧ F.key (l / 4) (l % 4) ≠ R.CK_LIVE_LIVE.key 0 0) ∧
    R.PT_LINK_STS_LSTATE.key (l / 4) (l % 4) ≠ R.PT_LINK_STS_DOWN_COUNT.key (l / 4) (l % 4) ∧
    R.PT_LINK_STS_DOWN_COUNT.key (l / 4) (l % 4) ∉
      [R.PT_LINK_STS_LSTATE.key (l / 4) (l % 4), R.PT_LINK_STS_SPEED.key (l / 4) (l % 4)] ∧
    (linkDownBit (l % 4)).w = 1 ∧ (linkDownBit (l % 4)).key (l / 4) 0 ≠ R.CK_LIVE_LIVE.key 0 0 ∧
    R.CK_SEL_SELECTED.key 0 0 ≠ (linkDownBit (l % 4)).key (l / 4) 0 ∧
    R.CK_SEL_SELECTED.key 0 0 ≠ R.PT_LINK_STS_DOWN_COUNT.key (l / 4) (l % 4) ∧
    R.CK_SEL_SELECTED.key 0 0 ∉
      [R.PT_LINK_STS_LSTATE.key (l / 4) (l % 4), R.PT_LINK_STS_SPEED.key (l / 4) (l % 4)] := by decide

/-- A source that stops while another is selected leaves the selection. -/
theorem State.sourceStopped_unselected {s : State} {src : Nat} (hne : s.f R.CK_SEL_SELECTED ≠ src) (hsome : s.f R.CK_SEL_SELECTED ≠ 15) :
    s.sourceStopped src = State.liveUpdate { s with clk.freqOk := setBit s.clk.freqOk src false } := by
  unfold State.sourceStopped
  dsimp only
  rw [if_neg (show ¬ State.f { s with clk.freqOk := setBit s.clk.freqOk src false } R.CK_SEL_SELECTED = src from hne)]
  congr 1
  unfold State.selectIfNone
  exact if_pos hsome

theorem linkLoss_fields (l : Nat) (s : State) (hup : s.linkUp l = true) (hne : s.f R.CK_SEL_SELECTED ≠ l + 2)
    (hsome : s.f R.CK_SEL_SELECTED ≠ 15) :
    (s.linkLeave l 3).linkState l = 3 ∧ (s.linkLeave l 3).f (linkDownBit (l % 4)) (l / 4) = 1 ∧
    (s.linkLeave l 3).live (l + 2) = false ∧
    (s.linkLeave l 3).f R.PT_LINK_STS_DOWN_COUNT (l / 4) (l % 4) =
      satAdd R.PT_LINK_STS_DOWN_COUNT.w (s.f R.PT_LINK_STS_DOWN_COUNT (l / 4) (l % 4)) 1 := by
  have hl : l < 8 := by
    simp only [State.linkUp, Bool.and_eq_true, decide_eq_true_eq] at hup
    exact hup.1
  obtain ⟨hsts, hstate_count, hcount, hw, hlive, hsel_evt, hsel_count, hsel_link⟩ := linkDown_facts l hl
  obtain ⟨hst_evt, hst_bad, hst_live⟩ := hsts R.PT_LINK_STS_LSTATE (by simp)
  obtain ⟨hct_evt, hct_bad, hct_live⟩ := hsts R.PT_LINK_STS_DOWN_COUNT (by simp)
  have hsel : (s.linkLeaves l 3).f R.CK_SEL_SELECTED = s.f R.CK_SEL_SELECTED := by
    rw [State.f_linkLeaves_lost hup]
    unfold State.lostFields
    rw [State.f_raise_other _ _ _ _ _ _ _ _ _ hsel_evt, State.f_setF_other _ _ _ _ _ _ _ _ (by decide),
      State.f_addF_other _ _ _ _ _ _ _ _ hsel_count, State.f_setLink_other _ _ _ _ _ _ hsel_link]
  have hleave : s.linkLeave l 3 =
      State.liveUpdate { s.linkLeaves l 3 with clk.freqOk := setBit (s.linkLeaves l 3).clk.freqOk (l + 2) false } := by
    unfold State.linkLeave
    rw [hup]
    exact State.sourceStopped_unselected (hsel ▸ hne) (hsel ▸ hsome)
  have hfield : ∀ (F : R.Fld) (i k : Nat), F.key i k ≠ R.CK_LIVE_LIVE.key 0 0 →
      (s.linkLeave l 3).f F i k = (s.lostFields l).f F i k := by
    intro F i k hF
    rw [hleave, State.f_liveUpdate_other _ _ _ _ hF]
    exact State.f_linkLeaves_lost hup F i k
  have hstate : (s.linkLeave l 3).linkState l = 3 := by
    unfold State.linkState
    rw [hfield _ _ _ hst_live]
    unfold State.lostFields
    rw [State.f_raise_other _ _ _ _ _ _ _ _ _ hst_evt, State.f_setF_other _ _ _ _ _ _ _ _ hst_bad,
      State.f_addF_other _ _ _ _ _ _ _ _ hstate_count]
    exact State.linkState_setLink s l (by decide)
  refine ⟨hstate, ?_, ?_, ?_⟩
  · rw [hfield _ _ _ hlive]
    unfold State.lostFields
    rw [State.f_raise_same, hw]
    rfl
  · have hdown : (s.linkLeave l 3).linkUp l = false := State.linkUp_of_state (by rw [hstate]; decide)
    simp [State.live, State.srcEligible, hdown]
  · rw [hfield _ _ _ hct_live]
    unfold State.lostFields
    rw [State.f_raise_other _ _ _ _ _ _ _ _ _ hct_evt, State.f_setF_other _ _ _ _ _ _ _ _ hct_bad, State.f_addF_same,
      State.f_setLink_other _ _ _ _ _ _ hcount]
    exact Nat.mod_eq_of_lt (satAdd_lt ..)

/-- Settles O21: clause by clause, the control of ports and links, a signal, and a link that comes up or is lost. -/
theorem portsAndLinks : Obligations.PortsAndLinks :=
  ⟨ptCfgWrite_stores, ptCfgWrite_ignored, linkDisable_stores, linkDisable_disables, linkRetrain_down, linkRetrain_up,
   linkAddressCommit_runs, addrCommit_takes, linkSignalDetect_trains, linkUpTimer_rises, linkLoss_runs, linkLoss_fields⟩

end Sys2Proof.Machine
end

section
/-! SUPPORT. What a completion leaves as it is beside its own entry, and Abort (R95). -/

namespace Sys2Proof.Machine

/-! ### The other commands (R95) -/

section
variable (s : State) {c d : Nat} (status dw0 dw1 loc : Nat)

theorem State.freeCmd_cmd_other (h : d ≠ c) : (s.freeCmd c).cmd d = s.cmd d := by
  rw [State.freeCmd_eq, State.cmd, State.bpUpdate_cmds]
  exact Tab.getD_setD_other s.cmds default default c d {} h

theorem State.answered_cmds : (s.answered c status dw0 dw1 loc).cmds = s.cmds :=
  State.keeps_logged s status loc (p := State.cmds) (fun _ _ => rfl) (fun _ _ => rfl) (s.cmd c)

/-- A completion leaves every other command as it is. -/
theorem State.complete_cmd_other (h : d ≠ c) : (s.complete c status dw0 dw1 loc).cmd d = s.cmd d := by
  rcases s.complete_cases c status dw0 dw1 loc with he | he | he <;> rw [he]
  · exact State.freeCmd_cmd_other s h
  · rw [State.freeCmd_cmd_other _ h, State.cmd, State.answered_cmds]

/-! A completion stores nothing. -/

theorem State.complete_per : (s.complete c status dw0 dw1 loc).per = s.per :=
  show (s.complete c status dw0 dw1 loc).bed.per = s.bed.per from congrArg State.per (State.bed_complete ..)

theorem State.complete_boot : (s.complete c status dw0 dw1 loc).boot = s.boot :=
  show (s.complete c status dw0 dw1 loc).bed.boot = s.bed.boot from congrArg State.boot (State.bed_complete ..)

end

/-- Settles O30: an Abort is counted and completes, which leaves every other entry of the command table as it is. -/
theorem abortHasNoEffect : Obligations.AbortHasNoEffect := by
  intro c s h
  refine ⟨_, show execAbort c s = _ from h.step _, h.posted 0 1 0 rfl rfl, ?_, fun k hk => ?_⟩
  · rw [State.f_settle _ _ _ _ (by decide) (by decide), State.f_complete_other _ _ _ _ _ _ _ _ _ (by decide), State.f_addF_same]
    exact Nat.mod_eq_of_lt (satAdd_lt ..)
  · rw [State.cmd, State.settle_cmds]
    exact State.complete_cmd_other _ 0 1 0 _ hk

end Sys2Proof.Machine
end

section
/-! SUPPORT. The register paths beside REG_WRITE: the Register Window, Set Register, Get Register, and the Alert Response Address (R103,
R104, R453, R454, R459). -/

namespace Sys2Proof.Machine

/-! ### The Register Window (R453, R454) -/

theorem State.up_of_mode {s : State} (h : s.mode ≠ .off) : s.up = true := by simpa [State.up] using h

/-- What the access fault of a bad request leaves, and what answers it (R454). -/
theorem windowFault_answers (r : WindowReq) (s : State) :
    ((s.accessFault r.addr .sideband).windowReply r 1).settle.Sent .windowResp 0 [r.op, r.tag, 1] [] ∧
      ((s.accessFault r.addr .sideband).windowReply r 1).settle.f R.GL_EVT_ACCESS_FAULT = 1 ∧
      ((s.accessFault r.addr .sideband).windowReply r 1).settle.media = s.media ∧
      ((s.accessFault r.addr .sideband).windowReply r 1).settle.per = s.per := by
  refine ⟨(State.sent_send ..).settle, ?_, State.settle_media _, State.settle_per _⟩
  rw [State.f_settle _ _ _ _ (by decide) (by decide)]
  exact State.f_accessFault_evt s r.addr .sideband

section
variable {r : WindowReq} {s : State} (hoff : s.mode ≠ .off)
include hoff

theorem exec_registerWindowRead_bad (hbad : windowBad r 1 = true) :
    exec (.registerWindowRead r) s = .next ((s.accessFault r.addr .sideband).windowReply r 1).settle := by
  show execRegisterWindowRead r s = _
  unfold execRegisterWindowRead
  rw [if_neg (not_not.mpr (State.up_of_mode hoff)), if_pos hbad]
  rfl

theorem exec_registerWindowWrite_bad (hbad : windowBad r 2 = true) :
    exec (.registerWindowWrite r) s = .next ((s.accessFault r.addr .sideband).windowReply r 1).settle := by
  show execRegisterWindowWrite r s = _
  unfold execRegisterWindowWrite
  rw [if_neg (not_not.mpr (State.up_of_mode hoff)), if_pos hbad]
  rfl

theorem registerWindowWrite_unserved (hgood : windowBad r 2 = false) (hmode : s.regMode .sideband = false) :
    ∃ t, exec (.registerWindowWrite r) s = .next t ∧ t.Sent .windowResp 0 [r.op, r.tag, 2] [] ∧ s.per = t.per ∧ s.boot = t.boot := by
  refine ⟨(s.windowReply r 2).settle, ?_, (State.sent_send ..).settle, (State.settle_per (s.windowReply r 2)).symm,
    (State.settle_boot (s.windowReply r 2)).symm⟩
  show execRegisterWindowWrite r s = _
  unfold execRegisterWindowWrite
  rw [if_neg (not_not.mpr (State.up_of_mode hoff)), if_neg (by simp [hgood]), if_pos (by simp [hmode])]
  rfl

theorem exec_registerWindowRead_served (hgood : windowBad r 1 = false) (hmode : s.regMode .sideband (windowLow r) = true) :
    exec (.registerWindowRead r) s = .next ((s.getWords .sideband r.addr r.count).2.windowCount.windowReply r 0
      (s.getWords .sideband r.addr r.count).1).settle := by
  show execRegisterWindowRead r s = _
  unfold execRegisterWindowRead
  rw [if_neg (not_not.mpr (State.up_of_mode hoff)), if_neg (by simp [hgood]), if_neg (not_not.mpr hmode)]
  rfl

theorem exec_registerWindowWrite_served (hgood : windowBad r 2 = false) (hmode : s.regMode .sideband = true) :
    exec (.registerWindowWrite r) s = .next (((s.putWords .sideband r.addr (r.data.map fun (w : Word) =>
      w.toNat)).windowCount.windowReply r 0).settle) := by
  show execRegisterWindowWrite r s = _
  unfold execRegisterWindowWrite
  rw [if_neg (not_not.mpr (State.up_of_mode hoff)), if_neg (by simp [hgood]), if_neg (not_not.mpr hmode)]
  rfl

end

/-! ### Set Register and Get Register (R103, R104) -/

section
variable {s : State} {c : Nat} {cm : Cmd} {read : Bool} {k : Nat → Nat → State}

theorem State.regCommand_runs (ha : cm.sqe.cdw10.toNat % 2 ^ 24 % 4 = 0)
    (hend : cm.sqe.cdw10.toNat % 2 ^ 24 + 4 * (cm.sqe.cdw11.toNat % 64 + 1 - 1) ≤ 0xFFFFFC)
    (hsgl : s.sglCheck c (4 * (cm.sqe.cdw11.toNat % 64 + 1)) read = none) :
    s.regCommand c cm read k = k (cm.sqe.cdw10.toNat % 2 ^ 24) (cm.sqe.cdw11.toNat % 64 + 1) := by
  unfold State.regCommand
  rw [if_neg (not_not.mpr ha), if_neg (Nat.not_lt.mpr hend), hsgl]

/-- A command with a misaligned address fails, an access fault, and stores nothing (R9, R104). -/
theorem State.AdmDue.misaligned {opc : Nat} (h : s.AdmDue c opc) (ha : (s.cmd c).sqe.cdw10.toNat % 2 ^ 24 % 4 ≠ 0) :
    s.Posted (s.regCommand c (s.cmd c) read k).settle c 0x02 0 0 ∧
      (s.regCommand c (s.cmd c) read k).settle.f R.GL_EVT_ACCESS_FAULT = 1 ∧
      (s.regCommand c (s.cmd c) read k).settle.per = s.per ∧ (s.regCommand c (s.cmd c) read k).settle.boot = s.boot := by
  have hfail : s.regCommand c (s.cmd c) read k =
      (s.accessFault ((s.cmd c).sqe.cdw10.toNat % 2 ^ 24) (.ctrl (s.cmd c).cntlid)).failCmd c 0x02 := if_pos ha
  rw [hfail, State.settle_per, State.settle_boot, State.complete_per, State.complete_boot]
  refine ⟨h.posted 0x02 0 0 rfl rfl, ?_, rfl, rfl⟩
  rw [State.f_settle _ _ _ _ (by decide) (by decide), State.f_complete_other _ _ _ _ _ _ _ _ _ (by decide)]
  exact State.f_accessFault_evt ..

theorem State.AdmDue.setRegister (h : s.AdmDue c 0xC1) (hturn : s.regTurn c = true) :
    exec (.setRegister c) s = .next (s.regCommand c (s.cmd c) false fun a n =>
      (s.putWords (.ctrl (s.cmd c).cntlid) a ((List.range n).map fun i => (((s.cmd c).sqe.words[i]?).getD 0).toNat)).complete c).settle := by
  show execSetRegister c s = _
  unfold execSetRegister
  rw [if_neg (not_not.mpr hturn), h.step]

theorem State.AdmDue.getRegister (h : s.AdmDue c 0xC2) (hturn : s.regTurn c = true) :
    exec (.getRegister c) s = .next (s.regCommand c (s.cmd c) true fun a n =>
      (s.getWords (.ctrl (s.cmd c).cntlid) a n).2.answer c [a, n] (s.getWords (.ctrl (s.cmd c).cntlid) a n).1).settle := by
  show execGetRegister c s = _
  unfold execGetRegister
  rw [if_neg (not_not.mpr hturn), h.step]

end

theorem registerWindow_answers (r : WindowReq) (s : State) (hoff : s.mode ≠ .off) :
    (windowBad r 1 = true → ∃ t, exec (.registerWindowRead r) s = .next t ∧ t.Sent .windowResp 0 [r.op, r.tag, 1] [] ∧
      t.f R.GL_EVT_ACCESS_FAULT = 1 ∧ t.media = s.media ∧ t.per = s.per) ∧
    (windowBad r 2 = true → ∃ t, exec (.registerWindowWrite r) s = .next t ∧ t.Sent .windowResp 0 [r.op, r.tag, 1] [] ∧
      t.f R.GL_EVT_ACCESS_FAULT = 1 ∧ t.media = s.media ∧ t.per = s.per) ∧
    (windowBad r 2 = false → s.regMode .sideband = false → ∃ t, exec (.registerWindowWrite r) s = .next t ∧
      t.Sent .windowResp 0 [r.op, r.tag, 2] [] ∧ s.per = t.per ∧ s.boot = t.boot) ∧
    (windowBad r 1 = false → s.regMode .sideband (windowLow r) = true → ∃ (u : State) (l : List Nat),
      s.getWords .sideband r.addr r.count = (l, u) ∧
      exec (.registerWindowRead r) s = .next ((u.windowCount.windowReply r 0 l).settle)) ∧
    (windowBad r 2 = false → s.regMode .sideband = true → exec (.registerWindowWrite r) s =
      .next (((s.putWords .sideband r.addr (r.data.map fun (w : Word) => w.toNat)).windowCount.windowReply r 0).settle)) :=
  ⟨fun hbad => ⟨_, exec_registerWindowRead_bad hoff hbad, windowFault_answers r s⟩,
   fun hbad => ⟨_, exec_registerWindowWrite_bad hoff hbad, windowFault_answers r s⟩,
   registerWindowWrite_unserved hoff,
   fun hgood hmode => ⟨_, _, Prod.mk.eta.symm, exec_registerWindowRead_served hoff hgood hmode⟩,
   exec_registerWindowWrite_served hoff⟩

theorem setRegister_runs (c a n : Nat) (s : State) (h : s.AdmDue c 0xC1) (hturn : s.regTurn c = true)
    (ha : a = (s.cmd c).sqe.cdw10.toNat % 2 ^ 24) (hn : n = (s.cmd c).sqe.cdw11.toNat % 64 + 1) :
    (a % 4 = 0 → a + 4 * (n - 1) ≤ 0xFFFFFC → s.sglCheck c (4 * n) false = none → exec (.setRegister c) s =
      .next (((s.putWords (.ctrl (s.cmd c).cntlid) a
        ((List.range n).map fun i => (((s.cmd c).sqe.words[i]?).getD 0).toNat)).complete c).settle)) ∧
    (a % 4 ≠ 0 → ∃ t, exec (.setRegister c) s = .next t ∧ s.Posted t c 0x02 0 0 ∧ t.f R.GL_EVT_ACCESS_FAULT = 1 ∧
      t.per = s.per ∧ t.boot = s.boot) := by
  subst ha hn
  refine ⟨fun halign hend hsgl => ?_, fun halign => ⟨_, h.setRegister hturn, h.misaligned halign⟩⟩
  rw [h.setRegister hturn, State.regCommand_runs halign hend hsgl]

theorem getRegister_runs (c a n : Nat) (s : State) (h : s.AdmDue c 0xC2) (hturn : s.regTurn c = true)
    (ha : a = (s.cmd c).sqe.cdw10.toNat % 2 ^ 24) (hn : n = (s.cmd c).sqe.cdw11.toNat % 64 + 1) :
    (a % 4 = 0 → a + 4 * (n - 1) ≤ 0xFFFFFC → s.sglCheck c (4 * n) true = none → ∃ (u : State) (l : List Nat),
      s.getWords (.ctrl (s.cmd c).cntlid) a n = (l, u) ∧ exec (.getRegister c) s = .next ((u.answer c [a, n] l).settle)) ∧
    (a % 4 ≠ 0 → ∃ t, exec (.getRegister c) s = .next t ∧ s.Posted t c 0x02 0 0 ∧ t.f R.GL_EVT_ACCESS_FAULT = 1 ∧
      t.per = s.per ∧ t.boot = s.boot) := by
  subst ha hn
  refine ⟨fun halign hend hsgl => ⟨_, _, Prod.mk.eta.symm, ?_⟩, fun halign => ⟨_, h.getRegister hturn, h.misaligned halign⟩⟩
  rw [h.getRegister hturn, State.regCommand_runs halign hend hsgl]

/-! ### The Alert Response Address (R459) -/

theorem alertResponse_answers (s : State) (hoff : s.mode ≠ .off) (hbus : s.f R.GL_SB_STS_BUS = 0) (halert : s.ctl.sbAlert = true) :
    ∃ t, exec .alertResponse s = .next t ∧ t.Sent .alertResp 0 [s.f R.FU_SBADDR_SB_ADDR] [] ∧ t.media = s.media ∧ t.per = s.per := by
  refine ⟨(s.send .alertResp 0 [s.f R.FU_SBADDR_SB_ADDR]).settle, ?_, (State.sent_send ..).settle, State.settle_media _,
    State.settle_per _⟩
  show execAlertResponse s = _
  unfold execAlertResponse
  rw [if_pos ⟨State.up_of_mode hoff, by simp [State.on, hbus], halert⟩]
  rfl

/-- Settles O60: path by path, the Register Window, Set Register, Get Register, and the Alert Response Address. -/
theorem registerPaths : Obligations.RegisterPaths :=
  ⟨registerWindow_answers, setRegister_runs, getRegister_runs, alertResponse_answers⟩

end Sys2Proof.Machine
end

section
/-! SUPPORT. I/O commands that begin in their namespace (R86, R89), and those that store nothing new: FLUSH, Read, Verify, Dataset
Management (R24, R92, R121, R140, R213). -/

namespace Sys2Proof.Machine

/-! ### The step of an I/O command -/

section
variable {s : State} {c n opc : Nat}

theorem State.IoDue.alive (h : s.IoDue c opc) : (s.cmd c).alive = true := by
  obtain ⟨hready, -⟩ := h
  simp only [State.ioReady, Bool.and_eq_true] at hready
  obtain ⟨⟨⟨⟨⟨⟨halive, -⟩, -⟩, -⟩, -⟩, -⟩, -⟩ := hready
  exact halive

theorem State.IoDue.mute (h : s.IoDue c opc) : (s.cmd c).mute = false := h.2

theorem State.IoRuns.step (h : s.IoRuns c opc n) (k : State → Nat → State) :
    s.ioStep c [opc] k = .next (k (s.begun c n) n).settle := by
  obtain ⟨⟨hready, -⟩, hcheck⟩ := h
  unfold State.ioStep
  rw [if_pos hready, hcheck]
  rfl

end

theorem State.cmd_modCmd_same (s : State) (c : Nat) (f : Cmd → Cmd) : (s.modCmd c f).cmd c = f (s.cmd c) := Tab.getD_setD_same ..

theorem State.cmd_modCmd_other (s : State) {c d : Nat} (f : Cmd → Cmd) (h : d ≠ c) : (s.modCmd c f).cmd d = s.cmd d :=
  Tab.getD_setD_other _ _ _ _ _ _ h

section
variable (s : State) (c n : Nat)

theorem State.cmd_begun : (s.begun c n).cmd c =
    { s.cmd c with ns := n, lba := sqeLba (s.cmd c).sqe, nlb := sqeNlb (s.cmd c).sqe } := State.cmd_modCmd_same ..

theorem State.sqe_begun : ((s.begun c n).cmd c).sqe = (s.cmd c).sqe := by rw [State.cmd_begun]

theorem State.lbaOk_begun (m lba nlb : Nat) : (s.begun c n).lbaOk m lba nlb = s.lbaOk m lba nlb := rfl

theorem State.blkSize_begun (m : Nat) : (s.begun c n).blkSize m = s.blkSize m := rfl

theorem State.offlineIn_begun (m lba nlb : Nat) : (s.begun c n).offlineIn m lba nlb = s.offlineIn m lba nlb := rfl

/-- The check of the data pointer looks at nothing that a command's beginning sets (R99). -/
theorem State.sglCheck_begun (len : Nat) (read : Bool) : (s.begun c n).sglCheck c len read = s.sglCheck c len read := by
  unfold State.sglCheck
  rw [State.cmd_begun]
  rfl

end

/-! ### An I/O command that completes in its step -/

section
variable (s : State) {c : Nat} (status dw0 dw1 loc : Nat)

theorem State.complete_media : (s.complete c status dw0 dw1 loc).media = s.media :=
  show (s.complete c status dw0 dw1 loc).bed.media = s.bed.media from congrArg State.media (State.bed_complete ..)

theorem State.complete_disk : (s.complete c status dw0 dw1 loc).disk = s.disk :=
  show (s.complete c status dw0 dw1 loc).bed.disk = s.bed.disk from congrArg State.disk (State.bed_complete ..)

end

/-- A command that completes as it begins is the submitted one, and nothing stored changes. -/
theorem State.IoRuns.completes {s : State} {c n opc : Nat} (h : s.IoRuns c opc n) (status : Nat) :
    s.Posted ((s.begun c n).complete c status).settle c status 0 0 ∧
      ((s.begun c n).complete c status).settle.media = s.media ∧ ((s.begun c n).complete c status).settle.per = s.per := by
  have hposted : (s.begun c n).Posted ((s.begun c n).complete c status).settle c status 0 0 :=
    State.posted_settle status 0 0 rfl rfl (by rw [State.cmd_begun]; exact h.1.alive) (by rw [State.cmd_begun]; exact h.1.mute)
  refine ⟨?_, ?_, ?_⟩
  · unfold State.Posted at hposted ⊢
    rw [State.cmd_begun] at hposted
    exact hposted
  · rw [State.settle_media, State.complete_media]
    rfl
  · rw [State.settle_per, State.complete_per]
    rfl

/-! ### FLUSH (R92) -/

theorem State.IoDue.flushed {s : State} {c : Nat} (h : s.IoDue c 0x00) :
    s.Posted (s.complete c).settle c 0 0 0 ∧ (s.complete c).settle.media = s.media ∧ (s.complete c).settle.per = s.per ∧
      (s.complete c).settle.disk = s.disk := by
  rw [State.settle_media, State.settle_per, State.settle_disk, State.complete_media, State.complete_per, State.complete_disk]
  exact ⟨State.posted_settle 0 0 0 rfl rfl h.alive h.mute, rfl, rfl, rfl⟩

theorem flush_completes (c n : Nat) (s : State) (h : s.IoRuns c 0x00 n) :
    ∃ t, exec (.flush c) s = .next t ∧ s.Posted t c 0 0 0 ∧ t.media = s.media ∧ t.per = s.per ∧ t.disk = s.disk := by
  obtain ⟨hdue, hcheck⟩ := h
  refine ⟨_, ?_, hdue.flushed⟩
  show execFlush c s = _
  unfold execFlush
  rw [if_pos hdue.1, hcheck]
  exact ite_self _

theorem flush_completesAll (c : Nat) (s : State) (h : s.IoDue c 0x00) (hall : (s.cmd c).sqe.nsid = 0xFFFFFFFF)
    (hfuse : (s.cmd c).sqe.fuse = 0) (hmode : s.mode ≠ .sanitize) (hsan : s.per.san ≠ 3) :
    ∃ t, exec (.flush c) s = .next t ∧ s.Posted t c 0 0 0 ∧ t.media = s.media ∧ t.per = s.per ∧ t.disk = s.disk := by
  refine ⟨_, ?_, h.flushed⟩
  show execFlush c s = _
  unfold execFlush
  rw [if_pos h.1, if_pos ⟨hall, hfuse, hmode, hsan⟩]
  rfl

/-! ### Read and Verify (R24, R121, R128, R140) -/

/-- A read or Verify that runs: its deadline is set, and all its blocks are to come from the media. -/
def State.readBegun (s : State) (c n : Nat) : State :=
  ((s.begun c n).running c).modCmd c fun x =>
    { x with deadline := (s.begun c n).readDeadline c, src := List.replicate (sqeNlb (s.cmd c).sqe) .media }

/-- A read that waits at the end of its slice's queue. -/
def State.readJoined (s : State) (c n : Nat) : State :=
  { s.readBegun c n with hop.rq := (s.readBegun c n).hop.rq.mod ((s.readBegun c n).cmd c).slice (· ++ [c]) }

section
variable (s : State) (c n : Nat)

theorem State.cmd_readBegun : (s.readBegun c n).cmd c =
    { s.cmd c with
      ns := n, lba := sqeLba (s.cmd c).sqe, nlb := sqeNlb (s.cmd c).sqe, phase := .running,
      deadline := (s.begun c n).readDeadline c, src := List.replicate (sqeNlb (s.cmd c).sqe) .media } := by
  unfold State.readBegun State.running
  rw [State.cmd_modCmd_same, State.cmd_modCmd_same, State.cmd_begun]

theorem State.cmd_readBegun_other {d : Nat} (h : d ≠ c) : (s.readBegun c n).cmd d = s.cmd d := by
  unfold State.readBegun State.running State.begun
  rw [State.cmd_modCmd_other _ _ h, State.cmd_modCmd_other _ _ h, State.cmd_modCmd_other _ _ h]

/-- Of a state in which a read or Verify runs, the command table alone has changed. -/
theorem State.readBegun_eq : s.readBegun c n = { s with cmds := (s.readBegun c n).cmds } := by
  unfold State.readBegun State.running State.begun State.modCmd
  rfl

/-- Of a state in which a read waits, the command table and the read queues alone have changed. -/
theorem State.readJoined_eq : s.readJoined c n =
    { s with cmds := (s.readJoined c n).cmds, hop := { s.hop with rq := (s.readJoined c n).hop.rq } } := by
  unfold State.readJoined
  rw [State.readBegun_eq]

theorem State.slice_readBegun : ((s.readBegun c n).cmd c).slice = (s.cmd c).slice := by rw [State.cmd_readBegun]

theorem State.rq_readJoined : (s.readJoined c n).hop.rq.get (s.cmd c).slice = s.hop.rq.get (s.cmd c).slice ++ [c] := by
  unfold State.readJoined
  rw [State.slice_readBegun]
  exact Tab.getD_setD_same ..

theorem State.phase_readJoined : ((s.readJoined c n).cmd c).phase = .running := by
  rw [show (s.readJoined c n).cmd c = _ from s.cmd_readBegun c n]

end

section
variable {c n : Nat} {l : List SramErr} {s : State} (h : s.IoRuns c 0x02 n)
  (hsgl : s.sglCheck c (sqeNlb (s.cmd c).sqe * s.blkSize n) true = none)
include h hsgl

/-- A read joins its slice's queue, and takes its turn where it stands at the head. -/
theorem exec_read_joins (hlba : s.lbaOk n (sqeLba (s.cmd c).sqe) (sqeNlb (s.cmd c).sqe) = true)
    (hoff : s.offlineIn n (sqeLba (s.cmd c).sqe) (sqeNlb (s.cmd c).sqe) = false) :
    exec (.read c l) s = .next (if ((s.readJoined c n).hop.rq.get (s.cmd c).slice).head? = some c then
      (((s.readJoined c n).readTurn (s.cmd c).slice l).getD (s.readJoined c n)).afterRows else s.readJoined c n).settle := by
  refine (show execRead c l s = _ from h.step _).trans ?_
  rw [← State.slice_readBegun s c n]
  simp only [State.sqe_begun, State.sglCheck_begun, State.blkSize_begun, State.lbaOk_begun, State.offlineIn_begun, hsgl, hlba, hoff,
    not_true_eq_false, if_false, Bool.false_eq_true]
  rfl

/-- A read outside its namespace fails (R99). -/
theorem exec_read_outside (hlba : s.lbaOk n (sqeLba (s.cmd c).sqe) (sqeNlb (s.cmd c).sqe) = false) :
    exec (.read c l) s = .next ((s.begun c n).failCmd c 0x80).settle := by
  refine (show execRead c l s = _ from h.step _).trans ?_
  simp only [State.sqe_begun, State.sglCheck_begun, State.blkSize_begun, State.lbaOk_begun, hsgl, hlba]
  rfl

end

theorem read_waits (c n h : Nat) (r : List Nat) (l : List SramErr) (s : State) (hruns : s.IoRuns c 0x02 n)
    (hsgl : s.sglCheck c (sqeNlb (s.cmd c).sqe * s.blkSize n) true = none)
    (hlba : s.lbaOk n (sqeLba (s.cmd c).sqe) (sqeNlb (s.cmd c).sqe) = true)
    (hoff : s.offlineIn n (sqeLba (s.cmd c).sqe) (sqeNlb (s.cmd c).sqe) = false) (hrq : s.hop.rq.get (s.cmd c).slice = h :: r)
    (hne : h ≠ c) :
    ∃ t, exec (.read c l) s = .next t ∧ (t.cmd c).phase = .running ∧ t.hop.rq.get (s.cmd c).slice = h :: r ++ [c] ∧
      (∀ d, d ≠ c → t.cmd d = s.cmd d) ∧ State.Only { s with cmds := t.cmds, hop := { s.hop with rq := t.hop.rq } } t [] := by
  have hqueue : (s.readJoined c n).hop.rq.get (s.cmd c).slice = h :: r ++ [c] := by rw [State.rq_readJoined, hrq]
  have hwaits : exec (.read c l) s = .next (s.readJoined c n).settle := by
    rw [exec_read_joins hruns hsgl hlba hoff, hqueue, if_neg (by simpa using hne)]
  refine ⟨_, hwaits, ?_⟩
  rw [State.cmd, State.settle_cmds, State.settle_hop]
  refine ⟨State.phase_readJoined s c n, hqueue, fun d hd => ?_, ?_⟩
  · rw [State.cmd, State.settle_cmds]
    exact State.cmd_readBegun_other s c n hd
  · rw [← State.readJoined_eq]
    exact State.only_settle_same _ _

theorem read_takesTurn (c n : Nat) (l : List SramErr) (s : State) (hruns : s.IoRuns c 0x02 n)
    (hsgl : s.sglCheck c (sqeNlb (s.cmd c).sqe * s.blkSize n) true = none)
    (hlba : s.lbaOk n (sqeLba (s.cmd c).sqe) (sqeNlb (s.cmd c).sqe) = true)
    (hoff : s.offlineIn n (sqeLba (s.cmd c).sqe) (sqeNlb (s.cmd c).sqe) = false) (hrq : s.hop.rq.get (s.cmd c).slice = []) :
    ∃ u : State, exec (.read c l) s = .next (((u.readTurn (s.cmd c).slice l).getD u).afterRows.settle) ∧
      u.hop.rq.get (s.cmd c).slice = [c] ∧ (u.cmd c).phase = .running ∧ u.media = s.media ∧ u.per = s.per := by
  have hqueue : (s.readJoined c n).hop.rq.get (s.cmd c).slice = [c] := by rw [State.rq_readJoined, hrq, List.nil_append]
  refine ⟨s.readJoined c n, ?_, hqueue, State.phase_readJoined s c n, by rw [State.readJoined_eq], by rw [State.readJoined_eq]⟩
  rw [exec_read_joins hruns hsgl hlba hoff, hqueue, if_pos List.head?_cons]

theorem read_outside (c n : Nat) (l : List SramErr) (s : State) (h : s.IoRuns c 0x02 n)
    (hsgl : s.sglCheck c (sqeNlb (s.cmd c).sqe * s.blkSize n) true = none)
    (hlba : s.lbaOk n (sqeLba (s.cmd c).sqe) (sqeNlb (s.cmd c).sqe) = false) :
    ∃ t, exec (.read c l) s = .next t ∧ s.Posted t c 0x80 0 0 ∧ t.media = s.media ∧ t.per = s.per :=
  ⟨_, exec_read_outside h hsgl hlba, h.completes 0x80⟩

theorem verify_starts (c n : Nat) (s : State) (h : s.IoRuns c 0x0C n)
    (hlba : s.lbaOk n (sqeLba (s.cmd c).sqe) (sqeNlb (s.cmd c).sqe) = true)
    (hoff : s.offlineIn n (sqeLba (s.cmd c).sqe) (sqeNlb (s.cmd c).sqe) = false) :
    ∃ u : State, exec (.verify c) s = .next (u.startBlocks c 0 ((s.cmd c).units / s.nsUnits n)).afterRows.settle ∧
      (u.cmd c).phase = .running ∧ u.media = s.media ∧ u.per = s.per ∧ u.hop = s.hop := by
  have hunits : ((s.readBegun c n).cmd c).units = (s.cmd c).units := by rw [State.cmd_readBegun]
  refine ⟨s.readBegun c n, ?_, by rw [State.cmd_readBegun], by rw [State.readBegun_eq], by rw [State.readBegun_eq],
    by rw [State.readBegun_eq]⟩
  refine (show execVerify c s = _ from h.step _).trans ?_
  rw [← hunits]
  simp only [State.sqe_begun, State.lbaOk_begun, State.offlineIn_begun, hlba, hoff, not_true_eq_false, if_false, Bool.false_eq_true]
  rfl

/-! ### Dataset Management (R213) -/

section
variable {c n : Nat} {s : State} (h : s.IoRuns c 0x09 n)
include h

theorem datasetManagement_ignores (hsgl : s.sglCheck c (16 * ((s.cmd c).sqe.cdw10.toNat % 256 + 1)) false = none)
    (hlba : ∀ r ∈ (s.cmd c).sqe.ranges, s.lbaOk n r.1 r.2 = true) (hkeep : (s.cmd c).sqe.cdw11.toNat.testBit 2 = false) :
    ∃ t, exec (.datasetManagement c) s = .next t ∧ s.Posted t c 0 0 0 ∧ t.media = s.media ∧ t.per = s.per := by
  have hranges : (((s.cmd c).sqe.ranges.take ((s.cmd c).sqe.cdw10.toNat % 256 + 1)).any fun (lba, nlb) => !s.lbaOk n lba nlb) = false :=
    List.any_eq_false.mpr fun r hr => by simp [hlba r (List.mem_of_mem_take hr)]
  refine ⟨_, (show execDatasetManagement c s = _ from h.step _).trans ?_, h.completes 0⟩
  simp only [State.sqe_begun, State.sglCheck_begun, State.lbaOk_begun, hsgl, hranges, hkeep, if_false, Bool.false_eq_true]

theorem datasetManagement_unmaps {lba nlb : Nat} {r : List (Nat × Nat)} (hsgl : s.sglCheck c 16 false = none)
    (hranges : (s.cmd c).sqe.ranges = (lba, nlb) :: r) (hone : (s.cmd c).sqe.cdw10.toNat % 256 = 0)
    (hlba : s.lbaOk n lba nlb = true) (hdrop : (s.cmd c).sqe.cdw11.toNat.testBit 2 = true) :
    exec (.datasetManagement c) s = .next (((((s.begun c n).running c).unmap n lba nlb).completeRecorded c).settle) := by
  refine (show execDatasetManagement c s = _ from h.step _).trans ?_
  simp only [State.sqe_begun, State.sglCheck_begun, State.lbaOk_begun, hsgl, hranges, hone, hdrop, hlba, Nat.zero_add, Nat.mul_one,
    List.take_succ_cons, List.take_zero, List.any_cons, List.any_nil, List.foldl_cons, List.foldl_nil, Bool.not_true, Bool.or_self,
    if_false, if_true, Bool.false_eq_true]

end

/-- Settles O35: FLUSH of one namespace and of all, the four ends of a read or Verify's step, and Dataset Management without and with
Deallocate. -/
theorem flushReadsAndTrims : Obligations.FlushReadsAndTrims :=
  ⟨flush_completes, flush_completesAll, read_waits, read_takesTurn, read_outside, verify_starts,
   fun _ _ _ h => datasetManagement_ignores h, fun _ _ _ _ _ _ h => datasetManagement_unmaps h⟩

end Sys2Proof.Machine
end

section
/-! SUPPORT. Command capsules (R47, R63, R81, R83, R85, R86): the entry that one takes, the NAK of one that finds none, and the frame that is
too long. -/

namespace Sys2Proof.Machine

/-! ### An acknowledgement changes connections and messages only -/

theorem State.core_tcpAcks (s : State) (c : Nat) : (s.tcpAcks c).core = s.core := State.keeps_ite (State.core_advertise ..) rfl

theorem State.core_rdmaAcks (s : State) (c : Nat) : (s.rdmaAcks c).core = s.core := State.keeps_ite rfl rfl

theorem State.cmds_of_core {s t : State} (h : t.core = s.core) : t.cmds = s.cmds :=
  show t.core.cmds = s.core.cmds from congrArg State.cmds h

theorem State.queues_of_core {s t : State} (h : t.core = s.core) : t.queues = s.queues :=
  show t.core.queues = s.core.queues from congrArg State.queues h

/-! ### A capsule that is parsed (R81, R83, R86) -/

/-- An I/O command that waits for its Sluice, as connection c brought it. -/
def State.waitingCmd (s : State) (c : Nat) (q : Sqe) : Cmd :=
  { alive := true, queue := (s.conn c).queue, conn := c, cntlid := (s.conn c).cntlid, slice := (s.conn c).slice,
    epoch := (s.sl (s.conn c).slice).epoch, sqe := q, phase := .waiting, tArr := s.clk.tb, hb := capsuleBytes q,
    port := portOf (s.conn c).link }

/-- The command takes entry e, and waits at the end of its queue. -/
def State.enqueued (s : State) (c e : Nat) (q : Sqe) : State :=
  { s with cmds := s.cmds.set e (s.waitingCmd c q) }.modQueue (s.conn c).queue fun x => { x with waiting := x.waiting ++ [e] }

section
variable {u : State} {c e : Nat} {q : Sqe} (hio : (u.conn c).queue < adminBase) (hop : q.opc ∈ ioOpcs)
include hio hop

/-- An I/O command that its controller supports waits as it is parsed. -/
theorem State.parse_eq : u.parse c e q = (u.enqueued c e q).bpUpdate := by
  have hopc : q.opc ≠ 0x7F := fun he => absurd (he ▸ hop) (by decide)
  have hnow : (decide (adminBase ≤ (u.conn c).queue) || q.opc == 0x7F) = false := by simp [hopc, hio]
  have hconnect : isConnect q = false := by simp [isConnect, hopc]
  have hsupported : ∀ s : State, s.supported (u.conn c).queue q = true := fun s => by simp [State.supported, hopc, hio, hop]
  unfold State.parse
  simp only [hnow, hconnect, hsupported, if_true, if_false, Bool.false_eq_true]
  rfl

/-- A capsule with room, whose identifier is free, is parsed (R81, R83). -/
theorem State.capsule_parses (hroom : (u.outstanding (u.conn c).queue).length < (u.queue (u.conn c).queue).sqsize + 1)
    (hfits : u.capsuleFits c q = true) (hentry : u.freeEntry (u.conn c).queue = some e)
    (hcid : ((u.outstanding (u.conn c).queue).any fun k => (u.cmd k).sqe.cid == q.cid) = false) :
    u.capsule c q = (u.enqueued c e q).bpUpdate := by
  unfold State.capsule
  dsimp only
  rw [if_neg (Nat.not_le.mpr hroom), if_neg (not_not.mpr hfits), if_neg (by simp [hcid]), hentry]
  exact State.parse_eq hio hop

end

/-- Room and a free entry (R81, R84). -/
theorem State.capsuleFits_of_free {u : State} {c e : Nat} {q : Sqe} (hio : (u.conn c).queue < adminBase)
    (hbuf : u.hrRoom (portOf (u.conn c).link) false (capsuleBytes q) = true) (hentry : u.freeEntry (u.conn c).queue = some e) :
    u.capsuleFits c q = true := by
  unfold State.capsuleFits
  rw [decide_eq_false (Nat.not_le.mpr hio), hbuf, hentry]
  rfl

theorem State.not_capsuleFits {u : State} {c : Nat} {q : Sqe} (hio : (u.conn c).queue < adminBase)
    (hfull : u.hrRoom (portOf (u.conn c).link) false (capsuleBytes q) = false ∨ u.freeEntry (u.conn c).queue = none) :
    u.capsuleFits c q = false := by
  unfold State.capsuleFits
  rw [decide_eq_false (Nat.not_le.mpr hio)]
  rcases hfull with hbuf | hentry
  · rw [hbuf, Bool.false_and]
  · rw [hentry, Option.isSome_none, Bool.and_false]

/-- What stands where a capsule has been queued: its command, its place in the queue, and every other command. -/
theorem State.enqueued_stands {u t : State} {c e : Nat} {q : Sqe} (hcmds : t.cmds = (u.enqueued c e q).cmds)
    (hqueues : t.queues = (u.enqueued c e q).queues) :
    t.cmd e = u.waitingCmd c q ∧
      (t.queue (u.conn c).queue).waiting = (u.queue (u.conn c).queue).waiting ++ [e] ∧ ∀ d, d ≠ e → t.cmd d = u.cmd d := by
  have hset : t.cmds = u.cmds.set e (u.waitingCmd c q) := hcmds
  have hjoin : t.queues = u.queues.mod (u.conn c).queue fun x => { x with waiting := x.waiting ++ [e] } := hqueues
  refine ⟨?_, ?_, fun d hd => ?_⟩
  · rw [State.cmd, hset]
    exact Tab.getD_setD_same ..
  · rw [State.queue, hjoin, Tab.get, Tab.getD_setD_same]
  · rw [State.cmd, hset]
    exact Tab.getD_setD_other _ _ _ _ _ _ hd

/-- The capsule is queued, and its connection acknowledges it by what changes connections and registers alone. -/
theorem State.queued_settle {u t : State} {c e : Nat} {q : Sqe} (hio : (u.conn c).queue < adminBase) (hop : q.opc ∈ ioOpcs)
    (hroom : (u.outstanding (u.conn c).queue).length < (u.queue (u.conn c).queue).sqsize + 1)
    (hbuf : u.hrRoom (portOf (u.conn c).link) false (capsuleBytes q) = true) (hentry : u.freeEntry (u.conn c).queue = some e)
    (hcid : ((u.outstanding (u.conn c).queue).any fun k => (u.cmd k).sqe.cid == q.cid) = false)
    (hacks : t.core = (u.capsule c q).core) :
    t.settle.cmd e = u.waitingCmd c q ∧
      (t.settle.queue (u.conn c).queue).waiting = (u.queue (u.conn c).queue).waiting ++ [e] ∧ ∀ d, d ≠ e → t.settle.cmd d = u.cmd d := by
  have hcore : t.core = (u.enqueued c e q).core := by
    rw [hacks, State.capsule_parses hio hop hroom (State.capsuleFits_of_free hio hbuf hentry) hentry hcid]
    exact State.core_bpUpdate _
  exact State.enqueued_stands ((State.settle_cmds t).trans (State.cmds_of_core hcore))
    ((State.settle_queues t).trans (State.queues_of_core hcore))

theorem capsuleCmd_queued (c e : Nat) (q : Sqe) (rx : RxFrame) (s u : State) (halive : (s.conn c).alive = true)
    (htcp : (s.conn c).rdma = false) (hheard : s.Heard c rx u) (htls : (s.conn c).tls ≠ 1) (hic : (s.conn c).icDone = true)
    (hcon : (s.conn c).connected = true) (hconn : u.conn c = s.conn c) (hio : (s.conn c).queue < adminBase) (hop : q.opc ∈ ioOpcs)
    (hroom : (u.outstanding (s.conn c).queue).length < (u.queue (s.conn c).queue).sqsize + 1)
    (hbuf : u.hrRoom (portOf (s.conn c).link) false (capsuleBytes q) = true) (hentry : u.freeEntry (s.conn c).queue = some e)
    (hcid : ((u.outstanding (s.conn c).queue).any fun k => (u.cmd k).sqe.cid == q.cid) = false) :
    ∃ t, exec (.capsuleCmd c q rx) s = .next t ∧ (t.cmd e).alive = true ∧ (t.cmd e).sqe = q ∧ (t.cmd e).phase = .waiting ∧
      (t.cmd e).queue = (s.conn c).queue ∧ (t.queue (s.conn c).queue).waiting = (u.queue (s.conn c).queue).waiting ++ [e] ∧
      ∀ d, d ≠ e → t.cmd d = u.cmd d := by
  have hlacks : u.tlsLacks (s.conn c) = false := by simp [State.tlsLacks, hic]
  refine ⟨((u.capsule c q).tcpAcks c).settle,
    (show execCapsuleCmd c q rx s = _ from State.onConn_heard halive htcp hheard _).trans ?_, ?_⟩
  · rw [if_neg htls, hlacks, if_neg Bool.false_ne_true, if_neg (by simp [hic, hcon]), if_neg (not_not.mpr hcon)]
  · rw [← hconn] at hio hroom hbuf hentry hcid ⊢
    obtain ⟨hcmd, hqueue, hother⟩ := State.queued_settle hio hop hroom hbuf hentry hcid ((u.capsule c q).core_tcpAcks c)
    rw [hcmd]
    exact ⟨rfl, rfl, rfl, rfl, hqueue, hother⟩

/-! ### A capsule of a queue pair (R60, R63, R85) -/

/-- A SEND on a connected queue is a capsule, acknowledged where it fits. -/
theorem exec_rdmaSendCapsule {c : Nat} {q : Sqe} {ce : Bool} {rx : RxFrame} {s u : State} (halive : (s.conn c).alive = true)
    (hrdma : (s.conn c).rdma = true) (hheard : s.Heard c { rx with ce := rx.ce || ce } u) (hcon : (s.conn c).connected = true) :
    exec (.rdmaSendCapsule c q ce rx) s =
      .next (if u.capsuleFits c q then (u.capsule c q).rdmaAcks c else u.capsule c q).settle := by
  refine (show execRdmaSendCapsule c q ce rx s = _ from State.onConn_heard halive hrdma hheard _).trans ?_
  rw [if_neg (not_not.mpr hcon)]

theorem rdmaSendCapsule_queued (c e : Nat) (q : Sqe) (ce : Bool) (rx : RxFrame) (s u : State) (halive : (s.conn c).alive = true)
    (hrdma : (s.conn c).rdma = true) (hheard : s.Heard c { rx with ce := rx.ce || ce } u) (hcon : (s.conn c).connected = true)
    (hconn : u.conn c = s.conn c) (hio : (s.conn c).queue < adminBase) (hop : q.opc ∈ ioOpcs)
    (hroom : (u.outstanding (s.conn c).queue).length < (u.queue (s.conn c).queue).sqsize + 1)
    (hbuf : u.hrRoom (portOf (s.conn c).link) false (capsuleBytes q) = true) (hentry : u.freeEntry (s.conn c).queue = some e)
    (hcid : ((u.outstanding (s.conn c).queue).any fun k => (u.cmd k).sqe.cid == q.cid) = false) :
    ∃ t, exec (.rdmaSendCapsule c q ce rx) s = .next t ∧ (t.cmd e).alive = true ∧ (t.cmd e).sqe = q ∧ (t.cmd e).phase = .waiting ∧
      (t.queue (s.conn c).queue).waiting = (u.queue (s.conn c).queue).waiting ++ [e] ∧ ∀ d, d ≠ e → t.cmd d = u.cmd d := by
  rw [← hconn] at hio hroom hbuf hentry hcid ⊢
  obtain ⟨hcmd, hqueue, hother⟩ := State.queued_settle hio hop hroom hbuf hentry hcid ((u.capsule c q).core_rdmaAcks c)
  refine ⟨_, exec_rdmaSendCapsule halive hrdma hheard hcon, ?_⟩
  rw [if_pos (State.capsuleFits_of_free hio hbuf hentry), hcmd]
  exact ⟨rfl, rfl, rfl, hqueue, hother⟩

/-- The RNR NAK of a capsule that finds no entry or no buffer, and its count (R63, R85). -/
def State.rnrNaked (u : State) (c : Nat) : State := (u.send .rnrNak c [160]).addF R.PT_BP_STS_RNR_COUNT 1 (portOf (u.conn c).link)

theorem State.capsule_waits {u : State} {c : Nat} {q : Sqe} (hrdma : (u.conn c).rdma = true)
    (hroom : (u.outstanding (u.conn c).queue).length < (u.queue (u.conn c).queue).sqsize + 1) (hfull : u.capsuleFits c q = false) :
    u.capsule c q = u.rnrNaked c := by
  unfold State.capsule
  dsimp only
  rw [if_neg (Nat.not_le.mpr hroom), if_pos (by simp [hfull])]
  exact if_pos hrdma

/-- The message of the NAK, as its link marks it (R50). -/
def State.rnrMsg (u : State) (c : Nat) : Msg := { kind := .rnrNak, dst := c, args := [160], tx := u.txMark .rnrNak c none }

theorem State.rnrNaked_eq (u : State) (c : Nat) :
    u.rnrNaked c =
      ({ u with ctl := u.ctl.post (u.rnrMsg c) (u.pauseHolds (u.rnrMsg c)) } : State).addF R.PT_BP_STS_RNR_COUNT 1
        (portOf (u.conn c).link) := rfl

/-- The NAK goes out, and of the registers its port's count alone is raised. -/
theorem State.rnrNaked_settle (u : State) (c : Nat) :
    (u.rnrNaked c).settle.conns = u.conns ∧
      (u.rnrNaked c).settle.f R.PT_BP_STS_RNR_COUNT (portOf (u.conn c).link) =
        satAdd R.PT_BP_STS_RNR_COUNT.w (u.f R.PT_BP_STS_RNR_COUNT (portOf (u.conn c).link)) 1 ∧
      u.Sends (u.rnrNaked c).settle .rnrNak c [160] [] [R.PT_BP_STS_RNR_COUNT.key (portOf (u.conn c).link) 0] := by
  have hkey : ∀ p < 2, R.PT_BP_STS_RNR_COUNT.key p 0 ≠ R.GL_EVT_LOG_WRAP.key 0 0 ∧
      R.PT_BP_STS_RNR_COUNT.key p 0 ≠ R.GL_SB_STS_ALERTS.key 0 0 := by decide
  obtain ⟨hwrap, halert⟩ := hkey _ (portOf_lt (u.conn c).link)
  have hconns : (u.rnrNaked c).settle.conns = u.conns := by
    rw [State.settle_conns, State.rnrNaked_eq]
    rfl
  refine ⟨hconns, ?_, u.rnrMsg c, rfl, rfl, rfl, rfl, ?_⟩
  · rw [State.f_settle _ _ _ _ hwrap halert, State.rnrNaked_eq, State.f_addF_same]
    exact Nat.mod_eq_of_lt (satAdd_lt ..)
  · rw [hconns]
    refine State.only_settle (fun F i k hk => ?_) rfl
    rw [State.rnrNaked_eq, State.f_addF_other _ _ _ _ _ _ _ _ (by simpa using hk)]

theorem rdmaSendCapsule_naked (c : Nat) (q : Sqe) (ce : Bool) (rx : RxFrame) (s u : State) (halive : (s.conn c).alive = true)
    (hrdma : (s.conn c).rdma = true) (hheard : s.Heard c { rx with ce := rx.ce || ce } u) (hcon : (s.conn c).connected = true)
    (hconn : u.conn c = s.conn c) (hio : (s.conn c).queue < adminBase)
    (hroom : (u.outstanding (s.conn c).queue).length < (u.queue (s.conn c).queue).sqsize + 1)
    (hfull : u.hrRoom (portOf (s.conn c).link) false (capsuleBytes q) = false ∨ u.freeEntry (s.conn c).queue = none) :
    ∃ t, exec (.rdmaSendCapsule c q ce rx) s = .next t ∧ t.conns = u.conns ∧
      t.f R.PT_BP_STS_RNR_COUNT (portOf (s.conn c).link) =
        satAdd R.PT_BP_STS_RNR_COUNT.w (u.f R.PT_BP_STS_RNR_COUNT (portOf (s.conn c).link)) 1 ∧
      u.Sends t .rnrNak c [160] [] [R.PT_BP_STS_RNR_COUNT.key (portOf (s.conn c).link) 0] := by
  have hexec := exec_rdmaSendCapsule (q := q) halive hrdma hheard hcon
  rw [← hconn] at hrdma hio hroom hfull ⊢
  have hnot := State.not_capsuleFits hio hfull
  refine ⟨_, hexec, ?_⟩
  rw [hnot, if_neg Bool.false_ne_true, State.capsule_waits hrdma hroom hnot]
  exact u.rnrNaked_settle c

/-! ### A frame that is too long (R47) -/

/-- The link drops the frame and counts it. -/
theorem State.arrive_long {s u : State} {l : Nat} {rx : RxFrame} (h : s.frame l = some u)
    (hlong : u.f R.PT_LINK_CTL_MTU (l / 4) (l % 4) < rx.ip ∨ 9216 < rx.ip + rx.hdr) :
    s.arrive l rx = some (u.modLink l fun x => { x with drops := x.drops + 1 }, false) := by
  unfold State.arrive
  rw [h, Option.map_some, if_pos hlong]

theorem State.onFrame_dropped {s u : State} {c : Nat} {rx : RxFrame} {b : Bool} (halive : (s.conn c).alive = true)
    (hrdma : (s.conn c).rdma = b) (h : s.arrive (s.conn c).link rx = some (u, false)) (k : State → Conn → State) :
    s.onFrame c b rx k = .next u.settle := by
  unfold State.onFrame State.onLink
  dsimp only
  rw [if_neg (by simp [halive, hrdma]), h]
  rfl

theorem State.onConn_dropped {s u : State} {c : Nat} {rx : RxFrame} {b : Bool} (halive : (s.conn c).alive = true)
    (hrdma : (s.conn c).rdma = b) (h : s.arrive (s.conn c).link rx = some (u, false)) (k : State → Conn → State) :
    s.onConn c b rx k = .next u.settle := by
  unfold State.onConn
  rw [if_pos halive, State.onFrame_dropped halive hrdma h]

theorem longFrame_dropped (i : Instr) (b : Bool) (c : Nat) (q : Sqe) (p : H2CPdu) (w : HopWrite) (rx : RxFrame) (s u : State)
    (hi : (i, b) ∈ [(Instr.capsuleCmd c q rx, false), (.h2cdata c p rx, false), (.rdmaSendCapsule c q false rx, true),
      (.hopperDataWrite c w rx, true)]) (halive : (s.conn c).alive = true) (hrdma : (s.conn c).rdma = b)
    (hframe : s.frame (s.conn c).link = some u)
    (hlong : u.f R.PT_LINK_CTL_MTU ((s.conn c).link / 4) ((s.conn c).link % 4) < rx.ip ∨ 9216 < rx.ip + rx.hdr) :
    ∃ t, exec i s = .next t ∧ (t.linkOf (s.conn c).link).drops = (u.linkOf (s.conn c).link).drops + 1 ∧
      State.Only { u with links := t.links } t [] := by
  have harrive := State.arrive_long hframe hlong
  have hce := State.arrive_long (rx := { rx with ce := rx.ce || false }) hframe hlong
  refine ⟨(u.modLink (s.conn c).link fun x => { x with drops := x.drops + 1 }).settle, ?_, ?_, ?_⟩
  · simp only [List.mem_cons, Prod.mk.injEq, List.not_mem_nil, or_false] at hi
    rcases hi with ⟨rfl, rfl⟩ | ⟨rfl, rfl⟩ | ⟨rfl, rfl⟩ | ⟨rfl, rfl⟩
    · exact show execCapsuleCmd c q rx s = _ from State.onConn_dropped halive hrdma harrive _
    · exact show execH2cdata c p rx s = _ from State.onFrame_dropped halive hrdma harrive _
    · exact show execRdmaSendCapsule c q false rx s = _ from State.onConn_dropped halive hrdma hce _
    · exact show execHopperDataWrite c w rx s = _ from State.onFrame_dropped halive hrdma harrive _
  · rw [State.linkOf, State.settle_links]
    exact congrArg Link.drops (State.linkOf_modLink u (s.conn c).link _)
  · rw [State.settle_links]
    exact State.only_settle_same (u.modLink (s.conn c).link _) []

/-- Settles O26: a capsule queued on TCP and on RDMA, one that finds no room, and a frame longer than the MTU. -/
theorem capsulesAreQueued : Obligations.CapsulesAreQueued :=
  ⟨capsuleCmd_queued, rdmaSendCapsule_queued, rdmaSendCapsule_naked, longFrame_dropped⟩

end Sys2Proof.Machine
end

section
/-! SUPPORT. Connect (R53, R82, R134, R481): its response, the queue that it makes, and the acknowledgement that follows. -/

namespace Sys2Proof.Machine

/-! ### What a message, an acknowledgement and backpressure leave of a connection -/

/-- What a connection shows whatever stands outstanding on it, is advertised, or holds it back. -/
structure Conn.Steady {β : Type} (p : Conn → β) : Prop where
  sent : ∀ x l, p { x with sent := l } = p x
  window : ∀ x n, p { x with window := n } = p x
  bp : ∀ x b, p { x with bp := b } = p x

section
variable {β : Type} {p : Conn → β} (hp : Conn.Steady p) (s : State) (c : Nat)
include hp

theorem Conn.Steady.advertise : p ((s.advertise c).conn c) = p (s.conn c) := by
  unfold State.advertise
  dsimp only
  split
  · exact State.conn_send hp.sent _ _ _ _ _ none none _
  · refine (State.conn_send hp.sent _ _ _ _ _ none none _).trans ?_
    rw [State.conn_modConn_same]
    exact hp.window _ _

theorem Conn.Steady.bpConn : p ((s.bpConn c).conn c) = p (s.conn c) := by
  have hbp : p ((s.modConn c fun x => { x with bp := s.bpWanted (s.conn c) }).conn c) = p (s.conn c) := by
    rw [State.conn_modConn_same]
    exact hp.bp _ _
  unfold State.bpConn
  dsimp only
  split
  · rfl
  · split
    · exact (hp.advertise _ c).trans hbp
    · exact hbp

theorem Conn.Steady.rdmaAcks : p ((s.rdmaAcks c).conn c) = p (s.conn c) :=
  State.keeps_ite (p := fun s => p (s.conn c)) (State.conn_send hp.sent _ _ _ _ _ none none _) rfl

theorem Conn.Steady.tcpAcksOf : p ((s.tcpAcksOf c).conn c) = p (s.conn c) :=
  State.keeps_ite (p := fun s => p (s.conn c)) rfl (State.conn_tcpAcks hp.sent hp.window s c)

end

theorem State.ctrls_of_core {s t : State} (h : t.core = s.core) : t.ctrls = s.ctrls :=
  show t.core.ctrls = s.core.ctrls from congrArg State.ctrls h

theorem State.msgs_rdmaAcks (s : State) (c : Nat) : s.msgs ⊆ (s.rdmaAcks c).msgs := by
  unfold State.rdmaAcks
  split
  · exact State.msgs_send ..
  · exact List.Subset.refl _

theorem State.msgs_tcpAcksOf (s : State) (c : Nat) : s.msgs ⊆ (s.tcpAcksOf c).msgs := by
  unfold State.tcpAcksOf
  split
  · exact List.Subset.refl _
  · exact State.msgs_tcpAcks ..

/-! ### A Connect that is heard (R56, R58) -/

/-- On a queue pair the acknowledgement of the SEND follows. -/
def State.sendAcks (s : State) (c : Nat) (rdma : Bool) : State := if rdma then s.rdmaAcks c else s

section
variable (s : State) (c : Nat) (rdma : Bool)

theorem State.core_sendAcks : (s.sendAcks c rdma).core = s.core := State.keeps_ite (State.core_rdmaAcks ..) rfl

theorem State.msgs_sendAcks : s.msgs ⊆ (s.sendAcks c rdma).msgs := by
  unfold State.sendAcks
  split
  · exact State.msgs_rdmaAcks ..
  · exact List.Subset.refl _

theorem Conn.Steady.sendAcks {β : Type} {p : Conn → β} (hp : Conn.Steady p) : p ((s.sendAcks c rdma).conn c) = p (s.conn c) :=
  State.keeps_ite (p := fun s => p (s.conn c)) (hp.rdmaAcks s c) rfl

end

/-- A connection that is ready for a Connect: a queue pair, or a TCP connection after its ICResp. -/
def Conn.Ready (x : Conn) : Prop := x.rdma = true ∨ (x.tls ≠ 1 ∧ x.icDone = true)

theorem State.onConnect_heard {s u : State} {c : Nat} {rx : RxFrame} (halive : (s.conn c).alive = true) (hheard : s.Heard c rx u)
    (hready : (s.conn c).Ready) (k : State → Conn → State) :
    s.onConnect c rx k = .next ((k u (s.conn c)).sendAcks c (s.conn c).rdma).settle := by
  unfold State.onConnect State.sendAcks
  dsimp only
  rw [if_neg (not_not.mpr halive), State.onFrame_heard halive rfl hheard]
  by_cases hrdma : (s.conn c).rdma = true
  · rw [if_pos hrdma, if_pos hrdma]
  · obtain ⟨htls, hic⟩ := hready.resolve_left hrdma
    have hlacks : u.tlsLacks (s.conn c) = false := by simp [State.tlsLacks, hic]
    rw [if_neg hrdma, if_neg hrdma, if_neg htls, if_neg (by simp [hlacks]), if_neg (not_not.mpr hic)]

/-! ### The queue that a Connect makes (R82) -/

/-- The queue's context: the Connect took its first entry. -/
def State.newQueue (s : State) (c cntlid slice qid sqsize : Nat) : Queue :=
  { valid := true, cntlid, rdma := (s.conn c).rdma, link := (s.conn c).link, conn := c, slice, qid, sqsize,
    sqhd := 1 % (sqsize + 1), posted := 1 }

section
variable (s : State) (c key cid cntlid slice qid sqsize : Nat) (kind : ConnKind)

/-- The queue and its connection are joined, and the Connect answered. -/
def State.queueJoined : State :=
  (({ s with queues := s.queues.set key (s.newQueue c cntlid slice qid sqsize) } : State).modConn c fun x =>
    { x with kind, connected := true, cntlid, qid, queue := key, slice, bufs := sqsize + 1 }).send .completion c
      [cid, 1 % (sqsize + 1), 0, 0, cntlid, 0]

theorem State.queueJoined_queues : (s.queueJoined c key cid cntlid slice qid sqsize kind).queues =
    s.queues.set key (s.newQueue c cntlid slice qid sqsize) := rfl

theorem State.queueMake_eq : s.queueMake c key cid cntlid slice qid sqsize kind =
    ((s.queueJoined c key cid cntlid slice qid sqsize kind).bpConn c).tcpAcksOf c := rfl

theorem State.core_queueMake : (s.queueMake c key cid cntlid slice qid sqsize kind).core =
    (s.queueJoined c key cid cntlid slice qid sqsize kind).core :=
  (State.keeps_ite rfl (State.core_tcpAcks ..)).trans (State.core_bpConn ..)

theorem Conn.Steady.queueMake {β : Type} {p : Conn → β} (hp : Conn.Steady p) :
    p ((s.queueMake c key cid cntlid slice qid sqsize kind).conn c) =
      p { s.conn c with kind, connected := true, cntlid, qid, queue := key, slice, bufs := sqsize + 1 } := by
  rw [State.queueMake_eq, hp.tcpAcksOf, hp.bpConn]
  refine (State.conn_send hp.sent _ _ _ _ _ none none _).trans ?_
  rw [State.conn_modConn_same]

theorem State.sent_queueMake : (s.queueMake c key cid cntlid slice qid sqsize kind).Sent .completion c
    [cid, 1 % (sqsize + 1), 0, 0, cntlid, 0] [] :=
  ((State.sent_send ..).mono (State.msgs_bpConn ..)).mono (State.msgs_tcpAcksOf ..)

/-- What stands at the end of a Connect that made a queue: the queue, its connection, the controllers, and the response. -/
theorem State.queueMake_settle (rdma : Bool) {t : State}
    (ht : t = ((s.queueMake c key cid cntlid slice qid sqsize kind).sendAcks c rdma).settle) :
    t.queue key = s.newQueue c cntlid slice qid sqsize ∧ t.ctrls = s.ctrls ∧
      ((t.conn c).connected = true ∧ (t.conn c).kind = kind ∧ (t.conn c).queue = key) ∧
      t.Sent .completion c [cid, 1 % (sqsize + 1), 0, 0, cntlid, 0] [] := by
  subst ht
  have hcore := (State.core_sendAcks (s.queueMake c key cid cntlid slice qid sqsize kind) c rdma).trans (State.core_queueMake ..)
  have hconn : ∀ {β : Type} {p : Conn → β}, Conn.Steady p →
      p (((s.queueMake c key cid cntlid slice qid sqsize kind).sendAcks c rdma).settle.conn c) =
        p { s.conn c with kind, connected := true, cntlid, qid, queue := key, slice, bufs := sqsize + 1 } := by
    intro β p hp
    rw [State.settle_conn, hp.sendAcks, hp.queueMake]
  refine ⟨?_, ?_, ⟨hconn ⟨fun _ _ => rfl, fun _ _ => rfl, fun _ _ => rfl⟩, hconn ⟨fun _ _ => rfl, fun _ _ => rfl, fun _ _ => rfl⟩,
    hconn ⟨fun _ _ => rfl, fun _ _ => rfl, fun _ _ => rfl⟩⟩, ((State.sent_queueMake ..).mono (State.msgs_sendAcks ..)).settle⟩
  · rw [State.queue, State.settle_queues, State.queues_of_core hcore, State.queueJoined_queues]
    exact Tab.getD_setD_same ..
  · rw [State.settle_ctrls, State.ctrls_of_core hcore]
    rfl

end

/-! ### Admin Connect (R82, R134) -/

/-- The controller that a Connect without a Voxbel block makes. -/
def State.newCtrl (u : State) (c n : Nat) (r : ConnectReq) : Ctrl :=
  { alive := true, slice := n, hostnqn := r.hostnqn, hostid := r.hostid, subnqn := r.subnqn, vx := r.vx, vxVer := 0, vxFeat := 0,
    rdma := (u.conn c).rdma, adminConn := c, katoMs := r.katoMs }

theorem State.ctrl_of_ctrlMake {u t : State} {k : Nat} {x : Ctrl} (h : t.ctrls = (u.ctrlMake k x).ctrls) : t.ctrl k = x := by
  have hset : t.ctrls = u.ctrls.set k x := h
  rw [State.ctrl, hset]
  exact Tab.getD_setD_same ..

section
variable {c i : Nat} {r : ConnectReq} {rx : RxFrame} {s u : State}

theorem exec_connectAdmin (halive : (s.conn c).alive = true) (hheard : s.Heard c rx u) (hqid : r.qid = 0)
    (hready : (s.conn c).Ready) (hcon : (s.conn c).connected = false) (hkind : (s.conn c).kind ≠ .disc)
    (hdisc : ¬ ((s.conn c).rdma = true ∧ r.discovery = true)) :
    exec (.connectAdmin c i ⟨r, rx⟩) s = .next ((u.connectNvm c i r).sendAcks c (s.conn c).rdma).settle := by
  show execConnectAdmin c i ⟨r, rx⟩ s = _
  unfold execConnectAdmin
  rw [if_neg (not_not.mpr hqid), State.onConnect_heard halive hheard hready, if_neg (by simp [hcon]),
    if_neg (not_or.mpr ⟨hkind, hdisc⟩)]

theorem State.connectNvm_sqsize (h : r.sqsize = 0 ∨ 15 < r.sqsize) :
    u.connectNvm c i r = u.connectResp c i 0x182 44 := if_pos (by omega)

/-- A Connect that binds makes its controller and the controller's admin queue (R134). -/
theorem State.connectNvm_binds {n k q : Nat} (hlo : 1 ≤ r.sqsize) (hhi : r.sqsize ≤ 15) (hvx : vxPresent r.vx = false)
    (hkatoLo : 1000 ≤ r.katoMs) (hkatoHi : r.katoMs ≤ 3600000) (hbind : u.bindSlice r 0 = .ok n)
    (hq : q = firstFree adminBase u.queues) (hk : k = u.freeCntlid 0) (hkey : q < adminBase + 4096) (hcntlid : k < 4096) :
    u.connectNvm c i r = (u.ctrlMake k (u.newCtrl c n r)).queueMake c q i k n 0 r.sqsize .admin := by
  unfold State.connectNvm
  simp only [hvx, Bool.false_eq_true, false_and, if_false]
  rw [if_neg (not_not.mpr ⟨hlo, hhi⟩), if_neg (by omega), hbind, ← hq, ← hk]
  exact if_neg (by omega)

end

theorem connectAdmin_binds (c i n k q : Nat) (r : ConnectReq) (rx : RxFrame) (s u : State) (halive : (s.conn c).alive = true)
    (hheard : s.Heard c rx u) (hqid : r.qid = 0) (hready : (s.conn c).Ready) (_ : u.conn c = s.conn c)
    (hcon : (s.conn c).connected = false) (hkind : (s.conn c).kind ≠ .disc) (hdisc : ¬ ((s.conn c).rdma = true ∧ r.discovery = true))
    (hlo : 1 ≤ r.sqsize) (hhi : r.sqsize ≤ 15) (hvx : vxPresent r.vx = false) (hkatoLo : 1000 ≤ r.katoMs)
    (hkatoHi : r.katoMs ≤ 3600000) (hbind : u.bindSlice r 0 = .ok n) (hq : q = firstFree adminBase u.queues)
    (hk : k = u.freeCntlid 0) (hkey : q < adminBase + 4096) (hcntlid : k < 4096) :
    ∃ t, exec (.connectAdmin c i ⟨r, rx⟩) s = .next t ∧ (t.ctrl k).alive = true ∧ (t.ctrl k).slice = n ∧ (t.ctrl k).katoMs = r.katoMs ∧
      (t.conn c).connected = true ∧ (t.conn c).kind = .admin ∧ (t.queue q).valid = true ∧ (t.queue q).sqsize = r.sqsize ∧
      t.Sent .completion c [i, 1 % (r.sqsize + 1), 0, 0, k, 0] [] := by
  have hexec := exec_connectAdmin (i := i) halive hheard hqid hready hcon hkind hdisc
  rw [State.connectNvm_binds hlo hhi hvx hkatoLo hkatoHi hbind hq hk hkey hcntlid] at hexec
  obtain ⟨hqueue, hctrls, ⟨hjoined, hadmin, -⟩, hsent⟩ :=
    (u.ctrlMake k (u.newCtrl c n r)).queueMake_settle c q i k n 0 r.sqsize .admin (s.conn c).rdma rfl
  refine ⟨_, hexec, ?_⟩
  rw [State.ctrl_of_ctrlMake hctrls, hqueue]
  exact ⟨rfl, rfl, rfl, hjoined, hadmin, rfl, rfl, hsent⟩

/-- A response on a connection without a queue changes no controller and no queue. -/
theorem State.connectResp_settle (u : State) (c i status dw0 : Nat) (rdma : Bool) {t : State}
    (ht : t = ((u.connectResp c i status dw0).sendAcks c rdma).settle) :
    t.Sent .completion c [i, 0, status, b2n (dnrOf status), dw0, 0] [] ∧ t.ctrls = u.ctrls ∧ t.queues = u.queues := by
  subst ht
  have hcore := State.core_sendAcks (u.connectResp c i status dw0) c rdma
  rw [State.settle_ctrls, State.settle_queues, State.ctrls_of_core hcore, State.queues_of_core hcore]
  exact ⟨((State.sent_send ..).mono (State.msgs_sendAcks ..)).settle, rfl, rfl⟩

theorem connectAdmin_sqsize (c i : Nat) (r : ConnectReq) (rx : RxFrame) (s u : State) (halive : (s.conn c).alive = true)
    (hheard : s.Heard c rx u) (hqid : r.qid = 0) (hready : (s.conn c).Ready) (_ : u.conn c = s.conn c)
    (hcon : (s.conn c).connected = false) (hkind : (s.conn c).kind ≠ .disc) (hdisc : ¬ ((s.conn c).rdma = true ∧ r.discovery = true))
    (hsize : r.sqsize = 0 ∨ 15 < r.sqsize) :
    ∃ t, exec (.connectAdmin c i ⟨r, rx⟩) s = .next t ∧ t.Sent .completion c [i, 0, 0x182, 1, 44, 0] [] ∧ t.ctrls = u.ctrls ∧
      t.queues = u.queues := by
  have hexec := exec_connectAdmin (i := i) halive hheard hqid hready hcon hkind hdisc
  rw [State.connectNvm_sqsize hsize] at hexec
  exact ⟨_, hexec, State.connectResp_settle u c i 0x182 44 _ rfl⟩

/-! ### I/O Connect (R481) -/

theorem exec_connectIo {c i : Nat} {r : ConnectReq} {rx : RxFrame} {s u : State} (halive : (s.conn c).alive = true)
    (hheard : s.Heard c rx u) (hqid : 1 ≤ r.qid) (hready : (s.conn c).Ready) (hcon : (s.conn c).connected = false)
    (hkind : (s.conn c).kind ≠ .disc) :
    exec (.connectIo c i ⟨r, rx⟩) s = .next ((u.connectIo c i r).sendAcks c (s.conn c).rdma).settle := by
  show execConnectIo c i ⟨r, rx⟩ s = _
  unfold execConnectIo
  rw [if_neg (by simp; omega), State.onConnect_heard halive hheard hready, if_neg (by simp [hcon]), if_neg hkind]

/-- An I/O Connect that passes the checks of R481 makes a queue of its controller's slice. -/
theorem State.connectIo_makes {c i : Nat} {r : ConnectReq} {u : State} (hctrl : (u.ctrl r.cntlid).alive = true)
    (hnvm : (u.ctrl r.cntlid).disc = false) (hids : idsDiff (u.ctrl r.cntlid) r = none)
    (hlive : (u.sl (u.ctrl r.cntlid).slice).st = 1) (hvx : vxPresent r.vx = false) (hlo : 15 ≤ r.sqsize)
    (hhi : r.sqsize ≤ u.f R.RC_CFG_IOQ_MQES) (hqid : r.qid ≤ 1024) (hfree : u.qidUsed r.cntlid r.qid = false)
    (hquota : u.qUsed (u.ctrl r.cntlid).slice < (u.cfg (u.ctrl r.cntlid).slice).qQuota) (hkey : firstFree 0 u.queues < 16384)
    (hroom : u.conns.count (fun _ (x : Conn) => x.alive && x.kind == .io) < 16384) :
    u.connectIo c i r =
      u.queueMake c (firstFree 0 u.queues) i r.cntlid (u.ctrl r.cntlid).slice r.qid r.sqsize .io := by
  unfold State.connectIo
  simp only [hctrl, hnvm, hids, hlive, hvx]
  rw [if_neg (by simp), if_neg (by decide), if_neg (by decide), if_neg Bool.false_ne_true]
  dsimp only
  rw [if_neg (by omega), if_neg (by simp [hfree, hqid]), if_neg (by omega), if_neg (by omega)]

theorem connectIo_binds (c i q : Nat) (r : ConnectReq) (rx : RxFrame) (s u : State) (halive : (s.conn c).alive = true)
    (hheard : s.Heard c rx u) (hqidLo : 1 ≤ r.qid) (hqidHi : r.qid ≤ 1024) (hready : (s.conn c).Ready)
    (_ : u.conn c = s.conn c) (hcon : (s.conn c).connected = false) (hkind : (s.conn c).kind ≠ .disc) (hctrl : (u.ctrl r.cntlid).alive = true)
    (hnvm : (u.ctrl r.cntlid).disc = false) (hids : idsDiff (u.ctrl r.cntlid) r = none)
    (hlive : (u.sl (u.ctrl r.cntlid).slice).st = 1) (hvx : vxPresent r.vx = false) (hlo : 15 ≤ r.sqsize)
    (hhi : r.sqsize ≤ u.f R.RC_CFG_IOQ_MQES) (hfree : u.qidUsed r.cntlid r.qid = false)
    (hquota : u.qUsed (u.ctrl r.cntlid).slice < (u.cfg (u.ctrl r.cntlid).slice).qQuota) (hq : q = firstFree 0 u.queues)
    (hkey : q < 16384) (hroom : u.conns.count (fun _ (x : Conn) => x.alive && x.kind == .io) < 16384) :
    ∃ t, exec (.connectIo c i ⟨r, rx⟩) s = .next t ∧ (t.queue q).valid = true ∧ (t.queue q).cntlid = r.cntlid ∧
      (t.queue q).qid = r.qid ∧ (t.queue q).slice = (u.ctrl r.cntlid).slice ∧ (t.conn c).kind = .io ∧ (t.conn c).queue = q ∧
      t.Sent .completion c [i, 1 % (r.sqsize + 1), 0, 0, r.cntlid, 0] [] := by
  subst hq
  have hexec := exec_connectIo (i := i) halive hheard hqidLo hready hcon hkind
  rw [State.connectIo_makes hctrl hnvm hids hlive hvx hlo hhi hqidHi hfree hquota hkey hroom] at hexec
  obtain ⟨hqueue, -, ⟨-, hio, hjoined⟩, hsent⟩ := u.queueMake_settle c (firstFree 0 u.queues) i r.cntlid
    (u.ctrl r.cntlid).slice r.qid r.sqsize .io (s.conn c).rdma rfl
  refine ⟨_, hexec, ?_⟩
  rw [hqueue]
  exact ⟨rfl, rfl, rfl, rfl, hio, hjoined, hsent⟩

/-- Settles O28: an admin Connect that binds, one with a wrong SQSIZE, and an I/O Connect that passes its checks. -/
theorem connectBinds : Obligations.ConnectBinds :=
  ⟨connectAdmin_binds, connectAdmin_sqsize, connectIo_binds⟩

end Sys2Proof.Machine
end

section
/-! SUPPORT. The slots of the Hopper as they are granted and taken (R120, R121, R128). -/

namespace Sys2Proof.Machine

/-! ### Descriptors after a change -/

section
variable (s : State) (n : Nat)

theorem State.slot_settle : s.settle.slot n = s.slot n := by rw [State.slot, State.settle_hop]

theorem State.cmd_settle : s.settle.cmd n = s.cmd n := by rw [State.cmd, State.settle_cmds]

theorem State.slot_modSlot_same (f : Slot → Slot) : (s.modSlot n f).slot n = f (s.slot n) := Tab.getD_setD_same ..

theorem State.slot_modSlot_other (f : Slot → Slot) {j : Nat} (h : j ≠ n) : (s.modSlot n f).slot j = s.slot j :=
  Tab.getD_setD_other _ _ _ _ _ _ h

theorem State.send_slot (kind : MK) (dst : Nat) (args data : List Nat) (slot : Option SlotTx) (link : Option Nat) :
    (s.send kind dst args data slot link).slot n = s.slot n := rfl

theorem State.send_cmd (kind : MK) (dst : Nat) (args data : List Nat) (slot : Option SlotTx) (link : Option Nat) :
    (s.send kind dst args data slot link).cmd n = s.cmd n := rfl

/-- The descriptor that a taken slot gets (R111). -/
theorem State.slot_takeSlot (st : SlotState) (c len : Nat) : (s.takeSlot n st c len).slot n =
    { state := st, epoch := (s.sl (s.cmd c).slice).epoch, slice := (s.cmd c).slice, length := len, cmd := c,
      offset := (s.cmd c).cut, conn := (s.cmd c).conn } := Tab.getD_setD_same ..

theorem State.cmd_takeSlot (st : SlotState) (c len : Nat) :
    (s.takeSlot n st c len).cmd c = { s.cmd c with cut := (s.cmd c).cut + len } := Tab.getD_setD_same ..

end

/-! ### A write's next request (R120) -/

section
variable (s : State) (c : Nat)

/-- A request that joins its queue changes the write queues and the command table alone. -/
theorem State.placeWant_eq :
    s.placeWant c = { s with hop := { s.hop with wq := (s.placeWant c).hop.wq }, cmds := (s.placeWant c).cmds } := by
  unfold State.placeWant
  dsimp only
  split <;> rfl

theorem State.cut_placeWant : ((s.placeWant c).cmd c).cut = (s.cmd c).cut := by
  refine State.keeps_ite (p := fun t => (t.cmd c).cut) ?_ rfl
  exact (congrArg Cmd.cut (State.cmd_modCmd_same _ c _)).trans rfl

end

/-! ### The head write of a slice is granted (R115, R120, Table 04-5) -/

/-- The head write of slice n has left its queue and holds slot k, of which its host is still to hear. -/
def State.writeTaken (s : State) (n c k len : Nat) : State :=
  ({ s with hop.wq := s.hop.wq.mod n List.tail, hop.lastW := n }.modCmd c fun x => { x with want := false }).takeSlot k .granted c len

section
variable (s : State) (n c k len : Nat)

theorem State.slot_writeTaken : (s.writeTaken n c k len).slot k =
    { state := .granted, epoch := (s.sl (s.cmd c).slice).epoch, slice := (s.cmd c).slice, length := len, cmd := c,
      offset := (s.cmd c).cut, conn := (s.cmd c).conn } := by
  unfold State.writeTaken
  rw [State.slot_takeSlot, State.cmd_modCmd_same]
  rfl

theorem State.cmd_writeTaken :
    (s.writeTaken n c k len).cmd c = { s.cmd c with want := false, cut := (s.cmd c).cut + len } := by
  unfold State.writeTaken
  rw [State.cmd_takeSlot, State.cmd_modCmd_same]

/-- On TCP a granted slot is told to the host by an R2T (R115). -/
theorem State.sendGrant_writeTaken (htcp : (s.conn (s.cmd c).conn).rdma = false) :
    (s.writeTaken n c k len).sendGrant k = (s.writeTaken n c k len).send .r2t (s.cmd c).conn
      [(s.cmd c).sqe.cid, ttagOf k (s.sl (s.cmd c).slice).epoch, (s.cmd c).cut, len] := by
  have hconn : (s.writeTaken n c k len).conn (s.cmd c).conn = s.conn (s.cmd c).conn := rfl
  unfold State.sendGrant
  dsimp only
  rw [State.slot_writeTaken, State.cmd_writeTaken, hconn, htcp]
  exact if_pos Bool.false_ne_true

end

section
variable {s : State} {n c k len : Nat} (hhead : s.writeHead n = some (c, k, len))
include hhead

theorem State.grantWrite_transport (hsgl : (s.cmd c).sqe.sgl = .transport) :
    s.grantWrite n = ((s.writeTaken n c k len).sendGrant k).placeWant c := by
  unfold State.grantWrite State.writeTaken
  rw [hhead]
  dsimp only
  rw [if_neg (by simp [hsgl])]

/-- The slice whose turn it is gets its grant. -/
theorem exec_slotGrant (hturn : nextRound (s.hop.wq.map Prod.fst) s.hop.lastW (fun j => (s.writeHead j).isSome) = some n) :
    exec (.slotGrant n) s = .next (s.grantWrite n).settle := by
  have hnow : s.writeTurn n = some (s.grantWrite n) := by
    unfold State.writeTurn
    dsimp only
    rw [hturn]
    exact if_neg fun h => h.1 rfl
  show execSlotGrant n s = _
  unfold execSlotGrant
  rw [if_neg (by simp [hhead]), hnow]
  rfl

end

theorem slotGrant_grants (n c k len : Nat) (s : State) (hhead : s.writeHead n = some (c, k, len))
    (_ : (s.hop.wq.get n).head? = some c)
    (hturn : nextRound (s.hop.wq.map Prod.fst) s.hop.lastW (fun j => (s.writeHead j).isSome) = some n)
    (hsgl : (s.cmd c).sqe.sgl = .transport) (htcp : (s.conn (s.cmd c).conn).rdma = false) :
    ∃ t, exec (.slotGrant n) s = .next t ∧ (t.slot k).state = .granted ∧ (t.slot k).length = len ∧ (t.slot k).cmd = c ∧
      (t.slot k).offset = (s.cmd c).cut ∧ (t.slot k).slice = (s.cmd c).slice ∧ (t.slot k).conn = (s.cmd c).conn ∧
      (t.slot k).epoch = (s.sl (s.cmd c).slice).epoch ∧ (t.cmd c).cut = (s.cmd c).cut + len ∧ t.hop.lastW = n ∧
      t.Sent .r2t (s.cmd c).conn [(s.cmd c).sqe.cid, ttagOf k (s.sl (s.cmd c).slice).epoch, (s.cmd c).cut, len] [] ∧
      t.media = s.media ∧ t.per = s.per := by
  have hexec := exec_slotGrant hhead hturn
  rw [State.grantWrite_transport hhead hsgl, State.sendGrant_writeTaken _ _ _ _ _ htcp] at hexec
  have hslot : ∀ u : State, (u.placeWant c).settle.slot k = u.slot k := fun u => by rw [State.slot_settle, State.placeWant_eq]
  refine ⟨_, hexec, ?_⟩
  rw [hslot, State.cmd_settle, State.cut_placeWant, State.send_slot, State.slot_writeTaken, State.send_cmd, State.cmd_writeTaken]
  refine ⟨rfl, rfl, rfl, rfl, rfl, rfl, rfl, rfl, ?_, ?_, ?_, ?_⟩
  · rw [State.settle_hop, State.placeWant_eq]
    rfl
  · refine State.Sent.settle ?_
    rw [State.placeWant_eq]
    exact State.sent_send ..
  · rw [State.settle_media, State.placeWant_eq]
    rfl
  · rw [State.settle_per, State.placeWant_eq]
    rfl

/-! ### The head read of a slice takes its slots, or waits for them (R121, R128) -/

theorem readSlotsTake_starts (n c : Nat) (l : List SramErr) (u s : State) (hhead : s.readHead n = some (c, u))
    (hturn : nextRound (s.hop.rq.map Prod.fst) s.hop.lastR (fun j => (s.readHead j).isSome) = some n) :
    exec (.readSlotsTake ⟨n, l⟩) s = .next (u.readStart n c l).settle := by
  have hnow : s.readTurn n l = some (u.readStart n c l) := by
    unfold State.readTurn
    rw [hhead]
    dsimp only
    rw [hturn]
    exact if_neg fun h => h.1 rfl
  show execReadSlotsTake ⟨n, l⟩ s = _
  unfold execReadSlotsTake
  rw [hnow]
  rfl

/-- A read that has waited 100 µs, numbered in the order of those that have (R128). -/
def State.readAges (s : State) (c : Nat) : State :=
  if (s.cmd c).aged then s
  else { s with hop.nextAge := s.hop.nextAge + 1 }.modCmd c fun x => { x with aged := true, agedAt := s.hop.nextAge }

section
variable (s : State) (c : Nat)

theorem State.aged_readAges : ((s.readAges c).cmd c).aged = true := by
  unfold State.readAges
  split
  · assumption
  · rw [State.cmd_modCmd_same]

theorem State.readAges_hop : (s.readAges c).hop = { s.hop with nextAge := (s.readAges c).hop.nextAge } := by
  unfold State.readAges
  split <;> rfl

end

theorem readReserveTimer_reserves (n c : Nat) (r : List Nat) (s : State) (hrq : s.hop.rq.get n = c :: r)
    (hnone : s.hop.reserve = none) :
    ∃ t, exec (.readReserveTimer n) s = .next t ∧ t.hop.reserve = some c ∧ t.f R.HP_EVT_READ_RESERVE = 1 ∧ (t.cmd c).aged = true ∧
      t.hop.slots = s.hop.slots ∧ t.hop.rq = s.hop.rq := by
  have hexec : exec (.readReserveTimer n) s =
      .next (({ s.readAges c with hop.reserve := some c }).raise R.HP_EVT_READ_RESERVE n).settle := by
    have hfree : (s.readAges c).hop.reserve.isSome = false := by rw [State.readAges_hop, hnone]; rfl
    show execReadReserveTimer n s = _
    unfold execReadReserveTimer
    rw [hrq]
    exact if_neg (ne_true_of_eq_false hfree)
  refine ⟨_, hexec, ?_⟩
  rw [State.settle_hop, State.cmd_settle, State.f_settle _ _ _ _ (by decide) (by decide), State.f_raise_same]
  refine ⟨rfl, by decide, State.aged_readAges s c, ?_, ?_⟩
  · show (s.readAges c).hop.slots = _
    rw [State.readAges_hop]
  · show (s.readAges c).hop.rq = _
    rw [State.readAges_hop]

/-- Settles O40: a write at its turn, a read at its turn, and a read that has waited too long. -/
theorem slotsAreTaken : Obligations.SlotsAreTaken :=
  ⟨slotGrant_grants, readSlotsTake_starts, readReserveTimer_reserves⟩

end Sys2Proof.Machine
end

section
/-! SUPPORT. The reset and the deletion of a slice (R125, R131, R147, Table 05-9). -/

namespace Sys2Proof.Machine

/-! ### Every entry of a table changed -/

/-- What the default satisfies and the change brings about, every entry of the changed table satisfies. -/
theorem Tab.getD_mapAll {α : Type} [Inhabited α] [DecidableEq α] {P : α → Prop} {f : Nat → α → α} (hdef : P default)
    (hf : ∀ j v, P (f j v)) (t : Tab α) (k : Nat) : P ((t.mapAll f).get k) := by
  induction t with
  | nil => exact hdef
  | cons e r ih =>
    obtain ⟨j, v⟩ := e
    by_cases hv : f j v = default
    · simpa [Tab.mapAll, hv] using ih
    · by_cases hj : j = k
      · subst hj
        simpa [Tab.mapAll, Tab.getD, hv] using hf j v
      · simpa [Tab.mapAll, Tab.getD, hv, hj] using ih

/-! ### Slices that follow (R61, R73, R141) -/

/-- What a Sluice, the token buckets and the start of the loop leave of a slice: its state, its epoch, its causes and its resets. -/
def Slice.stand (x : Slice) : Nat × Nat × Nat × Nat := (x.st, x.epoch, x.cause, x.resets)

section
variable (s : State) (n : Nat)

theorem State.sl_modSl (f : Slice → Slice) : (s.modSl n f).sl n = f (s.sl n) := Tab.getD_setD_same ..

theorem State.sl_settle : s.settle.sl n = s.sl n := by rw [State.sl, State.settle_slices]

theorem State.sl_raise (F : R.Fld) (p1 p2 p3 i : Nat) : (s.raise F p1 p2 p3 i).sl n = s.sl n := rfl

theorem State.sl_fence (m : Nat) : (s.fence m).sl n = s.sl n := rfl

theorem State.stand_modSl {f : Slice → Slice} (h : ∀ x, (f x).stand = x.stand) : ((s.modSl n f).sl n).stand = (s.sl n).stand := by
  rw [State.sl_modSl, h]

theorem State.core_bpAll : s.bpAll.core = s.core := State.keeps_foldl State.core_bpConn _ _

theorem State.sl_bpAll : s.bpAll.sl n = s.sl n := show s.bpAll.core.sl n = s.core.sl n from congrArg (State.sl · n) s.core_bpAll

theorem State.bpAll_keys : s.bpAll.keys = s.keys := show s.bpAll.core.keys = s.core.keys from congrArg State.keys s.core_bpAll

theorem State.stand_sluiceSync : ((s.sluiceSync n).sl n).stand = (s.sl n).stand := by
  unfold State.sluiceSync
  dsimp only
  rw [State.sl_bpAll]
  exact State.keeps_ite (p := fun t => (t.sl n).stand) (State.stand_modSl _ _ fun _ => rfl)
    (State.keeps_ite (p := fun t => (t.sl n).stand) (State.stand_modSl _ _ fun _ => rfl) rfl)

theorem State.sluiceSync_hop : (s.sluiceSync n).hop = s.hop := by
  unfold State.sluiceSync
  refine (show _ = State.hop (State.core _) from congrArg State.hop (State.core_bpAll _)).trans ?_
  exact State.keeps_ite (p := State.hop) rfl (State.keeps_ite (p := State.hop) rfl rfl)

theorem State.stand_sliceLoopStart : ((s.sliceLoopStart n).sl n).stand = (s.sl n).stand := State.stand_modSl _ _ fun _ => rfl

theorem State.stand_tokensFull : ((s.tokensFull n).sl n).stand = (s.sl n).stand := State.stand_modSl _ _ fun _ => rfl

variable (old : State)

theorem State.bed_discSync : (s.discSync old).bed = s.bed :=
  State.keeps_discSync (p := State.bed) (fun _ _ => rfl) (fun _ _ _ => rfl) State.bed_asyncEvent s old

theorem State.sl_discSync : (s.discSync old).sl n = s.sl n :=
  show (s.discSync old).bed.sl n = s.bed.sl n from congrArg (State.sl · n) (State.bed_discSync ..)

theorem State.discSync_keys : (s.discSync old).keys = s.keys :=
  show (s.discSync old).bed.keys = s.bed.keys from congrArg State.keys (State.bed_discSync ..)

end

/-! ### A record of a slice leaves its slots and what is in use (R132) -/

/-- The slices that the Logbook holds as in use. -/
def State.inUse (s : State) : Tab Bool := s.per.slUsed

theorem State.inUse_withMedia (s : State) (m : Media) : { s with media := m }.inUse = s.inUse := rfl
theorem State.inUse_addJob (s : State) (j : Job) : (s.addJob j).inUse = s.inUse := rfl
theorem State.inUse_pushRec (s : State) (kind : RecKind) (obj : Nat) (body : List Nat) : (s.pushRec kind obj body).inUse = s.inUse := rfl

/-- A Logbook shell is opened where it was Erased. -/
theorem State.inUse_logOpen (s : State) (c : Prop) [Decidable c] (x : Nat) :
    (if c then { s.openShell x 4 0 true with per.logPos := x + 1 } else s).inUse = s.inUse := by
  have hopen : (s.openShell x 4 0 true).inUse = s.inUse := State.keeps_ite (p := State.inUse) rfl rfl
  exact State.keeps_ite (p := State.inUse) hopen rfl

theorem State.inUse_tailOut (s : State) : s.tailOut.inUse = s.inUse := by
  unfold State.tailOut
  split
  · rfl
  · refine State.keeps_ite (p := State.inUse) rfl (State.keeps_ite (p := State.inUse) ((State.inUse_pushRec ..).trans ?_) ?_)
    all_goals
      refine (State.inUse_withMedia _ _).trans ((State.inUse_addJob _ _).trans ((State.inUse_logOpen _ _ _).trans ?_))
      exact State.keeps_ite (p := State.inUse) rfl (State.inUse_withMedia _ _)

theorem State.inUse_recordB (s : State) (kind : RecKind) (obj : Nat) (body : List Nat) : (s.recordB kind obj body).inUse = s.inUse :=
  State.keeps_ite (p := State.inUse) (State.inUse_tailOut s) rfl

section
variable (s : State) (n : Nat)

theorem State.inUse_recordSlice : (s.recordSlice n).inUse = s.inUse := by
  unfold State.recordSlice State.recordCfg
  exact State.inUse_recordB ..

theorem State.recordSlice_hop : (s.recordSlice n).hop = s.hop :=
  show (s.recordSlice n).front.hop = s.front.hop from congrArg State.hop (State.front_recordB ..)

end

/-! ### A reset begins (R125, R133, R147) -/

theorem State.lastMgmt_of_plain {s : State} {n : Nat} (hcfg : (s.cfg n).mgmt = false) (hnext : (s.nextCfg n).mgmt = false) :
    s.lastMgmt n = false := by
  simp [State.lastMgmt, hcfg, hnext]

section
variable {s : State} {n : Nat} (st : Nat)

theorem State.resetBegin_of_fenced (h : s.fenced n ≠ []) : s.resetBegin n st =
    ((s.modSl n fun x => { x with st := st }).modSl n fun x => { x with fenceWait := true }).raise R.HP_EVT_EPOCH_HOLD n :=
  if_neg fun he => h (List.isEmpty_iff.mp he)

theorem State.resetBegin_of_free (h : s.fenced n = []) :
    s.resetBegin n st = ((s.modSl n fun x => { x with st := st }).resetFence n).resetDrop n :=
  if_pos (List.isEmpty_iff.mpr h)

end

section
variable {p : Path} {s : State} (hup : s.slicesUp = true) (hst : (s.sl (s.tidx p)).st = 1) (hcfg : (s.cfg (s.tidx p)).mgmt = false)
  (hnext : (s.nextCfg (s.tidx p)).mgmt = false)
include hup hst hcfg hnext

theorem exec_slReset : exec (.slReset p) s =
    .next (((s.setF R.SL_TCMD_RESULT 0).resetBegin (s.tidx p) 2).discSync s).settle := by
  show execSlReset p s = _
  simp [execSlReset, State.tcmd, hup, hst, State.lastMgmt_of_plain hcfg hnext, done]

/-- A slice that is deleted is recorded as in use no more first (R131). -/
theorem exec_slDelete (hns : s.per.ns.any (fun (_, x) => x.alive && x.owner == s.tidx p) = false) : exec (.slDelete p) s =
    .next ((((({ s with per.slUsed := s.per.slUsed.set (s.tidx p) false } : State).recordSlice (s.tidx p)).setF
      R.SL_TCMD_RESULT 0).resetBegin (s.tidx p) 3).discSync s).settle := by
  show execSlDelete p s = _
  simp [execSlDelete, State.tcmd, hup, hst, State.lastMgmt_of_plain hcfg hnext, hns, done]

end

theorem slReset_held (p : Path) (s : State) (hup : s.slicesUp = true) (hst : (s.sl (s.tidx p)).st = 1)
    (hcfg : (s.cfg (s.tidx p)).mgmt = false) (hnext : (s.nextCfg (s.tidx p)).mgmt = false) (hfenced : s.fenced (s.tidx p) ≠ []) :
    ∃ t, exec (.slReset p) s = .next t ∧ (t.sl (s.tidx p)).st = 2 ∧ (t.sl (s.tidx p)).fenceWait = true ∧
      t.f R.HP_EVT_EPOCH_HOLD = 1 ∧ (t.sl (s.tidx p)).epoch = (s.sl (s.tidx p)).epoch := by
  have hexec := exec_slReset hup hst hcfg hnext
  rw [State.resetBegin_of_fenced (s := s.setF R.SL_TCMD_RESULT 0) 2 hfenced] at hexec
  refine ⟨_, hexec, ?_⟩
  rw [State.sl_settle, State.sl_discSync, State.f_settle_of_free _ _ _ _ (by decide),
    State.f_discSync_other _ _ _ _ _ (by decide), State.f_raise_same, State.sl_raise, State.sl_modSl, State.sl_modSl]
  exact ⟨rfl, rfl, by decide, rfl⟩

theorem slReset_fences (p : Path) (s : State) (hup : s.slicesUp = true) (hst : (s.sl (s.tidx p)).st = 1)
    (hcfg : (s.cfg (s.tidx p)).mgmt = false) (hnext : (s.nextCfg (s.tidx p)).mgmt = false) (hfenced : s.fenced (s.tidx p) = []) :
    ∃ u : State, exec (.slReset p) s = .next (((u.resetFence (s.tidx p)).resetDrop (s.tidx p)).discSync s).settle ∧
      (u.sl (s.tidx p)).st = 2 ∧ u.f R.SL_TCMD_RESULT = 0 := by
  have hexec := exec_slReset hup hst hcfg hnext
  rw [State.resetBegin_of_free (s := s.setF R.SL_TCMD_RESULT 0) 2 hfenced] at hexec
  exact ⟨_, hexec, congrArg Slice.st (State.sl_modSl ..), State.f_setF_same s R.SL_TCMD_RESULT 0 0 0⟩

theorem slDelete_fences (p : Path) (s : State) (hup : s.slicesUp = true) (hst : (s.sl (s.tidx p)).st = 1)
    (hcfg : (s.cfg (s.tidx p)).mgmt = false) (hnext : (s.nextCfg (s.tidx p)).mgmt = false)
    (hns : s.per.ns.any (fun (_, x) => x.alive && x.owner == s.tidx p) = false) (hfenced : s.fenced (s.tidx p) = []) :
    ∃ u : State, exec (.slDelete p) s = .next (((u.resetFence (s.tidx p)).resetDrop (s.tidx p)).discSync s).settle ∧
      (u.sl (s.tidx p)).st = 3 ∧ u.f R.SL_TCMD_RESULT = 0 ∧ u.per.slUsed.get (s.tidx p) = false := by
  have hexec := exec_slDelete hup hst hcfg hnext hns
  generalize hw : ({ s with per.slUsed := s.per.slUsed.set (s.tidx p) false } : State).recordSlice (s.tidx p) = w at hexec
  have hhop : w.hop = s.hop := by rw [← hw, State.recordSlice_hop]
  have hused : w.inUse = s.per.slUsed.set (s.tidx p) false := by rw [← hw, State.inUse_recordSlice]; rfl
  have hfree : (w.setF R.SL_TCMD_RESULT 0).fenced (s.tidx p) = [] := by
    unfold State.fenced at hfenced ⊢
    rw [State.setF_hop, hhop]
    exact hfenced
  rw [State.resetBegin_of_free 3 hfree] at hexec
  refine ⟨_, hexec, congrArg Slice.st (State.sl_modSl ..), State.f_setF_same w R.SL_TCMD_RESULT 0 0 0, ?_⟩
  show w.inUse.get (s.tidx p) = false
  rw [hused]
  exact Tab.getD_setD_same ..

theorem resetFenceWaitEnd_fences (n : Nat) (s : State) (hwait : (s.sl n).fenceWait = true) (hfree : s.fenced n = []) :
    exec (.resetFenceWaitEnd n) s = .next ((s.resetFence n).resetDrop n).settle :=
  if_pos ⟨hwait, List.isEmpty_iff.mpr hfree⟩


/-! ### The fence (R124, R141) -/

/-- A slot of slice n serves nothing any more. -/
def Slot.Cut (n : Nat) (x : Slot) : Prop := x.slice = n → x.state = .fenced ∨ x.state = .free

theorem State.cut_fence (s : State) (n k : Nat) : ((s.fence n).slot k).Cut n := by
  unfold State.slot State.fence
  dsimp only
  refine Tab.getD_mapAll (P := Slot.Cut n) (fun _ => .inr rfl) (fun _ x => ?_) s.hop.slots k
  split
  · exact fun _ => .inl rfl
  · next h =>
    intro hn
    by_contra hne
    exact h ⟨hn, fun hf => hne (.inr hf), fun hf => hne (.inl hf)⟩

theorem resetFence_fences (n : Nat) (s : State) :
    ((s.resetFence n).sl n).epoch = ((s.sl n).epoch + 1) % 256 ∧ bit ((s.resetFence n).sl n).cause 2 = true ∧
      ∀ k, ((s.resetFence n).slot k).slice = n →
        ((s.resetFence n).slot k).state = .fenced ∨ ((s.resetFence n).slot k).state = .free := by
  have hstand : ((s.resetFence n).sl n).stand = ((s.sl n).st, ((s.sl n).epoch + 1) % 256, (s.sl n).cause ||| 4, (s.sl n).resets) := by
    unfold State.resetFence
    rw [State.stand_sluiceSync, State.sl_fence, State.sl_modSl]
    rfl
  obtain ⟨-, hepoch, hcause, -⟩ : _ ∧ ((s.resetFence n).sl n).epoch = _ ∧ ((s.resetFence n).sl n).cause = _ ∧ _ := by
    simpa [Slice.stand] using hstand
  refine ⟨hepoch, ?_, fun k => ?_⟩
  · rw [hcause]
    exact (Nat.testBit_or ..).trans (Bool.or_eq_true_iff.mpr (.inr (by decide)))
  · unfold State.resetFence
    dsimp only
    rw [State.slot, State.sluiceSync_hop]
    exact State.cut_fence _ n k

/-! ### Step 7 and the end (R131, R147) -/

theorem State.resetRelease_slices (s : State) (n : Nat) : (s.resetRelease n).slices = s.slices := by
  have hfree : ((s.fenced n).foldl State.freeSlotN s).reserveNext.afield = s.afield :=
    (State.afield_reserveNext _).trans (State.keeps_foldl (f := State.freeSlotN) (p := State.afield) (fun _ _ => rfl) _ _)
  exact show State.slices (State.afield _) = s.afield.slices from congrArg State.slices hfree

/-- Step 7: what the slice held is released, and its histograms are empty. -/
def State.resetEmptied (s : State) (n : Nat) : State :=
  let t := s.resetRelease n
  { t with gov.hist := t.gov.hist.filter fun (k, _) => k / 128 != n, gov.histNew := t.gov.histNew.filter fun (k, _) => k / 128 != n }

/-- Step 8: the slice is Active again. -/
def State.resetRestarted (s : State) (n : Nat) : State :=
  ((((s.resetEmptied n).modSl n fun x => { x with st := 1, cause := 0, resets := satInc 16 x.resets }).tokensFull n).sliceLoopStart
    n).sluiceSync n

/-- A slice that was deleted holds no key slot, no loop and no set (R131). -/
def State.resetUnused (s : State) (n : Nat) : State :=
  let t := s.resetEmptied n
  { t with
    keys := t.keys.mapAll fun _ (k : KeySlot) => if k.valid ∧ k.slice = n then {} else k,
    gov.loops := t.gov.loops.set n {},
    per.slices := t.per.slices.set n {},
    per.slNext := t.per.slNext.set n {},
    per.hkeys := t.per.hkeys.set n 0,
    slices := t.slices.set n { epoch := (s.sl n).epoch } }

section
variable {n : Nat} {s : State} (hwait : (s.sl n).fenceWait = false) (hcause : bit (s.sl n).cause 2 = true) (hops : s.taggedOps n = 0)
include hwait hcause hops

theorem exec_taggedOpsZero_resetting (hst : (s.sl n).st = 2) :
    exec (.taggedOpsZero n) s = .next (((s.resetRestarted n).raise R.SL_EVT_RESET_DONE n).discSync s).settle := by
  show execTaggedOpsZero n s = _
  unfold execTaggedOpsZero
  rw [if_neg (by simp [hops]), if_neg (by simp [hwait]), if_pos ⟨.inl hst, hcause⟩]
  exact if_pos hst

theorem exec_taggedOpsZero_deleting (hst : (s.sl n).st = 3) :
    exec (.taggedOpsZero n) s = .next ((s.resetUnused n).bpAll.discSync s).settle := by
  show execTaggedOpsZero n s = _
  unfold execTaggedOpsZero
  rw [if_neg (by simp [hops]), if_neg (by simp [hwait]), if_pos ⟨.inr hst, hcause⟩]
  exact if_neg (by simp [hst])

end

theorem State.stand_resetRestarted (s : State) (n : Nat) :
    ((s.resetRestarted n).sl n).stand = (1, (s.sl n).epoch, 0, satInc 16 (s.sl n).resets) := by
  have hsl : (s.resetEmptied n).sl n = s.sl n := by
    show (s.resetRelease n).slices.get n = _
    rw [State.resetRelease_slices]
  unfold State.resetRestarted
  rw [State.stand_sluiceSync, State.stand_sliceLoopStart, State.stand_tokensFull, State.sl_modSl, hsl]
  rfl

theorem taggedOpsZero_restarts (n : Nat) (s : State) (hst : (s.sl n).st = 2) (hwait : (s.sl n).fenceWait = false)
    (hcause : bit (s.sl n).cause 2 = true) (hops : s.taggedOps n = 0) :
    ∃ t, exec (.taggedOpsZero n) s = .next t ∧ (t.sl n).st = 1 ∧ (t.sl n).cause = 0 ∧
      (t.sl n).resets = satInc 16 (s.sl n).resets ∧ t.f R.SL_EVT_RESET_DONE = 1 := by
  refine ⟨_, exec_taggedOpsZero_resetting hwait hcause hops hst, ?_⟩
  obtain ⟨hactive, -, hopen, hcount⟩ := by simpa [Slice.stand] using s.stand_resetRestarted n
  rw [State.sl_settle, State.sl_discSync, State.sl_raise, State.f_settle_of_free _ _ _ _ (by decide),
    State.f_discSync_other _ _ _ _ _ (by decide), State.f_raise_same]
  exact ⟨hactive, hopen, hcount, by decide⟩

theorem taggedOpsZero_unuses (n : Nat) (s : State) (hst : (s.sl n).st = 3) (hwait : (s.sl n).fenceWait = false)
    (hcause : bit (s.sl n).cause 2 = true) (hops : s.taggedOps n = 0) :
    ∃ t, exec (.taggedOpsZero n) s = .next t ∧ (t.sl n).st = 0 ∧
      ∀ k, (t.keys.get k).valid = true → (t.keys.get k).slice ≠ n := by
  refine ⟨_, exec_taggedOpsZero_deleting hwait hcause hops hst, ?_, fun k => ?_⟩
  · rw [State.sl_settle, State.sl_discSync, State.sl_bpAll]
    exact congrArg Slice.st (Tab.getD_setD_same ..)
  · rw [State.settle_keys, State.discSync_keys, State.bpAll_keys]
    unfold State.resetUnused
    dsimp only
    refine Tab.getD_mapAll (P := fun x : KeySlot => x.valid = true → x.slice ≠ n) (fun h => ?_) (fun _ x => ?_) _ k
    · exact absurd h (by decide)
    · split
      · exact fun h => absurd h (by decide)
      · next h => exact fun hv hn => h ⟨hv, hn⟩

theorem resetSlowTimer_logs (n : Nat) (s : State) (hst : (s.sl n).st = 2 ∨ (s.sl n).st = 3) (hcause : bit (s.sl n).cause 2 = true) :
    ∃ t, exec (.resetSlowTimer n) s = .next t ∧ t.f R.SL_EVT_RESET_SLOW = 1 ∧ s.Only t [R.SL_EVT_RESET_SLOW.key 0 0] := by
  refine ⟨(s.raise R.SL_EVT_RESET_SLOW n).settle, if_pos ⟨hst, hcause⟩, ?_, ?_⟩
  · rw [State.f_settle _ _ _ _ (by decide) (by decide), State.f_raise_same]
    decide
  · exact State.only_settle (fun F i k hk => State.f_raise_other _ _ _ _ _ _ _ _ _ fun he => hk (by simp [he])) rfl

/-- Settles O19: a reset that waits and one that begins, a deletion, the fence, both ends, and a step 7 that takes too long. -/
theorem sliceResetAndDelete : Obligations.SliceResetAndDelete :=
  ⟨slReset_held, slReset_fences, slDelete_fences, resetFenceWaitEnd_fences, resetFence_fences, taggedOpsZero_restarts,
    taggedOpsZero_unuses, resetSlowTimer_logs⟩

end Sys2Proof.Machine
end

section
/-! SUPPORT. The slots of the Hopper as they move on: encrypted, cleared, merged and sent (R25, R51, R87, R112, R122, R137). -/

namespace Sys2Proof.Machine

/-! ### SRAM words that are corrected leave media management as it is (R442, R443) -/

theorem State.sramReplace_media (s : State) (e : SramErr) : (s.sramReplace e).media = s.media :=
  State.keeps_ite (p := State.media) rfl (State.keeps_ite (p := State.media) rfl rfl)

theorem State.sramRead_media (s : State) (e : SramErr) : (s.sramRead e).media = s.media := by
  have hlimited : ∀ (u : State) (key : Nat) (F : R.Fld) (p1 p2 p3 : Nat), (u.raiseLimited key F p1 p2 p3).media = u.media :=
    fun _ _ _ _ _ _ => State.keeps_ite (p := State.media) rfl rfl
  unfold State.sramRead
  refine State.keeps_ite (p := State.media) rfl (State.keeps_ite (p := State.media) rfl ?_)
  refine State.keeps_ite (p := State.media) ((State.sramReplace_media ..).trans ?_) ?_
  all_goals exact hlimited ..

theorem State.sramWords_media {l : List SramErr} (h : ∀ e ∈ l, e.syms ≤ 4) (gone : State → SramErr → State) (s : State) :
    (s.sramWords l gone).media = s.media := by
  induction l generalizing s with
  | nil => rfl
  | cons e r ih =>
    obtain ⟨he, hr⟩ := List.forall_mem_cons.mp h
    have hkept : (if 4 < e.syms ∧ e.array = 0 then gone (s.sramRead e) e else s.sramRead e) = s.sramRead e := if_neg (by omega)
    show (State.sramWords (if 4 < e.syms ∧ e.array = 0 then gone (s.sramRead e) e else s.sramRead e) r gone).media = _
    rw [hkept, ih hr, State.sramRead_media]

/-! ### A Filled slot is encrypted, or waits for room (R112, R137) -/

/-- Slot k is encrypted: its blocks are staged and counted, and it is Clearing with no content. -/
def State.slotEncrypted (s : State) (k key : Nat) (sram : List SramErr) : State :=
  let x := s.slot k
  let c := x.cmd
  let bs := s.blkSize (s.cmd c).ns
  let t := ((s.stageRun c (x.offset / bs) (x.length / bs) key x.content).aesBlocks (x.length / bs)).sramWords sram
    fun u e => u.loseStaged (s.cmd c).ns ((s.cmd c).lba + x.offset / bs + e.blk) false
  (t.modSlot k fun x => { x with state := .clearing, content := 0 }).modCmd c fun y => { y with staged := y.staged + x.length / bs }

/-- What follows for command c once its blocks stand in staging (state w): its end when they are all there, and its next request. -/
def State.slotFollowed (s w : State) (c : Nat) : State :=
  ((if (w.cmd c).staged = (s.cmd c).nlb then w.stagedAll c else if (s.cmd c).mute then w.writeFinal c else w).postReady.placeWant
    c).afterRows

/-- Slot k waits for room in host staging, with its charge. -/
def State.slotWaits (s : State) (k : Nat) : State := s.modSlot k fun x => { x with waitRoom := true }

section
variable {k key : Nat} {l : List SramErr} {s : State}

theorem exec_aesStaged (hst : (s.slot k).state = .filled) (hwait : (s.slot k).waitRoom = false) (hup : s.up = true)
    (hstatus : (s.cmd (s.slot k).cmd).status = 0) (hkey : s.cmdKey (s.slot k).cmd = some key) :
    exec (.aesStaged k l) s = .next (if s.stageRoom (s.slot k).slice (s.slot k).length = true then
        s.slotFollowed (((s.slotEncrypted k key l).spillNow (s.slot k).cmd).pressure (s.slot k).slice) (s.slot k).cmd
      else ((s.slotWaits k).pressure (s.slot k).slice).afterRows).settle := by
  show execAesStaged k l s = _
  unfold execAesStaged
  dsimp only
  rw [if_neg (by simp [hup]), if_neg (by simp [hst]), if_neg (by simp [hst, hwait]), if_neg (by simp [hstatus]), hkey]
  dsimp only
  by_cases hroom : s.stageRoom (s.slot k).slice (s.slot k).length = true
  · rw [if_neg (by simp [hroom]), if_pos hroom]
    rfl
  · rw [if_pos hroom, if_neg hroom]
    rfl

theorem State.slotEncrypted_slot :
    ((s.slotEncrypted k key l).slot k).state = .clearing ∧ ((s.slotEncrypted k key l).slot k).content = 0 := by
  unfold State.slotEncrypted
  dsimp only
  exact ⟨congrArg Slot.state (State.slot_modSlot_same ..), congrArg Slot.content (State.slot_modSlot_same ..)⟩

theorem State.slotEncrypted_media (hsyms : ∀ e ∈ l, e.syms ≤ 4) : (s.slotEncrypted k key l).media =
    (s.stageRun (s.slot k).cmd ((s.slot k).offset / s.blkSize (s.cmd (s.slot k).cmd).ns)
      ((s.slot k).length / s.blkSize (s.cmd (s.slot k).cmd).ns) key (s.slot k).content).media :=
  State.sramWords_media hsyms _ _

end

theorem aesStaged_stages (k c key n : Nat) (l : List SramErr) (s : State) (hsyms : ∀ e ∈ l, e.syms ≤ 4)
    (hst : (s.slot k).state = .filled) (hwait : (s.slot k).waitRoom = false) (hup : s.up = true) (hc : (s.slot k).cmd = c)
    (hstatus : (s.cmd c).status = 0) (hkey : s.cmdKey c = some key)
    (hroom : s.stageRoom (s.slot k).slice (s.slot k).length = true) (hn : n = (s.slot k).length / s.blkSize (s.cmd c).ns) :
    ∃ u w : State, exec (.aesStaged k l) s = .next ((((if (w.cmd c).staged = (s.cmd c).nlb then w.stagedAll c
        else if (s.cmd c).mute then w.writeFinal c else w).postReady.placeWant c).afterRows).settle) ∧
      w = (u.spillNow c).pressure (s.slot k).slice ∧ (u.slot k).state = .clearing ∧ (u.slot k).content = 0 ∧
      u.media = (s.stageRun c ((s.slot k).offset / s.blkSize (s.cmd c).ns) n key (s.slot k).content).media := by
  subst hc hn
  have hexec := exec_aesStaged (l := l) hst hwait hup hstatus hkey
  rw [if_pos hroom] at hexec
  obtain ⟨hclear, hzero⟩ := s.slotEncrypted_slot (k := k) (key := key) (l := l)
  exact ⟨_, _, hexec, rfl, hclear, hzero, State.slotEncrypted_media hsyms⟩

theorem aesStaged_waits (k c key : Nat) (l : List SramErr) (s : State) (hst : (s.slot k).state = .filled)
    (hwait : (s.slot k).waitRoom = false) (hup : s.up = true) (hc : (s.slot k).cmd = c) (hstatus : (s.cmd c).status = 0)
    (hkey : s.cmdKey c = some key) (hroom : s.stageRoom (s.slot k).slice (s.slot k).length = false) :
    ∃ u : State, exec (.aesStaged k l) s = .next ((u.pressure (s.slot k).slice).afterRows.settle) ∧ (u.slot k).waitRoom = true ∧
      (u.slot k).state = .filled ∧ u.media = s.media := by
  subst hc
  have hexec := exec_aesStaged (l := l) hst hwait hup hstatus hkey
  rw [if_neg (ne_true_of_eq_false hroom)] at hexec
  refine ⟨_, hexec, ?_⟩
  unfold State.slotWaits
  rw [State.slot_modSlot_same]
  exact ⟨rfl, hst, rfl⟩

theorem stagingAdmit_admits (k : Nat) (s : State) (hst : (s.slot k).state = .filled) (hwait : (s.slot k).waitRoom = true)
    (hroom : s.stageRoom (s.slot k).slice (s.slot k).length = true) :
    ∃ t, exec (.stagingAdmit k) s = .next t ∧ (t.slot k).waitRoom = false ∧ (t.slot k).content = (s.slot k).content ∧
      (t.slot k).state = .filled ∧ State.Only { s with hop := t.hop } t [] := by
  refine ⟨(s.modSlot k fun x => { x with waitRoom := false }).settle, if_pos ⟨hst, hwait, hroom⟩, ?_⟩
  rw [State.slot_settle, State.slot_modSlot_same, State.settle_hop]
  exact ⟨rfl, rfl, hst, State.only_settle_same _ _⟩

theorem slotCleared_frees (k : Nat) (s : State) (hst : (s.slot k).state = .clearing) :
    ∃ t, exec (.slotCleared k) s = .next t ∧ t.slot k = {} ∧ t.media = s.media ∧ t.per = s.per := by
  have hrest : (s.freeSlotN k).reserveNext.afield = s.afield := State.afield_reserveNext _
  refine ⟨(s.freeSlotN k).reserveNext.settle, if_pos hst, ?_, ?_, ?_⟩
  · rw [State.slot_settle, State.slot, State.reserveNext_slots]
    exact Tab.getD_setD_same s.hop.slots default k {}
  · rw [State.settle_media]
    exact show State.media (State.afield _) = s.afield.media from congrArg State.media hrest
  · rw [State.settle_per]
    exact show State.per (State.afield _) = s.afield.per from congrArg State.per hrest

/-! ### Data leaves a command's slots in order (R112, R122) -/

/-- No slot of a list stands lower than an offset. -/
theorem State.none_lower {s : State} {l : List Nat} {x : Nat} (h : ∀ j ∈ l, x ≤ (s.slot j).offset) :
    l.any (fun n => decide ((s.slot n).offset < x)) = false := by
  simpa using h

theorem readMergeDone_sends (k : Nat) (s : State) (hst : (s.slot k).state = .loading)
    (hmerged : (s.slot k).merged * s.blkSize (s.cmd (s.slot k).cmd).ns = (s.slot k).length)
    (hlow : ∀ j ∈ s.slotsOf (s.slot k).cmd (· == .loading), (s.slot k).offset ≤ (s.slot j).offset) :
    ∃ t, exec (.readMergeDone k) s = .next t ∧ (t.slot k).state = .sending ∧ (t.slot k).blks = (s.slot k).blks ∧
      (∀ j, j ≠ k → t.slot j = s.slot j) ∧ State.Only { s with hop := { s.hop with slots := t.hop.slots } } t [] := by
  refine ⟨(s.modSlot k fun x => { x with state := .sending }).settle,
    if_pos ⟨hst, hmerged, ne_true_of_eq_false (State.none_lower hlow)⟩, ?_⟩
  rw [State.slot_settle, State.slot_modSlot_same, State.settle_hop]
  refine ⟨rfl, rfl, fun j hj => ?_, State.only_settle_same _ _⟩
  rw [State.slot_settle, State.slot_modSlot_other _ _ _ hj]

/-! ### Decryption at the transport (R23, R123) -/

theorem decrypt_own (s : State) (key ns lba : Nat) (b : Blk) (hns : b.ns = ns) (hkey : b.key = key) (hlba : b.lba = lba)
    (h0 : ns ≠ 0) : s.decrypt key ns lba b = (b.plain, s) := by
  unfold State.decrypt
  rw [if_neg (hns ▸ h0), if_pos ⟨hkey, hns, hlba⟩]

/-- The same state with other register fields. -/
def State.withFields (s : State) (fl : Tab Nat) : State := { s with fields := fl }

theorem State.decrypt_withFields (s : State) (fl : Tab Nat) (key ns lba : Nat) (b : Blk) :
    (s.withFields fl).decrypt key ns lba b = ((s.decrypt key ns lba b).1, (s.decrypt key ns lba b).2.withFields fl) := by
  unfold State.decrypt
  split
  · rfl
  · split <;> rfl

/-- What a slot holds does not depend on the register fields. -/
theorem State.slotRead_withFields (s : State) (fl : Tab Nat) (t : SlotTx) (b n : Nat) :
    (s.withFields fl).slotRead t b n = ((s.slotRead t b n).1, (s.slotRead t b n).2.withFields fl) := by
  unfold State.slotRead
  refine List.foldl_hom (f := fun acc : List Nat × State => (acc.1, acc.2.withFields fl)) (init := ([], s)) fun acc k => ?_
  dsimp only
  rw [State.decrypt_withFields]
  rfl

/-! ### The data of a slot passes to the transport (R50, R51, R122) -/

/-- The message that carries read data on a connection. -/
def Conn.dataKind (x : Conn) : MK := if x.rdma then .rdmaWrite else .c2hData

theorem Conn.dataKind_acked (x : Conn) : acked.contains x.dataKind = true := by
  unfold Conn.dataKind
  split <;> decide

/-- A message that goes out is among those sent, or among those that a pause holds back. -/
theorem Ctl.mem_posted (c : Ctl) (m : Msg) (hold : Bool) : m ∈ if hold = true then (c.post m hold).held else (c.post m hold).out := by
  cases hold
  · exact List.mem_cons_self
  · exact List.mem_append_right _ List.mem_cons_self

/-- The pause that holds data is that of its connection's link and priority (R50, R51). -/
theorem State.pauseHolds_data (s : State) (d : Nat) (args data : List Nat) {kind : MK} (hkind : kind = (s.conn d).dataKind) :
    s.pauseHolds { kind, dst := d, args, data, tx := s.txMark kind d none } =
      bit (s.linkOf (s.conn d).link).paused (s.txPrio ((s.conn d).link / 4 % 2) (s.conn d).tc) := by
  subst hkind
  unfold Conn.dataKind
  split <;> rfl

/-- Data that is sent goes out, or waits for the pause of its connection's priority (R51). -/
theorem State.data_sent (s : State) (d : Nat) (args data : List Nat) (slot : Option SlotTx) {kind : MK}
    (hkind : kind = (s.conn d).dataKind) :
    ∃ m ∈ (if bit (s.linkOf (s.conn d).link).paused (s.txPrio ((s.conn d).link / 4 % 2) (s.conn d).tc) = true
        then (s.send kind d args data slot).ctl.held else (s.send kind d args data slot).ctl.out),
      m.kind = kind ∧ m.dst = d ∧ m.args = args ∧ m.data = data := by
  rw [← s.pauseHolds_data d args data hkind]
  exact ⟨_, Ctl.mem_posted _ _ _, rfl, rfl, rfl, rfl⟩

/-- What is sent on an open connection stays outstanding (R482). -/
theorem State.unacked_send {s : State} {kind : MK} {d : Nat} (hk : acked.contains kind = true) (halive : (s.conn d).alive = true)
    (args data : List Nat) (slot : Option SlotTx) : ((s.send kind d args data slot).conn d).unacked = true := by
  have hconns : (s.send kind d args data slot).conns = (s.modConn d fun c =>
      { c with sent := c.sent ++ [{ kind, args, data := if slot.isSome then [] else data, slot }] }).conns :=
    if_pos (by rw [hk, halive]; rfl)
  rw [State.conn, hconns]
  refine (congrArg Conn.unacked (State.conn_modConn_same ..)).trans ?_
  simp [Conn.unacked]

section
variable (s : State) (n : Nat)

theorem State.f_aesBlocks_other (F : R.Fld) (i k : Nat)
    (h : F.key i k ∉ [R.CR_BLK_LO_BLK_LO.key 0 0, R.CR_BLK_HI_BLK_HI.key 0 0]) : (s.aesBlocks n).f F i k = s.f F i k := by
  simp only [List.mem_cons, List.not_mem_nil, or_false, not_or] at h
  exact (State.f_setF_other _ _ _ _ _ _ _ _ h.2).trans (State.f_setF_other _ _ _ _ _ _ _ _ h.1)

theorem txPrio_keys : ∀ p < 2, ∀ F ∈ [R.PT_TX_PRIO_PRIO_TC0, R.PT_TX_PRIO_PRIO_TC1, R.PT_TX_PRIO_PRIO_TC2, R.PT_TX_PRIO_PRIO_TC3],
    F.key p 0 ∉ [R.CR_BLK_LO_BLK_LO.key 0 0, R.CR_BLK_HI_BLK_HI.key 0 0] := by decide

theorem State.txPrio_aesBlocks {p : Nat} (hp : p < 2) (tc : Nat) : (s.aesBlocks n).txPrio p tc = s.txPrio p tc := by
  unfold State.txPrio
  split
  all_goals exact State.f_aesBlocks_other _ _ _ _ _ (txPrio_keys p hp _ (by simp))

end

section
variable {s : State} {k key c d n : Nat} {x : SlotTx} (hc : (s.slot k).cmd = c) (hd : (s.cmd c).conn = d) (hlen : 0 < (s.slot k).length)
  (hfits : (s.conn d).rdma = true ∨ (s.slot k).length ≤ 65536) (hn : n = (s.slot k).length / s.blkSize (s.cmd c).ns)
  (hx : x = { slot := k, key := key, ns := (s.cmd c).ns, lba := (s.cmd c).lba + (s.slot k).offset / s.blkSize (s.cmd c).ns })
include hc hd hlen hfits hn hx

/-- A slot on an RDMA connection, or of at most 65,536 bytes, passes to the transport in one message (R122). -/
theorem State.transmit_once : s.transmit k key = (s.slotRead x 0 n).2.send (s.conn d).dataKind d
    [(s.cmd c).sqe.cid, (s.slot k).offset, (s.slot k).length] (s.slotRead x 0 n).1 (some x) := by
  have hpiece : (s.slot k).length ≤ if (s.conn d).rdma = true then max (s.slot k).length 1 else 65536 := by
    split
    · exact le_max_left ..
    · exact hfits.resolve_left (by assumption)
  unfold State.transmit
  dsimp only
  rw [hc, hd, ← hx]
  revert hpiece
  generalize (if (s.conn d).rdma = true then max (s.slot k).length 1 else 65536) = piece
  intro hpiece
  have hcount : ((s.slot k).length + piece - 1) / piece = 1 := Nat.div_eq_of_lt_le (by omega) (by omega)
  rw [hcount, List.range_one, List.foldl_cons, List.foldl_nil]
  simp only [Nat.zero_mul, Nat.zero_div, Nat.sub_zero, Nat.add_zero, Nat.min_eq_right hpiece, ← hn]
  rfl

/-- With other register fields the same data goes out. -/
theorem State.transmit_withFields (fl : Tab Nat) : ∃ j, (s.withFields fl).transmit k key =
    (({ s with ctl.freeCtr := j } : State).withFields fl).send (s.conn d).dataKind d
      [(s.cmd c).sqe.cid, (s.slot k).offset, (s.slot k).length] (s.slotRead x 0 n).1 (some x) := by
  obtain ⟨j, hj⟩ := s.slotRead_state x 0 n
  refine ⟨j, (State.transmit_once (s := s.withFields fl) hc hd hlen hfits hn hx).trans ?_⟩
  rw [State.slotRead_withFields, hj]
  rfl

end

/-! ### A slot is sent, read again, or waits (R25, R87, R122) -/

/-- Slot k of command c may pass to the transport: it is Sending, no lower slot of c waits, the connection is open, and all of its data
is good. -/
structure State.SendDue (s : State) (k c : Nat) : Prop where
  sending : (s.slot k).state = .sending
  serves : (s.slot k).cmd = c
  lowest : ∀ j ∈ s.slotsOf c (fun t => t == .loading || t == .sending), (s.slot k).offset ≤ (s.slot j).offset
  alive : (s.conn (s.cmd c).conn).alive = true
  good : (s.slot k).offset + (s.slot k).length ≤ s.readGood c

/-- Slot k has passed to the transport and drains. -/
def State.slotPassed (s : State) (k key : Nat) : State :=
  ((s.aesBlocks ((s.slot k).blks.count fun _ b => b.ns != 0)).transmit k key).modSlot k fun x => { x with state := .draining }

section
variable {s : State} {k c key : Nat} {p : List Nat} (h : s.SendDue k c)
include h

theorem exec_slotSent (hkey : s.cmdKey c = some key) (hclean : ∀ b ∈ p, (s.slot k).length / s.blkSize (s.cmd c).ns ≤ b) :
    exec (.slotSent k p) s = .next (if ((s.slotPassed k key).slotsOf c fun _ => true).isEmpty ∧ (s.cmd c).status = 0
      then (s.slotPassed k key).complete c else (s.slotPassed k key).readEnd c).settle := by
  have hnone : p.filter (fun b => decide (b < (s.slot k).length / s.blkSize (s.cmd c).ns)) = [] :=
    List.filter_eq_nil_iff.mpr fun b hb => by simpa using hclean b hb
  show execSlotSent k p s = _
  unfold execSlotSent
  dsimp only
  rw [h.serves, if_neg (by simp [h.sending]), if_neg (by simp [h.sending, h.alive, h.good, State.none_lower h.lowest]), hnone,
    List.dedup_nil]
  dsimp only
  rw [hkey]
  exact (apply_ite (fun t : State => Host.Outcome.next t.settle) _ _ _).symm

theorem exec_slotSent_poisoned {b : Nat} (hb : b < (s.slot k).length / s.blkSize (s.cmd c).ns) :
    exec (.slotSent k [b]) s = .next (s.slotPoison k b).afterRows.settle := by
  have hone : [b].filter (fun b => decide (b < (s.slot k).length / s.blkSize (s.cmd c).ns)) = [b] := by simp [hb]
  show execSlotSent k [b] s = _
  unfold execSlotSent
  dsimp only
  rw [h.serves, if_neg (by simp [h.sending]), if_neg (by simp [h.sending, h.alive, h.good, State.none_lower h.lowest]), hone]
  rfl

/-- The slot drains, its connection waits for an acknowledgement, and its plaintext has passed to the transport, where a pause of its
priority holds it (R51, R112, R122). -/
theorem State.SendDue.passed {d : Nat} {x : SlotTx} (hd : (s.cmd c).conn = d) (hlen : 0 < (s.slot k).length)
    (hfits : (s.conn d).rdma = true ∨ (s.slot k).length ≤ 65536)
    (hx : x = { slot := k, key := key, ns := (s.cmd c).ns, lba := (s.cmd c).lba + (s.slot k).offset / s.blkSize (s.cmd c).ns }) :
    ((s.slotPassed k key).slot k).state = .draining ∧ ((s.slotPassed k key).conn d).unacked = true ∧
      (s.slotPassed k key).media = s.media ∧
      ∃ m ∈ (if bit (s.linkOf (s.conn d).link).paused (s.txPrio ((s.conn d).link / 4 % 2) (s.conn d).tc) = true
          then (s.slotPassed k key).ctl.held else (s.slotPassed k key).ctl.out),
        m.kind = (s.conn d).dataKind ∧ m.dst = d ∧ m.args = [(s.cmd c).sqe.cid, (s.slot k).offset, (s.slot k).length] ∧
        m.data = (s.slotRead x 0 ((s.slot k).length / s.blkSize (s.cmd c).ns)).1 := by
  have hprio := s.txPrio_aesBlocks ((s.slot k).blks.count fun _ b => b.ns != 0) (Nat.mod_lt ((s.conn d).link / 4) (by decide : 0 < 2))
    (s.conn d).tc
  obtain ⟨j, hj⟩ := State.transmit_withFields h.serves hd hlen hfits rfl hx
    (s.aesBlocks ((s.slot k).blks.count fun _ b => b.ns != 0)).fields
  have hv := congrArg (State.modSlot · k fun x => { x with state := .draining }) hj
  rw [show s.slotPassed k key = _ from hv, State.slot_modSlot_same]
  refine ⟨rfl, State.unacked_send (Conn.dataKind_acked _) (hd ▸ h.alive) _ _ _, rfl, ?_⟩
  rw [← hprio]
  exact State.data_sent (({ s with ctl.freeCtr := j } : State).withFields _) d _ _ (some x) rfl

end

theorem slotSent_passes (k c d key : Nat) (x : SlotTx) (p : List Nat) (s : State) (hst : (s.slot k).state = .sending)
    (hc : (s.slot k).cmd = c) (hd : (s.cmd c).conn = d) (hkey : s.cmdKey c = some key)
    (hlow : ∀ j ∈ s.slotsOf c (fun t => t == .loading || t == .sending), (s.slot k).offset ≤ (s.slot j).offset)
    (halive : (s.conn d).alive = true) (hgood : (s.slot k).offset + (s.slot k).length ≤ s.readGood c)
    (hclean : ∀ b ∈ p, (s.slot k).length / s.blkSize (s.cmd c).ns ≤ b) (hlen : 0 < (s.slot k).length)
    (hfits : (s.conn d).rdma = true ∨ (s.slot k).length ≤ 65536)
    (hx : x = { slot := k, key := key, ns := (s.cmd c).ns, lba := (s.cmd c).lba + (s.slot k).offset / s.blkSize (s.cmd c).ns }) :
    ∃ u : State, exec (.slotSent k p) s =
        .next (if (u.slotsOf c fun _ => true).isEmpty ∧ (s.cmd c).status = 0 then u.complete c else u.readEnd c).settle ∧
      (u.slot k).state = .draining ∧ (u.conn d).unacked = true ∧ u.media = s.media ∧
      ∃ m ∈ (if bit (s.linkOf (s.conn d).link).paused (s.txPrio ((s.conn d).link / 4 % 2) (s.conn d).tc) = true then u.ctl.held
          else u.ctl.out),
        m.kind = (if (s.conn d).rdma = true then MK.rdmaWrite else .c2hData) ∧ m.dst = d ∧
        m.args = [(s.cmd c).sqe.cid, (s.slot k).offset, (s.slot k).length] ∧
        m.data = (s.slotRead x 0 ((s.slot k).length / s.blkSize (s.cmd c).ns)).1 := by
  have hdue : s.SendDue k c := ⟨hst, hc, hlow, hd ▸ halive, hgood⟩
  exact ⟨s.slotPassed k key, exec_slotSent hdue hkey hclean, hdue.passed hd hlen hfits hx⟩

theorem slotSent_poisoned (k c b : Nat) (s : State) (hst : (s.slot k).state = .sending) (hc : (s.slot k).cmd = c)
    (hlow : ∀ j ∈ s.slotsOf c (fun t => t == .loading || t == .sending), (s.slot k).offset ≤ (s.slot j).offset)
    (halive : (s.conn (s.cmd c).conn).alive = true) (hgood : (s.slot k).offset + (s.slot k).length ≤ s.readGood c)
    (hb : b < (s.slot k).length / s.blkSize (s.cmd c).ns) :
    exec (.slotSent k [b]) s = .next (s.slotPoison k b).afterRows.settle :=
  exec_slotSent_poisoned ⟨hst, hc, hlow, halive, hgood⟩ hb

theorem slotSent_waits (k : Nat) (p : List Nat) (s : State) (hst : (s.slot k).state = .sending)
    (hlow : ∃ j ∈ s.slotsOf (s.slot k).cmd (fun t => t == .loading || t == .sending), (s.slot j).offset < (s.slot k).offset) :
    exec (.slotSent k p) s = .next s := by
  have hlower : ((s.slotsOf (s.slot k).cmd fun t => t == .loading || t == .sending).any
      fun n => decide ((s.slot n).offset < (s.slot k).offset)) = true := by simpa using hlow
  show execSlotSent k p s = _
  unfold execSlotSent
  dsimp only
  rw [if_neg (by simp [hst]), if_pos (.inr (.inl hlower))]

/-- Settles O41: write slots from Filled to Free, and read slots from Loading to the transport, or back. -/
theorem slotsMoveOn : Obligations.SlotsMoveOn :=
  ⟨aesStaged_stages, aesStaged_waits, stagingAdmit_admits, slotCleared_frees, readMergeDone_sends, slotSent_passes, slotSent_poisoned,
    slotSent_waits, decrypt_own⟩

end Sys2Proof.Machine
end

section
/-! SUPPORT. The Sluice of a slice, the commands of the Slice table port, SL_HOLD and the Origin Table (R131, R133, R136, R139, R140, R143,
R144). -/

namespace Sys2Proof.Machine

/-! ### Tokens of the Sluice (R139) -/

/-- A listed entry that its change leaves listed. -/
theorem Tab.get_mapAll {α : Type} [Inhabited α] [DecidableEq α] {f : Nat → α → α} {t : Tab α} {k : Nat} (hk : t.get k ≠ default)
    (hf : f k (t.get k) ≠ default) : (t.mapAll f).get k = f k (t.get k) := by
  induction t with
  | nil => exact absurd rfl hk
  | cons e r ih =>
    obtain ⟨j, v⟩ := e
    by_cases hj : j = k
    · subst hj
      have hv : Tab.get ((j, v) :: r) j = v := if_pos rfl
      rw [hv] at hf ⊢
      simp [Tab.mapAll, Tab.getD, hf]
    · have hr : Tab.get ((j, v) :: r) k = Tab.get r k := if_neg hj
      rw [hr] at hk hf ⊢
      rw [← ih hk hf]
      by_cases hv : f j v = default
      · simp [Tab.mapAll, hv]
      · simp [Tab.mapAll, Tab.getD, hv, hj]

/-- The refill of one slice whose set is c. -/
def Slice.refilled (c : SliceCfg) (x : Slice) : Slice :=
  if x.st = 1 then
    { x with
      cmdTok := min ((c.cmdDepth : Int) * 65536) (x.cmdTok + min x.cmdInc (cmdCeilInc c.ceilKiops))
      byteTok := min ((c.byteDepth : Int) * 65536) (x.byteTok + min x.byteInc (byteCeilInc c.ceilBw)) }
  else x

theorem Slice.st_refilled (c : SliceCfg) (x : Slice) : (x.refilled c).st = x.st := by
  unfold Slice.refilled
  split <;> rfl

theorem Slice.ne_default_of_active {x : Slice} (h : x.st = 1) : x ≠ default := fun he => absurd (he ▸ h) (by decide)

/-- The refill of every slice. -/
def State.refilled (s : State) : State := { s with slices := s.slices.mapAll fun n x => x.refilled (s.cfg n) }

theorem State.sl_refilled {s : State} {n : Nat} (hlisted : s.sl n ≠ default) (hkept : (s.sl n).refilled (s.cfg n) ≠ default) :
    s.refilled.sl n = (s.sl n).refilled (s.cfg n) := Tab.get_mapAll (f := fun n x => Slice.refilled (s.cfg n) x) hlisted hkept

theorem exec_sluiceRefill {s : State} (h : s.mode ≠ .off) : exec .sluiceRefill s = .next s.refilled.settle :=
  if_pos (by simpa [State.up] using h)

theorem sluiceRefill_fills (s : State) (h : s.mode ≠ .off) :
    ∃ t, exec .sluiceRefill s = .next t ∧ State.Only { s with slices := t.slices } t [] ∧
      (∀ n, (s.sl n).st = 1 → t.sl n = { s.sl n with
        cmdTok := min (((s.cfg n).cmdDepth : Int) * 65536) ((s.sl n).cmdTok + min (s.sl n).cmdInc (cmdCeilInc (s.cfg n).ceilKiops))
        byteTok := min (((s.cfg n).byteDepth : Int) * 65536)
          ((s.sl n).byteTok + min (s.sl n).byteInc (byteCeilInc (s.cfg n).ceilBw)) }) ∧
      (∀ n, (s.sl n).st ≠ 1 → s.sl n ≠ {} → t.sl n = s.sl n) := by
  refine ⟨_, exec_sluiceRefill h, ?_, fun n hst => ?_, fun n hst hlisted => ?_⟩
  · rw [State.settle_slices]
    exact State.only_settle_same _ _
  · have hactive : ((s.sl n).refilled (s.cfg n)).st = 1 := (Slice.st_refilled ..).trans hst
    rw [State.sl_settle, State.sl_refilled (Slice.ne_default_of_active hst) (Slice.ne_default_of_active hactive)]
    exact if_pos hst
  · have hsame : (s.sl n).refilled (s.cfg n) = s.sl n := if_neg hst
    rw [State.sl_settle, State.sl_refilled hlisted (by rwa [hsame]), hsame]

/-! ### Admission (R86, R140) -/

section
variable (s : State) (n q c : Nat)

theorem State.cmd_admitCmd_same : (s.admitCmd n q c).cmd c = { s.cmd c with
    phase := .dispatched, tDisp := s.clk.tb, units := min (s.mediaUnits c) 512
    unitsLeft := if (s.cmd c).sqe.opc = 0x0C then s.mediaUnits c - min (s.mediaUnits c) 512 else 0, ord := s.hop.nextOrd } :=
  Tab.getD_setD_same ..

theorem State.cmd_admitCmd_other {d : Nat} (h : d ≠ c) : (s.admitCmd n q c).cmd d = s.cmd d := Tab.getD_setD_other _ _ _ _ _ _ h

theorem State.queue_admitCmd_same :
    (s.admitCmd n q c).queue q = { s.queue q with waiting := (s.queue q).waiting.tail } := Tab.getD_setD_same ..

theorem State.queue_admitCmd_other {p : Nat} (h : p ≠ q) : (s.admitCmd n q c).queue p = s.queue p :=
  Tab.getD_setD_other _ _ _ _ _ _ h

theorem State.sl_admitCmd_same : (s.admitCmd n q c).sl n = { s.sl n with
    cmdTok := (s.sl n).cmdTok - 65536, byteTok := (s.sl n).byteTok - (min (s.mediaUnits c) 512 : Nat) * 65536, rr := q } :=
  Tab.getD_setD_same ..

theorem State.sl_admitCmd_other {m : Nat} (h : m ≠ n) : (s.admitCmd n q c).sl m = s.sl m := Tab.getD_setD_other _ _ _ _ _ _ h

/-- The frame of an admission. -/
theorem State.admitCmd_eq : s.admitCmd n q c = { s with
    slices := (s.admitCmd n q c).slices, queues := (s.admitCmd n q c).queues, cmds := (s.admitCmd n q c).cmds
    hop.nextOrd := s.hop.nextOrd + 1, gov.admUnits := s.gov.admUnits + min (s.mediaUnits c) 512
    gov.wrUnits := s.gov.wrUnits + if isWriteOpc (s.cmd c).sqe.opc then min (s.mediaUnits c) 512 else 0 } := by
  unfold State.admitCmd State.modSl State.modQueue State.modCmd
  rfl

theorem State.queue_settle : s.settle.queue q = s.queue q := by rw [State.queue, State.settle_queues]

end

theorem exec_sluiceAdmit {n q c : Nat} {r : List Nat} {s : State} (hwait : (s.queue q).waiting = c :: r) (hslice : (s.queue q).slice = n)
    (hround : nextRound (s.queuesOf n) (s.sl n).rr s.eligible = some q) :
    exec (.sluiceAdmit n q) s = .next (s.admitCmd n q c).settle := by
  show execSluiceAdmit n q s = _
  unfold execSluiceAdmit
  rw [hwait, hround]
  exact if_pos ⟨rfl, hslice⟩

theorem sluiceAdmit_dispatches (n q c : Nat) (r : List Nat) (s : State) (hwait : (s.queue q).waiting = c :: r)
    (hslice : (s.queue q).slice = n) (hround : nextRound (s.queuesOf n) (s.sl n).rr s.eligible = some q) :
    ∃ t, exec (.sluiceAdmit n q) s = .next t ∧
      t.cmd c = { s.cmd c with
        phase := .dispatched, tDisp := s.clk.tb, units := min (s.mediaUnits c) 512
        unitsLeft := if (s.cmd c).sqe.opc = 0x0C then s.mediaUnits c - 512 else 0, ord := s.hop.nextOrd } ∧
      (∀ d, d ≠ c → t.cmd d = s.cmd d) ∧ t.queue q = { s.queue q with waiting := r } ∧
      (∀ p, p ≠ q → t.queue p = s.queue p) ∧
      t.sl n = { s.sl n with
        cmdTok := (s.sl n).cmdTok - 65536, byteTok := (s.sl n).byteTok - (min (s.mediaUnits c) 512 : Nat) * 65536, rr := q } ∧
      (∀ m, m ≠ n → t.sl m = s.sl m) ∧
      State.Only { s with
        slices := t.slices, queues := t.queues, cmds := t.cmds, hop.nextOrd := s.hop.nextOrd + 1
        gov.admUnits := s.gov.admUnits + min (s.mediaUnits c) 512
        gov.wrUnits := s.gov.wrUnits + if isWriteOpc (s.cmd c).sqe.opc then min (s.mediaUnits c) 512 else 0 } t [] := by
  refine ⟨_, exec_sluiceAdmit hwait hslice hround, ?_⟩
  simp only [State.cmd_settle, State.sl_settle, State.queue_settle, State.settle_slices, State.settle_queues, State.settle_cmds]
  have hleft : s.mediaUnits c - min (s.mediaUnits c) 512 = s.mediaUnits c - 512 := by omega
  refine ⟨?_, fun _ hd => State.cmd_admitCmd_other _ _ _ _ hd, ?_, fun _ hp => State.queue_admitCmd_other _ _ _ _ hp,
    State.sl_admitCmd_same .., fun _ hm => State.sl_admitCmd_other _ _ _ _ hm, ?_⟩
  · rw [State.cmd_admitCmd_same, hleft]
  · rw [State.queue_admitCmd_same, hwait, List.tail_cons]
  · rw [← State.admitCmd_eq]
    exact State.only_settle_same _ _

/-- A piece of a Verify, of p units, is charged: what `sluicePieceCharge` does before the reads of the piece start. -/
def State.pieceCharged (s : State) (c p : Nat) : State :=
  ({ s.modSl (s.cmd c).slice fun x => { x with byteTok := x.byteTok - p * tok16 } with gov.admUnits := s.gov.admUnits + p }).modCmd c
    fun x => { x with units := x.units + p, unitsLeft := x.unitsLeft - p }

theorem sluicePieceCharge_charges (c : Nat) (s : State) (halive : (s.cmd c).alive = true) (hphase : (s.cmd c).phase = .running)
    (hopc : (s.cmd c).sqe.opc = 0x0C) (hleft : 0 < (s.cmd c).unitsLeft) (htok : 0 < (s.sl (s.cmd c).slice).byteTok) :
    let p := min 512 (s.cmd c).unitsLeft
    let u := s.nsUnits (s.cmd c).ns
    ∃ w : State,
      exec (.sluicePieceCharge c) s = .next ((w.startBlocks c (((s.cmd c).nlb * u - (s.cmd c).unitsLeft) / u) (p / u)).afterRows.settle) ∧
      w.cmd c = { s.cmd c with units := (s.cmd c).units + p, unitsLeft := (s.cmd c).unitsLeft - p } ∧
      (∀ d, d ≠ c → w.cmd d = s.cmd d) ∧
      w.sl (s.cmd c).slice =
        { s.sl (s.cmd c).slice with byteTok := (s.sl (s.cmd c).slice).byteTok - (p : Nat) * 65536 } ∧
      (∀ m, m ≠ (s.cmd c).slice → w.sl m = s.sl m) ∧
      w = { s with slices := w.slices, cmds := w.cmds, gov.admUnits := s.gov.admUnits + p } :=
  ⟨s.pieceCharged c (min 512 (s.cmd c).unitsLeft), if_pos ⟨halive, hphase, hopc, hleft, htok⟩, Tab.getD_setD_same ..,
    fun _ hd => Tab.getD_setD_other _ _ _ _ _ _ hd, Tab.getD_setD_same .., fun _ hm => Tab.getD_setD_other _ _ _ _ _ _ hm, rfl⟩

/-- Settles O16: the refill, the admission of a queue's head command, and a further piece of a Verify. -/
theorem sluiceRefillsAndAdmits : Obligations.SluiceRefillsAndAdmits :=
  ⟨sluiceRefill_fills, sluiceAdmit_dispatches, sluicePieceCharge_charges⟩

/-! ### What a Logbook record leaves of the recorded state (R132, R271, R272) -/

section
variable {β : Type} {p : State → β} (hmedia : ∀ (u : State) (m : Media), p { u with media := m } = p u)
  (hjob : ∀ (u : State) (j : Job), p (u.addJob j) = p u)
  (hopen : ∀ (u : State) (x : Nat), p { u.openShell x 4 0 true with per.logPos := x + 1 } = p u)
  (hpush : ∀ (u : State) (kind : RecKind) (obj : Nat) (body : List Nat), p (u.pushRec kind obj body) = p u)
include hmedia hjob hopen hpush

/-- What the tail, a job, a Logbook shell that opens, and one record leave as it is, a Logbook row leaves as it is. -/
theorem State.keeps_tailOut (s : State) : p s.tailOut = p s := by
  unfold State.tailOut
  split
  · rfl
  · refine State.keeps_ite rfl (State.keeps_ite ((hpush ..).trans ?_) ?_)
    all_goals
      refine (hmedia _ _).trans ((hjob _ _).trans ((State.keeps_ite (hopen _ _) rfl).trans ?_))
      exact State.keeps_ite rfl (hmedia _ _)

theorem State.keeps_recordCfg (s : State) (kind idx : Nat) (words : List Nat) : p (s.recordCfg kind idx words) = p s :=
  (hpush ..).trans (State.keeps_ite (State.keeps_tailOut hmedia hjob hopen hpush s) rfl)

end

/-- What the Logbook is to hold, without what its own records and shells write. -/
def State.book (s : State) : Persist := { s.per with shells := [], closed := false, clockRec := 0, logPos := 0 }

theorem State.book_openShell (s : State) (x kind owner : Nat) (slc : Bool) : (s.openShell x kind owner slc).book = s.book :=
  State.keeps_ite (p := State.book) rfl rfl

theorem State.book_recordCfg (s : State) (kind idx : Nat) (words : List Nat) : (s.recordCfg kind idx words).book = s.book :=
  State.keeps_recordCfg (p := State.book) (fun _ _ => rfl) (fun _ _ => rfl) (fun u x => State.book_openShell u x 4 0 true)
    (fun _ _ _ _ => rfl) s kind idx words

section
variable (s : State) (n : Nat)

theorem State.cfg_recordSlice (m : Nat) : (s.recordSlice n).cfg m = s.cfg m :=
  show (s.recordSlice n).book.slices.get m = s.book.slices.get m from
    congrArg (fun b : Persist => b.slices.get m) (State.book_recordCfg ..)

theorem State.origins_recordOrigin : (s.recordOrigin n).per.origins = s.per.origins :=
  show (s.recordOrigin n).book.origins = s.book.origins from congrArg Persist.origins (State.book_recordCfg ..)

theorem State.per_sluiceSync : (s.sluiceSync n).per = s.per := by
  unfold State.sluiceSync
  refine (show _ = State.per (State.core _) from congrArg State.per (State.core_bpAll _)).trans ?_
  exact State.keeps_ite (p := State.per) rfl (State.keeps_ite (p := State.per) rfl rfl)

theorem State.f_sluiceSync (F : R.Fld) (i k : Nat) : (s.sluiceSync n).f F i k = s.f F i k := by
  unfold State.sluiceSync
  refine (State.keeps_foldl (p := fun t => t.f F i k) (fun t c => State.f_bpConn t c F i k) _ _).trans ?_
  exact State.keeps_ite (p := fun t => t.f F i k) rfl (State.keeps_ite (p := fun t => t.f F i k) rfl rfl)

theorem State.per_discSync (old : State) : (s.discSync old).per = s.per :=
  show (s.discSync old).bed.per = s.bed.per from congrArg State.per (State.bed_discSync ..)

end

/-! ### The end of a command of SL_TCMD or SL_OCMD (R131, R136) -/

section
variable (s : State) {F : R.Fld} (hwrap : F.key 0 0 ≠ R.GL_EVT_LOG_WRAP.key 0 0) (halerts : F.key 0 0 ≠ R.GL_SB_STS_ALERTS.key 0 0)
include hwrap halerts

theorem State.f_result_settle {r : Nat} (hlt : r < 2 ^ F.w) : (s.setF F r).settle.f F = r := by
  rw [State.f_settle _ _ _ _ hwrap halerts, State.f_setF_same]
  exact Nat.mod_eq_of_lt hlt

/-- A refused command shows its RESULT, sets CMD_REFUSED, and changes nothing else. -/
theorem State.result_refused (hevt : F.key 0 0 ≠ R.SL_EVT_CMD_REFUSED.key 0 0) {r : Nat} (hlt : r < 2 ^ F.w) (p1 : Nat) :
    (((s.setF F r).raise R.SL_EVT_CMD_REFUSED p1).settle.f F = r ∧
      ((s.setF F r).raise R.SL_EVT_CMD_REFUSED p1).settle.f R.SL_EVT_CMD_REFUSED = 1) ∧
    s.Only ((s.setF F r).raise R.SL_EVT_CMD_REFUSED p1).settle [F.key 0 0, R.SL_EVT_CMD_REFUSED.key 0 0] := by
  refine ⟨⟨?_, ?_⟩, State.only_settle (fun G i k hk => ?_) rfl⟩
  · rw [State.f_settle _ _ _ _ hwrap halerts, State.f_raise_other _ _ _ _ _ _ _ _ _ hevt, State.f_setF_same]
    exact Nat.mod_eq_of_lt hlt
  · rw [State.f_settle _ _ _ _ (by decide) (by decide), State.f_raise_same]
    rfl
  · simp only [List.mem_cons, List.not_mem_nil, or_false, not_or] at hk
    obtain ⟨hresult, hrefused⟩ := hk
    exact (State.f_raise_other _ _ _ _ _ _ _ _ _ hrefused).trans (State.f_setF_other _ _ _ _ _ _ _ _ hresult)

end

section
variable (s : State) (n : Nat)

theorem State.tcmd_zero : s.tcmd n 0 = s.setF R.SL_TCMD_RESULT 0 := rfl

theorem State.ocmd_zero : s.ocmd 0 = s.setF R.SL_OCMD_RESULT 0 := rfl

theorem State.f_tcmd_zero : (s.setF R.SL_TCMD_RESULT 0).settle.f R.SL_TCMD_RESULT = 0 :=
  s.f_result_settle (by decide) (by decide) (by decide)

theorem State.f_ocmd_zero : (s.setF R.SL_OCMD_RESULT 0).settle.f R.SL_OCMD_RESULT = 0 :=
  s.f_result_settle (by decide) (by decide) (by decide)

theorem State.tcmd_refused {r : Nat} (hr : r ≠ 0) (hlt : r < 8) : (s.tcmd n r).settle.f R.SL_TCMD_RESULT = r ∧
    (s.tcmd n r).settle.f R.SL_EVT_CMD_REFUSED = 1 ∧
    s.Only (s.tcmd n r).settle [R.SL_TCMD_RESULT.key 0 0, R.SL_EVT_CMD_REFUSED.key 0 0] := by
  have hraise : s.tcmd n r = (s.setF R.SL_TCMD_RESULT r).raise R.SL_EVT_CMD_REFUSED n := if_neg hr
  rw [hraise, ← and_assoc]
  exact s.result_refused (by decide) (by decide) (by decide) hlt n

end

/-! ### CREATE, MODIFY and LOAD (R131, R144) -/

section
variable (s : State) (n : Nat) (c : SliceCfg)

theorem State.cfg_sliceMake : (s.sliceMake n c).cfg n = c := by
  have hset : ({ s with per.slices := s.per.slices.set n c, per.slUsed := s.per.slUsed.set n true } : State).cfg n = c :=
    Tab.getD_setD_same ..
  rw [← State.cfg_recordSlice _ n n] at hset
  unfold State.sliceMake
  dsimp only
  rw [State.cfg, State.per_sluiceSync]
  exact hset

theorem State.st_sliceMake : ((s.sliceMake n c).sl n).st = 1 := by
  show ((s.sliceMake n c).sl n).stand.1 = 1
  unfold State.sliceMake
  rw [State.stand_sluiceSync, State.stand_sliceLoopStart, State.stand_tokensFull, State.sl_modSl]
  rfl

end

section
variable (p : Path) (s : State) (hup : s.slicesUp = true)
include hup

theorem exec_slCreate (hst : (s.sl (s.tidx p)).st = 0) (hrange : s.cfgRange (s.shadow.get (s.tidx p)) = true)
    (horigin : s.originFree (s.tidx p) (s.shadow.get (s.tidx p)).origin = true)
    (hpools : s.poolsOk (s.tidx p) (s.shadow.get (s.tidx p)) = true) : exec (.slCreate p) s =
    .next (((s.sliceMake (s.tidx p) (s.shadow.get (s.tidx p))).discSync s).setF R.SL_TCMD_RESULT 0).settle := by
  show execSlCreate p s = _
  simp [execSlCreate, State.tcmd_zero, hup, hst, hrange, horigin, hpools, done]

theorem slCreate_makes (hst : (s.sl (s.tidx p)).st = 0) (hrange : s.cfgRange (s.shadow.get (s.tidx p)) = true)
    (horigin : s.originFree (s.tidx p) (s.shadow.get (s.tidx p)).origin = true)
    (hpools : s.poolsOk (s.tidx p) (s.shadow.get (s.tidx p)) = true) :
    ∃ t, exec (.slCreate p) s = .next t ∧ t.f R.SL_TCMD_RESULT = 0 ∧ (t.sl (s.tidx p)).st = 1 ∧
      t.cfg (s.tidx p) = s.shadow.get (s.tidx p) := by
  have hexec := exec_slCreate p s hup hst hrange horigin hpools
  have hactive := s.st_sliceMake (s.tidx p) (s.shadow.get (s.tidx p))
  have hset := s.cfg_sliceMake (s.tidx p) (s.shadow.get (s.tidx p))
  generalize s.sliceMake (s.tidx p) (s.shadow.get (s.tidx p)) = w at hexec hactive hset
  refine ⟨_, hexec, State.f_tcmd_zero _, ?_, ?_⟩
  · rw [State.sl_settle, ← hactive]
    exact congrArg Slice.st (State.sl_discSync w _ s)
  · rw [State.cfg, State.settle_per, ← hset]
    exact congrArg (fun b : Persist => b.slices.get (s.tidx p)) (State.per_discSync w s)

theorem slCreate_refuses (hst : (s.sl (s.tidx p)).st = 0) (hrange : s.cfgRange (s.shadow.get (s.tidx p)) = false) :
    ∃ t, exec (.slCreate p) s = .next t ∧ t.f R.SL_TCMD_RESULT = 2 ∧ t.f R.SL_EVT_CMD_REFUSED = 1 ∧
      s.Only t [R.SL_TCMD_RESULT.key 0 0, R.SL_EVT_CMD_REFUSED.key 0 0] := by
  refine ⟨(s.tcmd (s.tidx p) 2).settle, ?_, State.tcmd_refused s _ (by decide) (by decide)⟩
  show execSlCreate p s = _
  simp [execSlCreate, hup, hst, hrange, done]

theorem slModify_waits (hst : (s.sl (s.tidx p)).st = 1) (hrange : s.cfgRange (s.shadow.get (s.tidx p)) = true)
    (hfree : s.originFree (s.tidx p) (s.shadow.get (s.tidx p)).origin = true)
    (horigin : (s.shadow.get (s.tidx p)).origin = (s.cfg (s.tidx p)).origin)
    (hnqn : (s.shadow.get (s.tidx p)).subnqn = (s.cfg (s.tidx p)).subnqn)
    (hpools : s.poolsOk (s.tidx p) (s.shadow.get (s.tidx p)) = true)
    (hmgmt : ((s.cfg (s.tidx p)).mgmt = false ∧ (s.nextCfg (s.tidx p)).mgmt = false) ∨ (s.shadow.get (s.tidx p)).mgmt = true ∨
      s.otherMgmt (s.tidx p) = true) :
    ∃ t, exec (.slModify p) s = .next t ∧ t.f R.SL_TCMD_RESULT = 0 ∧
      (t.sl (s.tidx p)).pend = some (s.shadow.get (s.tidx p)) ∧ t.cfg (s.tidx p) = s.cfg (s.tidx p) := by
  have hkept : ¬ ((s.shadow.get (s.tidx p)).mgmt = false ∧ s.lastMgmt (s.tidx p) = true) := by
    rintro ⟨hclear, hlast⟩
    obtain ⟨hcfg, hnext⟩ | hset | hother := hmgmt
    · simp [State.lastMgmt_of_plain hcfg hnext] at hlast
    · simp [hset] at hclear
    · simp [State.lastMgmt, hother] at hlast
  generalize hw : ({ s with per.slNext := s.per.slNext.set (s.tidx p) (s.shadow.get (s.tidx p)) } : State).recordSlice (s.tidx p) = w
  refine ⟨((w.modSl (s.tidx p) fun x => { x with pend := some (s.shadow.get (s.tidx p)) }).setF R.SL_TCMD_RESULT 0).settle, ?_,
    State.f_tcmd_zero _, ?_, ?_⟩
  · show execSlModify p s = _
    simp [execSlModify, State.tcmd_zero, hup, hst, hrange, horigin ▸ hfree, horigin, hnqn, hpools, hkept, done, ← hw]
  · rw [State.sl_settle]
    exact congrArg Slice.pend (Tab.getD_setD_same ..)
  · rw [State.cfg, State.settle_per]
    show w.cfg (s.tidx p) = _
    rw [← hw]
    exact State.cfg_recordSlice ..

theorem slLoad_copies : ∃ t, exec (.slLoad p) s = .next t ∧ t.f R.SL_TCMD_RESULT = 0 ∧ t.shadow.get (s.tidx p) = s.cfg (s.tidx p) ∧
    State.Only { s with shadow := t.shadow } t [R.SL_TCMD_RESULT.key 0 0] := by
  refine ⟨({ s with shadow := s.shadow.set (s.tidx p) (s.cfg (s.tidx p)) }.setF R.SL_TCMD_RESULT 0).settle, ?_,
    State.f_tcmd_zero _, ?_, ?_⟩
  · show execSlLoad p s = _
    simp [execSlLoad, State.tcmd_zero, hup, done]
  · rw [State.settle_shadow]
    exact Tab.getD_setD_same ..
  · rw [State.settle_shadow]
    exact State.only_settle (fun F i k hk => State.f_setF_other _ _ _ _ _ _ _ _ fun he => hk (by simp [he])) rfl

end

/-- Settles O17: CREATE of a set in and out of the ranges, MODIFY that waits, and LOAD. -/
theorem sliceCreateModifyLoad : Obligations.SliceCreateModifyLoad :=
  ⟨slCreate_makes, slCreate_refuses, slModify_waits, slLoad_copies⟩

/-! ### The last manager slice (R133) -/

section
variable {p : Path} {s : State} (hup : s.slicesUp = true) (hst : (s.sl (s.tidx p)).st = 1)
include hup hst

section
variable (hlast : s.lastMgmt (s.tidx p) = true)
include hlast

theorem exec_slDelete_last (hns : s.per.ns.any (fun (_, x) => x.alive && x.owner == s.tidx p) = false) :
    exec (.slDelete p) s = .next (s.tcmd (s.tidx p) 5).settle := by
  show execSlDelete p s = _
  simp [execSlDelete, hup, hst, hlast, hns, done]

theorem exec_slModify_last (hrange : s.cfgRange (s.shadow.get (s.tidx p)) = true)
    (hfree : s.originFree (s.tidx p) (s.shadow.get (s.tidx p)).origin = true) (hctrl : s.ctrlUsed (s.tidx p) = 0)
    (hpools : s.poolsOk (s.tidx p) (s.shadow.get (s.tidx p)) = true) (hclear : (s.shadow.get (s.tidx p)).mgmt = false) :
    exec (.slModify p) s = .next (s.tcmd (s.tidx p) 5).settle := by
  show execSlModify p s = _
  simp [execSlModify, hup, hst, hlast, hrange, hfree, hctrl, hpools, hclear, done]

theorem exec_slReset_last (hp : p ≠ .sideband) : exec (.slReset p) s = .next (s.tcmd (s.tidx p) 5).settle := by
  show execSlReset p s = _
  simp [execSlReset, hup, hst, hlast, hp, done]

end

theorem exec_slReset_sideband (hp : p = .sideband) :
    exec (.slReset p) s = .next (((s.setF R.SL_TCMD_RESULT 0).resetBegin (s.tidx p) 2).discSync s).settle := by
  subst hp
  show execSlReset .sideband s = _
  simp [execSlReset, State.tcmd_zero, hup, hst, done]

end

/-- Settles O18: DELETE, MODIFY and RESET of the last manager slice, and the RESET that comes from the sideband. -/
theorem lastManagerSlice : Obligations.LastManagerSlice := by
  intro p s hup hst hmgmt hother
  have hlast : s.lastMgmt (s.tidx p) = true := by simpa [State.lastMgmt, hother] using hmgmt
  have hrefused := s.tcmd_refused (s.tidx p) (r := 5) (by decide) (by decide)
  exact ⟨fun hns => ⟨_, exec_slDelete_last hup hst hlast hns, hrefused⟩,
    fun hrange hfree hctrl hpools hclear => ⟨_, exec_slModify_last hup hst hlast hrange hfree hctrl hpools hclear, hrefused⟩,
    fun hp => ⟨_, exec_slReset_last hup hst hlast hp, hrefused⟩,
    fun hp => ⟨_, exec_slReset_sideband hup hst hp, State.f_setF_same .., rfl, rfl⟩⟩

/-! ### SL_HOLD (R143) -/

theorem slHold_key_free {n : Nat} : R.SL_HOLD_HOLD.key 0 n ≠ R.GL_EVT_LOG_WRAP.key 0 0 ∧
    R.SL_HOLD_HOLD.key 0 n ≠ R.GL_SB_STS_ALERTS.key 0 0 := by
  simp only [R.Fld.key, R.Reg.at, R.SL_HOLD_HOLD, R.SL_HOLD, R.GL_EVT_LOG_WRAP, R.GL_EVT, R.GL_SB_STS_ALERTS, R.GL_SB_STS]
  omega

theorem slHoldWrite_holds (n : Nat) (v : Word) (s : State) (hmode : s.mode ≠ .off) (hn : n < 128) :
    ∃ t, exec (.slHoldWrite n v) s = .next t ∧ t.f R.SL_HOLD_HOLD 0 n = v.toNat ∧
      ∀ b, b < 32 → t.mgrHold (32 * n + b) = bit v.toNat b := by
  obtain ⟨hwrap, halerts⟩ := slHold_key_free (n := n)
  generalize hw : (List.range 32).foldl (fun (s : State) b =>
    if (s.sl (32 * n + b)).st = 0 then s else s.sluiceSync (32 * n + b)) (s.setF R.SL_HOLD_HOLD v.toNat 0 n) = w
  have hold : w.settle.f R.SL_HOLD_HOLD 0 n = v.toNat := by
    rw [State.f_settle _ _ _ _ hwrap halerts, ← hw]
    refine (State.keeps_foldl (p := fun t => t.f R.SL_HOLD_HOLD 0 n) (fun t b => ?_) _ _).trans ?_
    · exact State.keeps_ite (p := fun t => t.f R.SL_HOLD_HOLD 0 n) rfl (State.f_sluiceSync ..)
    · exact (State.f_setF_same ..).trans (Nat.mod_eq_of_lt v.isLt)
  refine ⟨w.settle, ?_, hold, fun b hb => ?_⟩
  · rw [← hw]
    exact if_pos ⟨hn, by simpa [State.up] using hmode⟩
  · have hdiv : (32 * n + b) / 32 = n := by omega
    have hmod : (32 * n + b) % 32 = b := by omega
    rw [State.mgrHold, hdiv, hmod, hold]

/-! ### The Origin Table (R136) -/

section
variable (p : Path) (s : State) (hup : s.slicesUp = true)
include hup

theorem originCommit_stores (_hvalid : s.originStaged.valid = true)
    (hdup : s.per.origins.any (fun (j, o) =>
      j != s.idxF p R.SL_OIDX_ENTRY && o.valid && nqnOf o.nqn == nqnOf s.originStaged.nqn) = false)
    (hnqn : nqnOk s.originStaged.nqn = true) :
    ∃ t, exec (.originCommit p) s = .next t ∧ t.f R.SL_OCMD_RESULT = 0 ∧
      t.per.origins.get (s.idxF p R.SL_OIDX_ENTRY) = s.originStaged := by
  generalize hw : ({ s with per.origins := s.per.origins.set (s.idxF p R.SL_OIDX_ENTRY) s.originStaged } : State).recordOrigin
    (s.idxF p R.SL_OIDX_ENTRY) = w
  refine ⟨((w.discSync s).setF R.SL_OCMD_RESULT 0).settle, ?_, State.f_ocmd_zero _, ?_⟩
  · show execOriginCommit p s = _
    unfold execOriginCommit
    rw [if_neg (by simp [hup])]
    dsimp only
    rw [if_neg (by simp [hdup]), if_neg (by simp [hnqn]), hw]
    rfl
  · rw [State.settle_per]
    show (w.discSync s).per.origins.get _ = _
    rw [State.per_discSync, ← hw, State.origins_recordOrigin]
    exact Tab.getD_setD_same ..

theorem originCommit_refuses (hvalid : s.originStaged.valid = true)
    (hdup : s.per.origins.any (fun (j, o) =>
      j != s.idxF p R.SL_OIDX_ENTRY && o.valid && nqnOf o.nqn == nqnOf s.originStaged.nqn) = true) :
    ∃ t, exec (.originCommit p) s = .next t ∧ t.f R.SL_OCMD_RESULT = 1 ∧ t.f R.SL_EVT_CMD_REFUSED = 1 ∧
      s.Only t [R.SL_OCMD_RESULT.key 0 0, R.SL_EVT_CMD_REFUSED.key 0 0] := by
  refine ⟨(s.ocmd 1).settle, ?_, ?_⟩
  · show execOriginCommit p s = _
    unfold execOriginCommit
    rw [if_neg (by simp [hup])]
    exact if_pos ⟨hvalid, hdup⟩
  · rw [← and_assoc]
    exact s.result_refused (by decide) (by decide) (by decide) (by decide) noP

theorem originInvalidate_clears :
    ∃ t, exec (.originInvalidate p) s = .next t ∧ t.f R.SL_OCMD_RESULT = 0 ∧
      (t.per.origins.get (s.idxF p R.SL_OIDX_ENTRY)).valid = false := by
  generalize hw : ({ s with per.origins := s.per.origins.mod (s.idxF p R.SL_OIDX_ENTRY) fun e => { e with valid := false } } :
    State).recordOrigin (s.idxF p R.SL_OIDX_ENTRY) = w
  refine ⟨((w.discSync s).setF R.SL_OCMD_RESULT 0).settle, ?_, State.f_ocmd_zero _, ?_⟩
  · show execOriginInvalidate p s = _
    unfold execOriginInvalidate
    rw [if_neg (by simp [hup])]
    dsimp only
    rw [hw]
    rfl
  · rw [State.settle_per]
    show ((w.discSync s).per.origins.get _).valid = _
    rw [State.per_discSync, ← hw, State.origins_recordOrigin]
    exact congrArg OriginEntry.valid (Tab.getD_setD_same ..)

end

/-- Settles O20: the hold bits of 32 slices, a commit that is stored, one that is refused, and an entry made invalid. -/
theorem holdAndOrigins : Obligations.HoldAndOrigins :=
  ⟨slHoldWrite_holds, originCommit_stores, originCommit_refuses, originInvalidate_clears⟩

end Sys2Proof.Machine
end

section
/-! SUPPORT. The Governor's passes: the sample boundary that opens one, the boundary that falls during one, and its end (R159, R160,
R161), and the write pause (R171). -/

namespace Sys2Proof.Machine

/-! ### What the outputs and the events of a pass leave as it is (R160) -/

/-- The pass that runs, and the Time Base that measures it. -/
def State.passTime (s : State) : Option PassOut × Nat := (s.gov.pass, s.clk.tb)

/-- The events of GV_EVT that a pass logs at its end. -/
def passEvents : List R.Fld :=
  [R.GV_EVT_FALLBACK, R.GV_EVT_RETURN_AUTO, R.GV_EVT_SAT, R.GV_EVT_PROFILE_APPLIED, R.GV_EVT_PRESET_CLEAR]

section
variable (s : State)

theorem State.passTime_settle : s.settle.passTime = s.passTime := by
  rw [State.passTime, State.settle_gov, State.settle_clk]
  rfl

theorem State.passTime_sluiceSync (n : Nat) : (s.sluiceSync n).passTime = s.passTime := by
  unfold State.sluiceSync
  refine (show _ = State.passTime (State.core _) from congrArg State.passTime (State.core_bpAll _)).trans ?_
  exact State.keeps_ite (p := State.passTime) rfl (State.keeps_ite (p := State.passTime) rfl rfl)

theorem State.passTime_applyGrant (n b c : Nat) : (s.applyGrant n b c).passTime = s.passTime :=
  State.keeps_ite (p := State.passTime) rfl ((State.passTime_sluiceSync ..).trans rfl)

theorem State.passTime_each_setF (n : Nat) (F : R.Fld) (v : Nat) : (s.each n fun u l => u.setF F v l).passTime = s.passTime :=
  State.keeps_foldl (f := fun u l => u.setF F v l) (fun _ _ => rfl) (List.range n) s

theorem State.passTime_applyDevice : s.applyDevice.passTime = s.passTime := by
  rw [← s.passTime_each_setF 32 R.LN_EASY_EASY (s.loop 4096).outA]
  unfold State.applyDevice
  dsimp only
  generalize s.each 32 _ = u
  rfl

theorem State.passTime_raiseLimited (key : Nat) (F : R.Fld) (p1 : Nat) : (s.raiseLimited key F p1).passTime = s.passTime :=
  State.keeps_ite (p := State.passTime) rfl rfl

/-- What no event of GV_EVT changes, an event of a pass leaves as it is. -/
theorem State.keeps_passEvent {β : Type} {p : State → β}
    (hraise : ∀ (u : State) (F : R.Fld) (p1 p2 : Nat), F ∈ passEvents → p (u.raise F p1 p2) = p u)
    (hlimited : ∀ (u : State) (key : Nat) (F : R.Fld) (p1 : Nat), F ∈ passEvents → p (u.raiseLimited key F p1) = p u)
    (e : Nat × Nat × Nat) : p (s.passEvent e) = p s := by
  unfold State.passEvent
  split
  case h_3 => exact hlimited _ _ _ _ (by decide)
  all_goals exact hraise _ _ _ _ (by decide)

theorem State.passTime_passEvent (e : Nat × Nat × Nat) : (s.passEvent e).passTime = s.passTime :=
  s.keeps_passEvent (fun _ _ _ _ _ => rfl) (fun _ _ _ _ _ => State.passTime_raiseLimited ..) e

theorem lastPass_key_free : ∀ F ∈ passEvents, R.GV_PASS_LAST_PASS.key 0 0 ≠ F.key 0 0 := by decide

theorem State.lastPass_passEvent (e : Nat × Nat × Nat) :
    (s.passEvent e).f R.GV_PASS_LAST_PASS = s.f R.GV_PASS_LAST_PASS :=
  s.keeps_passEvent (p := fun t => t.f R.GV_PASS_LAST_PASS)
    (fun _ _ _ _ hF => State.f_raise_other _ _ _ _ _ _ _ _ _ (lastPass_key_free _ hF))
    (fun _ _ _ _ hF => State.f_raiseLimited_other _ _ _ _ _ _ _ _ _ _ (lastPass_key_free _ hF)) e

/-- A measured value reads as put, saturated at the field's width. -/
theorem State.f_putF_same (F : R.Fld) (v i k : Nat) : (s.putF F v i k).f F i k = min v (2 ^ F.w - 1) := by
  have hpos := Nat.two_pow_pos F.w
  rw [State.putF, State.f_setF_same]
  exact Nat.mod_eq_of_lt (by omega)

/-- LAST_PASS and MAX_PASS of a pass of d ticks (R160). -/
def State.passMeasured (d : Nat) : State :=
  (s.putF R.GV_PASS_LAST_PASS d).putF R.GV_PASS_MAX_PASS (max d (s.f R.GV_PASS_MAX_PASS))

theorem State.lastPass_passMeasured (d : Nat) :
    (s.passMeasured d).f R.GV_PASS_LAST_PASS = min d (2 ^ R.GV_PASS_LAST_PASS.w - 1) :=
  (State.f_setF_other _ _ _ _ _ _ _ _ (by decide)).trans (s.f_putF_same ..)

end

/-! ### Sample boundaries (R159, R161) -/

section
variable {mw mv : Nat} {s : State} (hmode : s.modeIn passModes = true)
include hmode

/-- A boundary with no pass running ends in a state whose sample is new: its counts are 0 and a pass runs. -/
theorem exec_sampleBoundary_opens (hpass : s.gov.pass = none) : ∃ (u : State) (out : PassOut),
    exec (.sampleBoundary mw mv) s = .next (State.settle { u with gov := { u.gov with
      pass := some out, units := [], admUnits := 0, wrUnits := 0, foldUnits := 0, ticks := s.f R.GV_CFG_SAMPLE_TICKS, skipped := 0 } }) := by
  show ∃ u out, execSampleBoundary mw mv s = _
  unfold execSampleBoundary
  rw [if_neg (not_not.mpr hmode)]
  dsimp only
  rw [if_neg (by simp [hpass])]
  exact ⟨_, _, rfl⟩

theorem exec_sampleBoundary_overruns (hpass : s.gov.pass.isSome = true) :
    exec (.sampleBoundary mw mv) s = .next
      ((State.addF { s with gov := { s.gov with skipped := s.gov.skipped + 1 } } R.GV_STS_OVERRUNS).raise R.GV_EVT_OVERRUN).settle := by
  show execSampleBoundary mw mv s = _
  unfold execSampleBoundary
  rw [if_neg (not_not.mpr hmode)]
  exact if_pos hpass

end

theorem sampleBoundary_opens (mw mv : Nat) (s : State) (hmode : s.modeIn passModes = true) (hpass : s.gov.pass = none) :
    ∃ t, exec (.sampleBoundary mw mv) s = .next t ∧ t.gov.pass.isSome = true ∧ t.gov.ticks = s.f R.GV_CFG_SAMPLE_TICKS ∧
      t.gov.skipped = 0 ∧ t.gov.units = [] ∧ t.gov.admUnits = 0 ∧ t.gov.wrUnits = 0 ∧ t.gov.foldUnits = 0 := by
  obtain ⟨u, out, hexec⟩ := exec_sampleBoundary_opens (mw := mw) (mv := mv) hmode hpass
  refine ⟨_, hexec, ?_⟩
  rw [State.settle_gov]
  exact ⟨rfl, rfl, rfl, rfl, rfl, rfl, rfl⟩

theorem sampleBoundary_overruns (mw mv : Nat) (s : State) (hmode : s.modeIn passModes = true) (hpass : s.gov.pass.isSome = true) :
    ∃ t, exec (.sampleBoundary mw mv) s = .next t ∧
      t.f R.GV_STS_OVERRUNS = satAdd R.GV_STS_OVERRUNS.w (s.f R.GV_STS_OVERRUNS) 1 ∧ t.f R.GV_EVT_OVERRUN = 1 ∧
      State.Only { s with gov := { s.gov with skipped := s.gov.skipped + 1 } } t
        [R.GV_STS_OVERRUNS.key 0 0, R.GV_EVT_OVERRUN.key 0 0] := by
  refine ⟨_, exec_sampleBoundary_overruns hmode hpass, ?_, ?_, State.only_settle (fun F i k hk => ?_) rfl⟩
  · rw [State.f_settle _ _ _ _ (by decide) (by decide), State.f_raise_other _ _ _ _ _ _ _ _ _ (by decide), State.f_addF_same]
    exact Nat.mod_eq_of_lt (satAdd_lt ..)
  · rw [State.f_settle _ _ _ _ (by decide) (by decide), State.f_raise_same]
    rfl
  · simp only [List.mem_cons, List.not_mem_nil, or_false, not_or] at hk
    obtain ⟨hcount, hevt⟩ := hk
    exact (State.f_raise_other _ _ _ _ _ _ _ _ _ hevt).trans (State.f_addF_other _ _ _ _ _ _ _ _ hcount)

/-! ### The end of a pass (R160) and of the write pause (R171) -/

/-- The outputs of a pass that ends give a state in which no pass runs; there the pass is measured, and its events are logged. -/
theorem exec_govPassEnd {p : PassOut} {s : State} (hmode : s.modeIn passModes = true) (hpass : s.gov.pass = some p) :
    ∃ u : State, u.passTime = (none, s.clk.tb) ∧
      exec .govPassEnd s = .next (p.evs.foldl State.passEvent (u.passMeasured (u.clk.tb - p.start))).settle := by
  show ∃ u : State, _ ∧ execGovPassEnd s = _
  unfold execGovPassEnd
  rw [hpass]
  dsimp only
  have hmode' : State.modeIn { s with gov := { s.gov with pass := none } } passModes = true := hmode
  rw [if_neg (not_not.mpr hmode')]
  refine ⟨_, ?_, rfl⟩
  rw [State.keeps_foldl (p := State.passTime) fun _ _ => State.passTime_applyGrant .., State.passTime_applyDevice]
  exact State.keeps_foldl (p := State.passTime) (fun _ _ => by rfl) _ _

theorem govPassEnd_closes (p : PassOut) (s : State) (hmode : s.modeIn passModes = true) (hpass : s.gov.pass = some p) :
    ∃ t, exec .govPassEnd s = .next t ∧ t.gov.pass = none ∧
      t.f R.GV_PASS_LAST_PASS = min (s.clk.tb - p.start) (2 ^ R.GV_PASS_LAST_PASS.w - 1) := by
  obtain ⟨u, htime, hexec⟩ := exec_govPassEnd hmode hpass
  have htb : u.clk.tb = s.clk.tb := congrArg Prod.snd htime
  refine ⟨_, hexec, ?_, ?_⟩
  · refine congrArg Prod.fst (?_ : State.passTime _ = (none, s.clk.tb))
    rw [State.passTime_settle, State.keeps_foldl State.passTime_passEvent]
    exact htime
  · rw [State.f_settle _ _ _ _ (by decide) (by decide),
      State.keeps_foldl (p := fun t => t.f R.GV_PASS_LAST_PASS) State.lastPass_passEvent, State.lastPass_passMeasured, htb]

theorem writePauseEnd_ends (s : State) (h : s.gov.pause = true) :
    ∃ t, exec .writePauseEnd s = .next t ∧ State.Only { s with gov := { s.gov with pause := false } } t [] :=
  ⟨_, show execWritePauseEnd s = _ from if_pos h, State.only_settle_same _ _⟩

/-- Settles O14: a boundary that opens a pass, one that falls during a pass, the end of a pass, and the end of the write pause. -/
theorem governorPass : Obligations.GovernorPass :=
  ⟨sampleBoundary_opens, sampleBoundary_overruns, govPassEnd_closes, writePauseEnd_ends⟩

end Sys2Proof.Machine
end

section
/-! SUPPORT. What a Logbook record leaves as it is (R271, R272), and the timers of media management (R198, R246, R265, R272, R274). -/

namespace Sys2Proof.Machine

/-! ### A record joins the tail (R271) -/

section
variable {β : Type} {p : State → β} (hmedia : ∀ (u : State) (m : Media), p { u with media := m } = p u)
  (hjob : ∀ (u : State) (j : Job), p (u.addJob j) = p u)
  (hopen : ∀ (u : State) (x : Nat), p { u.openShell x 4 0 true with per.logPos := x + 1 } = p u)
  (hpush : ∀ (u : State) (kind : RecKind) (obj : Nat) (body : List Nat), p (u.pushRec kind obj body) = p u)
include hmedia hjob hopen hpush

/-- What a Logbook row and one record leave as it is, a record leaves as it is. -/
theorem State.keeps_recordB (s : State) (kind : RecKind) (obj : Nat) (body : List Nat) : p (s.recordB kind obj body) = p s :=
  (hpush ..).trans (State.keeps_ite (State.keeps_tailOut hmedia hjob hopen hpush s) rfl)

end

theorem State.clock_of_book {s t : State} (h : t.book = s.book) : t.per.clock = s.per.clock :=
  show t.book.clock = s.book.clock from congrArg Persist.clock h

section
variable (s : State) (kind : RecKind) (obj : Nat) (body : List Nat)

theorem State.book_recordB : (s.recordB kind obj body).book = s.book :=
  State.keeps_recordB (p := State.book) (fun _ _ => rfl) (fun _ _ => rfl) (fun u x => State.book_openShell u x 4 0 true)
    (fun _ _ _ _ => rfl) s kind obj body

/-- A record stands at the end of the tail, whether or not the tail had to be programmed first. -/
theorem State.mem_tail_recordB : ∃ r ∈ (s.recordB kind obj body).media.tail, r.kind = kind ∧ r.obj = obj := by
  unfold State.recordB State.pushRec
  exact ⟨_, List.mem_append_right _ (List.mem_singleton.mpr rfl), rfl, rfl⟩

/-- A Logbook shell that opens, or stands open, leaves what media management holds. -/
theorem State.media_logOpened (c : Prop) [Decidable c] (x : Nat) :
    (if c then { s.openShell x 4 0 true with per.logPos := x + 1 } else s).media = s.media :=
  State.keeps_ite (p := State.media) (State.keeps_ite (p := State.media) rfl rfl) rfl

end

/-! ### The tail is programmed (R272) -/

/-- The tail filled with PAD where a record header fits. -/
def State.tailPadded (s : State) : State :=
  if s.logRowBytes - s.tailBytes < 16 then s
  else
    { s with media.tail := s.media.tail ++ [s.mkRec .pad 0 (s.logRowBytes - s.tailBytes - 16) []], media.seq := s.media.seq + 1 }

/-- The tail has become a row job of Logbook shell x, which is opened where it was Erased. -/
def State.tailRow (s : State) (x : Nat) : State :=
  let t := s.tailPadded
  let u := if (t.shell x).st == 1 then { t.openShell x 4 0 true with per.logPos := x + 1 } else t
  let v := u.addJob { kind := .log, shell := x + 1, row := t.nextRow x, slc := true, recs := u.media.tail,
                      lastSeq := u.media.seq - 1, snap := u.snapshot }
  { v with media.tail := [] }

section
variable (s : State) (x : Nat)

theorem State.shell_tailPadded : s.tailPadded.shell x = s.shell x := State.keeps_ite (p := fun t => t.shell x) rfl rfl

theorem State.nextJob_tailPadded : s.tailPadded.media.nextJob = s.media.nextJob :=
  State.keeps_ite (p := fun t => t.media.nextJob) rfl rfl

theorem State.tail_prefix_tailPadded : s.media.tail <+: s.tailPadded.media.tail := by
  unfold State.tailPadded
  split
  · exact List.prefix_rfl
  · exact List.prefix_append ..

/-- A tail that is not empty is programmed; the record of a shell that it opens is the next tail. -/
theorem State.tailOut_eq (hshell : s.logShell = some x) (htail : s.media.tail ≠ []) :
    s.tailOut = if (s.shell x).st == 1 then (s.tailRow x).pushRec .shell x ((s.tailRow x).recBody .shell x) else s.tailRow x := by
  rw [← State.shell_tailPadded]
  have hne : ¬ s.media.tail.isEmpty = true := by simpa using htail
  unfold State.tailOut
  rw [hshell]
  exact if_neg hne

theorem State.tailOut_empty (htail : s.media.tail = []) : s.tailOut = s := by
  unfold State.tailOut
  split
  · rfl
  · exact if_pos (by simp [htail])

theorem State.clockMin_tailRow : (s.tailRow x).media.clockMin = s.media.clockMin :=
  (congrArg Media.clockMin (s.tailPadded.media_logOpened ((s.tailPadded.shell x).st == 1) x)).trans
    (State.keeps_ite (p := fun t => t.media.clockMin) rfl rfl)

/-- The job of the row holds the tail as it was, and what fills it. -/
theorem State.job_tailRow : ∃ j ∈ (s.tailRow x).media.jobs,
    j.kind = .log ∧ j.shell = x + 1 ∧ j.id = s.media.nextJob ∧ s.media.tail <+: j.recs := by
  have hopened := s.tailPadded.media_logOpened ((s.tailPadded.shell x).st == 1) x
  refine ⟨_, List.mem_append_right _ (List.mem_singleton.mpr rfl), rfl, rfl, ?_, ?_⟩
  · exact (congrArg Media.nextJob hopened).trans s.nextJob_tailPadded
  · exact (congrArg (fun m : Media => s.media.tail <+: m.tail) hopened).mpr s.tail_prefix_tailPadded

end

theorem logHoldTimer_programs (x : Nat) (s : State) (hruns : s.mediaRuns = true) (htail : s.media.tail ≠ [])
    (hshell : s.logShell = some x) :
    ∃ t, exec .logHoldTimer s = .next t ∧ ((s.shell x).st ≠ 1 → t.media.tail = []) ∧
      (∀ r ∈ t.media.tail, r.kind = .shell ∧ r.obj = x) ∧
      ∃ j ∈ t.media.jobs, j.kind = .log ∧ j.shell = x + 1 ∧ j.id = s.media.nextJob ∧ s.media.tail <+: j.recs := by
  refine ⟨s.tailOut.settle, if_pos ⟨hruns, by simpa using htail⟩, ?_⟩
  rw [State.settle_media, s.tailOut_eq x hshell htail]
  by_cases hfresh : (s.shell x).st = 1
  · rw [if_pos (by simpa using hfresh)]
    refine ⟨fun h => absurd hfresh h, fun r hr => ?_, s.job_tailRow x⟩
    obtain rfl := List.mem_singleton.mp hr
    exact ⟨rfl, rfl⟩
  · rw [if_neg (by simpa using hfresh)]
    exact ⟨fun _ => rfl, fun _ hr => absurd hr List.not_mem_nil, s.job_tailRow x⟩

/-! ### Rows that have dwelt, and relocation jobs (R198, R265) -/

theorem spillDwellTimer_spills (z : Nat) (s : State) (hruns : s.mediaRuns = true) (hrows : s.partialRows z ≠ []) :
    exec (.spillDwellTimer z) s = .next ((s.spillPartial z).afterRows.settle) := if_pos ⟨hruns, by simpa using hrows⟩

theorem spillHoldMaxTimer_spills (z : Nat) (s : State) (hruns : s.mediaRuns = true) (hrows : s.partialRows z ≠ []) :
    ∃ u : State, exec (.spillHoldMaxTimer z) s = .next ((u.spillPartial z).afterRows.settle) ∧ u.media = s.media ∧
      u.f R.MD_ZEVT_HOLD_SPILL = 1 :=
  ⟨s.holdSpill z, if_pos ⟨hruns, by simpa using hrows⟩, State.keeps_ite (p := State.media) rfl rfl, State.f_raiseLimited_same ..⟩

theorem relocJobStart_starts (s t : State) (hmode : s.mode = .rebuild ∨ s.mode = .service ∨ s.mode = .readOnly)
    (hstop : s.clk.stopped = false) (hcp : s.cpUp = true) (hmax : s.relocActive < s.f R.MD_RELOC_RELOC_MAX)
    (ht : ((s.media.relocs.keysWhere fun _ r => r.alive && !r.started).foldr s.relocInsert []).findSome? s.relocTry = some t) :
    exec .relocJobStart s = .next t.afterRows.settle := by
  have hin : s.modeIn [.rebuild, .service, .readOnly] = true := by simpa [State.modeIn] using hmode
  show execRelocJobStart s = _
  unfold execRelocJobStart
  rw [if_neg (by simp [hin, hstop, hcp, hmax])]
  dsimp only
  rw [ht]
  rfl

/-! ### The Tally (R274) -/

/-- A Tally cycle that begins is measured, and its start noted. -/
def State.tallyLap (s : State) : State :=
  if s.media.tseg % s.tallySegments ≠ 0 then s
  else
    let t := if s.media.tallyStart = 0 then s
      else s.putF R.MD_TALLY_LAP_S ((s.clk.tb + 1 - s.media.tallyStart) / Config.ticksPerS)
    { t with media.tallyStart := t.clk.tb + 1 }

theorem State.per_tallyLap (s : State) : s.tallyLap.per = s.per :=
  State.keeps_ite (p := State.per) rfl (State.keeps_ite (p := State.per) rfl rfl)

theorem State.per_addJobs {α : Type} (j : α → Job) (l : List α) (s : State) : (l.foldl (fun s i => s.addJob (j i)) s).per = s.per :=
  State.keeps_foldl (p := State.per) (f := fun s i => s.addJob (j i)) (fun _ _ => rfl) l s

/-- The segments of the Tally are those of what is recorded. -/
theorem State.tallySegments_congr {s t : State} (h : t.per = s.per) : t.tallySegments = s.tallySegments := by
  unfold State.tallySegments State.mapSegments
  rw [h]

theorem tallySegmentStart_starts (s : State) (hmode : s.mode = .service ∨ s.mode = .readOnly) (hstop : s.clk.stopped = false)
    (hshells : s.per.tallyShells ≠ []) (hjobs : s.media.jobs.any (fun j => j.kind == .tally) = false) (hcp : s.cpUp = true)
    (hfree : s.media.tallyFree ≤ s.clk.tb) :
    ∃ u : State, exec .tallySegmentStart s = .next u.assignShells.settle ∧
      u.media.tseg = (s.media.tseg % s.tallySegments + 1) % s.tallySegments ∧ u.per = s.per := by
  have hin : s.modeIn [.service, .readOnly] = true := by simpa [State.modeIn] using hmode
  show ∃ u : State, execTallySegmentStart s = _ ∧ _
  unfold execTallySegmentStart
  rw [if_neg (by simp [State.tallyRuns, hin, hcp, hstop, hshells, hjobs, Nat.not_lt.mpr hfree])]
  refine ⟨_, rfl, congrArg ((s.media.tseg % s.tallySegments + 1) % ·) (State.tallySegments_congr ?_), ?_⟩
  · exact (State.per_addJobs _ _ _).trans s.per_tallyLap
  · exact (State.per_addJobs _ _ _).trans s.per_tallyLap

/-! ### The Ledger clock (R246) -/

/-- A minute of powered time is counted. -/
def State.minuteCounted (s : State) : State :=
  { s with per.clock := s.per.clock + 1, media.clockMin := s.media.clockMin + 1 }

theorem ledgerClockMinute_counts (s : State) (hmode : s.mode = .discovery ∨ s.mode = .rebuild ∨ s.mode = .feathered) :
    ∃ t, exec .ledgerClockMinute s = .next t ∧ t.per.clock = s.per.clock + 1 ∧ t.media.clockMin = s.media.clockMin + 1 ∧
      State.Only { s with per := { s.per with clock := s.per.clock + 1 },
                          media := { s.media with clockMin := s.media.clockMin + 1 } } t [] := by
  have hon : s.modeIn [.off, .bootstrap, .sealed] = false ∧ s.modeIn [.service, .readOnly] = false := by
    rcases hmode with h | h | h <;> simp [State.modeIn, h]
  refine ⟨s.minuteCounted.settle, ?_, ?_, ?_, State.only_settle_same s.minuteCounted []⟩
  · show execLedgerClockMinute s = _
    unfold execLedgerClockMinute
    rw [if_neg (ne_true_of_eq_false hon.1)]
    exact if_neg (ne_true_of_eq_false hon.2)
  · rw [State.settle_per]
    rfl
  · rw [State.settle_media]
    rfl

theorem ledgerClockMinute_checks (s : State) (hmode : s.mode = .service ∨ s.mode = .readOnly) :
    ∃ u : State, exec .ledgerClockMinute s = .next (((List.range 8).foldl State.wearCheck u.refreshAges).settle) ∧
      u.per.clock = s.per.clock + 1 := by
  have hon : s.modeIn [.off, .bootstrap, .sealed] = false ∧ s.modeIn [.service, .readOnly] = true := by
    rcases hmode with h | h <;> simp [State.modeIn, h]
  refine ⟨s.minuteCounted, ?_, rfl⟩
  show execLedgerClockMinute s = _
  unfold execLedgerClockMinute
  rw [if_neg (ne_true_of_eq_false hon.1)]
  exact if_pos hon.2

/-- No minute waits for its record. -/
def State.minutesCleared (s : State) : State := { s with media.clockMin := 0 }

theorem State.clockMin_tailOut (s : State) : s.tailOut.media.clockMin = s.media.clockMin := by
  cases hshell : s.logShell with
  | none =>
    unfold State.tailOut
    rw [hshell]
  | some x =>
    by_cases htail : s.media.tail = []
    · rw [s.tailOut_empty htail]
    · rw [s.tailOut_eq x hshell htail]
      exact State.keeps_ite (p := fun t => t.media.clockMin) (s.clockMin_tailRow x) (s.clockMin_tailRow x)

theorem ledgerClockRecord_records (s : State)
    (hmode : s.mode = .rebuild ∨ s.mode = .service ∨ s.mode = .readOnly ∨ s.mode = .sanitize) :
    ∃ t, exec .ledgerClockRecord s = .next t ∧ t.media.clockMin = 0 ∧ t.per.clock = s.per.clock ∧
      ∃ r ∈ t.media.tail, r.kind = .clock ∧ r.obj = s.per.clock := by
  have hin : s.modeIn [.rebuild, .service, .readOnly, .sanitize] = true := by simpa [State.modeIn] using hmode
  refine ⟨(s.minutesCleared.record .clock s.per.clock).settle, if_pos hin, ?_⟩
  rw [State.settle_media, State.settle_per]
  refine ⟨?_, ?_, State.mem_tail_recordB ..⟩
  · exact State.keeps_ite (p := fun t => t.media.clockMin) (State.clockMin_tailOut _) rfl
  · exact State.clock_of_book (State.book_recordB s.minutesCleared _ _ _)

/-- Settles O47: rows that have dwelt, the tail, relocation, the Tally, and the Ledger clock. -/
theorem mediaTimers : Obligations.MediaTimers :=
  ⟨spillDwellTimer_spills, spillHoldMaxTimer_spills, logHoldTimer_programs, relocJobStart_starts, tallySegmentStart_starts,
   ledgerClockMinute_counts, ledgerClockMinute_checks, ledgerClockRecord_records⟩

end Sys2Proof.Machine
end

section
/-! SUPPORT. Zones: what each operation leaves of a zone (R189, R190, R201, R202, R204), and the actions of Zone Management Send
(Table 07-5). -/

namespace Sys2Proof.Machine

/-! ### A record, and the zones (R271) -/

theorem State.zone_of_book {s t : State} (h : t.book = s.book) (z : Nat) : t.zone z = s.zone z :=
  show t.book.zones.get z = s.book.zones.get z from congrArg (fun b : Persist => b.zones.get z) h

theorem State.zone_recordB (s : State) (kind : RecKind) (obj : Nat) (body : List Nat) (z : Nat) :
    (s.recordB kind obj body).zone z = s.zone z := State.zone_of_book (State.book_recordB ..) z

theorem State.f_openShell_other (s : State) (x kind owner : Nat) (slc : Bool) (F : R.Fld) (i k : Nat)
    (h : F.key i k ≠ R.SH_EVT_SHELL_SHORT.key 0 0) : (s.openShell x kind owner slc).f F i k = s.f F i k :=
  State.keeps_ite (p := fun t => t.f F i k) (State.f_raise_other _ _ _ _ _ _ _ _ _ h) rfl

/-- Of the register fields a record may write the event of a short shell alone. -/
theorem State.f_recordB_other (s : State) (kind : RecKind) (obj : Nat) (body : List Nat) (F : R.Fld) (i k : Nat)
    (h : F.key i k ≠ R.SH_EVT_SHELL_SHORT.key 0 0) : (s.recordB kind obj body).f F i k = s.f F i k :=
  State.keeps_recordB (p := fun t => t.f F i k) (fun _ _ => rfl) (fun _ _ => rfl)
    (fun u x => State.f_openShell_other u x 4 0 true F i k h) (fun _ _ _ _ => rfl) s kind obj body

theorem State.rule1_recordB (s : State) (kind : RecKind) (obj : Nat) (body : List Nat) :
    (s.recordB kind obj body).rule1 = s.rule1 :=
  congrArg (· != 0) (State.f_recordB_other s kind obj body R.RC_ACK_STS_ACK_RULE 0 0 (by decide))

/-! ### A zone takes a shell (R208) -/

section
variable {s t : State} {p cls kind owner x : Nat} {slc : Bool} {notCrew : Nat → Bool}

theorem State.takeShell_eq (h : s.takeShell p cls kind owner slc notCrew = some (x, t)) :
    t = (s.openShell x kind owner slc).record .shell x := by
  unfold State.takeShell at h
  split at h
  · cases h
  · cases h
    rfl

theorem State.book_takeShell (h : s.takeShell p cls kind owner slc notCrew = some (x, t)) : t.book = s.book := by
  rw [State.takeShell_eq h]
  exact (State.book_recordB ..).trans (State.book_openShell ..)

theorem State.front_takeShell (h : s.takeShell p cls kind owner slc notCrew = some (x, t)) : t.front = s.front := by
  rw [State.takeShell_eq h]
  exact (State.front_recordB ..).trans (State.front_openShell ..)

end

section
variable (s : State) (z : Nat)

theorem State.zone_set (x : Zone) : ({ s with per.zones := s.per.zones.set z x } : State).zone z = x :=
  Tab.getD_setD_same s.per.zones default z x

theorem State.zone_modZone_same (f : Zone → Zone) : (s.modZone z f).zone z = f (s.zone z) := Tab.getD_setD_same ..

/-- A zone that takes a shell, or waits for one, is as it was but for the shell. -/
theorem State.zone_zoneShell :
    ∃ (h : Nat) (v : Bool), (s.zoneShell z).zone z = { s.zone z with shell := h, shellValid := v } := by
  unfold State.zoneShell
  dsimp only
  split
  · next h t ht =>
    refine ⟨h, true, ?_⟩
    rw [State.zone_modZone_same, State.zone_of_book (State.book_takeShell ht)]
  · exact ⟨(s.zone z).shell, (s.zone z).shellValid, rfl⟩

theorem State.front_zoneShell : (s.zoneShell z).front = s.front := by
  unfold State.zoneShell
  dsimp only
  split
  · next ht => exact (State.front_withPer ..).trans (State.front_takeShell ht)
  · rfl

/-! ### A zone changes state (Table 07-5) -/

theorem State.zone_zoneTo (zs : ZState) : (s.zoneTo z zs).zone z = { s.zone z with zs := zs } :=
  (State.zone_recordB ..).trans (State.zone_modZone_same ..)

theorem State.rule1_zoneTo (zs : ZState) : (s.zoneTo z zs).rule1 = s.rule1 := State.rule1_recordB ..

theorem State.zone_zoneEmpty :
    (s.zoneEmpty z).zone z = { zs := .empty, ns := (s.zone z).ns, zoneNo := (s.zone z).zoneNo } := by
  unfold State.zoneEmpty
  rw [State.zone_recordB]
  exact State.zone_set (s.zoneDrop z) z _

theorem State.zone_zoneOfflineTo : ((s.zoneOfflineTo z).zone z).zs = .offline ∧ ((s.zoneOfflineTo z).zone z).shellValid = false := by
  unfold State.zoneOfflineTo
  rw [State.zone_recordB, State.zone_modZone_same]
  exact ⟨rfl, rfl⟩

theorem State.zone_zoneOpenTo (hint : Option Nat) :
    ((s.zoneOpenTo z hint).zone z).zs = .explOpen ∧ ((s.zoneOpenTo z hint).zone z).wp = (s.zone z).wp := by
  have hopened : ∀ (t : State) (c : Prop) [Decidable c], ∃ (h : Nat) (v : Bool),
      (if c then t.zoneShell z else t).zone z = { t.zone z with shell := h, shellValid := v } := by
    intro t c _
    split
    · exact State.zone_zoneShell ..
    · exact ⟨(t.zone z).shell, (t.zone z).shellValid, rfl⟩
  unfold State.zoneOpenTo
  dsimp only
  rw [State.zone_recordB]
  obtain ⟨h, v, hz⟩ := hopened _ ((s.zone z).zs = .empty)
  rw [hz, State.zone_modZone_same]
  refine ⟨rfl, ?_⟩
  cases hint with
  | none => rfl
  | some k => exact (congrArg Zone.wp (State.zone_modZone_same s z fun x => { x with life := k }) :)

theorem State.front_zoneOpenTo (hint : Option Nat) : (s.zoneOpenTo z hint).front = s.front := by
  unfold State.zoneOpenTo
  refine (State.front_recordB ..).trans (State.front_ite ((State.front_zoneShell ..).trans ?_) ?_)
  all_goals cases hint <;> rfl

end

/-! ### What a command shows in its completion (R87) -/

/-- The fields of a command that its completion looks at. -/
def Cmd.face (x : Cmd) : Sqe × Nat × Nat × Bool × Bool := (x.sqe, x.queue, x.conn, x.alive, x.mute)

/-- A command completes in a state that shows it, and its queue, as they stand in s. -/
theorem State.posted_of_face {s u : State} {c : Nat} (status dw0 dw1 : Nat) (hface : (u.cmd c).face = (s.cmd c).face)
    (hqueue : u.queues = s.queues) (halive : (s.cmd c).alive = true) (hmute : (s.cmd c).mute = false) :
    s.Posted (u.complete c status dw0 dw1).settle c status dw0 dw1 := by
  simp only [Cmd.face, Prod.mk.injEq] at hface
  obtain ⟨hsqe, hq, hconn, ha, hm⟩ := hface
  have hposted := State.posted_settle (s := u) (u := u) status dw0 dw1 rfl rfl (ha.trans halive) (hm.trans hmute)
  unfold State.Posted at hposted ⊢
  rwa [hsqe, hq, hconn, State.queue, hqueue] at hposted

theorem State.cmd_of_front {s t : State} (h : t.front = s.front) (c : Nat) : t.cmd c = s.cmd c :=
  show t.front.cmd c = s.front.cmd c from congrArg (State.cmd · c) h

theorem State.queues_of_front {s t : State} (h : t.front = s.front) : t.queues = s.queues :=
  show t.front.queues = s.front.queues from congrArg State.queues h

section
variable {s u : State} {c n opc : Nat}

/-- A command that completes after work on media management, once it has begun or runs. -/
theorem State.IoRuns.posted (h : s.IoRuns c opc n) (status dw0 dw1 : Nat) (hface : (u.cmd c).face = (s.cmd c).face)
    (hqueue : u.queues = s.queues) : s.Posted (u.complete c status dw0 dw1).settle c status dw0 dw1 :=
  State.posted_of_face status dw0 dw1 hface hqueue h.1.alive h.1.mute

theorem State.face_begun : ((s.begun c n).cmd c).face = (s.cmd c).face := by
  rw [State.cmd_begun]
  rfl

theorem State.cmd_running : (s.running c).cmd c = { s.cmd c with phase := .running } := State.cmd_modCmd_same ..

theorem State.zoneNamed_begun : (s.begun c n).zoneNamed c n = s.zoneNamed c n := by
  unfold State.zoneNamed
  rw [State.sqe_begun]
  rfl

theorem State.openHint_begun : (s.begun c n).openHint c = s.openHint c := by
  unfold State.openHint
  rw [State.cmd_begun]
  rfl

theorem State.zone_begun (z : Nat) : (s.begun c n).zone z = s.zone z := rfl

end

/-! ### Zone Open and Zone Close (R190, R192, R207) -/

section
variable {c n z : Nat} {s : State} (h : s.IoRuns c 0x79 n) (hone : sqeAll (s.cmd c).sqe = false) (hz : s.zoneNamed c n = .ok z)
include h

section
variable (hzsa : sqeZsa (s.cmd c).sqe = 3)
include hzsa

theorem exec_zoneOpen_all (hall : sqeAll (s.cmd c).sqe = true) :
    exec (.zoneOpen c) s = .next (((((s.zonesOf n).filter fun z => (s.zone z).zs == .closed).foldl
      (fun (x : State) z => x.zoneOpenTo z (s.openHint c)) (s.begun c n)).complete c).settle) := by
  refine ((show execZoneOpen c s = _ from if_neg (not_not.mpr hzsa)).trans (h.step _)).trans ?_
  simp only [State.sqe_begun, State.openHint_begun, hall, if_true]
  rfl

include hone hz

/-- A zone that may be opened becomes Explicitly Opened (Table 07-5). -/
theorem exec_zoneOpen_opens
    (hst : (s.zone z).zs ∈ [ZState.implOpen, .explOpen, .closed] ∨ (s.zone z).zs = .empty ∧ s.mayActivate n = true) :
    exec (.zoneOpen c) s = .next ((((s.begun c n).zoneOpenTo z (s.openHint c)).complete c).settle) := by
  refine ((show execZoneOpen c s = _ from if_neg (not_not.mpr hzsa)).trans (h.step _)).trans ?_
  simp only [State.sqe_begun, State.openHint_begun, State.zoneNamed_begun, State.zone_begun, hone, hz, Bool.false_eq_true, if_false]
  simp only [List.mem_cons, List.not_mem_nil, or_false] at hst
  rcases hst with (hzs | hzs | hzs) | ⟨hzs, hmay⟩
  · rw [hzs]
  · rw [hzs]
  · rw [hzs]
  · rw [hzs]
    exact congrArg (fun t : State => Host.Outcome.next t.settle) (if_pos hmay)

theorem exec_zoneOpen_full (hzs : (s.zone z).zs = .full) : exec (.zoneOpen c) s = .next ((s.begun c n).complete c 0x1BF).settle := by
  refine ((show execZoneOpen c s = _ from if_neg (not_not.mpr hzsa)).trans (h.step _)).trans ?_
  simp only [State.sqe_begun, State.zoneNamed_begun, State.zone_begun, hone, hz, hzs, Bool.false_eq_true, if_false]

end

/-- An opened zone closes. -/
theorem exec_zoneClose_closes (hzsa : sqeZsa (s.cmd c).sqe = 1) (hone : sqeAll (s.cmd c).sqe = false) (hz : s.zoneNamed c n = .ok z)
    (hst : (s.zone z).zs ∈ [ZState.implOpen, .explOpen]) :
    exec (.zoneClose c) s = .next ((((s.begun c n).zoneCloseTo z).complete c).settle) := by
  refine ((show execZoneClose c s = _ from if_neg (not_not.mpr hzsa)).trans (h.step _)).trans ?_
  simp only [State.sqe_begun, State.zoneNamed_begun, State.zone_begun, hone, hz, Bool.false_eq_true, if_false]
  simp only [List.mem_cons, List.not_mem_nil, or_false] at hst
  rcases hst with hzs | hzs
  · rw [hzs]
  · rw [hzs]

end

theorem zoneOpen_opens (c n z : Nat) (s : State) (h : s.IoRuns c 0x79 n) (hzsa : sqeZsa (s.cmd c).sqe = 3)
    (hone : sqeAll (s.cmd c).sqe = false) (hz : s.zoneNamed c n = .ok z)
    (hst : (s.zone z).zs ∈ [ZState.implOpen, .explOpen, .closed] ∨ (s.zone z).zs = .empty ∧ s.mayActivate n = true) :
    ∃ t, exec (.zoneOpen c) s = .next t ∧ s.Posted t c 0 0 0 ∧ (t.zone z).zs = .explOpen ∧ (t.zone z).wp = (s.zone z).wp := by
  have hfront := State.front_zoneOpenTo (s.begun c n) z (s.openHint c)
  refine ⟨_, exec_zoneOpen_opens h hone hz hzsa hst, h.posted 0 0 0 ?_ (State.queues_of_front hfront :), ?_⟩
  · rw [State.cmd_of_front hfront, State.face_begun]
  · rw [State.zone, State.settle_per, State.complete_per]
    exact State.zone_zoneOpenTo ..

theorem zoneOpen_full (c n z : Nat) (s : State) (h : s.IoRuns c 0x79 n) (hzsa : sqeZsa (s.cmd c).sqe = 3)
    (hone : sqeAll (s.cmd c).sqe = false) (hz : s.zoneNamed c n = .ok z) (hzs : (s.zone z).zs = .full) :
    ∃ t, exec (.zoneOpen c) s = .next t ∧ s.Posted t c 0x1BF 0 0 ∧ t.per = s.per := by
  obtain ⟨hposted, -, hper⟩ := h.completes 0x1BF
  exact ⟨_, exec_zoneOpen_full h hone hz hzsa hzs, hposted, hper⟩

theorem zoneClose_closes (c n z : Nat) (s : State) (h : s.IoRuns c 0x79 n) (hzsa : sqeZsa (s.cmd c).sqe = 1)
    (hone : sqeAll (s.cmd c).sqe = false) (hz : s.zoneNamed c n = .ok z) (hst : (s.zone z).zs ∈ [ZState.implOpen, .explOpen])
    (hwp : (s.zone z).wp ≠ 0) :
    ∃ t, exec (.zoneClose c) s = .next t ∧ s.Posted t c 0 0 0 ∧ (t.zone z).zs = .closed ∧ (t.zone z).wp = (s.zone z).wp := by
  have hclose : (s.begun c n).zoneCloseTo z = (s.begun c n).zoneTo z .closed := if_neg hwp
  have hfront := State.front_zoneTo (s.begun c n) z .closed
  refine ⟨_, exec_zoneClose_closes h hzsa hone hz hst, ?_⟩
  rw [hclose, State.zone, State.settle_per, State.complete_per]
  refine ⟨h.posted 0 0 0 ?_ (State.queues_of_front hfront :), ?_⟩
  · rw [State.cmd_of_front hfront, State.face_begun]
  · rw [show ((s.begun c n).zoneTo z .closed).per.zones.get z = _ from State.zone_zoneTo ..]
    exact ⟨rfl, rfl⟩

theorem zoneClose_empties (c n z : Nat) (s : State) (h : s.IoRuns c 0x79 n) (hzsa : sqeZsa (s.cmd c).sqe = 1)
    (hone : sqeAll (s.cmd c).sqe = false) (hz : s.zoneNamed c n = .ok z) (hst : (s.zone z).zs ∈ [ZState.implOpen, .explOpen])
    (hwp : (s.zone z).wp = 0) : exec (.zoneClose c) s = .next ((((s.begun c n).zoneEmpty z).complete c).settle) := by
  have hclose : (s.begun c n).zoneCloseTo z = (s.begun c n).zoneEmpty z := if_pos hwp
  rw [exec_zoneClose_closes h hzsa hone hz hst, hclose]

theorem zoneSetDescExt_fails (c n : Nat) (s : State) (h : s.IoRuns c 0x79 n)
    (hzsa : ¬ (1 ≤ sqeZsa (s.cmd c).sqe ∧ sqeZsa (s.cmd c).sqe ≤ 5)) :
    ∃ t, exec (.zoneSetDescExt c) s = .next t ∧ s.Posted t c 0x02 0 0 ∧ t.per = s.per ∧ t.media = s.media := by
  obtain ⟨hposted, hmedia, hper⟩ := h.completes 0x02
  exact ⟨_, (show execZoneSetDescExt c s = _ from if_neg hzsa).trans (h.step _), hposted, hper, hmedia⟩

/-- Settles O37: one zone opens, or is Full; all Closed zones open; one zone closes, to Closed or to Empty; and the extension fails. -/
theorem zonesOpenAndClose : Obligations.ZonesOpenAndClose := by
  refine ⟨zoneOpen_opens, zoneOpen_full, fun c n s h hzsa hall => exec_zoneOpen_all h hzsa hall, zoneClose_closes, zoneClose_empties,
    fun s z => ?_, zoneSetDescExt_fails⟩
  rw [State.zone_zoneEmpty]
  exact ⟨rfl, rfl⟩

end Sys2Proof.Machine
end

section
/-! SUPPORT. Zone Finish, Zone Reset and Zone Offline (R201, R202, R204). -/

namespace Sys2Proof.Machine

/-! ### Entries that a table lists -/

/-- An entry that differs from what an unlisted key reads as is listed. -/
theorem Tab.mem_of_get {α : Type} [Inhabited α] {t : Tab α} {k : Nat} (h : t.get k ≠ default) : (k, t.get k) ∈ t := by
  induction t with
  | nil => exact absurd rfl h
  | cons e r ih =>
    obtain ⟨j, v⟩ := e
    by_cases hj : j = k
    · subst hj
      have hv : Tab.get ((j, v) :: r) j = v := if_pos rfl
      rw [hv]
      exact List.mem_cons_self
    · have hr : Tab.get ((j, v) :: r) k = Tab.get r k := if_neg hj
      rw [hr] at h ⊢
      exact List.mem_cons_of_mem _ (ih h)

/-- A live command that waits for a zone holds it (R202). -/
theorem State.zoneHeld_of_cmd {s : State} {c z : Nat} (halive : (s.cmd c).alive = true) (hz : z ∈ (s.cmd c).zs) :
    s.zoneHeld z = true := by
  have hlisted : s.cmds.get c ≠ default := fun he => by
    rw [State.cmd, he] at halive
    exact Bool.noConfusion halive
  exact List.any_eq_true.mpr ⟨(c, s.cmd c), Tab.mem_of_get hlisted, by simp [halive, hz]⟩

theorem State.modeIn_of_serves {s : State} (h : s.mode = .service ∨ s.mode = .readOnly) : s.modeIn [.service, .readOnly] = true := by
  simpa [State.modeIn] using h

theorem State.completeRecorded_rule1 {s : State} (c : Nat) (h : s.rule1 = true) :
    s.completeRecorded c = s.complete c 0 (s.cmd c).dw0 := if_pos h

/-- An active zone is opened, implicitly or explicitly, or Closed. -/
theorem Zone.active_cases {x : Zone} (h : x.active = true) : x.zs = .implOpen ∨ x.zs = .explOpen ∨ x.zs = .closed := by
  simpa [Zone.active, or_assoc] using h

section
variable {c n z : Nat} {s : State} (h : s.IoRuns c 0x79 n)
include h

/-! ### Finish (R201) -/

section
variable (hzsa : sqeZsa (s.cmd c).sqe = 2) (hone : sqeAll (s.cmd c).sqe = false) (hz : s.zoneNamed c n = .ok z)
include hzsa hone hz

theorem exec_zoneFinish_full (hzs : (s.zone z).zs = .full) : exec (.zoneFinish c) s = .next ((s.begun c n).complete c).settle := by
  refine ((show execZoneFinish c s = _ from if_neg (not_not.mpr hzsa)).trans (h.step _)).trans ?_
  simp only [State.sqe_begun, State.zoneNamed_begun, State.zone_begun, hone, hz, hzs, Bool.false_eq_true, if_false]

theorem exec_zoneFinish_empty (hzs : (s.zone z).zs = .empty) :
    exec (.zoneFinish c) s = .next ((((s.begun c n).running c).zoneTo z .full).completeRecorded c).settle := by
  refine ((show execZoneFinish c s = _ from if_neg (not_not.mpr hzsa)).trans (h.step _)).trans ?_
  simp only [State.sqe_begun, State.zoneNamed_begun, State.zone_begun, hone, hz, hzs, Bool.false_eq_true, if_false]

theorem exec_zoneFinish_active (hact : (s.zone z).active = true) :
    exec (.zoneFinish c) s = .next (((((s.begun c n).running c).zoneFinishTo z).completeRecorded c).afterRows.settle) := by
  refine ((show execZoneFinish c s = _ from if_neg (not_not.mpr hzsa)).trans (h.step _)).trans ?_
  simp only [State.sqe_begun, State.zoneNamed_begun, State.zone_begun, hone, hz, Bool.false_eq_true, if_false]
  rcases Zone.active_cases hact with hzs | hzs | hzs
  all_goals rw [hzs]

end

/-! ### Reset (R202) -/

/-- A Reset that waits to empty a list of zones. -/
def State.resetWaits (s : State) (c n : Nat) (zs : List Nat) : State :=
  ((s.begun c n).running c).modCmd c fun x => { x with zs := zs }

omit h in
theorem State.cmd_resetWaits (zs : List Nat) : (s.resetWaits c n zs).cmd c =
    { s.cmd c with ns := n, lba := sqeLba (s.cmd c).sqe, nlb := sqeNlb (s.cmd c).sqe, phase := .running, zs := zs } := by
  unfold State.resetWaits
  rw [State.cmd_modCmd_same, State.cmd_running, State.cmd_begun]

omit h in
/-- What a change of one command leaves as it is, a Reset that begins to wait leaves as it is. -/
theorem State.keeps_resetWaits {β : Type} {p : State → β} (hmod : ∀ (u : State) (f : Cmd → Cmd), p (u.modCmd c f) = p u)
    (zs : List Nat) : p (s.resetWaits c n zs) = p s := (hmod ..).trans ((hmod ..).trans (hmod ..))

/-- Of the state in which a Reset waits, the command table alone has changed. -/
theorem State.IoRuns.resetWaits (zs : List Nat) :
    ((s.resetWaits c n zs).settle.cmd c).phase = .running ∧ ((s.resetWaits c n zs).settle.cmd c).zs = zs ∧
      (∀ y ∈ zs, (s.resetWaits c n zs).settle.zoneHeld y = true) ∧ (s.resetWaits c n zs).settle.per = s.per ∧
      (s.resetWaits c n zs).settle.media = s.media ∧ (s.resetWaits c n zs).settle.hop = s.hop ∧
      (s.resetWaits c n zs).settle.queues = s.queues := by
  have hcmd := (State.cmd_settle (s.resetWaits c n zs) c).trans (State.cmd_resetWaits zs)
  rw [State.settle_per, State.settle_media, State.settle_hop, State.settle_queues]
  refine ⟨?_, ?_, fun y hy => ?_, State.keeps_resetWaits (p := State.per) (fun _ _ => rfl) zs,
    State.keeps_resetWaits (p := State.media) (fun _ _ => rfl) zs, State.keeps_resetWaits (p := State.hop) (fun _ _ => rfl) zs,
    State.keeps_resetWaits (p := State.queues) (fun _ _ => rfl) zs⟩
  · rw [hcmd]
  · rw [hcmd]
  · refine State.zoneHeld_of_cmd (c := c) ?_ ?_
    · rw [hcmd]
      exact h.1.alive
    · rw [hcmd]
      exact hy

section
variable (hzsa : sqeZsa (s.cmd c).sqe = 4)
include hzsa

theorem exec_zoneReset_waits (hone : sqeAll (s.cmd c).sqe = false) (hz : s.zoneNamed c n = .ok z)
    (hst : (s.zone z).active = true ∨ (s.zone z).zs = .full) :
    exec (.zoneReset c) s = .next (s.resetWaits c n [z]).settle := by
  refine ((show execZoneReset c s = _ from if_neg (not_not.mpr hzsa)).trans (h.step _)).trans ?_
  simp only [State.sqe_begun, State.zoneNamed_begun, State.zone_begun, hone, hz, Bool.false_eq_true, if_false]
  rcases hst with hact | hfull
  · rcases Zone.active_cases hact with hzs | hzs | hzs
    all_goals
      rw [hzs]
      rfl
  · rw [hfull]
    rfl

theorem exec_zoneReset_waitsAll (hall : sqeAll (s.cmd c).sqe = true)
    (hsome : ((s.zonesOf n).filter fun z => (s.zone z).active || (s.zone z).zs == .full) ≠ []) :
    exec (.zoneReset c) s =
      .next (s.resetWaits c n ((s.zonesOf n).filter fun z => (s.zone z).active || (s.zone z).zs == .full)).settle := by
  refine ((show execZoneReset c s = _ from if_neg (not_not.mpr hzsa)).trans (h.step _)).trans ?_
  simp only [State.sqe_begun, hall, if_true]
  exact congrArg (fun t : State => Host.Outcome.next t.settle) (if_neg fun he => hsome (List.isEmpty_iff.mp he))

end

/-! ### Offline (R204) -/

section
variable (hzsa : sqeZsa (s.cmd c).sqe = 5) (hone : sqeAll (s.cmd c).sqe = false) (hz : s.zoneNamed c n = .ok z)
include hzsa hone hz

theorem exec_zoneOffline_readOnly (hzs : (s.zone z).zs = .readOnly) :
    exec (.zoneOffline c) s = .next (((s.begun c n).zoneOfflineTo z).complete c).settle := by
  refine ((show execZoneOffline c s = _ from if_neg (not_not.mpr hzsa)).trans (h.step _)).trans ?_
  simp only [State.sqe_begun, State.zoneNamed_begun, State.zone_begun, hone, hz, hzs, Bool.false_eq_true, if_false]

theorem exec_zoneOffline_empty (hzs : (s.zone z).zs = .empty) :
    exec (.zoneOffline c) s = .next ((s.begun c n).complete c 0x1BF).settle := by
  refine ((show execZoneOffline c s = _ from if_neg (not_not.mpr hzsa)).trans (h.step _)).trans ?_
  simp only [State.sqe_begun, State.zoneNamed_begun, State.zone_begun, hone, hz, hzs, Bool.false_eq_true, if_false]

end
end

theorem zoneFinish_full (c n z : Nat) (s : State) (h : s.IoRuns c 0x79 n) (hzsa : sqeZsa (s.cmd c).sqe = 2)
    (hone : sqeAll (s.cmd c).sqe = false) (hz : s.zoneNamed c n = .ok z) (hzs : (s.zone z).zs = .full) :
    ∃ t, exec (.zoneFinish c) s = .next t ∧ s.Posted t c 0 0 0 ∧ t.per = s.per ∧ t.media = s.media := by
  obtain ⟨hposted, hmedia, hper⟩ := h.completes 0
  exact ⟨_, exec_zoneFinish_full h hzsa hone hz hzs, hposted, hper, hmedia⟩

theorem zoneFinish_empty (c n z : Nat) (s : State) (h : s.IoRuns c 0x79 n) (hzsa : sqeZsa (s.cmd c).sqe = 2)
    (hone : sqeAll (s.cmd c).sqe = false) (hz : s.zoneNamed c n = .ok z) (hzs : (s.zone z).zs = .empty) (hrule : s.rule1 = true) :
    ∃ t, exec (.zoneFinish c) s = .next t ∧ s.Posted t c 0 (s.cmd c).dw0 0 ∧ (t.zone z).zs = .full := by
  have hfront := State.front_zoneTo ((s.begun c n).running c) z .full
  have hcmd := State.cmd_of_front hfront c
  rw [State.cmd_running, State.cmd_begun] at hcmd
  have hrule' : (((s.begun c n).running c).zoneTo z .full).rule1 = true := (State.rule1_zoneTo ..).trans hrule
  have hdw0 : ((((s.begun c n).running c).zoneTo z .full).cmd c).dw0 = (s.cmd c).dw0 := by rw [hcmd]
  refine ⟨_, exec_zoneFinish_empty h hzsa hone hz hzs, ?_⟩
  rw [State.completeRecorded_rule1 c hrule', hdw0, State.zone, State.settle_per, State.complete_per]
  refine ⟨h.posted 0 _ 0 ?_ (State.queues_of_front hfront :), ?_⟩
  · rw [hcmd]
    rfl
  · exact congrArg Zone.zs (State.zone_zoneTo ((s.begun c n).running c) z .full)

theorem zoneReset_waits (c n z : Nat) (s : State) (h : s.IoRuns c 0x79 n) (hzsa : sqeZsa (s.cmd c).sqe = 4)
    (hone : sqeAll (s.cmd c).sqe = false) (hz : s.zoneNamed c n = .ok z)
    (hst : (s.zone z).active = true ∨ (s.zone z).zs = .full) :
    ∃ t, exec (.zoneReset c) s = .next t ∧ (t.cmd c).phase = .running ∧ (t.cmd c).zs = [z] ∧ t.zoneHeld z = true ∧ t.per = s.per ∧
      t.media = s.media ∧ t.hop = s.hop ∧ t.queues = s.queues := by
  obtain ⟨hphase, hzs, hheld, hrest⟩ := h.resetWaits [z]
  exact ⟨_, exec_zoneReset_waits h hzsa hone hz hst, hphase, hzs, hheld z (List.mem_singleton.mpr rfl), hrest⟩

theorem zoneReset_waitsAll (c n : Nat) (s : State) (h : s.IoRuns c 0x79 n) (hzsa : sqeZsa (s.cmd c).sqe = 4)
    (hall : sqeAll (s.cmd c).sqe = true)
    (hsome : ((s.zonesOf n).filter fun z => (s.zone z).active || (s.zone z).zs == .full) ≠ []) :
    ∃ t, exec (.zoneReset c) s = .next t ∧ (t.cmd c).phase = .running ∧
      (t.cmd c).zs = (s.zonesOf n).filter (fun z => (s.zone z).active || (s.zone z).zs == .full) ∧ t.per = s.per := by
  obtain ⟨hphase, hzs, -, hper, -⟩ := h.resetWaits ((s.zonesOf n).filter fun z => (s.zone z).active || (s.zone z).zs == .full)
  exact ⟨_, exec_zoneReset_waitsAll h hzsa hall hsome, hphase, hzs, hper⟩

theorem zoneResetEffect_empties (c z : Nat) (s : State) (halive : (s.cmd c).alive = true) (hopc : (s.cmd c).sqe.opc = 0x79)
    (hphase : (s.cmd c).phase = .running) (hzs : (s.cmd c).zs = [z]) (hbusy : s.zoneBusy z = false)
    (hmode : s.mode = .service ∨ s.mode = .readOnly) (hst : (s.zone z).active = true ∨ (s.zone z).zs = .full) :
    ∃ u : State, exec (.zoneResetEffect c) s = .next ((u.completeRecorded c).afterRows.settle) ∧ (u.zone z).zs = .empty ∧
      (u.zone z).wp = 0 ∧ (u.zone z).shellValid = false ∧ (u.zone z).ns = (s.zone z).ns ∧ (u.cmd c).zs = [] := by
  have hin : s.modeIn [.service, .readOnly] = true := State.modeIn_of_serves hmode
  have hsel : ((s.zone z).active || (s.zone z).zs == .full) = true := by simpa using hst
  have hgood : ((s.zone z).zs == .readOnly) = false := by
    rcases hst with hact | hfull
    · rcases Zone.active_cases hact with he | he | he <;> rw [he] <;> rfl
    · rw [hfull]
      rfl
  refine ⟨(s.zoneEmpty z).modCmd c fun x => { x with zs := [] }, ?_, ?_⟩
  · show execZoneResetEffect c s = _
    unfold execZoneResetEffect
    simp only [halive, hopc, hphase, hzs, hin, hbusy, hsel, hgood, List.isEmpty_cons, List.any_cons, List.any_nil, List.filter_cons,
      List.filter_nil, List.foldl_cons, List.foldl_nil, Bool.or_false, Bool.false_eq_true, not_false_eq_true, and_self, if_true,
      if_false, false_and]
    rfl
  · have hzone : ((s.zoneEmpty z).modCmd c fun x => { x with zs := [] }).zone z = _ := s.zone_zoneEmpty z
    rw [hzone, State.cmd_modCmd_same]
    exact ⟨rfl, rfl, rfl, rfl, rfl⟩

theorem zoneOffline_readOnly (c n z : Nat) (s : State) (h : s.IoRuns c 0x79 n) (hzsa : sqeZsa (s.cmd c).sqe = 5)
    (hone : sqeAll (s.cmd c).sqe = false) (hz : s.zoneNamed c n = .ok z) (hzs : (s.zone z).zs = .readOnly) :
    ∃ u : State, exec (.zoneOffline c) s = .next (u.complete c).settle ∧ (u.zone z).zs = .offline ∧ (u.zone z).shellValid = false :=
  ⟨_, exec_zoneOffline_readOnly h hzsa hone hz hzs, State.zone_zoneOfflineTo ..⟩

theorem zoneOffline_empty (c n z : Nat) (s : State) (h : s.IoRuns c 0x79 n) (hzsa : sqeZsa (s.cmd c).sqe = 5)
    (hone : sqeAll (s.cmd c).sqe = false) (hz : s.zoneNamed c n = .ok z) (hzs : (s.zone z).zs = .empty) :
    ∃ t, exec (.zoneOffline c) s = .next t ∧ s.Posted t c 0x1BF 0 0 ∧ t.per = s.per ∧ t.media = s.media := by
  obtain ⟨hposted, hmedia, hper⟩ := h.completes 0x1BF
  exact ⟨_, exec_zoneOffline_empty h hzsa hone hz hzs, hposted, hper, hmedia⟩

/-- Settles O38: Finish of a Full, an Empty and an active zone, a Reset that waits and one that takes effect, and Offline. -/
theorem zonesFinishAndReset : Obligations.ZonesFinishAndReset :=
  ⟨zoneFinish_full, zoneFinish_empty, fun _ _ _ _ h => exec_zoneFinish_active h, zoneReset_waits, zoneReset_waitsAll,
   zoneResetEffect_empties, zoneOffline_readOnly, zoneOffline_empty⟩

end Sys2Proof.Machine
end

section
/-! SUPPORT. Writes, Zone Append and Write Zeroes as they begin (R20, R100, R193). -/

namespace Sys2Proof.Machine

/-! ### A zone's write pointer advances (R193) -/

/-- Namespaces and crews: what the capacity of a zone is computed from. -/
def State.ground (s : State) : Tab Ns × Tab Crew := (s.per.ns, s.per.crews)

theorem State.ground_of_book {s t : State} (h : t.book = s.book) : t.ground = s.ground :=
  show (t.book.ns, t.book.crews) = (s.book.ns, s.book.crews) from congrArg (fun b : Persist => (b.ns, b.crews)) h

theorem State.zcap_of_ground {s t : State} (h : t.ground = s.ground) (n : Nat) : t.zcap n = s.zcap n := by
  have hns : t.per.ns = s.per.ns := congrArg Prod.fst h
  have hcrews : t.per.crews = s.per.crews := congrArg Prod.snd h
  simp only [State.zcap, State.poolFmt, State.poolCrews, State.nsUnits, State.crew, State.fmt, hns, hcrews]

section
variable (s : State) (n z nlb : Nat)

theorem State.ground_zoneShell : (s.zoneShell z).ground = s.ground := by
  unfold State.zoneShell
  dsimp only
  split
  · next ht => exact (State.ground_of_book (State.book_takeShell ht) :)
  · rfl

/-- A zone that a write finds Empty or Closed is Implicitly Opened (R190). -/
def State.zoneEntered (s : State) (z : Nat) : State :=
  if (s.zone z).zs = .empty then (s.modZone z fun x => { x with zs := .implOpen, life := 0 }).zoneShell z
  else if (s.zone z).zs = .closed then s.modZone z fun x => { x with zs := .implOpen, life := 0 }
  else s

theorem State.zone_zoneEntered : ((s.zoneEntered z).zone z).wp = (s.zone z).wp ∧ ((s.zoneEntered z).zone z).zs =
    if (s.zone z).zs = .empty ∨ (s.zone z).zs = .closed then .implOpen else (s.zone z).zs := by
  unfold State.zoneEntered
  by_cases hempty : (s.zone z).zs = .empty
  · obtain ⟨h, v, hz⟩ := (s.modZone z fun x => { x with zs := .implOpen, life := 0 }).zone_zoneShell z
    rw [if_pos hempty, if_pos (.inl hempty), hz, State.zone_modZone_same]
    exact ⟨rfl, rfl⟩
  · by_cases hclosed : (s.zone z).zs = .closed
    · rw [if_neg hempty, if_pos hclosed, if_pos (.inr hclosed), State.zone_modZone_same]
      exact ⟨rfl, rfl⟩
    · rw [if_neg hempty, if_neg hclosed, if_neg (not_or.mpr ⟨hempty, hclosed⟩)]
      exact ⟨rfl, rfl⟩

theorem State.ground_zoneEntered : (s.zoneEntered z).ground = s.ground :=
  State.keeps_ite (p := State.ground) (State.ground_zoneShell ..) (State.keeps_ite (p := State.ground) rfl rfl)

theorem State.front_zoneEntered : (s.zoneEntered z).front = s.front :=
  State.front_ite (State.front_zoneShell ..) (State.front_ite rfl rfl)

/-- The write pointer stands behind nlb more blocks; at the capacity the zone is Full. -/
def State.zoneMoved (s : State) (n z nlb : Nat) : State :=
  (s.zoneEntered z).modZone z fun x =>
    { x with wp := x.wp + nlb, zs := if x.wp + nlb = (s.zoneEntered z).zcap n then .full else x.zs }

theorem State.zoneAdvance_eq : s.zoneAdvance n z nlb =
    if ((s.zoneMoved n z nlb).zone z).zs = (s.zone z).zs then s.zoneMoved n z nlb else (s.zoneMoved n z nlb).record .zone z := rfl

/-- What an advance makes of its zone (Table 07-5). -/
theorem State.zone_zoneAdvance : ((s.zoneAdvance n z nlb).zone z).wp = (s.zone z).wp + nlb ∧
    ((s.zoneAdvance n z nlb).zone z).zs = if (s.zone z).wp + nlb = s.zcap n then .full
      else if (s.zone z).zs = .empty ∨ (s.zone z).zs = .closed then .implOpen else (s.zone z).zs := by
  obtain ⟨hwp, hzs⟩ := s.zone_zoneEntered z
  have hadvance : (s.zoneAdvance n z nlb).zone z = (s.zoneMoved n z nlb).zone z := by
    rw [State.zoneAdvance_eq]
    exact State.keeps_ite (p := fun t => t.zone z) rfl (State.zone_recordB ..)
  rw [hadvance, State.zoneMoved, State.zone_modZone_same, State.zcap_of_ground (State.ground_zoneEntered ..)]
  dsimp only
  rw [hwp, hzs]
  exact ⟨rfl, rfl⟩

theorem State.front_zoneAdvance : (s.zoneAdvance n z nlb).front = s.front := by
  have hmoved : (s.zoneMoved n z nlb).front = s.front := (State.front_withPer ..).trans (State.front_zoneEntered ..)
  rw [State.zoneAdvance_eq]
  exact State.front_ite hmoved ((State.front_recordB ..).trans hmoved)

end

/-! ### Writes (R20, R193) -/

section
variable {c n : Nat} {s : State}

theorem State.zcap_begun (m : Nat) : (s.begun c n).zcap m = s.zcap m := rfl

section
variable (h : s.IoRuns c 0x01 n) (hsgl : s.sglCheck c (sqeNlb (s.cmd c).sqe * s.blkSize n) false = none)
  (hlba : s.lbaOk n (sqeLba (s.cmd c).sqe) (sqeNlb (s.cmd c).sqe) = true)
include h hsgl hlba

/-- A write to a zone is checked there, and advances its write pointer or fails. -/
theorem exec_write_zoned {st : Nat} (hzoned : (s.per.ns.get n).zoned = true)
    (hst : s.zoneWriteCheck n (s.zoneAt n (sqeLba (s.cmd c).sqe)) (sqeLba (s.cmd c).sqe % s.zsze n) (sqeNlb (s.cmd c).sqe) = st) :
    exec (.write c) s = .next (if st ≠ 0 then (s.begun c n).failCmd c st
      else ((s.begun c n).zoneAdvance n (s.zoneAt n (sqeLba (s.cmd c).sqe)) (sqeNlb (s.cmd c).sqe)).writeGo c).settle := by
  subst hst
  refine (show execWrite c s = _ from h.step _).trans ?_
  simp only [State.sqe_begun, State.sglCheck_begun, State.blkSize_begun, State.lbaOk_begun, hsgl, hlba, not_true_eq_false, if_false]
  exact congrArg (fun t : State => Host.Outcome.next t.settle) (if_pos hzoned)

/-- A write to a conventional namespace checks its placement identifier only (R210). -/
theorem exec_write_conventional (hzoned : (s.per.ns.get n).zoned = false) :
    exec (.write c) s = .next (((s.begun c n).pidCheck c n).writeGo c).settle := by
  refine (show execWrite c s = _ from h.step _).trans ?_
  simp only [State.sqe_begun, State.sglCheck_begun, State.blkSize_begun, State.lbaOk_begun, hsgl, hlba, not_true_eq_false, if_false]
  exact congrArg (fun t : State => Host.Outcome.next t.settle) (if_neg (ne_true_of_eq_false hzoned))

end

/-- An append goes on with the write pointer's LBA, which dword 0 of its completion will hold. -/
def State.appendBegun (s : State) (c n : Nat) : State :=
  let first := sqeLba (s.cmd c).sqe + (s.zone (s.zoneAt n (sqeLba (s.cmd c).sqe))).wp
  (s.begun c n).modCmd c fun x => { x with lba := first, dw0 := first }

theorem exec_zoneAppend (h : s.IoRuns c 0x7D n) (hsgl : s.sglCheck c (sqeNlb (s.cmd c).sqe * s.blkSize n) false = none)
    (hlba : s.lbaOk n (sqeLba (s.cmd c).sqe) 1 = true) (hstart : sqeLba (s.cmd c).sqe % s.zsze n = 0)
    (hst : s.zoneWriteCheck n (s.zoneAt n (sqeLba (s.cmd c).sqe)) (s.zone (s.zoneAt n (sqeLba (s.cmd c).sqe))).wp
      (sqeNlb (s.cmd c).sqe) = 0) :
    exec (.zoneAppend c) s = .next (((s.appendBegun c n).zoneAdvance n (s.zoneAt n (sqeLba (s.cmd c).sqe))
      (sqeNlb (s.cmd c).sqe)).writeGo c).settle := by
  refine (show execZoneAppend c s = _ from h.step _).trans ?_
  simp only [State.sqe_begun, State.sglCheck_begun, State.blkSize_begun, State.lbaOk_begun, hsgl, hlba, not_true_eq_false, if_false]
  refine congrArg (fun t : State => Host.Outcome.next t.settle) ((if_neg (not_not.mpr hstart)).trans ?_)
  exact if_neg (not_not.mpr hst)

theorem exec_writeZeroes_conventional (h : s.IoRuns c 0x08 n) (hzoned : (s.per.ns.get n).zoned = false)
    (hlba : s.lbaOk n (sqeLba (s.cmd c).sqe) (sqeNlb (s.cmd c).sqe) = true) :
    exec (.writeZeroes c) s =
      .next (((((s.begun c n).running c).unmap n (sqeLba (s.cmd c).sqe) (sqeNlb (s.cmd c).sqe)).completeRecorded c).settle) := by
  refine (show execWriteZeroes c s = _ from h.step _).trans ?_
  simp only [State.sqe_begun, State.lbaOk_begun, hlba, not_true_eq_false, if_false]
  exact congrArg (fun t : State => Host.Outcome.next t.settle) (if_neg (ne_true_of_eq_false hzoned))

end

/-- A placement identifier that names no handle is an FDP event and a register event, and stores nothing else (R210). -/
theorem State.pidCheck_leaves (s : State) (c n : Nat) : (s.pidCheck c n).media = { s.media with fdpEv := (s.pidCheck c n).media.fdpEv } ∧
    (s.pidCheck c n).per = s.per ∧ (s.pidCheck c n).cmds = s.cmds := by
  unfold State.pidCheck State.fdpEvent
  dsimp only
  split
  · split
    · exact ⟨rfl, rfl, rfl⟩
    · exact ⟨rfl, rfl, rfl⟩
  · exact ⟨rfl, rfl, rfl⟩

/-- A write that its zone's state allows and that is not at the write pointer breaks R193. -/
theorem State.zoneWriteCheck_misplaced {s : State} {n z off nlb : Nat} (hst : writeStatus (s.zone z).zs = 0) (hoff : off ≠ (s.zone z).wp) :
    s.zoneWriteCheck n z off nlb = 0x1BC := by
  unfold State.zoneWriteCheck
  dsimp only
  rw [if_neg (not_not.mpr hst), if_pos hoff]

theorem write_advances (c n z : Nat) (s : State) (h : s.IoRuns c 0x01 n) (hzoned : (s.per.ns.get n).zoned = true)
    (hz : z = s.zoneAt n (sqeLba (s.cmd c).sqe)) (hsgl : s.sglCheck c (sqeNlb (s.cmd c).sqe * s.blkSize n) false = none)
    (hlba : s.lbaOk n (sqeLba (s.cmd c).sqe) (sqeNlb (s.cmd c).sqe) = true)
    (hst : s.zoneWriteCheck n z (sqeLba (s.cmd c).sqe % s.zsze n) (sqeNlb (s.cmd c).sqe) = 0) :
    ∃ u : State, exec (.write c) s = .next (u.writeGo c).settle ∧
      (u.zone z).wp = (s.zone z).wp + sqeNlb (s.cmd c).sqe ∧
      ((s.zone z).wp + sqeNlb (s.cmd c).sqe = s.zcap n → (u.zone z).zs = .full) ∧
      ((s.zone z).wp + sqeNlb (s.cmd c).sqe ≠ s.zcap n →
        (u.zone z).zs = if (s.zone z).zs = .empty ∨ (s.zone z).zs = .closed then .implOpen else (s.zone z).zs) := by
  subst hz
  obtain ⟨hwp, hzs⟩ := (s.begun c n).zone_zoneAdvance n (s.zoneAt n (sqeLba (s.cmd c).sqe)) (sqeNlb (s.cmd c).sqe)
  rw [State.zone_begun] at hwp hzs
  rw [State.zcap_begun] at hzs
  have hexec := exec_write_zoned h hsgl hlba hzoned hst
  rw [if_neg (not_not.mpr rfl)] at hexec
  refine ⟨_, hexec, hwp, fun hfull => ?_, fun hroom => ?_⟩
  · rw [hzs, if_pos hfull]
  · rw [hzs, if_neg hroom]

theorem zoneAppend_advances (c n z : Nat) (s : State) (h : s.IoRuns c 0x7D n) (_ : (s.per.ns.get n).zoned = true)
    (hz : z = s.zoneAt n (sqeLba (s.cmd c).sqe)) (hsgl : s.sglCheck c (sqeNlb (s.cmd c).sqe * s.blkSize n) false = none)
    (hlba : s.lbaOk n (sqeLba (s.cmd c).sqe) 1 = true) (hstart : sqeLba (s.cmd c).sqe % s.zsze n = 0)
    (hst : s.zoneWriteCheck n z (s.zone z).wp (sqeNlb (s.cmd c).sqe) = 0) :
    ∃ u : State, exec (.zoneAppend c) s = .next (u.writeGo c).settle ∧
      (u.cmd c).lba = sqeLba (s.cmd c).sqe + (s.zone z).wp ∧ (u.cmd c).dw0 = sqeLba (s.cmd c).sqe + (s.zone z).wp ∧
      (u.zone z).wp = (s.zone z).wp + sqeNlb (s.cmd c).sqe := by
  subst hz
  refine ⟨_, exec_zoneAppend h hsgl hlba hstart hst, ?_, ?_, (State.zone_zoneAdvance (s.appendBegun c n) ..).1⟩
  all_goals
    rw [State.cmd_of_front (State.front_zoneAdvance ..), State.appendBegun, State.cmd_modCmd_same]

theorem write_misplaced (c n z : Nat) (s : State) (h : s.IoRuns c 0x01 n) (hzoned : (s.per.ns.get n).zoned = true)
    (hz : z = s.zoneAt n (sqeLba (s.cmd c).sqe)) (hsgl : s.sglCheck c (sqeNlb (s.cmd c).sqe * s.blkSize n) false = none)
    (hlba : s.lbaOk n (sqeLba (s.cmd c).sqe) (sqeNlb (s.cmd c).sqe) = true) (hst : writeStatus (s.zone z).zs = 0)
    (hoff : sqeLba (s.cmd c).sqe % s.zsze n ≠ (s.zone z).wp) :
    ∃ t, exec (.write c) s = .next t ∧ s.Posted t c 0x1BC 0 0 ∧ t.per = s.per ∧ t.media = s.media := by
  subst hz
  obtain ⟨hposted, hmedia, hper⟩ := h.completes 0x1BC
  exact ⟨_, exec_write_zoned h hsgl hlba hzoned (State.zoneWriteCheck_misplaced hst hoff), hposted, hper, hmedia⟩

theorem write_conventional (c n : Nat) (s : State) (h : s.IoRuns c 0x01 n) (hzoned : (s.per.ns.get n).zoned = false)
    (hsgl : s.sglCheck c (sqeNlb (s.cmd c).sqe * s.blkSize n) false = none)
    (hlba : s.lbaOk n (sqeLba (s.cmd c).sqe) (sqeNlb (s.cmd c).sqe) = true) :
    ∃ u : State, exec (.write c) s = .next (u.writeGo c).settle ∧ u.media = { s.media with fdpEv := u.media.fdpEv } ∧ u.per = s.per ∧
      (u.cmd c).lba = sqeLba (s.cmd c).sqe ∧ (u.cmd c).nlb = sqeNlb (s.cmd c).sqe ∧ (u.cmd c).ns = n := by
  obtain ⟨hmedia, hper, hcmds⟩ := (s.begun c n).pidCheck_leaves c n
  refine ⟨_, exec_write_conventional h hsgl hlba hzoned, hmedia, hper, ?_⟩
  rw [State.cmd, hcmds, show (s.begun c n).cmds.get c = _ from State.cmd_begun ..]
  exact ⟨rfl, rfl, rfl⟩

theorem writeZeroes_stages (c n z : Nat) (s : State) (h : s.IoRuns c 0x08 n) (hzoned : (s.per.ns.get n).zoned = true)
    (hz : z = s.zoneAt n (sqeLba (s.cmd c).sqe)) (hlba : s.lbaOk n (sqeLba (s.cmd c).sqe) (sqeNlb (s.cmd c).sqe) = true)
    (hlen : sqeNlb (s.cmd c).sqe * s.blkSize n ≤ 2097152)
    (hst : s.zoneWriteCheck n z (sqeLba (s.cmd c).sqe % s.zsze n) (sqeNlb (s.cmd c).sqe) = 0)
    (hroom : s.stageRoom (s.cmd c).slice (sqeNlb (s.cmd c).sqe * s.blkSize n) = true) :
    ∃ u w : State, exec (.writeZeroes c) s = .next (((w.pressure (w.cmd c).slice).stagedAll c).postReady.afterRows).settle ∧
      (u.zone z).wp = (s.zone z).wp + sqeNlb (s.cmd c).sqe ∧
      w = ((u.stageRun c 0 (sqeNlb (s.cmd c).sqe) ((u.cmdKey c).getD 0) 0).modCmd c fun x =>
            { x with staged := sqeNlb (s.cmd c).sqe }).spillNow c := by
  subst hz
  have hslice : ((s.begun c n).cmd c).slice = (s.cmd c).slice := by rw [State.cmd_begun]
  refine ⟨((s.begun c n).zoneAdvance n (s.zoneAt n (sqeLba (s.cmd c).sqe)) (sqeNlb (s.cmd c).sqe)).running c, _, ?_,
    (State.zone_zoneAdvance (s.begun c n) ..).1, rfl⟩
  refine (show execWriteZeroes c s = _ from h.step _).trans ?_
  simp only [State.sqe_begun, State.lbaOk_begun, hlba, hslice, not_true_eq_false, if_false]
  refine congrArg (fun t : State => Host.Outcome.next t.settle) ((if_pos hzoned).trans ?_)
  refine (if_neg (Nat.not_lt.mpr hlen)).trans ((if_neg (not_not.mpr hst)).trans ?_)
  exact if_neg (not_not.mpr hroom)

/-- Settles O36: a write and an append in a zone, a write elsewhere than at the write pointer, a write to a conventional namespace, and
Write Zeroes on both. -/
theorem writesBegin : Obligations.WritesBegin :=
  ⟨write_advances, zoneAppend_advances, write_misplaced, write_conventional, fun _ _ _ h => exec_writeZeroes_conventional h,
   writeZeroes_stages⟩

end Sys2Proof.Machine
end

section
/-! SUPPORT. Zone Management Receive: the two reports (R205, Table 07-4). -/

namespace Sys2Proof.Machine

/-- The zones of namespace n from that of SLBA on that a filter selects. -/
def State.zonesShown (s : State) (c n : Nat) (st : Option ZState) : List Nat :=
  (s.zonesOf n).filter fun z => decide (s.zoneAt n (sqeLba (s.cmd c).sqe) ≤ z) &&
    match st with
    | some v => (s.zone z).zs == v
    | none => true

/-- The data of a report of zones zs: their count, or with the Partial Report bit that of the descriptors that fit, and these. -/
def State.reportOf (s : State) (c n bytes : Nat) (zs : List Nat) : List Nat :=
  (if (s.cmd c).sqe.cdw13.toNat.testBit 16 then (zs.take ((bytes - 64) / 64)).length else zs.length) ::
    ((zs.take ((bytes - 64) / 64)).map (s.zoneDesc n)).flatten

/-- A report is sent as the data of its command. -/
def State.reportSent (s : State) (c n bytes : Nat) (st : Option ZState) : State :=
  (s.begun c n).send .c2hData (s.cmd c).conn [(s.cmd c).sqe.cid, 0, bytes] (s.reportOf c n bytes (s.zonesShown c n st))

section
variable {c n bytes : Nat} {st : Option ZState} {s : State} (h : s.IoRuns c 0x7A n)
  (hst : zoneFilter ((s.cmd c).sqe.cdw13.toNat / 256 % 256) = some st) (hlba : s.lbaOk n (sqeLba (s.cmd c).sqe) 1 = true)
  (hbytes : bytes = ((s.cmd c).sqe.cdw12.toNat + 1) * 4) (hsgl : s.sglCheck c bytes true = none)
  (hconn : (s.conn (s.cmd c).conn).rdma = false)
include h

theorem State.IoRuns.reported : s.Posted ((s.reportSent c n bytes st).complete c).settle c 0 0 0 ∧
    ((s.reportSent c n bytes st).complete c).settle.per = s.per ∧ ((s.reportSent c n bytes st).complete c).settle.media = s.media ∧
    ((s.reportSent c n bytes st).complete c).settle.Sent .c2hData (s.cmd c).conn [(s.cmd c).sqe.cid, 0, bytes]
      (s.reportOf c n bytes (s.zonesShown c n st)) := by
  refine ⟨h.posted 0 0 0 State.face_begun rfl, ?_, ?_, ((State.sent_send ..).mono (State.msgs_complete ..)).settle⟩
  · rw [State.settle_per, State.complete_per]
    rfl
  · rw [State.settle_media, State.complete_media]
    rfl

include hst hlba hbytes hsgl hconn

/-- A report that passes its checks is sent, on TCP as the data of C2HData, and the command completes. -/
theorem State.IoRuns.zoneReport : (s.begun c n).zoneReport c n = (s.reportSent c n bytes st).complete c := by
  subst hbytes
  have hcmd := s.cmd_begun c n
  unfold State.zoneReport
  simp only [hcmd, hst, State.lbaOk_begun, hlba, State.sglCheck_begun, hsgl, h.1.mute, not_true_eq_false, if_false, Bool.false_eq_true]
  have hkind : (if ((s.begun c n).conn (s.cmd c).conn).rdma = true then MK.rdmaWrite else MK.c2hData) = MK.c2hData :=
    if_neg (ne_true_of_eq_false hconn)
  rw [hkind]
  rfl

theorem exec_reportZones (hzra : sqeZsa (s.cmd c).sqe = 0) :
    exec (.reportZones c) s = .next ((s.reportSent c n bytes st).complete c).settle := by
  have hnot : sqeZsa (s.cmd c).sqe ≠ 1 := by rw [hzra]; decide
  refine ((show execReportZones c s = _ from if_neg hnot).trans (h.step _)).trans ?_
  rw [State.sqe_begun, if_neg (not_not.mpr hzra), h.zoneReport hst hlba hbytes hsgl hconn]

theorem exec_extendedReportZones (hzra : sqeZsa (s.cmd c).sqe = 1) :
    exec (.extendedReportZones c) s = .next ((s.reportSent c n bytes st).complete c).settle := by
  refine ((show execExtendedReportZones c s = _ from if_neg (not_not.mpr hzra)).trans (h.step _)).trans ?_
  rw [h.zoneReport hst hlba hbytes hsgl hconn]

end

/-- Settles O39: both reports are the same message, and store nothing. -/
theorem zoneReports : Obligations.ZoneReports := by
  intro c n bytes st zs s h hst hlba hbytes hsgl hconn hzs
  have hshown : zs = s.zonesShown c n st := hzs
  subst hshown
  exact ⟨fun hzra => ⟨_, exec_reportZones h hst hlba hbytes hsgl hconn hzra, h.reported⟩,
    fun hzra => ⟨_, exec_extendedReportZones h hst hlba hbytes hsgl hconn hzra, h.reported⟩⟩

end Sys2Proof.Machine
end

section
/-! SUPPORT. Namespaces: Namespace Management, Namespace Attachment and Format NVM (R184, R186, Table 07-2). -/

namespace Sys2Proof.Machine

/-! ### Shells that the Millpond gives back (R255) -/

theorem State.ns_of_book {s t : State} (h : t.book = s.book) : t.per.ns = s.per.ns :=
  show t.book.ns = s.book.ns from congrArg Persist.ns h

section
variable (s : State)

theorem State.book_modShell (x : Nat) (f : Shell → Shell) : (s.modShell x f).book = s.book := rfl

theorem State.book_releaseShell (x : Nat) : (s.releaseShell x).book = s.book := by
  have hgive : (s.giveUp x).book = s.book := State.keeps_ite (p := State.book) rfl rfl
  exact State.keeps_ite (p := State.book) ((State.book_modShell ..).trans ((State.book_recordB ..).trans hgive)) rfl

/-- What a shell's record and its release leave as it is, the room that the Millpond makes leaves as it is. -/
theorem State.keeps_millRoom {β : Type} {p : State → β} (hmod : ∀ (u : State) (x : Nat) (f : Shell → Shell), p (u.modShell x f) = p u)
    (hrec : ∀ (u : State) (x : Nat), p (u.record .shell x) = p u) (hrel : ∀ (u : State) (x : Nat), p (u.releaseShell x) = p u)
    (pool : Nat) : p (s.millRoom pool) = p s := by
  unfold State.millRoom
  refine State.keeps_foldl (fun u x => State.keeps_ite rfl (State.keeps_ite ?_ (hrel u x))) _ _
  exact (hrec _ x).trans (hmod u x _)

theorem State.book_millRoom (pool : Nat) : (s.millRoom pool).book = s.book :=
  State.keeps_millRoom s (p := State.book) (fun _ _ _ => rfl) (fun _ _ => State.book_recordB ..) State.book_releaseShell pool

theorem State.front_millRoom (pool : Nat) : (s.millRoom pool).front = s.front :=
  State.keeps_millRoom s (p := State.front) (fun _ _ _ => rfl) (fun _ _ => State.front_recordB ..) State.front_releaseShell pool

/-! ### A namespace begins (R184) -/

/-- The command table and the queues: what a completion is read from. -/
def State.posts (s : State) : Tab Cmd × Tab Queue := (s.cmds, s.queues)

theorem State.posts_of_front {s t : State} (h : t.front = s.front) : t.posts = s.posts :=
  show t.front.posts = s.front.posts from congrArg State.posts h

theorem State.ns_each {f : State → Nat → State} (hf : ∀ t i, (f t i).per.ns = t.per.ns) (k : Nat) :
    (s.each k f).per.ns = s.per.ns := State.keeps_foldl (p := fun t => t.per.ns) hf _ s

theorem State.posts_each {f : State → Nat → State} (hf : ∀ t i, (f t i).posts = t.posts) (k : Nat) :
    (s.each k f).posts = s.posts := State.keeps_foldl hf _ s

theorem State.ns_keyLoad (k : KeySlot) : (s.keyLoad k).per.ns = s.per.ns := rfl

theorem State.posts_keyLoad (k : KeySlot) : (s.keyLoad k).posts = s.posts := rfl

variable (x : NsCreate)

/-- The namespace made is of the size and the owner that its creation names, under the NSID that it gives. -/
theorem State.nsMake_ns : ∃ n, ((s.nsMake x).2.per.ns.get n).alive = true ∧ ((s.nsMake x).2.per.ns.get n).nsid = (s.nsMake x).1 ∧
    ((s.nsMake x).2.per.ns.get n).owner = x.owner ∧ ((s.nsMake x).2.per.ns.get n).nsze = x.nsze := by
  refine ⟨firstFree 1 (s.per.ns.filter fun (_, y) => y.alive), ?_⟩
  unfold State.nsMake
  dsimp only
  rw [State.ns_of_book (State.book_millRoom ..), State.ns_of_book (State.book_recordB ..), State.ns_keyLoad,
    State.ns_each]
  · simp only [Tab.getD_setD_same, and_self]
  · exact fun _ _ => rfl

/-- The making of a namespace touches no command and no queue. -/
theorem State.posts_nsMake : (s.nsMake x).2.posts = s.posts := by
  unfold State.nsMake
  dsimp only
  rw [State.posts_of_front (State.front_millRoom ..), State.posts_of_front (State.front_recordB ..), State.posts_keyLoad,
    State.posts_each]
  · rfl
  · exact fun _ _ => rfl

end

/-! ### Namespace Management (R184, R186) -/

/-- A command whose own step is to come waits for no namespace. -/
theorem State.AdmDue.not_waiting {s : State} {c opc : Nat} (h : s.AdmDue c opc) (opc' : Nat) : s.nsWaiting c opc' = false := by
  obtain ⟨hcmd, -⟩ := h
  simp only [State.admCmd, Bool.and_eq_true, beq_iff_eq] at hcmd
  obtain ⟨⟨⟨-, hphase⟩, -⟩, -⟩ := hcmd
  simp [State.nsWaiting, hphase]

section
variable {c n : Nat} {s : State} (h : s.AdmDue c 0x0D) (hheld : s.ioStepHeld = false) (hmode : s.mode ≠ .sanitize)
include h hheld hmode

section
variable (hsel : (s.cmd c).sqe.cdw10.toNat % 16 = 0) (hsgl : s.sglCheck c 4096 false = none)
include hsel hsgl

/-- A creation whose checks of Table 07-2 give a status (0: none holds). -/
theorem exec_nsCreate {st : Nat} {x : NsCreate}
    (hx : x = { (s.cmd c).sqe.create with csi := (s.cmd c).sqe.cdw11.toNat / 2 ^ 24 }) (hst : s.nsCheck x = st) :
    exec (.nsCreate c) s = .next (if st = 0x115 then (s.raise R.MD_ZEVT_NS_NOSPACE).failCmd c st
      else if st ≠ 0 then s.failCmd c st else (s.nsMake x).2.complete c 0 (s.nsMake x).1).settle := by
  subst hx hst
  have hskip : ¬ (s.ioStepHeld = true ∨ (s.cmd c).sqe.cdw10.toNat % 16 = 1) := by simp [hheld, hsel]
  refine ((show execNsCreate c s = _ from if_neg hskip).trans (h.step _)).trans ?_
  simp only [hmode, hsel, hsgl, if_false, ne_eq, not_true_eq_false]

end

section
variable (hsel : (s.cmd c).sqe.cdw10.toNat % 16 = 1) (hone : (s.cmd c).sqe.nsid ≠ 0xFFFFFFFF)
  (hns : s.nsAny (s.cmd c).sqe.nsid = some n)
include hsel hone hns

/-- A deletion of one namespace. -/
theorem exec_nsDelete : exec (.nsDelete c) s =
    .next (s.nsWait c [n] fun s => (([n].foldl State.nsEnd s).complete c).afterRows).settle := by
  have hskip : ¬ (s.ioStepHeld = true ∨ (s.cmd c).sqe.cdw10.toNat % 16 ≠ 1) := by simp [hheld, hsel]
  show execNsDelete c s = _
  unfold execNsDelete
  simp only [hone, hns, Option.map_some, Option.getD_some, if_false]
  rw [if_neg hskip, h.not_waiting, if_neg Bool.false_ne_true, h.step]
  simp only [hmode, if_false, List.isEmpty_cons, Bool.false_eq_true, and_false]

end
end

/-- A deletion or format that waits for the I/O under way on namespace n. -/
def State.nsWaits (s : State) (c n : Nat) : State := (s.running c).modCmd c fun x => { x with zs := [2 ^ 20 + n] }

theorem State.nsWait_busy {s : State} {c n : Nat} (k : State → State) (hbusy : s.nsBusy n = true) :
    s.nsWait c [n] k = s.nsWaits c n := if_pos (by simp [hbusy])

theorem State.nsWait_free {s : State} {c n : Nat} (k : State → State) (hbusy : s.nsBusy n = false) :
    s.nsWait c [n] k = k (s.modCmd c fun x => { x with zs := [] }) := if_neg (by simp [hbusy])

theorem nsCreate_makes (c : Nat) (x : NsCreate) (s : State) (h : s.AdmDue c 0x0D) (hheld : s.ioStepHeld = false)
    (hmode : s.mode ≠ .sanitize) (hsel : (s.cmd c).sqe.cdw10.toNat % 16 = 0) (hsgl : s.sglCheck c 4096 false = none)
    (hx : x = { (s.cmd c).sqe.create with csi := (s.cmd c).sqe.cdw11.toNat / 2 ^ 24 }) (hst : s.nsCheck x = 0) :
    ∃ t n, exec (.nsCreate c) s = .next t ∧ s.Posted t c 0 (s.nsMake x).1 0 ∧ (t.per.ns.get n).alive = true ∧
      (t.per.ns.get n).nsid = (s.nsMake x).1 ∧ (t.per.ns.get n).owner = x.owner ∧ (t.per.ns.get n).nsze = x.nsze := by
  obtain ⟨n, hns⟩ := s.nsMake_ns x
  have hposts := s.posts_nsMake x
  have hexec := exec_nsCreate h hheld hmode hsel hsgl hx hst
  rw [if_neg (by decide), if_neg (not_not.mpr rfl)] at hexec
  refine ⟨_, n, hexec, h.posted 0 _ 0 (congrArg Prod.fst hposts) (congrArg Prod.snd hposts), ?_⟩
  rw [State.settle_per, State.complete_per]
  exact hns

theorem nsCreate_noSpace (c : Nat) (s : State) (h : s.AdmDue c 0x0D) (hheld : s.ioStepHeld = false)
    (hmode : s.mode ≠ .sanitize) (hsel : (s.cmd c).sqe.cdw10.toNat % 16 = 0) (hsgl : s.sglCheck c 4096 false = none)
    (hst : s.nsCheck { (s.cmd c).sqe.create with csi := (s.cmd c).sqe.cdw11.toNat / 2 ^ 24 } = 0x115) :
    ∃ t, exec (.nsCreate c) s = .next t ∧ s.Posted t c 0x115 0 0 ∧ t.f R.MD_ZEVT_NS_NOSPACE = 1 ∧ t.per = s.per := by
  have hexec := exec_nsCreate h hheld hmode hsel hsgl rfl hst
  rw [if_pos rfl] at hexec
  refine ⟨_, hexec, h.posted 0x115 0 0 rfl rfl, ?_, ?_⟩
  · rw [State.f_settle _ _ _ _ (by decide) (by decide), State.f_complete_other _ _ _ _ _ _ _ _ _ (by decide)]
    exact State.f_raise_same ..
  · rw [State.settle_per, State.complete_per]
    rfl

theorem nsDelete_acts (c n : Nat) (s : State) (h : s.AdmDue c 0x0D) (hheld : s.ioStepHeld = false) (hmode : s.mode ≠ .sanitize)
    (hsel : (s.cmd c).sqe.cdw10.toNat % 16 = 1) (hone : (s.cmd c).sqe.nsid ≠ 0xFFFFFFFF)
    (hns : s.nsAny (s.cmd c).sqe.nsid = some n) (hbusy : s.nsBusy n = false) :
    exec (.nsDelete c) s = .next ((((s.modCmd c fun x => { x with zs := [] }).nsEnd n).complete c).afterRows).settle := by
  rw [exec_nsDelete h hheld hmode hsel hone hns, State.nsWait_free _ hbusy]
  rfl

theorem nsDelete_waits (c n : Nat) (s : State) (h : s.AdmDue c 0x0D) (hheld : s.ioStepHeld = false) (hmode : s.mode ≠ .sanitize)
    (hsel : (s.cmd c).sqe.cdw10.toNat % 16 = 1) (hone : (s.cmd c).sqe.nsid ≠ 0xFFFFFFFF)
    (hns : s.nsAny (s.cmd c).sqe.nsid = some n) (hbusy : s.nsBusy n = true) :
    ∃ t, exec (.nsDelete c) s = .next t ∧ (t.cmd c).phase = .running ∧ (t.cmd c).zs = [2 ^ 20 + n] ∧
      State.Only { s with cmds := t.cmds } t [] := by
  have hexec := exec_nsDelete h hheld hmode hsel hone hns
  rw [State.nsWait_busy _ hbusy] at hexec
  refine ⟨_, hexec, ?_⟩
  rw [State.cmd_settle, State.settle_cmds, State.nsWaits, State.cmd_modCmd_same, State.cmd_running]
  exact ⟨rfl, rfl, State.only_settle_same (s.nsWaits c n) []⟩

/-! ### Format NVM (R186) -/

theorem formatNvm_acts (c n : Nat) (s : State) (h : s.AdmDue c 0x80) (hheld : s.ioStepHeld = false) (hsan : s.mode ≠ .sanitize)
    (hro : s.mode ≠ .readOnly) (hformat : (s.cmd c).sqe.cdw10.toNat = 0) (_ : (s.cmd c).sqe.nsid ≠ 0xFFFFFFFF)
    (hzs : (s.cmd c).zs = []) (hns : s.formatNs (s.cmd c) = [n]) (hbusy : s.nsBusy n = false) :
    exec (.formatNvm c) s = .next ((s.modCmd c fun x => { x with zs := [] }).formatGo c 0 false [n]).settle := by
  show execFormatNvm c s = _
  unfold execFormatNvm
  simp only [hzs, hns, hformat, List.isEmpty_nil, if_true]
  rw [if_neg (ne_true_of_eq_false hheld), h.not_waiting, if_neg Bool.false_ne_true, h.step]
  simp only [hsan, hro, if_false, List.isEmpty_cons, Bool.false_eq_true, and_false]
  rw [if_neg (by decide), State.nsWait_free _ hbusy]
  rfl

/-! ### Namespace Attachment (R98) -/

/-- A namespace is attached to controller k. -/
def State.attachedTo (s : State) (k n : Nat) : State := s.modCtrl k fun c => { c with attached := c.attached ++ [n] }

section
variable (s : State) (k n : Nat)

theorem State.ctrl_modCtrl_same (f : Ctrl → Ctrl) : (s.modCtrl k f).ctrl k = f (s.ctrl k) := Tab.getD_setD_same ..

theorem State.asyncEvent_unasked (e : Nat × Nat × Nat) (haers : (s.ctrl k).aers = []) :
    s.asyncEvent k e = s.modCtrl k fun x => { x with aevs := x.aevs ++ [e] } := by
  unfold State.asyncEvent
  rw [haers]

/-- A controller's list of changed namespaces gains one. -/
def State.noteChanged (nsid : Nat) : State :=
  s.modCtrl k fun c => { c with changedNs := if c.changedNs.contains nsid then c.changedNs else c.changedNs ++ [nsid] }

theorem State.ctrl_noteChanged (nsid : Nat) : (s.noteChanged k nsid).ctrl k =
    { s.ctrl k with changedNs := if (s.ctrl k).changedNs.contains nsid then (s.ctrl k).changedNs else (s.ctrl k).changedNs ++ [nsid] } :=
  State.ctrl_modCtrl_same ..

/-- Where the controller has no Asynchronous Event Request outstanding, a changed namespace is noted in the controller alone. -/
theorem State.nsChanged_unasked (nsid : Nat) (haers : (s.ctrl k).aers = []) :
    (s.nsChanged k nsid).posts = s.posts ∧ ((s.nsChanged k nsid).ctrl k).attached = (s.ctrl k).attached := by
  have hnote := s.ctrl_noteChanged k nsid
  have hevent := State.asyncEvent_unasked (s.noteChanged k nsid) k (2, 0, 4) (by rw [hnote]; exact haers)
  have hcase : s.nsChanged k nsid = s.noteChanged k nsid ∨
      s.nsChanged k nsid = (s.noteChanged k nsid).modCtrl k fun x => { x with aevs := x.aevs ++ [(2, 0, 4)] } := by
    rw [← hevent]
    exact (ite_eq_or_eq _ _ _).symm
  obtain h | h := hcase
  · rw [h, hnote]
    exact ⟨rfl, rfl⟩
  · rw [h, State.ctrl_modCtrl_same, hnote]
    exact ⟨rfl, rfl⟩

theorem State.ctrl_attachedTo : (s.attachedTo k n).ctrl k = { s.ctrl k with attached := (s.ctrl k).attached ++ [n] } :=
  State.ctrl_modCtrl_same ..

end

/-- A controller list of one word w: one controller, k. -/
theorem exec_nsAttachment_one {c n k : Nat} {w : Word} {s : State} (h : s.AdmDue c 0x15) (hns : s.nsAny (s.cmd c).sqe.nsid = some n)
    (hsel : (s.cmd c).sqe.cdw10.toNat % 16 = 0) (hsgl : s.sglCheck c 4096 false = none) (hwords : (s.cmd c).sqe.words = [w])
    (hw : w.toNat = 1 + 65536 * k) (halive : (s.ctrl k).alive = true) (hdisc : (s.ctrl k).disc = false)
    (hslice : (s.ctrl k).slice = (s.per.ns.get n).owner) (hnew : n ∉ (s.ctrl k).attached) :
    exec (.nsAttachment c) s =
      .next (((s.attachedTo k n).nsChanged k (s.per.ns.get n).nsid).complete c).settle := by
  have hcount : (1 + 65536 * k) % 65536 = 1 := by omega
  have hentry : (1 + 65536 * k) / 65536 % 65536 = k := by
    have := w.isLt
    omega
  refine (show execNsAttachment c s = _ from h.step _).trans ?_
  simp [hns, hsel, hsgl, hwords, hw, hcount, hentry, halive, hdisc, hslice, hnew, List.findIdx?_cons, State.attachedTo]

theorem nsAttachment_attaches (c n k : Nat) (w : Word) (s : State) (h : s.AdmDue c 0x15) (hns : s.nsAny (s.cmd c).sqe.nsid = some n)
    (hsel : (s.cmd c).sqe.cdw10.toNat % 16 = 0) (hsgl : s.sglCheck c 4096 false = none) (hwords : (s.cmd c).sqe.words = [w])
    (hw : w.toNat = 1 + 65536 * k) (halive : (s.ctrl k).alive = true) (hdisc : (s.ctrl k).disc = false)
    (hslice : (s.ctrl k).slice = (s.per.ns.get n).owner) (haers : (s.ctrl k).aers = []) (hnew : n ∉ (s.ctrl k).attached) :
    ∃ t, exec (.nsAttachment c) s = .next t ∧ s.Posted t c 0 0 0 ∧ n ∈ (t.ctrl k).attached := by
  have hctrl := s.ctrl_attachedTo k n
  obtain ⟨hposts, hattached⟩ :=
    State.nsChanged_unasked (s.attachedTo k n) k (s.per.ns.get n).nsid (by rw [hctrl]; exact haers)
  refine ⟨_, exec_nsAttachment_one h hns hsel hsgl hwords hw halive hdisc hslice hnew,
    h.posted 0 0 0 (congrArg Prod.fst hposts) (congrArg Prod.snd hposts), ?_⟩
  rw [State.ctrl, State.settle_ctrls, State.complete_ctrls]
  rw [hctrl] at hattached
  exact hattached ▸ List.mem_append_right _ (List.mem_singleton_self n)

/-- Settles O32: a creation, one without space, a deletion that acts and one that waits, a format, and an attachment. -/
theorem namespaceCommands : Obligations.NamespaceCommands :=
  ⟨nsCreate_makes, nsCreate_noSpace, nsDelete_acts, nsDelete_waits, formatNvm_acts, nsAttachment_attaches⟩

end Sys2Proof.Machine
end

section
/-! SUPPORT. Register fields of lanes and tiles: which writes reach a field of an instance, and the frames of one-field writes. -/

namespace Sys2Proof.Machine

/-! ### Keys of the instances of a block -/

/-- Two fields of blocks of one stride, apart at the first instance. -/
abbrev Apart (F G : R.Fld) : Prop := F.reg.s1 = G.reg.s1 ∧ F.key 0 0 ≠ G.key 0 0

/-- Fields of blocks of one stride are apart at every instance. -/
theorem Apart.key_ne {F G : R.Fld} (h : Apart F G) (i : Nat) : F.key i 0 ≠ G.key i 0 := by
  obtain ⟨hs, h⟩ := h
  simp only [R.Fld.key, R.Reg.at, hs] at h ⊢
  omega

section
variable (s : State) {F G : R.Fld} (l : Nat) (h : Apart G F)
include h

theorem State.f_setF_apart {v : Nat} : (s.setF F v l).f G l = s.f G l := State.f_setF_other _ _ _ _ _ _ _ _ (h.key_ne l)

theorem State.f_addF_apart {n : Nat} : (s.addF F n l).f G l = s.f G l := State.f_setF_apart s l h

theorem State.f_putF_apart {v : Nat} : (s.putF F v l).f G l = s.f G l := State.f_setF_apart s l h

theorem State.f_raise_apart {p1 p2 p3 : Nat} : (s.raise F p1 p2 p3 l).f G l = s.f G l := State.f_setF_apart s l h

theorem State.f_raiseLimited_apart {key p1 p2 p3 : Nat} : (s.raiseLimited key F p1 p2 p3 l).f G l = s.f G l :=
  State.f_raiseLimited_other _ _ _ _ _ _ _ _ _ _ (h.key_ne l)

end

/-- A block behind the register of a field has no field of its key at any instance. -/
theorem key_ne_of_lt {F G : R.Fld} (i k : Nat) (h : G.key 0 0 < F.key 0 0) : F.key i k ≠ G.key 0 0 := by
  simp only [R.Fld.key, R.Reg.at] at h ⊢
  omega

/-- The end of a handshake leaves the fields of a block behind GLOBAL, at every instance. -/
theorem State.f_settle_behind (s : State) {F : R.Fld} (i k : Nat)
    (h : R.GL_EVT_LOG_WRAP.key 0 0 < F.key 0 0 ∧ R.GL_SB_STS_ALERTS.key 0 0 < F.key 0 0) : s.settle.f F i k = s.f F i k :=
  State.f_settle s F i k (key_ne_of_lt i k h.1) (key_ne_of_lt i k h.2)

/-- One field that is set, and the end of the handshake. -/
theorem State.only_setF (s : State) (F : R.Fld) (v i k : Nat) : s.Only (s.setF F v i k).settle [F.key i k] :=
  State.only_settle (fun _ _ _ hk => State.f_setF_other _ _ _ _ _ _ _ _ (List.ne_of_not_mem_cons hk)) rfl

/-- One event that occurs, and the end of the handshake. -/
theorem State.only_raise (s : State) (F : R.Fld) (p1 p2 p3 i : Nat) : s.Only (s.raise F p1 p2 p3 i).settle [F.key i 0] :=
  State.only_settle (fun _ _ _ hk => State.f_raise_other _ _ _ _ _ _ _ _ _ (List.ne_of_not_mem_cons hk)) rfl

/-! ### Entries of lanes and dies -/

section
variable (s : State) (c l : Nat)

theorem State.lane_modLane_same (f : Lane → Lane) : (s.modLane l f).lane l = f (s.lane l) := Tab.getD_setD_same ..

theorem State.die_modDie_same (f : Die → Die) : (s.modDie c l f).die c l = f (s.die c l) := Tab.getD_setD_same ..

theorem State.f_modLane (f : Lane → Lane) (F : R.Fld) (i k : Nat) : (s.modLane l f).f F i k = s.f F i k := rfl

theorem State.die_modLane (f : Lane → Lane) (k : Nat) : (s.modLane l f).die c k = s.die c k := rfl

theorem State.die_addF (F : R.Fld) (n i k : Nat) : (s.addF F n i k).die c l = s.die c l := rfl

theorem State.lane_settle : s.settle.lane l = s.lane l := by rw [State.lane, State.settle_flash]

theorem State.die_settle : s.settle.die c l = s.die c l := by rw [State.die, State.settle_flash]

end

end Sys2Proof.Machine
end

section
/-! SUPPORT. Smaller controls of a lane and of the Cox (R230, R235, R302, R304, R327). -/

namespace Sys2Proof.Machine

/-! ### The divider (R302) -/

theorem exec_divStep_moves {l g : Nat} {s : State} (hl : l < 32) (hstate : s.lstate l ∈ [2, 3, 4])
    (hpacer : s.on R.LN_STS_PACER l = false)
    (hg : g = max (max (s.f R.LN_CFG_DIV_TARGET l) (s.f R.LN_STS_DIV_MIN l)) s.pwr.divFloor) (hne : s.f R.LN_STS_DIV_CUR l ≠ g) :
    exec (.divStep l) s = .next (s.setF R.LN_STS_DIV_CUR
      (if g < s.f R.LN_STS_DIV_CUR l then s.f R.LN_STS_DIV_CUR l - 1 else s.f R.LN_STS_DIV_CUR l + 1) l).settle := by
  show execDivStep l s = _
  unfold execDivStep
  rw [← hg, if_neg (by simp [hpacer, hne, hl, hstate])]
  rfl

theorem divStep_moves (l g : Nat) (s : State) (hl : l < 32) (hstate : s.lstate l ∈ [2, 3, 4]) (hpacer : s.on R.LN_STS_PACER l = false)
    (hg : g = max (max (s.f R.LN_CFG_DIV_TARGET l) (s.f R.LN_STS_DIV_MIN l)) s.pwr.divFloor) (hne : s.f R.LN_STS_DIV_CUR l ≠ g) :
    ∃ t, exec (.divStep l) s = .next t ∧ s.Only t [R.LN_STS_DIV_CUR.key l 0] ∧ t.f R.LN_STS_DIV_CUR l =
      (if g < s.f R.LN_STS_DIV_CUR l then s.f R.LN_STS_DIV_CUR l - 1 else s.f R.LN_STS_DIV_CUR l + 1) % 2 ^ R.LN_STS_DIV_CUR.w :=
  ⟨_, exec_divStep_moves hl hstate hpacer hg hne, s.only_setF .., (State.f_settle_behind _ _ _ (by decide)).trans (s.f_setF_same ..)⟩

/-! ### The temperature of a die (R304) -/

/-- Die c of lane l has been read: its temperature, and the turn of the lane's round. -/
def State.tempRead (s : State) (l c : Nat) (temp : Int) : State :=
  ((s.modDie c l fun d =>
    { d with temp := temp, tempTb := s.clk.tb, tempSample := some s.gov.samples, easy := decide (0 < s.f R.LN_EASY_EASY l) }).addF
      R.LN_OPS_RECIPES 1 l).modLane l fun x => { x with tempNext := (c + 1) % 64 }

/-- The lane's first mean is the one that later means are compared with (R305). -/
def State.tempBase (s : State) (l : Nat) : State :=
  if (s.lane l).rtTemp.isSome then s else s.modLane l fun x => { x with rtTemp := s.laneMean l }

section
variable (s : State) (l : Nat)

theorem State.tempBase_eq : s.tempBase l = { s with flash := (s.tempBase l).flash } := by
  unfold State.tempBase
  split <;> rfl

theorem State.f_tempBase (F : R.Fld) (i k : Nat) : (s.tempBase l).f F i k = s.f F i k :=
  State.keeps_ite (p := fun u => u.f F i k) rfl rfl

theorem State.die_tempBase (c k : Nat) : (s.tempBase l).die c k = s.die c k := State.keeps_ite (p := fun u => u.die c k) rfl rfl

theorem State.tempNext_tempBase : ((s.tempBase l).lane l).tempNext = (s.lane l).tempNext :=
  State.keeps_ite (p := fun u => (u.lane l).tempNext) rfl (by rw [State.lane_modLane_same])

theorem State.die_tempRead (c : Nat) (temp : Int) :
    ((s.tempRead l c temp).die c l).temp = temp ∧ ((s.tempRead l c temp).die c l).tempTb = s.clk.tb := by
  unfold State.tempRead
  rw [State.die_modLane, State.die_addF, State.die_modDie_same]
  exact ⟨rfl, rfl⟩

theorem State.tempNext_tempRead (c : Nat) (temp : Int) : ((s.tempRead l c temp).lane l).tempNext = (c + 1) % 64 := by
  unfold State.tempRead
  rw [State.lane_modLane_same]

end

theorem exec_tempReadTimer {l c : Nat} {raw : Int} {b : RecipeSet} {s : State} (hl : l < 32) (hrun : s.lstate l = 2)
    (hdie : s.tempDie l = some c) (hset : s.boot.image.recipes[(s.die c l).set]? = some b) (hauto : s.on R.LN_CFG_AUTO_RT l = false) :
    exec (.tempReadTimer l raw) s = .next ((s.tempRead l c (b.tempOff + raw * b.tempGain / 16)).tempBase l).settle := by
  have hoff : ((s.tempRead l c (b.tempOff + raw * b.tempGain / 16)).tempBase l).on R.LN_CFG_AUTO_RT l = false := by
    unfold State.on
    rw [State.f_tempBase]
    exact (congrArg (· != 0) (State.f_addF_apart _ l (by decide))).trans hauto
  show execTempReadTimer l raw s = _
  unfold execTempReadTimer
  rw [if_neg (by simp [hl, hrun])]
  simp only [hdie, hset]
  refine (if_neg ?_).trans rfl
  change ¬ ((_ && State.on ((s.tempRead l c (b.tempOff + raw * b.tempGain / 16)).tempBase l) R.LN_CFG_AUTO_RT l && _) = true)
  simp [hoff]

theorem tempReadTimer_reads (l c : Nat) (raw : Int) (b : RecipeSet) (s : State) (hl : l < 32) (hrun : s.lstate l = 2)
    (hdie : s.tempDie l = some c) (hset : s.boot.image.recipes[(s.die c l).set]? = some b) (hauto : s.on R.LN_CFG_AUTO_RT l = false) :
    ∃ t, exec (.tempReadTimer l raw) s = .next t ∧ (t.die c l).temp = b.tempOff + raw * b.tempGain / 16 ∧
      (t.die c l).tempTb = s.clk.tb ∧ (t.lane l).tempNext = (c + 1) % 64 ∧
      State.Only { s with flash := t.flash } t [R.LN_OPS_RECIPES.key l 0] := by
  refine ⟨_, exec_tempReadTimer hl hrun hdie hset hauto, ?_, ?_, ?_, ?_⟩
  · rw [State.die_settle, State.die_tempBase]
    exact (s.die_tempRead l c _).1
  · rw [State.die_settle, State.die_tempBase]
    exact (s.die_tempRead l c _).2
  · rw [State.lane_settle, State.tempNext_tempBase, State.tempNext_tempRead]
  · rw [State.settle_flash, State.tempBase_eq]
    exact State.only_settle (fun F i k hk => State.f_addF_other s _ _ _ _ _ _ _ (List.ne_of_not_mem_cons hk)) rfl

/-! ### A forced seat (R235) -/

/-- SH_FORCE holds crew c, seat k and EN, and the force is not in effect. -/
def State.forceHeld (s : State) (c k en : Nat) : State :=
  (((s.setF R.SH_FORCE_CREW c).setF R.SH_FORCE_SEAT k).setF R.SH_FORCE_EN en).setF R.SH_FORCE_ACTIVE 0

section
variable (s : State) (c k en : Nat)

theorem State.f_forceHeld_crew : (s.forceHeld c k en).f R.SH_FORCE_CREW = c % 2 ^ 6 := by
  unfold State.forceHeld
  rw [State.f_setF_other _ _ _ _ _ _ _ _ (by decide), State.f_setF_other _ _ _ _ _ _ _ _ (by decide),
    State.f_setF_other _ _ _ _ _ _ _ _ (by decide)]
  exact State.f_setF_same ..

theorem State.f_forceHeld_seat : (s.forceHeld c k en).f R.SH_FORCE_SEAT = k % 2 ^ 5 := by
  unfold State.forceHeld
  rw [State.f_setF_other _ _ _ _ _ _ _ _ (by decide), State.f_setF_other _ _ _ _ _ _ _ _ (by decide)]
  exact State.f_setF_same ..

theorem State.f_forceHeld_en : (s.forceHeld c k en).f R.SH_FORCE_EN = en % 2 :=
  (State.f_setF_other _ _ _ _ _ _ _ _ (by decide)).trans (State.f_setF_same ..)

theorem State.f_forceHeld_active : (s.forceHeld c k en).f R.SH_FORCE_ACTIVE = 0 := State.f_setF_same ..

end

section
variable {v : Word} {s : State} (hoff : s.mode ≠ .off)
include hoff

theorem exec_shForceWrite_ends (hen : bit v.toNat 16 = false) : exec (.shForceWrite v) s =
    .next (((s.forceHeld (bitsOf v.toNat 0 6) (bitsOf v.toNat 8 5) 0).redecide (s.f R.SH_FORCE_CREW)).afterRows.settle) := by
  show execShForceWrite v s = _
  unfold execShForceWrite
  rw [if_neg hoff]
  exact if_neg (by simp [hen])

variable {c k : Nat} (hc : c = bitsOf v.toNat 0 6) (hk : k = bitsOf v.toNat 8 5) (hen : bit v.toNat 16 = true)
  (hfree : s.on R.SH_FORCE_EN = false)
include hc hk hen hfree

/-- While no force stands, a write of EN 1 is refused, or the seat is forced. -/
theorem exec_shForceWrite_free : exec (.shForceWrite v) s =
    if (s.crew c).st ≠ 2 ∨ (List.range 32).any (fun l => s.on R.LN_RT_STS_ACTIVE l) ∨ s.retrainRefused k then
      done (s.raise R.SH_EVT_FORCE_REFUSED c k)
    else done (((s.forceHeld c k 1).redecide (s.f R.SH_FORCE_CREW)).forceCheck).afterRows := by
  subst hc hk
  show execShForceWrite v s = _
  unfold execShForceWrite
  rw [if_neg hoff]
  dsimp only
  rw [if_pos hen]
  exact if_neg (by simp [hfree])

end

theorem shForceWrite_forces (v : Word) (c k : Nat) (s : State) (hoff : s.mode ≠ .off) (hc : c = bitsOf v.toNat 0 6)
    (hk : k = bitsOf v.toNat 8 5) (hen : bit v.toNat 16 = true) (hfree : s.on R.SH_FORCE_EN = false) :
    ((s.crew c).st = 2 → (∀ l, l < 32 → s.on R.LN_RT_STS_ACTIVE l = false) → s.retrainRefused k = false →
      ∃ u : State, exec (.shForceWrite v) s = .next (((u.redecide (s.f R.SH_FORCE_CREW)).forceCheck).afterRows.settle) ∧
        u.f R.SH_FORCE_EN = 1 ∧ u.f R.SH_FORCE_CREW = c ∧ u.f R.SH_FORCE_SEAT = k ∧ u.media = s.media) ∧
    ((s.crew c).st ≠ 2 → ∃ t, exec (.shForceWrite v) s = .next t ∧ t.f R.SH_EVT_FORCE_REFUSED = 1 ∧
      s.Only t [R.SH_EVT_FORCE_REFUSED.key 0 0]) := by
  have hexec := exec_shForceWrite_free hoff hc hk hen hfree
  refine ⟨fun hst hquiet hok => ⟨s.forceHeld c k 1, hexec.trans (if_neg (by simpa [hst, hok] using hquiet)),
    s.f_forceHeld_en c k 1, ?_, ?_, rfl⟩, fun hst => ⟨_, hexec.trans (if_pos (.inl hst)), ?_, s.only_raise ..⟩⟩
  · rw [State.f_forceHeld_crew, hc, bitsOf_mod]
  · rw [State.f_forceHeld_seat, hk, bitsOf_mod]
  · exact (State.f_settle_behind _ _ _ (by decide)).trans (State.f_raise_same ..)

theorem shForceWrite_ends (v : Word) (s : State) (hoff : s.mode ≠ .off) (hen : bit v.toNat 16 = false) :
    ∃ u : State, exec (.shForceWrite v) s = .next ((u.redecide (s.f R.SH_FORCE_CREW)).afterRows.settle) ∧ u.f R.SH_FORCE_EN = 0 ∧
      u.f R.SH_FORCE_ACTIVE = 0 :=
  ⟨_, exec_shForceWrite_ends hoff hen, State.f_forceHeld_en .., State.f_forceHeld_active ..⟩

/-! ### The busy budget (R230) -/

theorem busyBudgetWrite_stores (c v : Nat) (s : State) (hoff : s.mode ≠ .off) (hc : c < 64) (hv : v = 1 ∨ v = 2 ∧ s.fmt c = 3) :
    ∃ t, exec (.busyBudgetWrite c v) s = .next t ∧ t.f R.SH_CREW_BUSY_BUDGET 0 c = v ∧ s.Only t [R.SH_CREW_BUSY_BUDGET.key 0 c] := by
  have hlt : v < 2 ^ R.SH_CREW_BUSY_BUDGET.w := by
    show v < 4
    omega
  refine ⟨(s.setF R.SH_CREW_BUSY_BUDGET v 0 c).settle, ?_, ?_, s.only_setF ..⟩
  · show execBusyBudgetWrite c v s = _
    unfold execBusyBudgetWrite
    rw [if_neg (by simp [hoff, hc]), if_pos hv]
    rfl
  · rw [State.f_settle_behind _ _ _ (by decide), State.f_setF_same, Nat.mod_eq_of_lt hlt]

theorem busyBudgetWrite_invalid (c v : Nat) (s : State) (hoff : s.mode ≠ .off) (hc : c < 64) (hv : ¬ (v = 1 ∨ v = 2 ∧ s.fmt c = 3)) :
    ∃ t, exec (.busyBudgetWrite c v) s = .next t ∧ t.f R.GL_EVT_INVALID_ENC = 1 ∧
      s.Only t [R.GL_ACC_INVALID_ENCS.key 0 0, R.GL_EVT_INVALID_ENC.key 0 0] := by
  refine ⟨(s.invalidEnc (R.SH_CREW.at 0 c) (v * 256) .sideband).settle, ?_, ?_, State.only_settle (fun F i k hk => ?_) rfl⟩
  · show execBusyBudgetWrite c v s = _
    unfold execBusyBudgetWrite
    rw [if_neg (by simp [hoff, hc]), if_neg hv]
    rfl
  · rw [State.f_settle _ _ _ _ (by decide) (by decide), State.f_invalidEnc_evt]
  · simp only [List.mem_cons, List.not_mem_nil, or_false, not_or] at hk
    exact State.f_invalidEnc_other _ _ _ _ _ _ _ hk.1 hk.2

/-! ### The self-test (R327) -/

/-- The self-test of lane l runs, with what it was started with. -/
def State.selftestRuns (s : State) (l : Nat) : State :=
  (s.modLane l fun x => { x with selftest :=
    [s.f R.DC_ST_CTL_CODE l, s.f R.DC_ST_CTL_TIER l, s.f R.DC_ST_CTL_ERRORS l, s.f R.DC_ST_SEED_SEED l, s.f R.DC_ST_CTL_COUNT l] }).setF
      R.DC_ST_STS_ACTIVE 1 l

theorem selftestStart_runs (l : Nat) (s : State) (hl : l < 32) (hmode : s.mode = .trial) (hidle : s.on R.DC_ST_STS_ACTIVE l = false) :
    ∃ t, exec (.selftestStart l) s = .next t ∧ t.f R.DC_ST_STS_ACTIVE l = 1 ∧ (t.lane l).selftest =
        [s.f R.DC_ST_CTL_CODE l, s.f R.DC_ST_CTL_TIER l, s.f R.DC_ST_CTL_ERRORS l, s.f R.DC_ST_SEED_SEED l, s.f R.DC_ST_CTL_COUNT l] ∧
      State.Only { s with flash := t.flash } t [R.DC_ST_STS_ACTIVE.key l 0] := by
  refine ⟨(s.selftestRuns l).settle, ?_, (State.f_settle_behind _ _ _ (by decide)).trans (State.f_setF_same ..), ?_, ?_⟩
  · show execSelftestStart l s = _
    unfold execSelftestStart
    rw [if_neg (by simp [hl, hmode]), if_neg (by simp [hmode]), if_neg (by simp [hidle])]
    rfl
  · rw [State.lane_settle]
    exact congrArg Lane.selftest (State.lane_modLane_same ..)
  · rw [State.settle_flash]
    exact State.only_setF _ R.DC_ST_STS_ACTIVE 1 l 0

theorem selftestStart_refused (l : Nat) (s : State) (hl : l < 32) (hoff : s.mode ≠ .off) (hmode : s.mode ≠ .trial) :
    ∃ t, exec (.selftestStart l) s = .next t ∧ t.f R.DC_ST_STS_RESULT l = 3 ∧ t.f R.DC_EVT_ST_REFUSED l = 1 ∧
      s.Only t [R.DC_ST_STS_RESULT.key l 0, R.DC_EVT_ST_REFUSED.key l 0] := by
  refine ⟨((s.setF R.DC_ST_STS_RESULT 3 l).raise R.DC_EVT_ST_REFUSED noP noP noP l).settle, ?_, ?_, ?_,
    State.only_settle (fun F i k hk => ?_) rfl⟩
  · show execSelftestStart l s = _
    unfold execSelftestStart
    rw [if_neg (by simp [hl, hoff]), if_pos hmode]
    rfl
  · rw [State.f_settle_behind _ _ _ (by decide), State.f_raise_apart _ _ (by decide), State.f_setF_same]
    rfl
  · exact (State.f_settle_behind _ _ _ (by decide)).trans (State.f_raise_same ..)
  · simp only [List.mem_cons, List.not_mem_nil, or_false, not_or] at hk
    obtain ⟨hresult, hevt⟩ := hk
    exact (State.f_raise_other _ _ _ _ _ _ _ _ _ hevt).trans (State.f_setF_other _ _ _ _ _ _ _ _ hresult)

/-- The self-test of lane l has ended with n failures and signature g. -/
def State.selftestEnded (s : State) (l n g : Nat) : State :=
  ((((s.setF R.DC_ST_STS_ACTIVE 0 l).setF R.DC_ST_STS_RESULT (if n = 0 then 1 else 2) l).putF R.DC_ST_STS_FAILS n l).setF
    R.DC_ST_SIG_SIG (g % 2 ^ 32) l).raise R.DC_EVT_ST_DONE noP noP noP l

section
variable (s : State) (l n g : Nat)

theorem State.f_selftestEnded_other (F : R.Fld) (i k : Nat) (h : F.key i k ∉ [R.DC_ST_STS_ACTIVE.key l 0, R.DC_ST_STS_RESULT.key l 0,
    R.DC_ST_STS_FAILS.key l 0, R.DC_ST_SIG_SIG.key l 0, R.DC_EVT_ST_DONE.key l 0]) : (s.selftestEnded l n g).f F i k = s.f F i k := by
  simp only [List.mem_cons, List.not_mem_nil, or_false, not_or] at h
  obtain ⟨hactive, hresult, hfails, hsig, hdone⟩ := h
  unfold State.selftestEnded State.putF
  rw [State.f_raise_other _ _ _ _ _ _ _ _ _ hdone, State.f_setF_other _ _ _ _ _ _ _ _ hsig, State.f_setF_other _ _ _ _ _ _ _ _ hfails,
    State.f_setF_other _ _ _ _ _ _ _ _ hresult, State.f_setF_other _ _ _ _ _ _ _ _ hactive]

theorem State.f_selftestEnded_sig : (s.selftestEnded l n g).f R.DC_ST_SIG_SIG l = g % 2 ^ 32 := by
  unfold State.selftestEnded
  rw [State.f_raise_apart _ _ (by decide), State.f_setF_same]
  exact Nat.mod_mod _ _

theorem State.f_selftestEnded_fails : (s.selftestEnded l n g).f R.DC_ST_STS_FAILS l = min n (2 ^ R.DC_ST_STS_FAILS.w - 1) := by
  unfold State.selftestEnded
  rw [State.f_raise_apart _ _ (by decide), State.f_setF_apart _ _ (by decide), State.f_putF_same]

theorem State.f_selftestEnded_result : (s.selftestEnded l n g).f R.DC_ST_STS_RESULT l = if n = 0 then 1 else 2 := by
  unfold State.selftestEnded
  rw [State.f_raise_apart _ _ (by decide), State.f_setF_apart _ _ (by decide), State.f_putF_apart _ _ (by decide), State.f_setF_same]
  split <;> rfl

theorem State.f_selftestEnded_active : (s.selftestEnded l n g).f R.DC_ST_STS_ACTIVE l = 0 := by
  unfold State.selftestEnded
  rw [State.f_raise_apart _ _ (by decide), State.f_setF_apart _ _ (by decide), State.f_putF_apart _ _ (by decide),
    State.f_setF_apart _ _ (by decide), State.f_setF_same, Nat.zero_mod]

theorem State.f_selftestEnded_evt : (s.selftestEnded l n g).f R.DC_EVT_ST_DONE l = 1 := State.f_raise_same ..

end

theorem selftestDone_ends (l f d m n : Nat) (s : State) (hl : l < 32) (hrun : s.on R.DC_ST_STS_ACTIVE l = true)
    (hm : m = ((s.lane l).selftest[4]?).getD 1) (hn : n = min m (Config.selftestFails (s.lane l).selftest % (m + 1) + f)) :
    ∃ t, exec (.selftestDone l f d) s = .next t ∧ t.f R.DC_ST_STS_ACTIVE l = 0 ∧ t.f R.DC_ST_STS_RESULT l = (if n = 0 then 1 else 2) ∧
      t.f R.DC_ST_STS_FAILS l = min n (2 ^ R.DC_ST_STS_FAILS.w - 1) ∧
      t.f R.DC_ST_SIG_SIG l = Config.selftestSig ((s.lane l).selftest ++ if d = 0 then [] else [d]) % 2 ^ 32 ∧
      t.f R.DC_EVT_ST_DONE l = 1 ∧
      s.Only t [R.DC_ST_STS_ACTIVE.key l 0, R.DC_ST_STS_RESULT.key l 0, R.DC_ST_STS_FAILS.key l 0, R.DC_ST_SIG_SIG.key l 0,
        R.DC_EVT_ST_DONE.key l 0] := by
  refine ⟨(s.selftestEnded l n (Config.selftestSig ((s.lane l).selftest ++ if d = 0 then [] else [d]))).settle, ?_, ?_, ?_, ?_, ?_, ?_,
    State.only_settle (State.f_selftestEnded_other s l n _) rfl⟩
  · subst hn hm
    exact if_neg (by simp [hl, hrun])
  · rw [State.f_settle_behind _ _ _ (by decide), State.f_selftestEnded_active]
  · rw [State.f_settle_behind _ _ _ (by decide), State.f_selftestEnded_result]
  · rw [State.f_settle_behind _ _ _ (by decide), State.f_selftestEnded_fails]
  · rw [State.f_settle_behind _ _ _ (by decide), State.f_selftestEnded_sig]
  · rw [State.f_settle_behind _ _ _ (by decide), State.f_selftestEnded_evt]

/-- Settles O51: each control by what its command stores, refuses or shows. -/
theorem laneControls : Obligations.LaneControls :=
  ⟨divStep_moves, tempReadTimer_reads, shForceWrite_forces, shForceWrite_ends,
   fun c v s hoff hc => ⟨busyBudgetWrite_stores c v s hoff hc, busyBudgetWrite_invalid c v s hoff hc⟩,
   selftestStart_runs, selftestStart_refused, selftestDone_ends⟩

end Sys2Proof.Machine
end

section
/-! SUPPORT. Retrain and fault recovery of a lane (R235, R305 to R308). -/

namespace Sys2Proof.Machine

/-- A repetition that changes nothing at any of its numbers leaves the state. -/
theorem State.each_fixed {s : State} {f : State → Nat → State} {n : Nat} (h : ∀ i < n, f s i = s) : s.each n f = s := by
  induction n with
  | zero => rfl
  | succ n ih =>
    rw [State.each, List.range_succ, List.foldl_append]
    change f (s.each n f) n = s
    rw [ih fun i hi => h i (by omega), h n n.lt_succ_self]

/-! ### A request (R305) -/

/-- A retrain of lane l is in force, and waits for quiet boats. -/
def State.retrainBegun (s : State) (l : Nat) : State :=
  ((s.setF R.LN_RT_STS_ACTIVE 1 l).setF R.LN_RT_STS_PENDING 0 l).modLane l fun x => { x with rtWait := true, rtStart := s.clk.tb }

/-- A retrain of lane l is refused: RESULT, the count and the event. -/
def State.retrainShown (s : State) (l : Nat) : State :=
  ((s.setF R.LN_RT_STS_RESULT 3 l).addF R.LN_RT_CNT_REFUSALS 1 l).raiseLimited (2 ^ 25 + l) R.LN_EVT_RT_REFUSED noP noP noP l

section
variable {s : State} {l : Nat} (hidle : s.on R.LN_RT_STS_ACTIVE l = false)
include hidle

theorem State.retrainRequest_begins (hrun : s.lstate l = 2) (hok : s.retrainRefused l = false) (a : Bool) :
    s.retrainRequest l a = (s.retrainBegun l).quiesce := by
  unfold State.retrainRequest
  rw [if_neg (by simp [hidle]), if_neg (by simp [hrun, hok])]
  rfl

theorem State.retrainRequest_refused (hno : s.retrainRefused l = true) (a : Bool) :
    s.retrainRequest l a = if a then (s.retrainShown l).setF R.LN_RT_STS_PENDING 1 l else s.retrainShown l := by
  unfold State.retrainRequest
  rw [if_neg (by simp [hidle]), if_pos (.inr hno)]
  rfl

end

theorem exec_lnRetrain {l : Nat} {s : State} (hl : l < 32) (hoff : s.mode ≠ .off) :
    exec (.lnRetrain l) s = .next (s.retrainRequest l false).settle := if_neg (by simp [hl, hoff])

theorem exec_retrainAgeTimer {l : Nat} {s : State} (hl : l < 32) (hauto : s.on R.LN_CFG_AUTO_RT l = true) (hrun : s.lstate l = 2) :
    exec (.retrainAgeTimer l) s = .next (s.retrainRequest l true).settle := if_neg (by simp [hl, hauto, hrun])

theorem exec_retrainRecheckTimer {l : Nat} {s : State} (hl : l < 32) (hpend : s.on R.LN_RT_STS_PENDING l = true) :
    exec (.retrainRecheckTimer l) s = .next (s.retrainRequest l true).settle := if_neg (by simp [hl, hpend])

section
variable (s : State) (l : Nat)

theorem State.f_retrainBegun_active : (s.retrainBegun l).f R.LN_RT_STS_ACTIVE l = 1 := by
  unfold State.retrainBegun
  rw [State.f_modLane, State.f_setF_apart _ _ (by decide), State.f_setF_same]
  rfl

theorem State.f_retrainBegun_pending : (s.retrainBegun l).f R.LN_RT_STS_PENDING l = 0 := by
  unfold State.retrainBegun
  rw [State.f_modLane, State.f_setF_same, Nat.zero_mod]

theorem State.lane_retrainBegun : (s.retrainBegun l).lane l = { s.lane l with rtWait := true, rtStart := s.clk.tb } :=
  State.lane_modLane_same ..

theorem State.f_retrainShown_result : (s.retrainShown l).f R.LN_RT_STS_RESULT l = 3 := by
  unfold State.retrainShown
  rw [State.f_raiseLimited_apart _ _ (by decide),
    State.f_addF_apart _ _ (by decide), State.f_setF_same]
  rfl

theorem State.f_retrainShown_evt : (s.retrainShown l).f R.LN_EVT_RT_REFUSED l = 1 := State.f_raiseLimited_same ..

theorem State.f_retrainShown_pending : (s.retrainShown l).f R.LN_RT_STS_PENDING l = s.f R.LN_RT_STS_PENDING l := by
  unfold State.retrainShown
  rw [State.f_raiseLimited_apart _ _ (by decide),
    State.f_addF_apart _ _ (by decide),
    State.f_setF_apart _ _ (by decide)]

theorem State.flash_retrainShown : (s.retrainShown l).flash = s.flash := State.keeps_ite (p := State.flash) rfl rfl

end

theorem retrain_begins (l : Nat) (i : Instr) (s : State) (hl : l < 32) (hoff : s.mode ≠ .off) (hrun : s.lstate l = 2)
    (hok : s.retrainRefused l = false) (hidle : s.on R.LN_RT_STS_ACTIVE l = false)
    (hway : i = .lnRetrain l ∨ i = .retrainAgeTimer l ∧ s.on R.LN_CFG_AUTO_RT l = true ∨
      i = .retrainRecheckTimer l ∧ s.on R.LN_RT_STS_PENDING l = true) :
    ∃ u : State, exec i s = .next u.quiesce.settle ∧ u.f R.LN_RT_STS_ACTIVE l = 1 ∧ u.f R.LN_RT_STS_PENDING l = 0 ∧
      (u.lane l).rtWait = true ∧ (u.lane l).rtStart = s.clk.tb ∧ u.media = s.media := by
  have hreq := State.retrainRequest_begins hidle hrun hok
  have hlane := s.lane_retrainBegun l
  refine ⟨s.retrainBegun l, ?_, s.f_retrainBegun_active l, s.f_retrainBegun_pending l, by rw [hlane], by rw [hlane], rfl⟩
  obtain rfl | ⟨rfl, hauto⟩ | ⟨rfl, hpend⟩ := hway
  · rw [exec_lnRetrain hl hoff, hreq]
  · rw [exec_retrainAgeTimer hl hauto hrun, hreq]
  · rw [exec_retrainRecheckTimer hl hpend, hreq]

theorem lnRetrain_refused (l : Nat) (s : State) (hl : l < 32) (hoff : s.mode ≠ .off) (hno : s.retrainRefused l = true)
    (hidle : s.on R.LN_RT_STS_ACTIVE l = false) :
    ∃ t, exec (.lnRetrain l) s = .next t ∧ t.f R.LN_RT_STS_RESULT l = 3 ∧ t.f R.LN_EVT_RT_REFUSED l = 1 ∧
      t.f R.LN_RT_STS_PENDING l = s.f R.LN_RT_STS_PENDING l ∧ t.flash = s.flash := by
  refine ⟨(s.retrainShown l).settle, ?_, ?_, ?_, ?_, ?_⟩
  · rw [exec_lnRetrain hl hoff, State.retrainRequest_refused hidle hno]
    rfl
  · rw [State.f_settle_behind _ _ _ (by decide), State.f_retrainShown_result]
  · rw [State.f_settle_behind _ _ _ (by decide), State.f_retrainShown_evt]
  · rw [State.f_settle_behind _ _ _ (by decide), State.f_retrainShown_pending]
  · rw [State.settle_flash, State.flash_retrainShown]

theorem retrainAgeTimer_refused (l : Nat) (s : State) (hl : l < 32) (hrun : s.lstate l = 2) (hno : s.retrainRefused l = true)
    (hidle : s.on R.LN_RT_STS_ACTIVE l = false) (hauto : s.on R.LN_CFG_AUTO_RT l = true) :
    ∃ t, exec (.retrainAgeTimer l) s = .next t ∧ t.f R.LN_RT_STS_RESULT l = 3 ∧ t.f R.LN_RT_STS_PENDING l = 1 ∧ t.flash = s.flash := by
  refine ⟨((s.retrainShown l).setF R.LN_RT_STS_PENDING 1 l).settle, ?_, ?_, ?_, ?_⟩
  · rw [exec_retrainAgeTimer hl hauto hrun, State.retrainRequest_refused hidle hno]
    rfl
  · rw [State.f_settle_behind _ _ _ (by decide), State.f_setF_apart _ _ (by decide),
      State.f_retrainShown_result]
  · exact (State.f_settle_behind _ _ _ (by decide)).trans (State.f_setF_same ..)
  · rw [State.settle_flash, State.setF_flash, State.flash_retrainShown]

/-! ### The end of a training (R306, R307) -/

/-- Lane l runs again after its training: RT_STS, the count and RT_DONE show it. -/
def State.retrainWhole (s : State) (l res : Nat) (x : Lane → Lane) (d : Nat) : State :=
  ((((((s.modLane l x).setF R.LN_STS_LSTATE 2 l).setF R.LN_RT_STS_ACTIVE 0 l).setF R.LN_RT_STS_RESULT res l).addF
    R.LN_RT_CNT_RETRAINS 1 l).putF R.LN_RT_STS_DURATION_US d l).raise R.LN_EVT_RT_DONE noP noP noP l

/-- A training has ended; `part`: a target has failed, which is an event of its own. -/
def State.retrainEnded (s : State) (l : Nat) (part : Bool) (x : Lane → Lane) (d : Nat) : State :=
  if part then (s.retrainWhole l (if part then 2 else 1) x d).raise R.LN_EVT_RT_PARTIAL noP noP noP l
  else s.retrainWhole l (if part then 2 else 1) x d

theorem exec_retrainTrainingDone {l f : Nat} {cal : List Word} {s : State} (hl : l < 32) (hstate : s.lstate l = 3) :
    ∃ x d, exec (.retrainTrainingDone l f cal) s =
      .next ((((List.range 64).foldl State.redecide (s.retrainEnded l ((List.range 8).any fun t => bit f t) x d)).quiesce).settle) :=
  ⟨_, _, if_neg (by simp [hl, hstate])⟩

section
variable (s : State) (l res : Nat) (x : Lane → Lane) (d : Nat)

theorem State.lstate_retrainWhole : (s.retrainWhole l res x d).lstate l = 2 := by
  unfold State.lstate State.retrainWhole
  rw [State.f_raise_apart _ _ (by decide), State.f_putF_apart _ _ (by decide), State.f_addF_apart _ _ (by decide),
    State.f_setF_apart _ _ (by decide), State.f_setF_apart _ _ (by decide), State.f_setF_same]
  rfl

theorem State.f_retrainWhole_active : (s.retrainWhole l res x d).f R.LN_RT_STS_ACTIVE l = 0 := by
  unfold State.retrainWhole
  rw [State.f_raise_apart _ _ (by decide), State.f_putF_apart _ _ (by decide), State.f_addF_apart _ _ (by decide),
    State.f_setF_apart _ _ (by decide), State.f_setF_same, Nat.zero_mod]

theorem State.f_retrainWhole_result : (s.retrainWhole l res x d).f R.LN_RT_STS_RESULT l = res % 4 := by
  unfold State.retrainWhole
  rw [State.f_raise_apart _ _ (by decide), State.f_putF_apart _ _ (by decide), State.f_addF_apart _ _ (by decide), State.f_setF_same]
  rfl

theorem State.f_retrainWhole_done : (s.retrainWhole l res x d).f R.LN_EVT_RT_DONE l = 1 := State.f_raise_same ..

variable (part : Bool)

/-- The event of a failed target leaves the other fields of the lane. -/
theorem State.f_retrainEnded_apart {F : R.Fld} (h : Apart F R.LN_EVT_RT_PARTIAL) :
    (s.retrainEnded l part x d).f F l = (s.retrainWhole l (if part then 2 else 1) x d).f F l :=
  State.keeps_ite (p := fun u => u.f F l) (State.f_raise_apart _ l h) rfl

theorem State.media_retrainEnded : (s.retrainEnded l part x d).media = s.media := State.keeps_ite (p := State.media) rfl rfl

end

theorem retrainTrainingDone_ends (l f : Nat) (cal : List Word) (s : State) (hl : l < 32) (hstate : s.lstate l = 3) :
    ∃ u : State, exec (.retrainTrainingDone l f cal) s = .next ((((List.range 64).foldl State.redecide u).quiesce).settle) ∧
      u.lstate l = 2 ∧ u.f R.LN_RT_STS_ACTIVE l = 0 ∧ u.f R.LN_RT_STS_RESULT l = (if (List.range 8).any fun t => bit f t then 2 else 1) ∧
      u.f R.LN_EVT_RT_DONE l = 1 ∧ ((List.range 8).any (fun t => bit f t) = true → u.f R.LN_EVT_RT_PARTIAL l = 1) ∧
      u.media = s.media := by
  obtain ⟨x, d, hexec⟩ := exec_retrainTrainingDone (f := f) (cal := cal) hl hstate
  generalize ((List.range 8).any fun t => bit f t) = part at hexec ⊢
  refine ⟨_, hexec, ?_, ?_, ?_, ?_, fun hpart => ?_, State.media_retrainEnded ..⟩
  · exact (State.f_retrainEnded_apart _ _ _ _ _ (by decide)).trans (State.lstate_retrainWhole ..)
  · rw [State.f_retrainEnded_apart _ _ _ _ _ (by decide), State.f_retrainWhole_active]
  · rw [State.f_retrainEnded_apart _ _ _ _ _ (by decide), State.f_retrainWhole_result]
    cases part <;> rfl
  · rw [State.f_retrainEnded_apart _ _ _ _ _ (by decide), State.f_retrainWhole_done]
  · subst hpart
    exact State.f_raise_same ..

/-! ### Fault recovery (R308) -/

/-- Lane l runs again after its fault. -/
def State.laneRecovered (s : State) (l : Nat) : State :=
  (((s.setF R.LN_STS_LSTATE 2 l).raise R.LN_EVT_LANE_RECOVERED noP noP noP l).modLane l fun x =>
    { x with attempts := 0, cal := [], trained := x.trained + 1, rtTemp := s.laneMean l }).setF R.LN_RT_STS_ACTIVE 0 l

/-- An attempt to recover lane l has failed. -/
def State.recoveryFailed (s : State) (l : Nat) : State := s.modLane l fun x => { x with attempts := x.attempts + 1 }

section
variable (s : State) (l : Nat)

theorem State.lstate_laneRecovered : (s.laneRecovered l).lstate l = 2 := by
  unfold State.lstate State.laneRecovered
  rw [State.f_setF_apart _ _ (by decide), State.f_modLane, State.f_raise_apart _ _ (by decide), State.f_setF_same]
  rfl

theorem State.f_laneRecovered_evt : (s.laneRecovered l).f R.LN_EVT_LANE_RECOVERED l = 1 := by
  unfold State.laneRecovered
  rw [State.f_setF_apart _ _ (by decide), State.f_modLane, State.f_raise_same]
  rfl

theorem State.attempts_laneRecovered : ((s.laneRecovered l).lane l).attempts = 0 := by
  unfold State.laneRecovered
  rw [State.lane, State.setF_flash, ← State.lane, State.lane_modLane_same]

theorem State.attempts_recoveryFailed : ((s.recoveryFailed l).lane l).attempts = (s.lane l).attempts + 1 := by
  unfold State.recoveryFailed
  rw [State.lane_modLane_same]

end

section
variable {s : State} {l : Nat} (hl : l < 32) (hstate : s.lstate l = 4)
include hl hstate

/-- A lane whose dies hold no recipe recovers, and nothing resumes. -/
theorem exec_laneRecoveryDone_recovers (hrun : ∀ c, c < 64 → ∀ r, (s.die c l).run = some r → r.phase ≠ 4) :
    exec (.laneRecoveryDone l true) s = .next (((List.range 64).foldl State.redecide (s.laneRecovered l)).afterRows.settle) := by
  show execLaneRecoveryDone l true s = _
  unfold execLaneRecoveryDone
  rw [if_neg (by simp [hl, hstate]), if_pos rfl]
  dsimp only
  change done (State.afterRows (List.foldl State.redecide (State.each (s.laneRecovered l) 64 _) _)) = _
  rw [State.each_fixed fun c hc => ?_]
  · rfl
  · split
    · next r hr => exact if_pos (hrun c hc r hr)
    · rfl

theorem exec_laneRecoveryDone_tries (hfew : (s.lane l).attempts < 2) :
    exec (.laneRecoveryDone l false) s = .next (s.recoveryFailed l).settle := by
  have hattempts := s.attempts_recoveryFailed l
  show execLaneRecoveryDone l false s = _
  unfold execLaneRecoveryDone
  rw [if_neg (by simp [hl, hstate]), if_neg Bool.false_ne_true]
  exact if_pos (by change ((s.recoveryFailed l).lane l).attempts < 3; omega)

/-- The third failed attempt ends a lane; where no die of it is matched, none is dead by that. -/
theorem exec_laneRecoveryDone_fails (hmany : 2 ≤ (s.lane l).attempts) (hnone : ∀ c, c < 64 → (s.die c l).matched = false) :
    exec (.laneRecoveryDone l false) s = .next ((s.recoveryFailed l).setF R.LN_STS_LSTATE 5 l).afterRows.settle := by
  have hattempts := s.attempts_recoveryFailed l
  show execLaneRecoveryDone l false s = _
  unfold execLaneRecoveryDone
  rw [if_neg (by simp [hl, hstate]), if_neg Bool.false_ne_true]
  dsimp only
  rw [if_neg (by change ¬ ((s.recoveryFailed l).lane l).attempts < 3; omega)]
  change done (State.afterRows (State.each ((s.recoveryFailed l).setF R.LN_STS_LSTATE 5 l) 64 _)) = _
  rw [State.each_fixed fun c hc => ?_]
  · rfl
  · exact if_neg fun h => Bool.false_ne_true ((hnone c hc).symm.trans h.1)

end

theorem laneRecoveryDone_recovers (l : Nat) (s : State) (hl : l < 32) (hstate : s.lstate l = 4)
    (hrun : ∀ c, c < 64 → ∀ r, (s.die c l).run = some r → r.phase ≠ 4) :
    ∃ u : State, exec (.laneRecoveryDone l true) s = .next (((List.range 64).foldl State.redecide u).afterRows.settle) ∧
      u.lstate l = 2 ∧ u.f R.LN_EVT_LANE_RECOVERED l = 1 ∧ (u.lane l).attempts = 0 ∧ u.media = s.media :=
  ⟨_, exec_laneRecoveryDone_recovers hl hstate hrun, s.lstate_laneRecovered l, s.f_laneRecovered_evt l, s.attempts_laneRecovered l, rfl⟩

theorem laneRecoveryDone_tries (l : Nat) (s : State) (hl : l < 32) (hstate : s.lstate l = 4) (hfew : (s.lane l).attempts < 2) :
    ∃ t, exec (.laneRecoveryDone l false) s = .next t ∧ (t.lane l).attempts = (s.lane l).attempts + 1 ∧
      State.Only { s with flash := t.flash } t [] := by
  refine ⟨_, exec_laneRecoveryDone_tries hl hstate hfew, ?_, ?_⟩
  · rw [State.lane_settle, State.attempts_recoveryFailed]
  · rw [State.settle_flash]
    exact State.only_settle_same (s.recoveryFailed l) []

theorem laneRecoveryDone_fails (l : Nat) (s : State) (hl : l < 32) (hstate : s.lstate l = 4) (hmany : 2 ≤ (s.lane l).attempts)
    (hnone : ∀ c, c < 64 → (s.die c l).matched = false) :
    ∃ u : State, exec (.laneRecoveryDone l false) s = .next u.afterRows.settle ∧ u.lstate l = 5 :=
  ⟨_, exec_laneRecoveryDone_fails hl hstate hmany hnone, State.f_setF_same ..⟩

/-- Settles O50: requests that are taken and refused, the end of a training, and the three ends of an attempt to recover. -/
theorem lanesRetrain : Obligations.LanesRetrain :=
  ⟨retrain_begins,
   fun l s hl hoff hrun hno hidle =>
     ⟨lnRetrain_refused l s hl hoff hno hidle, retrainAgeTimer_refused l s hl hrun hno hidle⟩,
   retrainTrainingDone_ends, laneRecoveryDone_recovers, laneRecoveryDone_tries, laneRecoveryDone_fails⟩

end Sys2Proof.Machine
end

section
/-! SUPPORT. Codewords: decoded, tried again, rebuilt, and read by a patrol (R222, R317, R322, R323, R326). -/

namespace Sys2Proof.Machine

section
variable (s : State) (l n k : Nat)

theorem State.cw_modCw_same (f : Cw → Cw) : (s.modCw n f).cw n = f (s.cw n) := Tab.getD_setD_same ..

theorem State.cw_settle : s.settle.cw n = s.cw n := by rw [State.cw, State.settle_flash]

/-- Rejects of the CRC are counted and reported, and change no codeword. -/
theorem State.flash_crcRejects : (s.crcRejects l n k).flash = s.flash :=
  State.keeps_ite (p := State.flash) rfl (State.keeps_ite (p := State.flash) rfl rfl)

theorem State.cw_crcRejects (m : Nat) : (s.crcRejects l n k).cw m = s.cw m := by rw [State.cw, State.flash_crcRejects]

theorem State.softEn_crcRejects : (s.crcRejects l n k).on R.DC_CFG_SOFT_EN l = s.on R.DC_CFG_SOFT_EN l := by
  refine congrArg (· != 0) (State.keeps_ite (p := fun u => u.f R.DC_CFG_SOFT_EN l) rfl ?_)
  rw [State.f_raiseLimited_apart _ _ (by decide), State.f_addF_apart _ _ (by decide)]

end

/-! ### The next step of a recovery (R322) -/

/-- The step with the fewest unsatisfied checks so far is kept for the soft step. -/
def State.stepNoted (s : State) (n unsat : Nat) : State :=
  if (s.cw n).step < 16 ∧ ((s.cw n).step = 0 ∨ unsat < (s.cw n).bestUnsat) then
    s.modCw n fun x => { x with best := (s.cw n).step, bestUnsat := unsat }
  else s

/-- Codeword read n waits for step i of its recovery. -/
def State.stepTo (s : State) (n i : Nat) : State := s.modCw n fun x => { x with step := i, phase := 0 }

theorem State.stepNoted_eq (s : State) (n x : Nat) : s.stepNoted n x = { s with flash := (s.stepNoted n x).flash } := by
  unfold State.stepNoted
  split <;> rfl

section
variable {s : State} {l n : Nat} (x : Nat)

theorem State.nextStep_retries (hstep : (s.cw n).step < 16) (hleft : (s.cw n).step + 1 < (s.cw n).count) :
    s.nextStep l n x = (s.stepNoted n x).stepTo n ((s.cw n).step + 1) := if_pos ⟨hstep, hleft⟩

theorem State.nextStep_soft (hstep : (s.cw n).step < 16) (hlast : (s.cw n).count ≤ (s.cw n).step + 1)
    (hsoft : s.on R.DC_CFG_SOFT_EN l = true) : s.nextStep l n x = (s.stepNoted n x).stepTo n 16 := by
  have hnoted : (s.stepNoted n x).on R.DC_CFG_SOFT_EN l = true := by
    rw [State.stepNoted_eq]
    exact hsoft
  unfold State.nextStep
  dsimp only
  rw [if_neg (show ¬ (_ ∧ (s.cw n).step + 1 < (s.cw n).count) by omega)]
  exact if_pos ⟨hstep, hnoted⟩

theorem State.nextStep_fails (hstep : (s.cw n).step = 16) : s.nextStep l n x = s.cwFailed l n := by
  unfold State.nextStep
  simp [hstep]

end

/-! ### CODEWORD_DECODED (R317, R322) -/

section
variable {l n : Nat} {s u0 : State} (halive : (s.cw n).alive = true) (hphase : (s.cw n).phase = 2) (hseat : (s.cw n).seat = l)
include halive hphase hseat

theorem exec_codewordDecoded_ok (tier bits rejects : Nat) (mis : Bool) :
    exec (.codewordDecoded l n (.ok tier bits rejects mis)) s = .next (((n :: s.joined n).foldl (fun s m => s.decodedTo l mis m)
      ((s.crcRejects l n rejects).decodedOk l n tier bits)).afterRows.settle) := if_neg (by simp [halive, hphase, hseat])

variable {x k : Nat} (hu : u0 = s.crcRejects l n k)
include hu

theorem exec_codewordDecoded_fail : exec (.codewordDecoded l n (.fail x k)) s =
    if u0.joins n { s.cw n with phase := 0 } then done (u0.modCw n fun x => { x with phase := 0 })
    else done (u0.nextStep l n x).afterRows := by
  subst hu
  exact if_neg (by simp [halive, hphase, hseat])

/-- A read that waits for step i of its recovery, with nothing but the codewords changed. -/
theorem codewordDecoded_stepTo {i : Nat} (hjoins : u0.joins n { s.cw n with phase := 0 } = false)
    (hnext : u0.nextStep l n x = (u0.stepNoted n x).stepTo n i) :
    ∃ u : State, exec (.codewordDecoded l n (.fail x k)) s = .next u.afterRows.settle ∧ (u.cw n).step = i ∧ (u.cw n).phase = 0 ∧
      State.Only { u0 with flash := u.flash } u [] := by
  have hcw : ((u0.stepNoted n x).stepTo n i).cw n = _ := (u0.stepNoted n x).cw_modCw_same n _
  refine ⟨(u0.stepNoted n x).stepTo n i, ?_, by rw [hcw], by rw [hcw], ?_⟩
  · rw [exec_codewordDecoded_fail halive hphase hseat hu, if_neg (by simp [hjoins]), hnext]
    rfl
  · rw [State.stepNoted_eq]
    exact State.only_of_fields (fun _ _ _ _ => rfl) rfl

end

theorem codewordDecoded_retries (l n x k : Nat) (s u0 : State) (hu : u0 = s.crcRejects l n k) (halive : (s.cw n).alive = true)
    (hphase : (s.cw n).phase = 2) (hseat : (s.cw n).seat = l) (hstep : (s.cw n).step < 16) (hleft : (s.cw n).step + 1 < (s.cw n).count)
    (hjoins : u0.joins n { s.cw n with phase := 0 } = false) :
    ∃ u : State, exec (.codewordDecoded l n (.fail x k)) s = .next u.afterRows.settle ∧ (u.cw n).step = (s.cw n).step + 1 ∧
      (u.cw n).phase = 0 ∧ State.Only { u0 with flash := u.flash } u [] := by
  have hcw : u0.cw n = s.cw n := by rw [hu, State.cw_crcRejects]
  rw [← hcw] at hstep hleft ⊢
  exact codewordDecoded_stepTo halive hphase hseat hu hjoins (State.nextStep_retries x hstep hleft)

theorem codewordDecoded_soft (l n x k : Nat) (s u0 : State) (hu : u0 = s.crcRejects l n k) (halive : (s.cw n).alive = true)
    (hphase : (s.cw n).phase = 2) (hseat : (s.cw n).seat = l) (hstep : (s.cw n).step < 16) (hlast : (s.cw n).count ≤ (s.cw n).step + 1)
    (hsoft : s.on R.DC_CFG_SOFT_EN l = true) (hjoins : u0.joins n { s.cw n with phase := 0 } = false) :
    ∃ u : State, exec (.codewordDecoded l n (.fail x k)) s = .next u.afterRows.settle ∧ (u.cw n).step = 16 ∧ (u.cw n).phase = 0 ∧
      State.Only { u0 with flash := u.flash } u [] := by
  have hcw : u0.cw n = s.cw n := by rw [hu, State.cw_crcRejects]
  have hon : u0.on R.DC_CFG_SOFT_EN l = true := by rw [hu, State.softEn_crcRejects, hsoft]
  rw [← hcw] at hstep hlast
  exact codewordDecoded_stepTo halive hphase hseat hu hjoins (State.nextStep_soft x hstep hlast hon)

theorem codewordDecoded_fails (l n x k : Nat) (s u0 : State) (hu : u0 = s.crcRejects l n k) (halive : (s.cw n).alive = true)
    (hphase : (s.cw n).phase = 2) (hseat : (s.cw n).seat = l) (hstep : (s.cw n).step = 16)
    (hjoins : u0.joins n { s.cw n with phase := 0 } = false) :
    exec (.codewordDecoded l n (.fail x k)) s = .next ((u0.cwFailed l n).afterRows.settle) := by
  have hlast : (u0.cw n).step = 16 := by rw [hu, State.cw_crcRejects, hstep]
  rw [exec_codewordDecoded_fail halive hphase hseat hu, if_neg (by simp [hjoins]), State.nextStep_fails x hlast]
  rfl

theorem codewordDecoded_joins (l n x k : Nat) (s u0 : State) (hu : u0 = s.crcRejects l n k) (halive : (s.cw n).alive = true)
    (hphase : (s.cw n).phase = 2) (hseat : (s.cw n).seat = l) (hjoins : u0.joins n { s.cw n with phase := 0 } = true) :
    ∃ t, exec (.codewordDecoded l n (.fail x k)) s = .next t ∧ (t.cw n).step = (s.cw n).step ∧ (t.cw n).phase = 0 ∧
      State.Only { u0 with flash := t.flash } t [] := by
  refine ⟨_, (exec_codewordDecoded_fail halive hphase hseat hu).trans (if_pos hjoins), ?_, ?_, ?_⟩
  · rw [State.cw_settle, State.cw_modCw_same, hu, State.cw_crcRejects]
  · rw [State.cw_settle, State.cw_modCw_same]
  · rw [State.settle_flash]
    exact State.only_settle_same (u0.modCw n fun x => { x with phase := 0 }) []

/-! ### A rebuilt codeword and a patrol (R222, R326) -/

theorem parityRebuildDone_delivers (n : Nat) (s : State) (halive : (s.cw n).alive = true) (hphase : (s.cw n).phase = 4) :
    exec (.parityRebuildDone n) s = .next (((s.stat (s.cw n).crew (if (s.cw n).loc then 1 else 2)).deliver n).afterRows.settle) :=
  if_neg (by simp [halive, hphase])

theorem patrolRead_reads (x r k p : Nat) (s : State) (hmode : s.mode = .service ∨ s.mode = .readOnly) (hcp : s.cpUp = true)
    (hpatrols : s.patrols x = true) (hr : r < (s.shell x).rows) (hlost : s.lostUnit x k = false) (hk : k < 32)
    (hp : p < seatUnits (s.shell x).slc / 4) :
    exec (.patrolRead x r k p) s = .next (((List.range 4).foldl (fun (u : State) i =>
      (u.addCw { purpose := .patrol, crew := crewOf x, seat := k, shell := x, row := r, slc := (s.shell x).slc,
                 unit := 4 * p + i }).cwDecide u.flash.nextCw) (s.patrolled k x r p)).settle) :=
  if_neg (by simp [State.modeIn_of_serves hmode, hcp, hpatrols, hr, hlost, hk, hp])

/-- Settles O49: what becomes of a codeword that decodes, of one that does not, by its step, and of one that is rebuilt or patrolled. -/
theorem codewordsDecode : Obligations.CodewordsDecode :=
  ⟨fun _ _ tier bits rejects mis _ halive hphase hseat => exec_codewordDecoded_ok halive hphase hseat tier bits rejects mis,
   codewordDecoded_retries, codewordDecoded_soft, codewordDecoded_fails, codewordDecoded_joins, parityRebuildDone_delivers,
   patrolRead_reads⟩

end Sys2Proof.Machine
end

section
/-! SUPPORT. Row programs and erases as they start (R218, R230, R233, R250, R296). -/

namespace Sys2Proof.Machine

/-! ### PROGRAM_START (R218, R230, R233, R296) -/

/-- Row job j starts on seat k of crew c: the row is encoded before its first program (R218), and the seat's program runs. -/
def State.programBegun (s : State) (c k : Nat) (j : Job) : State :=
  (((((if j.done = 0 ∧ j.running = 0 then s.modJob j.id fun i => s.encodeRow i else s).modJob j.id fun x =>
    { x with todo := setBit x.todo k false, running := setBit x.running k true }).startRun c k (if j.slc then 16 else 15)
      (.program j.id)).stat c 7).redecide c)

/-- Row job j is not programmed on seat k of crew c, which has it already, or has not the row before: an order fault. -/
def State.orderFault (s : State) (c k : Nat) (j : Job) : State :=
  ((s.modJob j.id fun x => { x with todo := setBit x.todo k false }).addF R.LN_FAULTS_ORDER_FAULTS 1 k).raise R.LN_EVT_ORDER_FAULT
    c noP noP k

theorem State.f_orderFault_count (s : State) (c k : Nat) (j : Job) : (s.orderFault c k j).f R.LN_FAULTS_ORDER_FAULTS k =
    satAdd R.LN_FAULTS_ORDER_FAULTS.w (s.f R.LN_FAULTS_ORDER_FAULTS k) 1 := by
  unfold State.orderFault
  rw [State.f_raise_apart _ _ (by decide), State.f_addF_same, Nat.mod_eq_of_lt (satAdd_lt ..)]
  rfl

theorem State.f_orderFault_evt (s : State) (c k : Nat) (j : Job) : (s.orderFault c k j).f R.LN_EVT_ORDER_FAULT k = 1 :=
  State.f_raise_same ..

section
variable {s u : State} {c k : Nat} {j : Job} (hu : u = s.assignShells) (hpick : u.pickProgram c k = some j) (hc : c < 64) (hk : k < 32)
  (hready : u.progReady c k = true)
include hu hpick hc hk hready

/-- A seat that is ready for its next row program: the budgets, then who goes first, then program order decide. -/
theorem exec_programStart_ready : exec (.programStart c k) s =
    if ¬ u.budgetOk c k then done (u.stat c 10)
    else if u.goesFirst c k (some j) then .next s
    else if ¬ (j.row = 0 ∨ bit (u.media.flash.get (flashKey (j.shell - 1) (j.row - 1))).done k) ∨
        bit (u.media.flash.get (flashKey (j.shell - 1) j.row)).done k then
      done (((u.orderFault c k j).seatLost (j.shell - 1) k).finishRow j.id).afterRows
    else done (u.programBegun c k j) := by
  show execProgramStart c k s = _
  unfold execProgramStart
  rw [← hu]
  simp only [hpick]
  exact if_neg (by simp [hc, hk, hready])

theorem programStart_waits (hfull : u.budgetOk c k = false) : exec (.programStart c k) s = .next (u.stat c 10).settle := by
  rw [exec_programStart_ready hu hpick hc hk hready, if_pos (by simp [hfull])]
  rfl

variable (hbudget : u.budgetOk c k = true)
include hbudget

theorem programStart_yields (hfirst : u.goesFirst c k (some j) = true) : exec (.programStart c k) s = .next s := by
  rw [exec_programStart_ready hu hpick hc hk hready, if_neg (by simp [hbudget]), if_pos hfirst]

variable (hfirst : u.goesFirst c k (some j) = false)
include hfirst

theorem programStart_starts (hbefore : j.row = 0 ∨ bit (u.media.flash.get (flashKey (j.shell - 1) (j.row - 1))).done k = true)
    (hnew : bit (u.media.flash.get (flashKey (j.shell - 1) j.row)).done k = false) :
    exec (.programStart c k) s = .next (u.programBegun c k j).settle := by
  rw [exec_programStart_ready hu hpick hc hk hready, if_neg (by simp [hbudget]), if_neg (by simp [hfirst]),
    if_neg (by simp [hbefore, hnew])]
  rfl

theorem programStart_orderFault (hdone : bit (u.media.flash.get (flashKey (j.shell - 1) j.row)).done k = true) :
    ∃ v : State, exec (.programStart c k) s = .next (((v.seatLost (j.shell - 1) k).finishRow j.id).afterRows.settle) ∧
      v.f R.LN_EVT_ORDER_FAULT k = 1 ∧
      v.f R.LN_FAULTS_ORDER_FAULTS k = satAdd R.LN_FAULTS_ORDER_FAULTS.w (u.f R.LN_FAULTS_ORDER_FAULTS k) 1 := by
  refine ⟨u.orderFault c k j, ?_, u.f_orderFault_evt c k j, u.f_orderFault_count c k j⟩
  rw [exec_programStart_ready hu hpick hc hk hready, if_neg (by simp [hbudget]), if_neg (by simp [hfirst]), if_pos (.inr hdone)]
  rfl

end

/-! ### ERASE_START (R233, R250) -/

section
variable {s : State} {c k x : Nat} (hnext : s.nextErase c = some x) (hc : c < 64) (hk : k < 32) (hleft : bit (s.shell x).erased k = false)
  (hdurable : (s.shell x).relSeq ≤ s.media.seqFlash) (hreads : s.readsShell x = false) (hwanted : s.eraseWanted c x = true)
  (hready : s.progReady c k = true) (hpick : s.pickProgram c k = none) (hgood : (s.ledgerAt c k (x % 8192)).grown = false)
  (hst : (s.shell x).st = 4)
include hnext hc hk hleft hdurable hreads hwanted hready hpick hgood hst

/-- A seat that is ready for its next erase: the budgets, then who goes first decide. -/
theorem exec_eraseStart_ready : exec (.eraseStart c k) s =
    if ¬ s.budgetOk c k then done (s.stat c 10)
    else if s.goesFirst c k none then .next s
    else done (((s.startRun c k (if (s.shell x).slc then 18 else 17) (.erase x)).stat c 8).redecide c) := by
  show execEraseStart c k s = _
  unfold execEraseStart
  simp only [hnext, hgood, Bool.false_eq_true, if_false]
  rw [if_neg (by simp [hc, hk, hleft, hdurable, hreads, hwanted, hready, hpick]), if_neg (not_not.mpr hst)]

/-- The three ends of an erase that comes next, as the budgets and the order allow. -/
theorem eraseStart_ends :
    (s.budgetOk c k = true → s.goesFirst c k none = true → exec (.eraseStart c k) s = .next s) ∧
    (s.budgetOk c k = true → s.goesFirst c k none = false → exec (.eraseStart c k) s =
      .next ((((s.startRun c k (if (s.shell x).slc then 18 else 17) (.erase x)).stat c 8).redecide c).settle)) ∧
    (s.budgetOk c k = false → exec (.eraseStart c k) s = .next (s.stat c 10).settle) := by
  rw [exec_eraseStart_ready hnext hc hk hleft hdurable hreads hwanted hready hpick hgood hst]
  refine ⟨fun hbudget hfirst => ?_, fun hbudget hfirst => ?_, fun hfull => ?_⟩
  · rw [if_neg (by simp [hbudget]), if_pos hfirst]
  · rw [if_neg (by simp [hbudget]), if_neg (by simp [hfirst])]
    rfl
  · rw [if_pos (by simp [hfull])]
    rfl

end

/-- Settles O46: a row program or an erase that is next and ready, by the budgets, by who goes first, and by program order. -/
theorem programsAndErases : Obligations.ProgramsAndErases :=
  ⟨fun _ _ _ _ hpick hc hk hready =>
     ⟨programStart_waits rfl hpick hc hk hready, programStart_yields rfl hpick hc hk hready,
      programStart_starts rfl hpick hc hk hready, programStart_orderFault rfl hpick hc hk hready⟩,
   fun _ _ _ _ hnext hc hk hleft hdurable hreads hwanted hready hpick hgood hst =>
     eraseStart_ends hnext hc hk hleft hdurable hreads hwanted hready hpick hgood hst⟩

end Sys2Proof.Machine
end

section
/-! SUPPORT. Recipes as they run on a die (R281, R288 to R290, R294, R299, R303): a run goes on at a state, a bus state is granted, a
stroke-gated command is issued, and a recipe ends. -/

namespace Sys2Proof.Machine

/-! ### A run goes on at a state (R289, R290) -/

section
variable (s : State) (l c : Nat)

theorem State.run_runAt (r : Run) (pc : Nat) :
    ((s.runAt c l r pc).die c l).run = some (advance (s.runOp c l r) s.clk.tb 1024 { r with pc := pc }) :=
  congrArg Die.run (s.die_modDie_same ..)

theorem State.lane_runAt (r : Run) (pc m : Nat) : (s.runAt c l r pc).lane m = s.lane m := rfl

theorem State.run_startRun {slot : Nat} {o : RecipeOp} (f : RunFor) (hrecipe : s.recipe c l slot = some o) :
    ((s.startRun c l slot f).die c l).run =
      some (advance o s.clk.tb 1024 { slot := slot, serves := f, tStart := s.clk.tb, tWait := s.clk.tb, pc := o.start }) := by
  simp only [State.startRun, hrecipe]
  rw [State.run_runAt]
  simp only [State.runOp, hrecipe, Option.getD_some]

end

/-- A command that lets the run of a die go on changes the Seat Sequencers alone. -/
theorem runAt_goesOn {i : Instr} {s : State} {l c pc : Nat} {r : Run} (h : exec i s = done (s.runAt c l r pc)) :
    ∃ t, exec i s = .next t ∧ State.Only { s with flash := t.flash } t [] ∧
      (t.die c l).run = some (advance (s.runOp c l r) s.clk.tb 1024 { r with pc := pc }) := by
  refine ⟨_, h, ?_, ?_⟩
  · rw [State.settle_flash]
    exact State.only_settle_same (s.runAt c l r pc) []
  · rw [State.die_settle, State.run_runAt]

/-! ### A status byte that a POLL reads (Table 10-8) -/

section
variable {s : State} {l c b : Nat} {r : Run}

theorem State.polled_ready (h : bit b 6 = true) :
    s.polled c l r b = s.runAt c l { r with status := b } ((opState (s.runOp c l r) r.pc).2 % 64) := if_pos h

theorem State.run_polled_busy (h : bit b 6 = false) (htime : s.overTime c l r = false) :
    ((s.polled c l r b).die c l).run = some { r with status := b, phase := 2 } := by
  have hpoll : s.polled c l r b = s.modDie c l fun d => { d with run := some { r with status := b, phase := 2 } } :=
    (if_neg (by simp [ready, h])).trans (if_neg (ne_true_of_eq_false htime))
  rw [hpoll, State.die_modDie_same]

end

/-- The status byte keeps the ready bit of the data that holds it. -/
theorem bit_statusByte (d : Nat) : bit (d % 256) 6 = bit d 6 := Nat.testBit_mod_two_pow d 8 6

/-! ### BUS_GRANT (R281, R294) -/

section
variable {s : State} {l c : Nat} {r : Run} (hl : l < 32) (hc : c < 64) (hrun : (s.die c l).run = some r) (hlane : s.lstate l = 2)
  (hgated : s.gated c l r = false) (hfirst : s.busFirst l c r = true) (hphase : r.phase = 0)
  (hheld : s.grantHeld l (opState (s.runOp c l r) r.pc).1 = false)
include hl hc hrun hlane hgated hfirst hphase hheld

/-- The die whose state is granted: what the grant does, by the state's operation. -/
theorem exec_busGrant_granted (b : Bool) (d : Nat) {w : Nat × Nat} (hw : opState (s.runOp c l r) r.pc = w) :
    exec (.busGrant l c b d) s =
      if w.1 % 256 = 4 then
        if b then done (((s.strobeSeen l c true).dout c l (bitsOf w.1 8 3) r.serves).runAt c l r (w.2 % 64))
        else done ((s.strobeSeen l c false).noResponse c l r).afterRows
      else if w.1 % 256 = 9 then
        if b then done ((s.strobeSeen l c true).runAt c l { r with result := d % 2 ^ 48 } (w.2 % 64))
        else done ((s.strobeSeen l c false).noResponse c l r).afterRows
      else if w.1 % 256 = 6 then
        if b then done ((s.strobeSeen l c true).polled c l r (d % 256))
        else if (s.strobeSeen l c false).lstate l = 4 then done (s.strobeSeen l c false)
        else done ((s.strobeSeen l c false).polled c l r 0)
      else done (s.runAt c l r (w.2 % 64)) := by
  obtain ⟨w0, w1⟩ := w
  rw [hw] at hheld
  show execBusGrant l c b d s = _
  unfold execBusGrant
  simp only [hrun, Option.isNone_some, Bool.false_eq_true, if_false]
  rw [if_neg (by simp [hl, hc, hlane, hgated, hfirst]), if_neg (not_not.mpr hphase), hw]
  simp only [hheld, Bool.false_eq_true, if_false]
  split
  · next h => simp [h]
  · next h => simp [h]
  · next h => simp [h]
  · next h4 h9 h6 => rw [if_neg h4, if_neg h9, if_neg h6]

theorem busGrant_goesOn (b : Bool) (d : Nat) (hop : (opState (s.runOp c l r) r.pc).1 % 256 ∉ [4, 6, 9]) :
    exec (.busGrant l c b d) s = done (s.runAt c l r ((opState (s.runOp c l r) r.pc).2 % 64)) := by
  simp only [List.mem_cons, List.not_mem_nil, or_false, not_or] at hop
  obtain ⟨h4, h6, h9⟩ := hop
  rw [exec_busGrant_granted hl hc hrun hlane hgated hfirst hphase hheld b d (Eq.refl _), if_neg h4, if_neg h9, if_neg h6]

theorem busGrant_polls (d : Nat) (hop : (opState (s.runOp c l r) r.pc).1 % 256 = 6) :
    exec (.busGrant l c true d) s = done ((s.strobeSeen l c true).polled c l r (d % 256)) := by
  rw [exec_busGrant_granted hl hc hrun hlane hgated hfirst hphase hheld true d (Eq.refl _)]
  simp [hop]

theorem busGrant_noStrobe (d : Nat) (hop : (opState (s.runOp c l r) r.pc).1 % 256 = 4) :
    exec (.busGrant l c false d) s = .next (((s.strobeSeen l c false).noResponse c l r).afterRows.settle) := by
  rw [exec_busGrant_granted hl hc hrun hlane hgated hfirst hphase hheld false d (Eq.refl _), if_pos hop]
  rfl

theorem busGrant_pollsBusy (d : Nat) (hop : (opState (s.runOp c l r) r.pc).1 % 256 = 6) (hbusy : bit d 6 = false)
    (htime : s.overTime c l r = false) :
    ∃ t, exec (.busGrant l c true d) s = .next t ∧ (t.die c l).run = some { r with status := d % 256, phase := 2 } := by
  refine ⟨_, busGrant_polls hl hc hrun hlane hgated hfirst hphase hheld d hop, ?_⟩
  rw [State.die_settle]
  exact State.run_polled_busy ((bit_statusByte d).trans hbusy) htime

theorem busGrant_pollsReady (d : Nat) (hop : (opState (s.runOp c l r) r.pc).1 % 256 = 6) (hready : bit d 6 = true) :
    ∃ t, exec (.busGrant l c true d) s = .next t ∧ (t.die c l).run = some (advance (s.runOp c l r) s.clk.tb 1024
      { r with status := d % 256, pc := (opState (s.runOp c l r) r.pc).2 % 64 }) := by
  refine ⟨_, busGrant_polls hl hc hrun hlane hgated hfirst hphase hheld d hop, ?_⟩
  rw [State.die_settle, State.polled_ready ((bit_statusByte d).trans hready), State.run_runAt]
  rfl

end

/-! ### STROKE_SLOT_OPEN (R299) -/

/-- Die d of lane l in the search for the oldest stroke-gated command, b the oldest of the dies before it. -/
def State.strokeTurn (s : State) (l : Nat) (b : Option (Nat × Run)) (d : Nat) : Option (Nat × Run) :=
  match (s.die d l).run with
  | some q =>
    if s.gated d l q then
      match b with
      | some (_, p) => if q.tWait < p.tWait then some (d, q) else b
      | none => some (d, q)
    else b
  | none => b

/-- A die's turn leaves the search as it was, or the die has a stroke-gated command, which is now the oldest. -/
theorem State.strokeTurn_cases (s : State) (l : Nat) (b : Option (Nat × Run)) (d : Nat) :
    s.strokeTurn l b d = b ∨ ∃ q, (s.die d l).run = some q ∧ s.gated d l q = true ∧ s.strokeTurn l b d = some (d, q) ∧
      ∀ e p, b = some (e, p) → q.tWait < p.tWait := by
  unfold State.strokeTurn
  split
  case h_2 => exact .inl rfl
  case h_1 q hq =>
    split
    case isFalse => exact .inl rfl
    case isTrue hgated =>
      rcases b with _ | ⟨e, p⟩
      · exact .inr ⟨q, hq, hgated, rfl, by simp⟩
      · by_cases hlt : q.tWait < p.tWait
        · exact .inr ⟨q, hq, hgated, by simp [hlt], by rintro _ _ ⟨⟩; exact hlt⟩
        · exact .inl (if_neg hlt)

section
variable {s : State} {l c : Nat} {r : Run} (hrun : (s.die c l).run = some r) (hgated : s.gated c l r = true)
include hrun hgated

theorem State.strokeTurn_takes {b : Option (Nat × Run)} (hlater : ∀ e p, b = some (e, p) → r.tWait < p.tWait) :
    s.strokeTurn l b c = some (c, r) := by
  unfold State.strokeTurn
  simp only [hrun, hgated, if_true]
  rcases b with _ | ⟨e, p⟩
  · rfl
  · exact if_pos (hlater e p rfl)

variable (holdest : ∀ (e : Nat) (q : Run), e < 64 → e ≠ c → (s.die e l).run = some q → s.gated e l q = true →
  r.tWait < q.tWait ∨ r.tWait = q.tWait ∧ c < e)
include holdest

/-- The search through the first n dies has met the oldest command, or only later ones. -/
theorem State.strokeSearch (n : Nat) (hn : n ≤ 64) :
    if c < n then (List.range n).foldl (s.strokeTurn l) none = some (c, r)
    else ∀ e p, (List.range n).foldl (s.strokeTurn l) none = some (e, p) → r.tWait < p.tWait := by
  induction n with
  | zero => simp
  | succ n ih =>
    have hbefore := ih (by omega)
    rw [List.range_succ, List.foldl_concat]
    generalize (List.range n).foldl (s.strokeTurn l) none = b at hbefore ⊢
    rcases Nat.lt_trichotomy c n with hlt | heq | hgt
    · rw [if_pos hlt] at hbefore
      rw [if_pos (by omega)]
      rcases s.strokeTurn_cases l b n with hkeep | ⟨q, hq, hqg, -, hsooner⟩
      · exact hkeep.trans hbefore
      · have hturn := hsooner c r hbefore
        have hlate := holdest n q (by omega) (by omega) hq hqg
        omega
    · subst heq
      rw [if_neg (by omega)] at hbefore
      rw [if_pos (by omega)]
      exact State.strokeTurn_takes hrun hgated hbefore
    · rw [if_neg (by omega)] at hbefore
      rw [if_neg (by omega)]
      rcases s.strokeTurn_cases l b n with hkeep | ⟨q, hq, hqg, htake, -⟩
      · rwa [hkeep]
      · have hlate := holdest n q (by omega) (by omega) hq hqg
        rw [htake]
        rintro _ _ ⟨⟩
        omega

theorem strokeSlotOpen_issues (hl : l < 32) (hc : c < 64) (hlane : s.lstate l = 2) (hslot : s.slotOpen l = true)
    (hfirst : s.busFirst l c r = true) :
    ∃ t, exec (.strokeSlotOpen l) s = .next t ∧ (t.lane l).stroke = s.clk.tb / Config.stroke + 1 ∧
      State.Only { s with flash := t.flash } t [] ∧ (t.die c l).run =
        some (advance (s.runOp c l r) s.clk.tb 1024 { r with pc := (opState (s.runOp c l r) r.pc).2 % 64 }) := by
  have hsearch : (List.range 64).foldl (s.strokeTurn l) none = some (c, r) := by
    simpa [hc] using State.strokeSearch hrun hgated holdest 64 le_rfl
  have hexec : exec (.strokeSlotOpen l) s = done ((s.modLane l fun x => { x with stroke := s.clk.tb / Config.stroke + 1 }).runAt c l r
      ((opState (s.runOp c l r) r.pc).2 % 64)) := by
    show (match (List.range 64).foldl (s.strokeTurn l) none with | none => _ | some (d, q) => _) = _
    rw [hsearch]
    exact if_neg (by simp [hl, hlane, hslot, hfirst])
  refine ⟨_, hexec, ?_, ?_, ?_⟩
  · rw [State.lane_settle, State.lane_runAt, State.lane_modLane_same]
  · rw [State.settle_flash]
    exact State.only_settle_same (State.runAt _ c l r _) []
  · rw [State.die_settle, State.run_runAt]
    rfl

end

/-! ### A WAIT, a POLL interval and an Easy interval end (R289, R303, R308) -/

section
variable (l c : Nat) (r : Run) (s : State) (hrun : (s.die c l).run = some r)
include hrun

theorem recipeWaitExpiry_goesOn (hphase : r.phase = 1) :
    ∃ t, exec (.recipeWaitExpiry l c) s = .next t ∧ State.Only { s with flash := t.flash } t [] ∧ (t.die c l).run =
      some (advance (s.runOp c l r) s.clk.tb 1024 { r with pc := (opState (s.runOp c l r) r.pc).2 % 64 }) := by
  refine runAt_goesOn ?_
  show execRecipeWaitExpiry l c s = _
  simp only [execRecipeWaitExpiry, hrun]
  exact if_neg (not_not.mpr hphase)

variable (hphase : r.phase = 2)
include hphase

theorem pollInterval_goesOn (b : Byte) (hlane : s.lstate l ≠ 4) (hready : bit b.toNat 6 = true) :
    ∃ t, exec (.pollInterval l c (some b)) s = .next t ∧ State.Only { s with flash := t.flash } t [] ∧ (t.die c l).run =
      some (advance (s.runOp c l r) s.clk.tb 1024
        { r with status := b.toNat, pc := (opState (s.runOp c l r) r.pc).2 % 64 }) := by
  refine runAt_goesOn (r := { r with status := b.toNat }) ?_
  show execPollInterval l c (some b) s = _
  simp only [execPollInterval, hrun]
  rw [if_neg (not_not.mpr hphase), if_neg hlane, State.polled_ready hready]

theorem pollInterval_held (o : Option Byte) (hlane : s.lstate l = 4) :
    ∃ t, exec (.pollInterval l c o) s = .next t ∧ (t.die c l).run = some { r with phase := 4 } := by
  have hexec : exec (.pollInterval l c o) s = done (s.modDie c l fun d => { d with run := some { r with phase := 4 } }) := by
    show execPollInterval l c o s = _
    simp only [execPollInterval, hrun]
    rw [if_neg (not_not.mpr hphase), if_pos hlane]
  refine ⟨_, hexec, ?_⟩
  rw [State.die_settle, State.die_modDie_same]

end

theorem easyIntervalEnd_ends (l c : Nat) (s : State) (heasy : (s.die c l).easy = true) :
    ∃ t, exec (.easyIntervalEnd l c) s = .next t ∧ (t.die c l).easy = false ∧ (t.die c l).run = (s.die c l).run ∧
      State.Only { s with flash := t.flash } t [] := by
  refine ⟨_, show execEasyIntervalEnd l c s = _ from if_pos heasy, ?_, ?_, ?_⟩
  · rw [State.die_settle, State.die_modDie_same]
  · rw [State.die_settle, State.die_modDie_same]
  · rw [State.settle_flash]
    exact State.only_settle_same (s.modDie c l fun d => { d with easy := false }) []

/-! ### RECIPE_END (R290, R294, R303) -/

/-- The seat's recipe is over and counted, and its Easy interval begins where LN_EASY has one. -/
def State.recipeOver (s : State) (l c : Nat) : State :=
  (s.modDie c l fun d => { d with run := none, easy := decide (0 < s.f R.LN_EASY_EASY l) }).addF R.LN_OPS_RECIPES 1 l

section
variable (l c : Nat) (r : Run) (s : State) (hrun : (s.die c l).run = some r) (hphase : r.phase = 3)
include hrun hphase

theorem recipeEnd_programs (id : Nat) (hres : r.res ≠ 3) (hfailed : r.failed = none) (hserves : r.serves = .program id) :
    ∃ u : State, exec (.recipeEnd l c) s = .next (((u.programEnd c l id (r.res == 0)).afterRecipe c).settle) ∧
      (u.die c l).run = none ∧ (u.die c l).easy = decide (0 < s.f R.LN_EASY_EASY l) ∧ u.media = s.media := by
  have hover : (s.recipeOver l c).die c l = { s.die c l with run := none, easy := decide (0 < s.f R.LN_EASY_EASY l) } := by
    unfold State.recipeOver
    rw [State.die_addF, State.die_modDie_same]
  refine ⟨s.recipeOver l c, ?_, by rw [hover], by rw [hover], rfl⟩
  show execRecipeEnd l c s = _
  simp only [execRecipeEnd, hrun]
  rw [if_neg (not_not.mpr hphase), if_neg (fun h => hres h.1)]
  simp only [hfailed, hserves]
  rfl

theorem recipeEnd_noResponse (hres : r.res = 3) (hfailed : r.failed = none) :
    exec (.recipeEnd l c) s = .next ((s.noResponse c l r).afterRows.settle) := by
  show execRecipeEnd l c s = _
  simp only [execRecipeEnd, hrun]
  rw [if_neg (not_not.mpr hphase), if_pos ⟨hres, by rw [hfailed]; rfl⟩]
  rfl

end

/-- Settles O48: a run stands where `advance` takes it, from its start through grants, slots, waits and polls to its end. -/
theorem recipesRun : Obligations.RecipesRun :=
  ⟨fun c k _ f _ s hrecipe => s.run_startRun k c f hrecipe,
   fun _ _ d b _ _ hl hc hrun hlane hgated hfirst hphase hheld =>
     ⟨fun hop => runAt_goesOn (busGrant_goesOn hl hc hrun hlane hgated hfirst hphase hheld b d hop),
      busGrant_pollsBusy hl hc hrun hlane hgated hfirst hphase hheld d,
      busGrant_pollsReady hl hc hrun hlane hgated hfirst hphase hheld d,
      busGrant_noStrobe hl hc hrun hlane hgated hfirst hphase hheld d⟩,
   fun _ _ _ _ hl hc hlane hrun hgated holdest hslot hfirst =>
     strokeSlotOpen_issues hrun hgated holdest hl hc hlane hslot hfirst,
   recipeWaitExpiry_goesOn,
   fun l c b r s hrun hphase => pollInterval_goesOn l c r s hrun hphase b,
   fun l c o r s hrun hphase => pollInterval_held l c r s hrun hphase o,
   fun l c id r s hrun hphase => recipeEnd_programs l c r s hrun hphase id,
   recipeEnd_noResponse, easyIntervalEnd_ends⟩

end Sys2Proof.Machine
end

section
/-! SUPPORT. The requests, refreshes and retrain windows of a DRAM channel, and what its lines hold (R332, R335, R336, R345 to R349). -/

namespace Sys2Proof.Machine

/-! ### Channels -/

section
variable (s : State) (c : Nat) (f : Channel → Channel)

theorem State.chan_modChan_same : (s.modChan c f).chan c = f (s.chan c) := Tab.getD_setD_same ..

theorem State.chan_settle : s.settle.chan c = s.chan c := by rw [State.chan, State.settle_dram]

theorem State.f_modChan (F : R.Fld) (i k : Nat) : (s.modChan c f).f F i k = s.f F i k := rfl

theorem State.dramAddr_modChan (d a : Nat) : (s.modChan c f).dramAddr d a = s.dramAddr d a := rfl

theorem State.validAt_modChan (x : Nat) : (s.modChan c f).validAt x = s.validAt x := rfl

theorem State.chan_validSync : s.validSync.chan c = s.chan c := rfl

theorem State.chan_withValid (v : Tab Bool) : { s with dram.valid := v }.chan c = s.chan c := rfl

/-- What a change leaves of every channel, it leaves of each, whichever channel it is made to. -/
theorem State.chan_modChan_keeps {β : Type} {p : Channel → β} {f : Channel → Channel} (h : ∀ x, p (f x) = p x) (d : Nat) :
    p ((s.modChan d f).chan c) = p (s.chan c) := by
  by_cases hd : c = d
  · subst hd
    rw [State.chan_modChan_same, h]
  · exact congrArg p (Tab.getD_setD_other _ _ _ _ _ _ hd)

end

/-- All of a state but the DRAM. -/
def State.bare (s : State) : State := { s with dram := {} }

theorem State.bare_modChan (s : State) (c : Nat) (f : Channel → Channel) : (s.modChan c f).bare = s.bare := rfl

/-- The end of a handshake that changed the DRAM alone keeps the frame of the DRAM. -/
theorem State.only_dram {s u : State} (h : u.bare = s.bare) : State.Only { s with dram := u.settle.dram } u.settle [] := by
  have hu : { s with dram := u.dram } = u := show { s.bare with dram := u.dram } = u by rw [← h]; rfl
  rw [State.settle_dram, hu]
  exact State.only_settle_same u []

/-! ### Lines (R335, R349) -/

/-- What the lines of channel c are read from: the devices, the remap store with its entries, and the fields that place a line in its
row (R333, Table 12-2). -/
def State.bank (s : State) (c : Nat) : (Tab Nat × Tab Nat × Tab Nat) × Nat × Nat × Nat :=
  (((s.chan c).lines, (s.chan c).store, (s.chan c).remap), s.dram.power, s.f R.DR_GCFG_DENSITY, s.f R.DR_GCFG_RANKS)

section
variable {s t : State} {c : Nat}

theorem State.remapped_of_bank (h : t.bank c = s.bank c) (a : Nat) : t.remapped c a = s.remapped c a := by
  simp only [State.bank, Prod.mk.injEq] at h
  obtain ⟨⟨-, -, hremap⟩, -, hdensity, hranks⟩ := h
  have hrow : t.dramRow a = s.dramRow a := by
    unfold State.dramRow State.on
    rw [hdensity, hranks]
  have hcovers : ∀ e, t.covers e a = s.covers e a := fun e => by simp only [State.covers, hrow]
  simp only [State.remapped, hremap, hcovers]

theorem State.rawLine_of_bank (h : t.bank c = s.bank c) (a : Nat) : t.rawLine c a = s.rawLine c a := by
  have hremapped := State.remapped_of_bank h a
  simp only [State.bank, Prod.mk.injEq] at h
  obtain ⟨⟨hlines, hstore, -⟩, hpower, -, -⟩ := h
  simp only [State.rawLine, hremapped, hlines, hstore, hpower]

end

section
variable (s : State) (c a v : Nat)

theorem State.bank_settle : s.settle.bank c = s.bank c := by
  unfold State.bank
  rw [State.chan_settle, State.settle_dram, State.f_settle_behind _ _ _ (by decide), State.f_settle_behind _ _ _ (by decide)]

theorem State.bank_setF {F : R.Fld} (w i k : Nat) (h : R.DR_GCFG_DENSITY.key 0 0 ≠ F.key i k ∧ R.DR_GCFG_RANKS.key 0 0 ≠ F.key i k) :
    (s.setF F w i k).bank c = s.bank c := by
  unfold State.bank
  rw [State.f_setF_other _ _ _ _ _ _ _ _ h.1, State.f_setF_other _ _ _ _ _ _ _ _ h.2]
  rfl

/-- A change of a channel that leaves its lines, its store and its entries leaves what lines are read from. -/
theorem State.bank_modChan {f : Channel → Channel} (hlines : ∀ x, (f x).lines = x.lines) (hstore : ∀ x, (f x).store = x.store)
    (hremap : ∀ x, (f x).remap = x.remap) : (s.modChan c f).bank c = s.bank c := by
  unfold State.bank
  rw [State.chan_modChan_same, hlines, hstore, hremap]
  rfl

theorem State.remapped_setLine : (s.setLine c a v).remapped c a = s.remapped c a := by
  have hstays : ∀ f : Channel → Channel, (∀ x, (f x).remap = x.remap) → (s.modChan c f).remapped c a = s.remapped c a := by
    intro f hf
    unfold State.remapped
    rw [State.chan_modChan_same, hf]
    rfl
  exact State.keeps_ite (p := fun t => t.remapped c a) (hstays _ fun _ => rfl) (hstays _ fun _ => rfl)

/-- A line holds what was stored last, in the devices or in the remap store. -/
theorem State.rawLine_setLine : (s.setLine c a v).rawLine c a = v := by
  unfold State.rawLine
  rw [State.remapped_setLine]
  unfold State.setLine
  by_cases hr : s.remapped c a = true
  · simp only [hr, if_true, State.chan_modChan_same, Tab.get, Tab.getD_setD_same]
    simp
  · simp only [hr, if_false, State.chan_modChan_same, Tab.get, Tab.getD_setD_same, Bool.false_eq_true]
    simp

theorem State.rawLine_settle : s.settle.rawLine c a = s.rawLine c a := State.rawLine_of_bank (State.bank_settle ..) a

theorem State.queue_setLine (d : Nat) : ((s.setLine d a v).chan c).queue = (s.chan c).queue :=
  State.keeps_ite (p := fun t => (t.chan c).queue) (State.chan_modChan_keeps s c (p := Channel.queue) (fun _ => by rfl) d)
    (State.chan_modChan_keeps s c (p := Channel.queue) (fun _ => by rfl) d)

theorem State.queue_fillRegion (x : Nat) : ((s.fillRegion x).chan c).queue = (s.chan c).queue := by
  unfold State.fillRegion
  refine State.keeps_ite (p := fun t => (t.chan c).queue) rfl ((congrArg Channel.queue (State.chan_validSync _ c)).trans ?_)
  refine (congrArg Channel.queue (State.chan_withValid _ c _)).trans ?_
  refine State.keeps_foldl (p := fun t => (t.chan c).queue) (fun t k => ?_) _ s
  exact State.queue_setLine ..

/-- A write of all 128 bytes stores them with their check symbols (R340, R346). -/
theorem State.writeLine_whole {data : List Nat} (h : data.length = 128) :
    s.writeLine c a 0 data = (s.fillRegion (s.dramAddr c a)).setLine c a (encodeLine (ofBytes data) false) := by
  have htake : data.take (128 - 0) = data := List.take_of_length_le h.le
  unfold State.writeLine
  rw [htake]
  exact if_pos ⟨rfl, h⟩

end

/-! ### The scheduler (R345, R346) -/

/-- A waiting request of channel c, promoted where it has waited past the limit of its class (R345). -/
def State.aged (s : State) (c : Nat) (w : DrWait) : DrWait :=
  { w with promoted := w.promoted || decide (s.ageLimit c w.req.cls < s.clk.tb - w.tIn) }

/-- Request r has joined the queue of channel ch, after what its write replaces has left it (R337). -/
def State.requested (s : State) (ch : Nat) (r : DramReq) : State :=
  let u := if r.data.isSome then s.overwrite ch r.line else s
  u.modChan ch fun x => { x with queue := x.queue ++ [{ req := r, tIn := u.clk.tb }] }

/-- The only request of channel c is issued. -/
def State.issued (s : State) (c : Nat) (w : DrWait) : State :=
  ((s.promote c).modChan c fun x => { x with queue := [] }).perform c (s.aged c w)

section
variable (s : State) (c : Nat)

theorem State.promote_eq : s.promote c = s.modChan c fun x => { x with queue := x.queue.map (s.aged c) } := by
  have haged : (fun w : DrWait => if s.ageLimit c w.req.cls < s.clk.tb - w.tIn then { w with promoted := true } else w) = s.aged c := by
    funext w
    unfold State.aged
    split <;> simp [*]
  unfold State.promote
  dsimp only
  rw [haged]

theorem State.queue_promote : ((s.promote c).chan c).queue = (s.chan c).queue.map (s.aged c) := by
  rw [State.promote_eq, State.chan_modChan_same]

theorem State.performAll_one (w : DrWait) : s.performAll c [w] = s.perform c w := by
  unfold State.performAll
  rw [List.foldl_cons, List.foldl_nil]
  dsimp only
  split <;> rfl

theorem State.schedule_one {w : DrWait} (h : (s.chan c).queue = [w]) : s.schedule c = s.issued c w := by
  have hqueue : ((s.promote c).chan c).queue = [s.aged c w] := by rw [State.queue_promote, h]; rfl
  have hfirst : [s.aged c w].findIdx (· == s.aged c w) = 0 := by simp
  unfold State.schedule
  dsimp only
  rw [hqueue]
  simp only [bestWait, hfirst, List.take_zero, List.filter_nil, List.nil_append, Nat.zero_add, List.drop_one, List.tail_cons]
  exact State.performAll_one ..

theorem State.perform_write {w : DrWait} {d : List Byte} (h : w.req.data = some d) : s.perform c w =
    (s.modChan c fun x => { x with reads := x.reads.map fun r => if r.line = w.req.line then { r with wr := true } else r }).writeLine c
      w.req.line w.req.byte (d.map BitVec.toNat) := by
  unfold State.perform
  rw [h]

theorem State.perform_read {w : DrWait} (h : w.req.data = none) (hvalid : s.validAt (s.dramAddr c w.req.line) = true) : s.perform c w =
    s.modChan c fun x => { x with reads := x.reads ++ [{ line := w.req.line, cls := w.req.cls, raw := s.rawLine c w.req.line }] } := by
  unfold State.perform
  rw [h]
  exact if_pos hvalid

theorem State.queue_requested {r : DramReq} (h : r.data = none ∨ (s.chan c).queue = []) :
    ((s.requested c r).chan c).queue = (s.chan c).queue ++ [{ req := r, tIn := s.clk.tb }] := by
  cases hd : r.data with
  | none => simp only [State.requested, hd, Option.isSome_none, Bool.false_eq_true, if_false, State.chan_modChan_same]
  | some d =>
    have hempty := h.resolve_left (by simp [hd])
    simp only [State.requested, hd, Option.isSome_some, if_true, State.chan_modChan_same, State.overwrite, hempty, List.filter_nil]
    rfl

theorem State.bank_requested (r : DramReq) : (s.requested c r).bank c = s.bank c := by
  refine (State.bank_modChan _ c (fun _ => by rfl) (fun _ => by rfl) fun _ => by rfl).trans ?_
  exact State.keeps_ite (p := fun t => t.bank c) (State.bank_modChan _ c (fun _ => by rfl) (fun _ => by rfl) fun _ => by rfl) rfl

end

/-! ### DRAM_REQUEST_ISSUE (R336, R345, R348) -/

section
variable {ch : Nat} {r : DramReq} {s : State} (hch : ch < 4) (haddr : s.dramAddr ch r.line < s.dramCap) (hbyte : r.byte < 128)
include hch haddr hbyte

/-- A request that is new to the channel joins its queue, and a Ready channel issues one. -/
theorem exec_dramRequestIssue (hstate : s.cstate ch = 3 ∨ s.cstate ch = 4)
    (hnew : ((s.chan ch).queue.any fun w => w.req == r) = false) (hroom : r.data = none ∨ (s.chan ch).queue = []) :
    exec (.dramRequestIssue ch r) s =
      .next (if s.cstate ch = 3 then (s.requested ch r).schedule ch else s.requested ch r).settle := by
  have hin : ([3, 4, 5] : List Nat).contains (s.cstate ch) = true := by rcases hstate with h | h <;> rw [h] <;> rfl
  have hjoins : ¬ (((s.chan ch).queue.any fun w => w.req == r) = true ∨ r.data.isSome = true ∧ 64 ≤ s.heldWrites ch) := by
    rw [hnew]
    rintro (hknown | ⟨hwrite, hfull⟩)
    · cases hknown
    have hempty := hroom.resolve_left (by simpa [Option.isSome_iff_ne_none] using hwrite)
    simp [State.heldWrites, hempty] at hfull
  have hstays : (s.requested ch r).cstate ch = s.cstate ch := State.keeps_ite (p := fun t => t.cstate ch) rfl rfl
  show execDramRequestIssue ch r s = _
  unfold execDramRequestIssue
  rw [if_neg (by simp only [hin, not_true_eq_false, false_or]; omega)]
  dsimp only
  rw [if_neg hjoins]
  change done (if (s.requested ch r).cstate ch = 3 then (s.requested ch r).schedule ch else s.requested ch r) = _
  rw [hstays]
  rfl

/-- A Ready channel with no request waiting carries a request out at once. -/
theorem exec_dramRequestIssue_ready (hstate : s.cstate ch = 3) (hidle : (s.chan ch).queue = []) :
    exec (.dramRequestIssue ch r) s = .next ((s.requested ch r).issued ch { req := r, tIn := s.clk.tb }).settle := by
  rw [exec_dramRequestIssue hch haddr hbyte (.inl hstate) (by rw [hidle]; rfl) (.inr hidle), if_pos hstate,
    State.schedule_one _ _ (by rw [State.queue_requested _ _ (.inr hidle), hidle]; rfl)]

end

theorem dramRequestIssue_stores (ch : Nat) (r : DramReq) (d : List Byte) (s : State) (hch : ch < 4) (hstate : s.cstate ch = 3)
    (haddr : s.dramAddr ch r.line < s.dramCap) (hbyte : r.byte = 0) (hdata : r.data = some d) (hlen : d.length = 128)
    (hidle : (s.chan ch).queue = []) :
    ∃ t, exec (.dramRequestIssue ch r) s = .next t ∧
      t.rawLine ch r.line = encodeLine (ofBytes (d.map BitVec.toNat)) false ∧ (t.chan ch).queue = [] := by
  have hwrite : ∀ u : State, (u.aged ch { req := r, tIn := s.clk.tb }).req.data = some d := fun _ => hdata
  refine ⟨_, exec_dramRequestIssue_ready hch haddr (by omega) hstate hidle, ?_, ?_⟩
  all_goals
    unfold State.issued
    rw [State.perform_write _ _ (hwrite _),
      show (State.aged _ ch { req := r, tIn := s.clk.tb }).req.byte = 0 from hbyte, State.writeLine_whole _ _ _ (by simpa using hlen)]
  · rw [State.rawLine_settle]
    exact State.rawLine_setLine ..
  · rw [State.chan_settle, State.queue_setLine, State.queue_fillRegion, State.chan_modChan_same, State.chan_modChan_same]

theorem dramRequestIssue_reads (ch : Nat) (r : DramReq) (s : State) (hch : ch < 4) (hstate : s.cstate ch = 3)
    (haddr : s.dramAddr ch r.line < s.dramCap) (hbyte : r.byte < 128) (hdata : r.data = none) (hidle : (s.chan ch).queue = [])
    (hvalid : s.validAt (s.dramAddr ch r.line) = true) :
    ∃ t, exec (.dramRequestIssue ch r) s = .next t ∧ (t.chan ch).queue = [] ∧
      (t.chan ch).reads = (s.chan ch).reads ++ [{ line := r.line, cls := r.cls, raw := s.rawLine ch r.line }] ∧
      State.Only { s with dram := t.dram } t [] := by
  have hrequested : s.requested ch r = s.modChan ch fun x => { x with queue := x.queue ++ [{ req := r, tIn := s.clk.tb }] } := by
    simp only [State.requested, hdata, Option.isSome_none, Bool.false_eq_true, if_false]
  have hbank : (((s.requested ch r).promote ch).modChan ch fun x => { x with queue := [] }).bank ch = s.bank ch := by
    rw [State.promote_eq]
    refine (State.bank_modChan _ ch (fun _ => by rfl) (fun _ => by rfl) fun _ => by rfl).trans ?_
    exact (State.bank_modChan _ ch (fun _ => by rfl) (fun _ => by rfl) fun _ => by rfl).trans (State.bank_requested ..)
  have hissued : (s.requested ch r).issued ch { req := r, tIn := s.clk.tb } =
      (((s.requested ch r).promote ch).modChan ch fun x => { x with queue := [] }).modChan ch
        fun x => { x with reads := x.reads ++ [{ line := r.line, cls := r.cls, raw := s.rawLine ch r.line }] } := by
    rw [← State.rawLine_of_bank hbank]
    refine State.perform_read _ ch hdata ?_
    rw [State.promote_eq, hrequested]
    simp only [State.dramAddr_modChan, State.validAt_modChan]
    exact hvalid
  refine ⟨_, exec_dramRequestIssue_ready hch haddr hbyte hstate hidle, ?_, ?_, ?_⟩
  · rw [hissued, State.chan_settle, State.chan_modChan_same, State.chan_modChan_same]
  · rw [hissued, State.chan_settle, State.chan_modChan_same, State.chan_modChan_same, State.promote_eq, State.chan_modChan_same,
      hrequested, State.chan_modChan_same]
  · refine State.only_dram ?_
    rw [hissued, State.promote_eq, hrequested]
    simp only [State.bare_modChan]

theorem dramRequestIssue_waits (ch : Nat) (r : DramReq) (s : State) (hch : ch < 4) (hstate : s.cstate ch = 4)
    (haddr : s.dramAddr ch r.line < s.dramCap) (hbyte : r.byte < 128) (hdata : r.data = none)
    (hnew : ((s.chan ch).queue.any fun w => w.req == r) = false) :
    ∃ t, exec (.dramRequestIssue ch r) s = .next t ∧ (t.chan ch).queue = (s.chan ch).queue ++ [{ req := r, tIn := s.clk.tb }] ∧
      State.Only { s with dram := t.dram } t [] := by
  refine ⟨(s.requested ch r).settle, ?_, ?_, State.only_dram ?_⟩
  · rw [exec_dramRequestIssue hch haddr hbyte (.inr hstate) hnew (.inl hdata), if_neg (by omega)]
  · rw [State.chan_settle, State.queue_requested _ _ (.inl hdata)]
  · simp only [State.requested, hdata, Option.isSome_none, Bool.false_eq_true, if_false]
    rfl

/-! ### Ages, checked reads, refreshes and polls (R336, R345, R347, R462) -/

theorem dramAgePromote_promotes (ch : Nat) (s : State) (hch : ch < 4) :
    ∃ t, exec (.dramAgePromote ch) s = .next t ∧ State.Only { s with dram := t.dram } t [] ∧
      (t.chan ch).queue = (s.chan ch).queue.map fun w =>
        { w with promoted := w.promoted || decide (s.ageLimit ch w.req.cls < s.clk.tb - w.tIn) } := by
  refine ⟨(s.promote ch).settle, if_neg (by omega), State.only_dram rfl, ?_⟩
  rw [State.chan_settle]
  exact State.queue_promote ..

theorem dramReadComplete_checks (ch x : Nat) (r : DrRead) (q : List DrRead) (s : State) (h : (s.chan ch).reads = r :: q) :
    ∃ u : State, exec (.dramReadComplete ch x) s = .next (u.readDone ch { r with raw := r.raw ^^^ x }).settle ∧
      (u.chan ch).reads = q ∧ u.fields = s.fields := by
  refine ⟨s.modChan ch fun x => { x with reads := q }, ?_, by rw [State.chan_modChan_same], rfl⟩
  show execDramReadComplete ch x s = _
  unfold execDramReadComplete
  rw [h]
  rfl

theorem dramRefreshes_count (ch : Nat) (b : Bool) (s : State) (h : s.cstate ch = 3 ∨ s.cstate ch = 4) :
    (∃ t, exec (.dramRefresh ch) s = .next t ∧ (t.chan ch).refreshes = (s.chan ch).refreshes + 1 ∧
      State.Only { s with dram := t.dram } t []) ∧
    (∃ t, exec (.dramMr4Poll ch b) s = .next t ∧ (t.chan ch).doubled = b ∧ State.Only { s with dram := t.dram } t []) := by
  have hruns : s.dramRuns ch = true := by simpa [State.dramRuns] using h
  refine ⟨⟨_, if_pos hruns, ?_, State.only_dram rfl⟩, ⟨_, if_pos hruns, ?_, State.only_dram rfl⟩⟩
  · rw [State.chan_settle, State.chan_modChan_same]
  · rw [State.chan_settle, State.chan_modChan_same]

theorem dramAlertN_counts (ch : Nat) (s : State) (hch : ch < 4) (hoff : s.mode ≠ .off) :
    ∃ t, exec (.dramAlertN ch) s = .next t ∧ (t.chan ch).alerts = (s.chan ch).alerts + 1 ∧
      State.Only { s with dram := t.dram } t [] := by
  refine ⟨_, if_neg (by simp [State.up, hoff, hch]), ?_, State.only_dram rfl⟩
  rw [State.chan_settle, State.chan_modChan_same]

/-! ### Retrain windows (R348) -/

theorem dramRetrainWindow_opens (ch : Nat) (s : State) (hmode : s.mode = .service) (hch : ch < 4)
    (hen : s.on R.DR_RTCFG_RT_EN = true) (hstate : s.cstate ch = 3) (hnone : ∀ c, c < 4 → s.cstate c ≠ 4)
    (hhot : ((s.chan ch).queue.any fun w => w.promoted && w.req.cls == 0) = false) :
    ∃ t, exec (.dramRetrainWindow ch) s = .next t ∧ t.cstate ch = 4 ∧ s.Only t [R.DR_STS_CSTATE.key ch 0] := by
  have hclosed : (List.range 4).any (fun c => s.cstate c == 4) = false := by simpa using hnone
  refine ⟨(s.setF R.DR_STS_CSTATE 4 ch).settle, ?_, ?_, s.only_setF ..⟩
  · show execDramRetrainWindow ch s = _
    unfold execDramRetrainWindow
    rw [if_neg (by simp [State.modeIn, hmode, hch, hen, hstate, hclosed])]
    dsimp only
    rw [hhot]
    rfl
  · exact (State.f_settle_behind _ _ _ (by decide)).trans (State.f_setF_same ..)

/-- The retrain window of channel ch has closed: it is Ready, with the length of the window and adjusted delays (R348). -/
def State.windowShut (s : State) (ch ns : Nat) : State :=
  ((s.setF R.DR_STS_CSTATE 3 ch).putF R.DR_STS_RT_LAST_NS ns ch).modChan ch fun x => { x with delays := [], trained := x.trained + 1 }

section
variable (s : State) (ch ns : Nat)

theorem exec_dramRetrainWindowEnd (hch : ch < 4) (hstate : s.cstate ch = 4) :
    exec (.dramRetrainWindowEnd ch ns) s = .next ((s.windowShut ch ns).drHeldRun ch).settle :=
  if_neg (by omega)

theorem State.drHeldRun_none (h : ∀ x ∈ s.dram.held, x.ch ≠ ch) : s.drHeldRun ch = s := by
  have hdue : s.dram.held.filter (fun x => x.ch == ch) = [] := List.filter_eq_nil_iff.mpr fun x hx => by simpa using h x hx
  have hrest : s.dram.held.filter (fun x => x.ch != ch) = s.dram.held := List.filter_eq_self.mpr fun x hx => by simpa using h x hx
  unfold State.drHeldRun
  rw [hdue, hrest]
  rfl

theorem State.cstate_windowShut : (s.windowShut ch ns).cstate ch = 3 := by
  unfold State.windowShut State.cstate
  rw [State.f_modChan, State.f_putF_apart _ _ (by decide), State.f_setF_same]
  rfl

theorem State.f_windowShut_length : (s.windowShut ch ns).f R.DR_STS_RT_LAST_NS ch = min ns 65535 := by
  unfold State.windowShut
  rw [State.f_modChan]
  exact (State.f_setF_same ..).trans (Nat.mod_eq_of_lt (by change min ns 65535 < 65536; omega))

theorem State.only_windowShut :
    State.Only { s with dram := (s.windowShut ch ns).dram } (s.windowShut ch ns).settle
      [R.DR_STS_CSTATE.key ch 0, R.DR_STS_RT_LAST_NS.key ch 0] := by
  refine State.only_settle (fun F i k hk => ?_) rfl
  obtain ⟨hstate, hlength⟩ := List.ne_and_not_mem_of_not_mem_cons hk
  exact (State.f_setF_other _ _ _ _ _ _ _ _ (List.ne_of_not_mem_cons hlength)).trans (State.f_setF_other _ _ _ _ _ _ _ _ hstate)

end

theorem dramRetrainWindowEnd_closes (ch ns : Nat) (s : State) (hch : ch < 4) (hstate : s.cstate ch = 4)
    (hheld : ∀ h ∈ s.dram.held, h.ch ≠ ch) :
    ∃ t, exec (.dramRetrainWindowEnd ch ns) s = .next t ∧ t.cstate ch = 3 ∧ t.f R.DR_STS_RT_LAST_NS ch = min ns 65535 ∧
      State.Only { s with dram := t.dram } t [R.DR_STS_CSTATE.key ch 0, R.DR_STS_RT_LAST_NS.key ch 0] := by
  refine ⟨(s.windowShut ch ns).settle, ?_, ?_, ?_, ?_⟩
  · rw [exec_dramRetrainWindowEnd s ch ns hch hstate, State.drHeldRun_none (s.windowShut ch ns) ch hheld]
  · exact (State.f_settle_behind _ _ _ (by decide)).trans (State.cstate_windowShut ..)
  · rw [State.f_settle_behind _ _ _ (by decide), State.f_windowShut_length]
  · rw [State.settle_dram]
    exact State.only_windowShut ..

/-- Settles O42: a request carried out, issued or waiting, ages, reads, refreshes, polls, and the retrain window from start to end. -/
theorem dramRequests : Obligations.DramRequests :=
  ⟨dramRequestIssue_stores, dramRequestIssue_reads, dramRequestIssue_waits, dramAgePromote_promotes, dramReadComplete_checks,
   dramRefreshes_count, dramRetrainWindow_opens, dramRetrainWindowEnd_closes, dramAlertN_counts⟩

end Sys2Proof.Machine
end

section
/-! SUPPORT. What the work on lines of the DRAM leaves as it is, in whatever order it fills regions, corrects reads, counts errors and
marks devices (R336 to R342, R345, R346). -/

namespace Sys2Proof.Machine

/-- What stays through every step of a repetition over a list stays through the whole. -/
theorem State.keeps_foldl_mem {α β : Type} {p : State → β} {f : State → α → State} {l : List α}
    (h : ∀ a ∈ l, ∀ s, p (f s a) = p s) (s : State) : p (l.foldl f s) = p s := by
  induction l generalizing s with
  | nil => rfl
  | cons a r ih =>
    obtain ⟨ha, hr⟩ := List.forall_mem_cons.mp h
    exact (ih hr _).trans (ha s)

/-- The register fields that the work on lines may write: the valid regions, the counts, the marks, their events, and the event of a
Logbook shell that opens short. -/
def lineFields : List R.Fld :=
  [R.DR_VRCNT_VALID_REGIONS, R.DR_ECC_CORRECTED, R.DR_ECC_UNCORR, R.DR_DEVCE_CE_EVEN, R.DR_DEVCE_CE_ODD, R.DR_STS_MARK_VALID,
    R.DR_STS_MARK_DEV, R.DR_EVT_CORRECTED, R.DR_EVT_UNCORR, R.DR_EVT_POISON_RMW, R.DR_EVT_DEV_MARKED, R.DR_EVT_MARK_REFUSED,
    R.SH_EVT_SHELL_SHORT]

/-- p sees nothing of what the work on lines may change. -/
structure LineFree {β : Type} (p : State → β) : Prop where
  chan : ∀ (u : State) (c : Nat) (f : Channel → Channel), p (u.modChan c f) = p u
  valid : ∀ (u : State) (v : Tab Bool), p { u with dram.valid := v } = p u
  ctl : ∀ (u : State) (x : Ctl), p { u with ctl := x } = p u
  per : ∀ (u : State) (x : Persist), p { u with per := x } = p u
  media : ∀ (u : State) (x : Media), p { u with media := x } = p u
  field : ∀ (u : State) (F : R.Fld) (v i k : Nat), F ∈ lineFields → k < 5 → p (u.setF F v i k) = p u

namespace LineFree
variable {β : Type} {p : State → β} (hp : LineFree p) (s : State) (c a : Nat)
include hp

theorem raise {F : R.Fld} (p1 p2 p3 i : Nat) (hF : F ∈ lineFields) : p (s.raise F p1 p2 p3 i) = p s :=
  (hp.ctl _ _).trans (hp.field s F 1 i 0 hF (by omega))

theorem raiseLimited {F : R.Fld} (key p1 p2 p3 i : Nat) (hF : F ∈ lineFields) : p (s.raiseLimited key F p1 p2 p3 i) = p s :=
  State.keeps_ite ((hp.ctl _ _).trans (hp.raise s p1 p2 p3 i hF)) (hp.field s F 1 i 0 hF (by omega))

/-! ### Marks and counts (R337, R338) -/

theorem recordCfg (kind idx : Nat) (words : List Nat) : p (s.recordCfg kind idx words) = p s := by
  have hopen : ∀ (u : State) (x : Nat), p (u.openShell x 4 0 true) = p u := fun u x =>
    State.keeps_ite ((hp.raise _ _ _ _ _ (by decide)).trans (hp.per u _)) (hp.per u _)
  have hpush : ∀ (u : State) (kind : RecKind) (obj : Nat) (body : List Nat), p (u.pushRec kind obj body) = p u := fun u kind obj body =>
    (hp.media { u with per := (u.pushRec kind obj body).per } (u.pushRec kind obj body).media).trans (hp.per u _)
  exact State.keeps_recordCfg hp.media (fun u _ => hp.media u _) (fun u x => (hp.per _ _).trans (hopen u x)) hpush s kind idx words

theorem markDev (d : Nat) (record : Bool) : p (s.markDev c d record) = p s := by
  have hmarked : p (((s.setF R.DR_STS_MARK_VALID 1 c).setF R.DR_STS_MARK_DEV d c).raise R.DR_EVT_DEV_MARKED d noP noP c) = p s :=
    (hp.raise _ _ _ _ _ (by decide)).trans ((hp.field _ _ _ _ _ (by decide) (by omega)).trans
      (hp.field _ _ _ _ _ (by decide) (by omega)))
  unfold State.markDev
  refine State.keeps_ite (hp.raise _ _ _ _ _ (by decide)) (State.keeps_ite ((hp.recordCfg _ _ _ _).trans ?_) hmarked)
  exact (hp.per _ _).trans hmarked

theorem devCount {d : Nat} (hd : d < 10) : p (s.devCount c d) = p s := by
  have hfield : (if d % 2 = 0 then R.DR_DEVCE_CE_EVEN else R.DR_DEVCE_CE_ODD) ∈ lineFields := by split <;> decide
  have hcount : ∀ v, p (s.setF (if d % 2 = 0 then R.DR_DEVCE_CE_EVEN else R.DR_DEVCE_CE_ODD) v c (d / 2)) = p s := fun v =>
    hp.field s _ v c (d / 2) hfield (by omega)
  exact State.keeps_ite ((hp.markDev _ _ _ _).trans (hcount _)) (hcount _)

theorem countRead (r : LineRes) : p (s.countRead c a r) = p s := by
  unfold State.countRead
  refine State.keeps_ite ((hp.raise _ _ _ _ _ (by decide)).trans (hp.field _ _ _ _ _ (by decide) (by omega)))
    (State.keeps_ite ((State.keeps_foldl_mem (fun d hd t => ?_) _).trans ?_) rfl)
  · exact hp.devCount t c (List.mem_range.mp (List.mem_filter.mp hd).1)
  · exact (hp.raiseLimited _ _ _ _ _ _ (by decide)).trans (hp.field _ _ _ _ _ (by decide) (by omega))

/-! ### Lines and regions (R339, R340, R342) -/

theorem setLine (v : Nat) : p (s.setLine c a v) = p s := State.keeps_ite (hp.chan ..) (hp.chan ..)

theorem validSync : p s.validSync = p s := hp.field _ _ _ _ _ (by decide) (by omega)

theorem fillRegion (x : Nat) : p (s.fillRegion x) = p s := by
  unfold State.fillRegion
  refine State.keeps_ite rfl ((hp.validSync _).trans ((hp.valid _ _).trans ?_))
  exact State.keeps_foldl (fun t k => hp.setLine t _ _ 0) _ s

theorem writeLine (byte : Nat) (data : List Nat) : p (s.writeLine c a byte data) = p s := by
  have hfill := hp.fillRegion s (s.dramAddr c a)
  have hcount : ∀ r, p ((s.fillRegion (s.dramAddr c a)).countRead c a r) = p s := fun r => (hp.countRead ..).trans hfill
  unfold State.writeLine
  refine State.keeps_ite ((hp.setLine ..).trans hfill) (State.keeps_ite ((hp.raise _ _ _ _ _ (by decide)).trans hfill)
    (State.keeps_ite ?_ ?_))
  · exact (hp.raise _ _ _ _ _ (by decide)).trans ((hp.setLine ..).trans (hcount _))
  · exact (hp.setLine ..).trans (hcount _)

/-! ### Requests that are carried out (R346) -/

theorem perform (w : DrWait) : p (s.perform c w) = p s := by
  unfold State.perform
  split
  · exact (hp.writeLine ..).trans (hp.chan ..)
  · exact State.keeps_ite (hp.chan ..) rfl

theorem performAll (l : List DrWait) : p (s.performAll c l) = p s := by
  have h : ∀ x : Bool × State, p (l.foldl (fun (x : Bool × State) w =>
      if w.req.data.isSome then (true, x.2.perform c w) else (x.1, if x.1 then x.2 else x.2.perform c w)) x).2 = p x.2 := by
    induction l with
    | nil => exact fun _ => rfl
    | cons w r ih =>
      intro x
      refine (ih _).trans ?_
      dsimp only
      split
      · exact hp.perform ..
      · exact State.keeps_ite rfl (hp.perform ..)
  exact h (false, s)

theorem lineUp : p (s.lineUp c a) = p s := (hp.performAll ..).trans (hp.chan ..)

/-! ### Lines that are copied into the remap store (R350), and the test window (R356) -/

theorem copyLine : p (s.copyLine c a).2 = p s := (hp.countRead ..).trans (hp.lineUp ..)

theorem remapPut (i e : Nat) : p (s.remapPut c i e) = p s :=
  (hp.chan ..).trans (State.keeps_foldl (fun t x => (hp.chan ..).trans (hp.copyLine t c x)) _ s)

theorem testBits : p s.testBits = p s := by
  unfold State.testBits
  refine State.keeps_ite rfl ((hp.validSync _).trans ?_)
  exact State.keeps_foldl (fun t k => hp.valid t _) _ s

end LineFree

/-! ### What the work on lines does not reach -/

theorem lineFree_held : LineFree fun u : State => u.dram.held :=
  ⟨fun _ _ _ => rfl, fun _ _ => rfl, fun _ _ => rfl, fun _ _ => rfl, fun _ _ => rfl, fun _ _ _ _ _ _ _ => rfl⟩

/-- A field whose place in the blocks of the channels is not that of CSTATE is no CSTATE, of whichever channel. -/
theorem cstate_key_ne {F : R.Fld} {k : Nat}
    (h : F.reg.s1 % 65536 = 0 ∧ F.key 0 k % 2097152 ≠ R.DR_STS_CSTATE.key 0 0 % 2097152) (c i : Nat) :
    R.DR_STS_CSTATE.key c 0 ≠ F.key i k := by
  obtain ⟨hstride, hplace⟩ := h
  have hkey : ∀ G : R.Fld, ∀ j m, G.reg.s1 % 65536 = 0 → G.key j m % 2097152 = G.key 0 m % 2097152 := by
    intro G j m hs
    obtain ⟨n, hn⟩ := Nat.dvd_of_mod_eq_zero hs
    have hmul : j * (65536 * n) = 65536 * (j * n) := by ring
    simp only [R.Fld.key, R.Reg.at, hn, hmul]
    omega
  intro heq
  exact hplace ((hkey F i k hstride).symm.trans ((congrArg (· % 2097152) heq.symm).trans (hkey R.DR_STS_CSTATE c 0 rfl)))

theorem lineField_key_ne {F : R.Fld} (hF : F ∈ lineFields) {k : Nat} (hk : k < 5) (c i : Nat) :
    R.DR_STS_CSTATE.key c 0 ≠ F.key i k := by
  have hplaces : ∀ F ∈ lineFields, ∀ k < 5,
      F.reg.s1 % 65536 = 0 ∧ F.key 0 k % 2097152 ≠ R.DR_STS_CSTATE.key 0 0 % 2097152 := by decide
  exact cstate_key_ne (hplaces F hF k hk) c i

theorem lineFree_cstate (c : Nat) : LineFree fun u : State => u.cstate c :=
  ⟨fun _ _ _ => rfl, fun _ _ => rfl, fun _ _ => rfl, fun _ _ => rfl, fun _ _ => rfl,
   fun u _ v _ _ hF hk => State.f_setF_other u _ _ v _ _ _ _ (lineField_key_ne hF hk c _)⟩

end Sys2Proof.Machine
end

section
/-! SUPPORT. The line buffer of the DRAM (R356), on a channel that accepts requests and on one that does not (R348, R375). -/

namespace Sys2Proof.Machine

/-- A table filled from 0 to n − 1 reads, below n, what it was filled with. -/
theorem Tab.get_fill {α : Type} [Inhabited α] [DecidableEq α] (g : Nat → α) (t : Tab α) {n q : Nat} (h : q < n) :
    ((List.range n).foldl (fun (t : Tab α) i => t.set i (g i)) t).get q = g q := by
  induction n with
  | zero => omega
  | succ n ih =>
    rw [List.range_succ, List.foldl_append, List.foldl_cons, List.foldl_nil]
    by_cases hq : q = n
    · subst hq
      exact Tab.getD_setD_same ..
    · exact (Tab.getD_setD_other _ _ _ _ _ _ hq).trans (ih (by omega))

section
variable (s : State) (c a v : Nat)

theorem State.lb_lbSet {i : Nat} (h : i < 40) : (s.lbSet v).dram.lb.get i = (v >>> (32 * i)) % 2 ^ 32 :=
  Tab.get_fill (fun i => (v >>> (32 * i)) % 2 ^ 32) [] h

theorem State.rawLine_lbPut : (s.lbPut c a v).rawLine c a = v := State.rawLine_setLine ..

theorem State.markOf_modChan (f : Channel → Channel) : (s.modChan c f).markOf c = s.markOf c := rfl

end

/-! ### The data and the check bytes of a line -/

section
variable (d r : Nat)

theorem lineData_joined : lineData (lineData d + r / 2 ^ 1024 * 2 ^ 1024) = lineData d := by
  unfold lineData
  rw [Nat.add_mul_mod_self_right, Nat.mod_mod]

theorem checks_joined : (lineData d + r / 2 ^ 1024 * 2 ^ 1024) / 2 ^ 1024 = r / 2 ^ 1024 := by
  have hpos := Nat.two_pow_pos 1024
  unfold lineData
  rw [Nat.add_mul_div_right _ _ hpos, Nat.div_eq_of_lt (Nat.mod_lt _ hpos), Nat.zero_add]

end

/-! ### A line with no request before the command (R346) -/

section
variable {s : State} {c a : Nat} (h : ∀ w ∈ (s.chan c).queue, w.req.line ≠ a)
include h

theorem State.lineUp_idle : s.lineUp c a = s.modChan c fun x => { x with queue := (s.chan c).queue } := by
  have hnone : (s.chan c).queue.filter (fun w => w.req.line == a) = [] := List.filter_eq_nil_iff.mpr fun w hw => by simpa using h w hw
  have hall : (s.chan c).queue.filter (fun w => w.req.line != a) = (s.chan c).queue :=
    List.filter_eq_self.mpr fun w hw => by simpa using h w hw
  unfold State.lineUp
  dsimp only
  rw [hnone, hall]
  rfl

theorem State.bank_lineUp_idle : (s.lineUp c a).bank c = s.bank c := by
  rw [State.lineUp_idle h]
  exact State.bank_modChan _ _ (fun _ => by rfl) (fun _ => by rfl) fun _ => by rfl

theorem State.markOf_lineUp_idle : (s.lineUp c a).markOf c = s.markOf c := by rw [State.lineUp_idle h, State.markOf_modChan]

theorem State.queue_lineUp_idle : ((s.lineUp c a).chan c).queue = (s.chan c).queue := by
  rw [State.lineUp_idle h, State.chan_modChan_same]

/-- A scrub of a line decodes it by the mark of its channel. -/
theorem State.scrubRead_idle (flip : Nat) : (s.scrubRead c a flip).1 = decodeLine (s.markOf c) (s.rawLine c a ^^^ flip) := by
  unfold State.scrubRead
  dsimp only
  rw [State.markOf_lineUp_idle h, State.rawLine_of_bank (State.bank_lineUp_idle h)]

/-- A corrected read leaves the corrected data and the check bytes as stored in the buffer (R336, R356). -/
theorem State.lb_lbCorrected (hvalid : s.validAt (s.dramAddr c a) = true) {i : Nat} (hi : i < 40) : (s.lbCorrected c a).dram.lb.get i =
    (((decodeLine (s.markOf c) (s.rawLine c a)).data + s.rawLine c a / 2 ^ 1024 * 2 ^ 1024) >>> (32 * i)) % 2 ^ 32 := by
  unfold State.lbCorrected
  rw [if_neg (not_not.mpr hvalid)]
  dsimp only
  rw [State.lb_lbSet _ _ hi, State.scrubRead_idle h, Nat.xor_zero]

end

/-! ### The six commands -/

/-- The commands of the line buffer, with their CMD. -/
def lineBufferCmds : List (Instr × Nat) :=
  [(.lbRawRead, 1), (.lbRawWrite, 2), (.lbDataOnlyWrite, 3), (.lbCheckOnlyWrite, 4), (.lbPoisonWrite, 5), (.lbCorrectedRead, 6)]

theorem exec_lineBuffer {i : Instr} {k : Nat} (h : (i, k) ∈ lineBufferCmds) (s : State) : exec i s = s.lbRun k := by
  simp only [lineBufferCmds, List.mem_cons, List.not_mem_nil, or_false, Prod.mk.injEq] at h
  obtain ⟨rfl, rfl⟩ | ⟨rfl, rfl⟩ | ⟨rfl, rfl⟩ | ⟨rfl, rfl⟩ | ⟨rfl, rfl⟩ | ⟨rfl, rfl⟩ := h <;> rfl

section
variable {s : State} (hoff : s.mode ≠ .off)
include hoff

theorem State.lbRun_refused (htrial : s.mode ≠ .trial) (hplace : s.inTest (s.f R.DR_LB_ADDR_LINE * 128) = false) (k : Nat) :
    s.lbRun k = .next (s.setF R.DR_LB_CMD_RESULT 2).settle := by
  unfold State.lbRun
  rw [if_neg (by simp [State.up, hoff])]
  exact if_pos (.inr ⟨htrial, by simp [hplace]⟩)

section
variable {c a x : Nat} (hx : x = s.f R.DR_LB_ADDR_LINE * 128) (hat : s.dramAt x = (c, a)) (hcap : x < s.dramCap)
  (hplace : s.mode = .trial ∨ s.inTest x = true)
include hx hat hcap hplace

/-- A command that is not refused acts on a Ready channel, and is busy on another. -/
theorem State.lbRun_placed (k : Nat) : s.lbRun k =
    if s.cstate c ≠ 3 then .next ((s.drHold ⟨c, k, a, s.lbGet⟩).setF R.DR_LB_CMD_RESULT 1).settle
    else .next (s.lbAct k c a s.lbGet).settle := by
  have hserved : ¬ (s.dramCap ≤ x ∨ s.mode ≠ .trial ∧ ¬ s.inTest x = true) := by
    rintro (h | ⟨htrial, htest⟩)
    · omega
    · exact hplace.elim htrial htest
  unfold State.lbRun
  rw [if_neg (by simp [State.up, hoff]), ← hx]
  dsimp only
  rw [hat]
  exact if_neg hserved

theorem lineBuffer_waits {i : Instr} {k : Nat} (hcmd : (i, k) ∈ lineBufferCmds) (hstate : s.cstate c ≠ 3) :
    ∃ t, exec i s = .next t ∧ t.f R.DR_LB_CMD_RESULT = 1 ∧
      State.Only (s.drHold ⟨c, k, a, s.lbGet⟩) t [R.DR_LB_CMD_RESULT.key 0 0] :=
  ⟨_, by rw [exec_lineBuffer hcmd, State.lbRun_placed hoff hx hat hcap hplace, if_pos hstate],
   (State.f_settle_behind _ _ _ (by decide)).trans (State.f_setF_same ..), State.only_setF ..⟩

theorem exec_lineBuffer_acts {i : Instr} {k : Nat} (hcmd : (i, k) ∈ lineBufferCmds) (hstate : s.cstate c = 3) :
    exec i s = .next (s.lbAct k c a s.lbGet).settle := by
  rw [exec_lineBuffer hcmd, State.lbRun_placed hoff hx hat hcap hplace, if_neg (not_not.mpr hstate)]

end

end

theorem lineBuffer_refused {i : Instr} {s : State} (hcmd : i ∈ lineBufferCmds.map Prod.fst) (hoff : s.mode ≠ .off)
    (htrial : s.mode ≠ .trial) (hplace : s.inTest (s.f R.DR_LB_ADDR_LINE * 128) = false) :
    ∃ t, exec i s = .next t ∧ t.f R.DR_LB_CMD_RESULT = 2 ∧ s.Only t [R.DR_LB_CMD_RESULT.key 0 0] := by
  obtain ⟨⟨j, k⟩, hmem, rfl⟩ := List.mem_map.mp hcmd
  exact ⟨_, (exec_lineBuffer hmem s).trans (State.lbRun_refused hoff htrial hplace k),
    (State.f_settle_behind _ _ _ (by decide)).trans (State.f_setF_same ..), State.only_setF ..⟩

/-! ### What a command that acts moves -/

section
variable (s : State) (k c a d : Nat)

theorem State.f_lbAct_result : (s.lbAct k c a d).settle.f R.DR_LB_CMD_RESULT = 0 :=
  (State.f_settle_behind _ _ _ (by decide)).trans (State.f_setF_same ..)

theorem State.rawLine_result (u : State) : (u.setF R.DR_LB_CMD_RESULT 0).settle.rawLine c a = u.rawLine c a := by
  rw [State.rawLine_settle, State.rawLine_of_bank (State.bank_setF _ _ _ _ _ (by decide))]

theorem State.rawLine_lbAct_write : (s.lbAct 2 c a d).settle.rawLine c a = d :=
  (State.rawLine_result ..).trans (State.rawLine_lbPut ..)

theorem State.rawLine_lbAct_poison : (s.lbAct 5 c a d).settle.rawLine c a = encodeLine d true :=
  (State.rawLine_result ..).trans (State.rawLine_lbPut ..)

variable {s c a} (h : ∀ w ∈ (s.chan c).queue, w.req.line ≠ a)
include h

theorem State.lb_lbAct_read {i : Nat} (hi : i < 40) :
    (s.lbAct 1 c a d).settle.dram.lb.get i = (s.rawLine c a >>> (32 * i)) % 2 ^ 32 := by
  rw [State.settle_dram, ← State.rawLine_of_bank (State.bank_lineUp_idle h)]
  exact State.lb_lbSet _ _ hi

theorem State.rawLine_lbAct_data : (s.lbAct 3 c a d).settle.rawLine c a = lineData d + s.rawLine c a / 2 ^ 1024 * 2 ^ 1024 := by
  rw [← State.rawLine_of_bank (State.bank_lineUp_idle h)]
  exact (State.rawLine_result ..).trans (State.rawLine_lbPut ..)

theorem State.rawLine_lbAct_check : (s.lbAct 4 c a d).settle.rawLine c a = lineData (s.rawLine c a) + d / 2 ^ 1024 * 2 ^ 1024 := by
  rw [← State.rawLine_of_bank (State.bank_lineUp_idle h)]
  exact (State.rawLine_result ..).trans (State.rawLine_lbPut ..)

theorem State.lb_lbAct_corrected (hvalid : s.validAt (s.dramAddr c a) = true) {i : Nat} (hi : i < 40) :
    (s.lbAct 6 c a d).settle.dram.lb.get i =
      (((decodeLine (s.markOf c) (s.rawLine c a)).data + s.rawLine c a / 2 ^ 1024 * 2 ^ 1024) >>> (32 * i)) % 2 ^ 32 := by
  have hidle : ∀ w ∈ ((s.lineUp c a).chan c).queue, w.req.line ≠ a := by rwa [State.queue_lineUp_idle h]
  have hvalid' : (s.lineUp c a).validAt ((s.lineUp c a).dramAddr c a) = true := by
    rw [State.lineUp_idle h, State.dramAddr_modChan, State.validAt_modChan, hvalid]
  rw [State.settle_dram, ← State.rawLine_of_bank (State.bank_lineUp_idle h), ← State.markOf_lineUp_idle h]
  exact State.lb_lbCorrected hidle hvalid' hi

end

theorem lineBuffer_acts (c a x : Nat) (s : State) (hoff : s.mode ≠ .off) (hx : x = s.f R.DR_LB_ADDR_LINE * 128)
    (hat : s.dramAt x = (c, a)) (hcap : x < s.dramCap) (hplace : s.mode = .trial ∨ s.inTest x = true) (hstate : s.cstate c = 3)
    (hidle : ∀ w ∈ (s.chan c).queue, w.req.line ≠ a) :
    (∃ t, exec .lbRawRead s = .next t ∧ t.f R.DR_LB_CMD_RESULT = 0 ∧
      ∀ i, i < 40 → t.dram.lb.get i = (s.rawLine c a >>> (32 * i)) % 2 ^ 32) ∧
    (∃ t, exec .lbRawWrite s = .next t ∧ t.f R.DR_LB_CMD_RESULT = 0 ∧ t.rawLine c a = s.lbGet) ∧
    (∃ t, exec .lbDataOnlyWrite s = .next t ∧ t.f R.DR_LB_CMD_RESULT = 0 ∧ lineData (t.rawLine c a) = lineData s.lbGet ∧
      t.rawLine c a / 2 ^ 1024 = s.rawLine c a / 2 ^ 1024) ∧
    (∃ t, exec .lbCheckOnlyWrite s = .next t ∧ t.f R.DR_LB_CMD_RESULT = 0 ∧ lineData (t.rawLine c a) = lineData (s.rawLine c a) ∧
      t.rawLine c a / 2 ^ 1024 = s.lbGet / 2 ^ 1024) ∧
    (∃ t, exec .lbPoisonWrite s = .next t ∧ t.f R.DR_LB_CMD_RESULT = 0 ∧ t.rawLine c a = encodeLine s.lbGet true) ∧
    (s.validAt (s.dramAddr c a) = true → ∃ t, exec .lbCorrectedRead s = .next t ∧ t.f R.DR_LB_CMD_RESULT = 0 ∧
      ∀ i, i < 40 → t.dram.lb.get i =
        (((decodeLine (s.markOf c) (s.rawLine c a)).data + s.rawLine c a / 2 ^ 1024 * 2 ^ 1024) >>> (32 * i)) % 2 ^ 32) := by
  have hexec : ∀ {i : Instr} {k : Nat}, (i, k) ∈ lineBufferCmds → exec i s = .next (s.lbAct k c a s.lbGet).settle := fun hcmd =>
    exec_lineBuffer_acts hoff hx hat hcap hplace hcmd hstate
  refine ⟨⟨_, hexec (k := 1) (by decide), State.f_lbAct_result .., fun i hi => State.lb_lbAct_read _ hidle hi⟩,
    ⟨_, hexec (k := 2) (by decide), State.f_lbAct_result .., State.rawLine_lbAct_write ..⟩,
    ⟨_, hexec (k := 3) (by decide), State.f_lbAct_result .., ?_⟩, ⟨_, hexec (k := 4) (by decide), State.f_lbAct_result .., ?_⟩,
    ⟨_, hexec (k := 5) (by decide), State.f_lbAct_result .., State.rawLine_lbAct_poison ..⟩,
    fun hvalid => ⟨_, hexec (k := 6) (by decide), State.f_lbAct_result .., fun i hi => State.lb_lbAct_corrected _ hidle hvalid hi⟩⟩
  · rw [State.rawLine_lbAct_data _ hidle]
    exact ⟨lineData_joined .., checks_joined ..⟩
  · rw [State.rawLine_lbAct_check _ hidle]
    exact ⟨lineData_joined .., checks_joined ..⟩

/-! ### A command that waited for the end of a retrain window (R348, R375) -/

theorem State.drHeldRun_write {u : State} {ch a d : Nat} (h : u.dram.held = [⟨ch, 2, a, d⟩]) :
    u.drHeldRun ch = { u with dram.held := [] }.lbAct 2 ch a d := by
  have hdue : u.dram.held.filter (fun x => x.ch == ch) = [⟨ch, 2, a, d⟩] := by simp [h]
  have hrest : u.dram.held.filter (fun x => x.ch != ch) = [] := by simp [h]
  unfold State.drHeldRun
  rw [hdue, hrest]
  rfl

theorem State.held_lbAct_write (u : State) (ch a d : Nat) : (u.lbAct 2 ch a d).dram.held = u.dram.held :=
  (lineFree_held.setLine _ ch a d).trans (lineFree_held.lineUp u ch a)

theorem dramRetrainWindowEnd_writes (ch ns a d : Nat) (s : State) (hch : ch < 4) (hstate : s.cstate ch = 4)
    (hheld : s.dram.held = [⟨ch, 2, a, d⟩]) :
    ∃ t, exec (.dramRetrainWindowEnd ch ns) s = .next t ∧ t.dram.held = [] ∧ t.f R.DR_LB_CMD_RESULT = 0 ∧ t.rawLine ch a = d := by
  have hrun : (s.windowShut ch ns).drHeldRun ch = { s.windowShut ch ns with dram.held := [] }.lbAct 2 ch a d :=
    State.drHeldRun_write hheld
  refine ⟨_, exec_dramRetrainWindowEnd s ch ns hch hstate, ?_, ?_, ?_⟩
  · rw [hrun, State.settle_dram, State.held_lbAct_write]
  · rw [hrun, State.f_lbAct_result]
  · rw [hrun, State.rawLine_lbAct_write]

/-- Settles O45: the six commands where they act, where they are refused, where they wait, and one that waited. -/
theorem dramLineBuffer : Obligations.DramLineBuffer :=
  ⟨lineBuffer_acts, fun _ _ hcmd hoff htrial hplace => lineBuffer_refused hcmd hoff htrial hplace,
   fun _ _ _ _ _ _ hcmd hoff hx hat hcap hplace hstate => lineBuffer_waits hoff hx hat hcap hplace hcmd hstate,
   dramRetrainWindowEnd_writes⟩

end Sys2Proof.Machine
end

section
/-! SUPPORT. Scrub and patrol of the DRAM (R339, R340, R351, R352). -/

namespace Sys2Proof.Machine

/-! ### Fields that are cleared together -/

/-- Each field of a list is set to 0. -/
def State.zeroed (s : State) (fs : List R.Fld) : State := fs.foldl (fun s F => s.setF F 0) s

theorem State.f_zeroed_other {fs : List R.Fld} {G : R.Fld} (h : ∀ F ∈ fs, G.key 0 0 ≠ F.key 0 0) (s : State) :
    (s.zeroed fs).f G = s.f G :=
  State.keeps_foldl_mem (p := fun t => t.f G) (fun F hF t => State.f_setF_other t F G 0 0 0 0 0 (h F hF)) s

theorem State.f_zeroed_mem {fs : List R.Fld} {G : R.Fld} (hd : fs.Pairwise fun F F' => F.key 0 0 ≠ F'.key 0 0) (hG : G ∈ fs)
    (s : State) : (s.zeroed fs).f G = 0 := by
  induction fs generalizing s with
  | nil => cases hG
  | cons F r ih =>
    obtain ⟨hF, hr⟩ := List.pairwise_cons.mp hd
    obtain rfl | hmem := List.mem_cons.mp hG
    · exact (State.f_zeroed_other hF _).trans ((State.f_setF_same ..).trans (Nat.zero_mod _))
    · exact ih hr hmem _

/-! ### SCRUB_START and SCRUB_STOP (R351) -/

/-- The counts of the scrub summary. -/
def scrubCounts : List R.Fld :=
  [R.DR_SCR_SUM0_CORRECTED, R.DR_SCR_SUM0_UNCORR, R.DR_SCR_SUM1_CANDIDATES, R.DR_SCR_SUM1_POISONED, R.DR_SCR_SUM1_SKIPPED_K]

/-- A scrub stands at the start of its range, which ends with the capacity, and no row is a candidate yet. -/
def State.scrubPlaced (s : State) : State :=
  State.each { s with
    dram.scrPos := 32 * s.f R.DR_SCR_START_SCR_START,
    dram.scrEnd := min (s.f R.DR_SCR_START_SCR_START + s.f R.DR_SCR_LEN_SCR_LEN) (s.dramCap / 4096),
    dram.scrSkip := 0 } 4 fun s c => s.modChan c fun x => { x with scrRows := [] }

/-- A scrub runs, with its summary cleared. -/
def State.scrubBegun (s : State) : State :=
  ((((s.scrubPlaced.zeroed scrubCounts).setF R.DR_SCR_FAIL_LO_FAIL_LO 0xFFFFFFFF).setF R.DR_SCR_FAIL_HI_FAIL_HI 0xFFFFFFFF).setF
    R.DR_SCR_CTL_ACTIVE 1).setF R.DR_SCR_CTL_PAUSED 0

section
variable (s : State)

theorem State.scrPos_scrubBegun : s.scrubBegun.dram.scrPos = 32 * s.f R.DR_SCR_START_SCR_START := rfl

theorem State.scrEnd_scrubBegun : s.scrubBegun.dram.scrEnd =
    min (s.f R.DR_SCR_START_SCR_START + s.f R.DR_SCR_LEN_SCR_LEN) (s.dramCap / 4096) := rfl

theorem State.f_scrubBegun_paused : s.scrubBegun.f R.DR_SCR_CTL_PAUSED = 0 := State.f_setF_same ..

theorem State.f_scrubBegun_active : s.scrubBegun.f R.DR_SCR_CTL_ACTIVE = 1 := by
  unfold State.scrubBegun
  rw [State.f_setF_other _ _ _ _ _ _ _ _ (by decide), State.f_setF_same]
  rfl

theorem State.f_scrubBegun_fail : s.scrubBegun.f R.DR_SCR_FAIL_LO_FAIL_LO = 0xFFFFFFFF := by
  unfold State.scrubBegun
  rw [State.f_setF_other _ _ _ _ _ _ _ _ (by decide), State.f_setF_other _ _ _ _ _ _ _ _ (by decide),
    State.f_setF_other _ _ _ _ _ _ _ _ (by decide), State.f_setF_same]
  rfl

theorem State.f_scrubBegun_count {G : R.Fld} (h : G ∈ scrubCounts) : s.scrubBegun.f G = 0 := by
  have hlater : ∀ G ∈ scrubCounts, ∀ F ∈ [R.DR_SCR_FAIL_LO_FAIL_LO, R.DR_SCR_FAIL_HI_FAIL_HI, R.DR_SCR_CTL_ACTIVE,
      R.DR_SCR_CTL_PAUSED], G.key 0 0 ≠ F.key 0 0 := by decide
  have hG := hlater G h
  unfold State.scrubBegun
  rw [State.f_setF_other _ _ _ _ _ _ _ _ (hG _ (by decide)), State.f_setF_other _ _ _ _ _ _ _ _ (hG _ (by decide)),
    State.f_setF_other _ _ _ _ _ _ _ _ (hG _ (by decide)), State.f_setF_other _ _ _ _ _ _ _ _ (hG _ (by decide)),
    State.f_zeroed_mem (by decide) h]

end

theorem scrubStart_begins (s : State) (hmode : s.mode = .service) (hidle : s.on R.DR_SCR_CTL_ACTIVE = false)
    (hlen : s.f R.DR_SCR_LEN_SCR_LEN ≠ 0) :
    ∃ t, exec .scrubStart s = .next t ∧ t.f R.DR_SCR_CTL_ACTIVE = 1 ∧ t.f R.DR_SCR_CTL_PAUSED = 0 ∧
      t.dram.scrPos = 32 * s.f R.DR_SCR_START_SCR_START ∧
      t.dram.scrEnd = min (s.f R.DR_SCR_START_SCR_START + s.f R.DR_SCR_LEN_SCR_LEN) (s.dramCap / 4096) ∧
      t.f R.DR_SCR_SUM0_CORRECTED = 0 ∧ t.f R.DR_SCR_SUM0_UNCORR = 0 ∧ t.f R.DR_SCR_SUM1_CANDIDATES = 0 ∧
      t.f R.DR_SCR_SUM1_POISONED = 0 ∧ t.f R.DR_SCR_SUM1_SKIPPED_K = 0 ∧ t.f R.DR_SCR_FAIL_LO_FAIL_LO = 0xFFFFFFFF := by
  have hexec : exec .scrubStart s = .next s.scrubBegun.settle := by
    show execScrubStart s = _
    unfold execScrubStart
    exact if_neg (by simp [State.modeIn, hmode, hidle, hlen])
  have hcount : ∀ G ∈ scrubCounts, s.scrubBegun.settle.f G = 0 := by
    have hbehind : ∀ G ∈ scrubCounts, R.GL_EVT_LOG_WRAP.key 0 0 < G.key 0 0 ∧ R.GL_SB_STS_ALERTS.key 0 0 < G.key 0 0 := by decide
    exact fun G hG => (State.f_settle_behind _ _ _ (hbehind G hG)).trans (State.f_scrubBegun_count s hG)
  refine ⟨_, hexec, ?_, ?_, ?_, ?_, hcount _ (by decide), hcount _ (by decide), hcount _ (by decide), hcount _ (by decide),
    hcount _ (by decide), ?_⟩
  · rw [State.f_settle_behind _ _ _ (by decide), State.f_scrubBegun_active]
  · rw [State.f_settle_behind _ _ _ (by decide), State.f_scrubBegun_paused]
  · rw [State.settle_dram, State.scrPos_scrubBegun]
  · rw [State.settle_dram, State.scrEnd_scrubBegun]
  · rw [State.f_settle_behind _ _ _ (by decide), State.f_scrubBegun_fail]

section
variable (s : State)

theorem State.f_scrubEnd_active : s.scrubEnd.f R.DR_SCR_CTL_ACTIVE = 0 := by
  unfold State.scrubEnd
  rw [State.f_raise_other _ _ _ _ _ _ _ _ _ (by decide), State.f_setF_other _ _ _ _ _ _ _ _ (by decide), State.f_setF_same]
  rfl

theorem State.f_scrubEnd_paused : s.scrubEnd.f R.DR_SCR_CTL_PAUSED = 0 := by
  unfold State.scrubEnd
  rw [State.f_raise_other _ _ _ _ _ _ _ _ _ (by decide), State.f_setF_same]
  rfl

theorem State.f_scrubEnd_evt : s.scrubEnd.f R.DR_EVT_SCRUB_DONE = 1 := State.f_raise_same ..

theorem State.only_scrubEnd :
    s.Only s.scrubEnd.settle [R.DR_SCR_CTL_ACTIVE.key 0 0, R.DR_SCR_CTL_PAUSED.key 0 0, R.DR_EVT_SCRUB_DONE.key 0 0] := by
  refine State.only_settle (fun F i k hk => ?_) rfl
  obtain ⟨hactive, hk⟩ := List.ne_and_not_mem_of_not_mem_cons hk
  obtain ⟨hpaused, hk⟩ := List.ne_and_not_mem_of_not_mem_cons hk
  unfold State.scrubEnd
  rw [State.f_raise_other _ _ _ _ _ _ _ _ _ (List.ne_of_not_mem_cons hk), State.f_setF_other _ _ _ _ _ _ _ _ hpaused,
    State.f_setF_other _ _ _ _ _ _ _ _ hactive]

end

theorem scrubStop_ends (s : State) (hoff : s.mode ≠ .off) (hrun : s.on R.DR_SCR_CTL_ACTIVE = true) :
    ∃ t, exec .scrubStop s = .next t ∧ t.f R.DR_SCR_CTL_ACTIVE = 0 ∧ t.f R.DR_SCR_CTL_PAUSED = 0 ∧ t.f R.DR_EVT_SCRUB_DONE = 1 ∧
      s.Only t [R.DR_SCR_CTL_ACTIVE.key 0 0, R.DR_SCR_CTL_PAUSED.key 0 0, R.DR_EVT_SCRUB_DONE.key 0 0] := by
  refine ⟨s.scrubEnd.settle, if_pos ⟨by simp [State.up, hoff], hrun⟩, ?_, ?_, ?_, s.only_scrubEnd⟩
  · rw [State.f_settle_behind _ _ _ (by decide), State.f_scrubEnd_active]
  · rw [State.f_settle_behind _ _ _ (by decide), State.f_scrubEnd_paused]
  · rw [State.f_settle_behind _ _ _ (by decide), State.f_scrubEnd_evt]

/-! ### SCRUB_LINE (R351) -/

/-- The skipped regions are shown in the summary. -/
def State.skipShown (s : State) (n : Nat) : State := State.putF { s with dram.scrSkip := n } R.DR_SCR_SUM1_SKIPPED_K (n / 1024)

theorem State.dramAt_skipShown (s : State) (n x : Nat) : (s.skipShown n).dramAt x = s.dramAt x := by
  have hf : ∀ F : R.Fld, F.key 0 0 ≠ R.DR_SCR_SUM1_SKIPPED_K.key 0 0 → (s.skipShown n).f F = s.f F := fun F h =>
    State.f_setF_other _ _ _ _ _ _ _ _ h
  unfold State.dramAt State.grain State.nch
  rw [hf _ (by decide), hf _ (by decide)]

theorem State.cstate_skipShown (s : State) (n c : Nat) : (s.skipShown n).cstate c = s.cstate c :=
  State.f_setF_other _ _ _ _ _ _ _ _ (cstate_key_ne (by decide) c 0)

theorem scrubLine_advances (c a x : Nat) (s : State) (hmode : s.mode = .service) (hrun : s.on R.DR_SCR_CTL_ACTIVE = true)
    (hgoes : s.on R.DR_SCR_CTL_PAUSED = false) (hclk : s.clk.stopped = false) (hwithin : s.dram.scrPos % 32 ≠ 0)
    (hleft : s.dram.scrPos / 32 < s.dram.scrEnd)
    (hat : s.dramAt (4096 * (s.dram.scrPos / 32) + 128 * (s.dram.scrPos % 32)) = (c, a)) (hstate : s.cstate c = 3) :
    ∃ t, exec (.scrubLine x) s = .next t ∧ t.dram.scrPos = s.dram.scrPos + 1 := by
  obtain ⟨o, ho⟩ : ∃ o, execScrubLine x s = o := ⟨_, rfl⟩
  show ∃ t, execScrubLine x s = _ ∧ _
  rw [ho]
  -- the definition's intermediate states are named, so that no state is written out in full
  unfold execScrubLine at ho
  rw [if_neg (by simp [State.modeIn, hmode, hrun, hgoes, hclk])] at ho
  extract_lets r e v skip d u k y at ho
  have hv : v = r := if_neg hwithin
  have hk : k = s.dram.scrPos % 32 := if_pos hv
  have hline : u.dramAt y = (c, a) := by
    change (s.skipShown skip).dramAt (4096 * v + 128 * k) = (c, a)
    rw [State.dramAt_skipShown, hv, hk]
    exact hat
  have hready : u.cstate c = 3 := (s.cstate_skipShown skip c).trans hstate
  rw [if_neg (by omega), hline] at ho
  dsimp only at ho
  rw [if_neg (not_not.mpr hready)] at ho
  subst ho
  refine ⟨_, rfl, ?_⟩
  rw [State.settle_dram]
  refine (State.keeps_ite (p := fun t : State => t.dram.scrPos) (x := 32 * v + k + 1) rfl rfl).trans ?_
  rw [hv, hk]
  omega

/-! ### DRAM_PATROL_STEP (R352) -/

theorem State.dramAt_channel_lt (s : State) (x : Nat) : (s.dramAt x).1 < s.nch := Nat.mod_lt _ (Nat.two_pow_pos _)

/-- The lines of region r hold zeros (R340). -/
def State.regionZeroed (s : State) (r : Nat) : State :=
  (List.range 32).foldl (fun (s : State) k =>
    let (c, a) := s.dramAt (4096 * r + 128 * k)
    s.setLine c a 0) s

section
variable {s : State} {x r : Nat} (hr : x / 4096 = r) (h : s.dram.valid.get r = false)
include hr h

theorem State.fillRegion_of_clear : s.fillRegion x =
    State.validSync { s.regionZeroed r with dram.valid := (s.regionZeroed r).dram.valid.set r true } := by
  simp only [State.fillRegion, State.regionZeroed, hr, h, if_false, Bool.false_eq_true]

/-- A region that was not valid is valid once it is filled (R340). -/
theorem State.valid_fillRegion : (s.fillRegion x).dram.valid.get r = true := by
  rw [State.fillRegion_of_clear hr h]
  generalize s.regionZeroed r = z
  change (z.dram.valid.set r true).get r = true
  exact Tab.getD_setD_same ..

end

theorem dramPatrolStep_fills (s : State) (hmode : s.mode = .discovery ∨ s.mode = .rebuild ∨ s.mode = .trial)
    (hclk : s.clk.stopped = false) (hidle : ∀ c, c < s.nch → s.cstate c = 3 ∧ (s.chan c).queue = []) (hcap : 0 < s.dramCap / 4096)
    (hclear : s.dram.valid.get (s.dram.patPos % (s.dramCap / 4096)) = false) :
    ∃ t, exec .dramPatrolStep s = .next t ∧ t.dram.valid.get (s.dram.patPos % (s.dramCap / 4096)) = true ∧
      t.dram.patPos = (s.dram.patPos % (s.dramCap / 4096) + 1) % (s.dramCap / 4096) := by
  have hin : s.modeIn [.discovery, .rebuild, .trial] = true := by simpa [State.modeIn] using hmode
  have hquiet : ∀ x, (s.cstate (s.dramAt x).1 == 3 && (s.chan (s.dramAt x).1).queue.isEmpty) = true := by
    intro x
    obtain ⟨hstate, hqueue⟩ := hidle _ (s.dramAt_channel_lt x)
    rw [hstate, hqueue]
    rfl
  obtain ⟨o, ho⟩ : ∃ o, execDramPatrolStep s = o := ⟨_, rfl⟩
  show ∃ t, execDramPatrolStep s = _ ∧ _
  rw [ho]
  unfold execDramPatrolStep at ho
  extract_lets n idle r u w f l d e at ho
  have hr : r < n := Nat.mod_lt _ hcap
  have hquiet : idle = true := List.all_eq_true.mpr fun k _ => by
    obtain ⟨hstate, hqueue⟩ := hidle _ (s.dramAt_channel_lt (4096 * (s.dram.patPos % n) + 128 * k))
    dsimp only
    rw [hstate, hqueue]
    rfl
  have hlap : w.dram.valid = s.dram.valid := State.keeps_ite (p := fun t => t.dram.valid) rfl rfl
  have hregion : w.dram.valid.get r = false := by rw [hlap]; exact hclear
  have hfilled : f.dram.valid.get r = true := by
    have hf : f = w.fillRegion (4096 * r) := if_neg (by rw [hregion]; exact Bool.false_ne_true)
    rw [hf]
    exact State.valid_fillRegion (Nat.mul_div_cancel_left r (by omega)) hregion
  rw [if_neg (by rw [hin, hquiet, hclk]; simp; omega)] at ho
  subst ho
  by_cases hlast : r + 1 = n
  · refine ⟨_, if_pos hlast, ?_, ?_⟩
    · rw [State.settle_dram]
      exact hfilled
    · rw [State.settle_dram]
      change 0 = (r + 1) % n
      rw [hlast, Nat.mod_self]
  · refine ⟨_, if_neg hlast, ?_, ?_⟩
    · rw [State.settle_dram]
      exact hfilled
    · rw [State.settle_dram]
      exact (Nat.mod_eq_of_lt (Nat.lt_of_le_of_ne hr hlast)).symm

/-- Settles O44: a scrub that starts, one that stops, a line within a region, and a patrol step that fills a region. -/
theorem dramScrubs : Obligations.DramScrubs :=
  ⟨scrubStart_begins, scrubStop_ends, scrubLine_advances, dramPatrolStep_fills⟩

end Sys2Proof.Machine
end

section
/-! SUPPORT. Device marks, the remap store and the training of the DRAM (R331, R338, R349, R350, R355). -/

namespace Sys2Proof.Machine

/-! ### What a record leaves of the DRAM and of its settings (R271) -/

section
variable (s : State) (kind idx : Nat) (words : List Nat)

theorem State.dram_recordCfg : (s.recordCfg kind idx words).dram = s.dram :=
  State.keeps_recordCfg (p := State.dram) (fun _ _ => rfl) (fun _ _ => rfl)
    (fun _ _ => State.keeps_ite (p := fun t : State => t.dram) rfl rfl) (fun _ _ _ _ => rfl) s kind idx words

/-- A record leaves the fields of every block behind SHELLS. -/
theorem State.f_recordCfg_behind {F : R.Fld} (i k : Nat) (h : R.SH_EVT_SHELL_SHORT.key 0 0 < F.key 0 0) :
    (s.recordCfg kind idx words).f F i k = s.f F i k := State.f_recordB_other _ _ _ _ F i k (key_ne_of_lt i k h)

theorem State.marks_recordCfg : (s.recordCfg kind idx words).per.marks = s.per.marks :=
  show (s.recordCfg kind idx words).book.marks = s.book.marks from congrArg Persist.marks (State.book_recordCfg ..)

theorem State.remaps_recordCfg : (s.recordCfg kind idx words).per.remaps = s.per.remaps :=
  show (s.recordCfg kind idx words).book.remaps = s.book.remaps from congrArg Persist.remaps (State.book_recordCfg ..)

end

/-! ### MARK and CLEAR (R338) -/

/-- A word that is lawful for the one field of a register is what the field then holds (R10, R13). -/
theorem State.writeReg_one {F : R.Fld} {v : Nat} (s : State) (i k : Nat) (p : Path) (hacc : F.acc = .rw) (hb : F.reg.banked = false)
    (hok : F.ok (bitsOf v F.lo F.w) = true) : s.writeReg [F] i k v p = s.setF F (bitsOf v F.lo F.w) i k := by
  simp [State.writeReg, State.writeField, hacc, hb, hok]

/-- The Logbook is to hold v as the mark of channel c: the marked device plus 1, or 0. -/
def State.withMark (s : State) (c v : Nat) : State := { s with per.marks := s.per.marks.set c v }

/-- The Logbook is to hold e as the entry at place i of channel ch. -/
def State.withEntry (s : State) (ch i e : Nat) : State := { s with per.remaps := s.per.remaps.set (ch * 16 + i) e }

section
variable (s : State) (c i v : Nat) (F : R.Fld) (j k : Nat)

theorem State.f_withMark : (s.withMark c v).f F j k = s.f F j k := rfl

theorem State.f_withEntry : (s.withEntry c i v).f F j k = s.f F j k := rfl

theorem State.marks_withMark : (s.withMark c v).per.marks.get c = v := Tab.getD_setD_same ..

theorem State.remaps_withEntry : (s.withEntry c i v).per.remaps.get (c * 16 + i) = v := Tab.getD_setD_same ..

end

/-- Device d of channel c is marked. -/
def State.devMarked (s : State) (c d : Nat) : State :=
  ((s.setF R.DR_STS_MARK_VALID 1 c).setF R.DR_STS_MARK_DEV d c).raise R.DR_EVT_DEV_MARKED d noP noP c

/-- The mark of device d of channel c is in force, and in the Logbook. -/
def State.markKept (s : State) (c d : Nat) : State :=
  ((s.devMarked c d).withMark c (d + 1)).recordCfg 6 c [d + 1]

/-- The mark of channel c is cleared, and so in the Logbook. -/
def State.markCleared (s : State) (c : Nat) : State :=
  (((s.setF R.DR_STS_MARK_VALID 0 c).setF R.DR_STS_MARK_DEV 0 c).withMark c 0).recordCfg 6 c [0]

section
variable (s : State) (c d : Nat)

theorem State.markDev_of_free (h : s.on R.DR_STS_MARK_VALID c = false) : s.markDev c d true = s.markKept c d :=
  (if_neg (by rw [h]; exact Bool.false_ne_true)).trans (if_pos rfl)

theorem State.markDev_of_marked (h : s.on R.DR_STS_MARK_VALID c = true) (record : Bool) :
    s.markDev c d record = s.raise R.DR_EVT_MARK_REFUSED d noP noP c := if_pos h

theorem State.f_markKept_valid : (s.markKept c d).f R.DR_STS_MARK_VALID c = 1 := by
  unfold State.markKept State.devMarked
  rw [State.f_recordCfg_behind _ _ _ _ _ _ (by decide), State.f_withMark, State.f_raise_apart _ _ (by decide),
    State.f_setF_apart _ _ (by decide), State.f_setF_same]
  rfl

theorem State.f_markKept_dev : (s.markKept c d).f R.DR_STS_MARK_DEV c = d % 16 := by
  unfold State.markKept State.devMarked
  rw [State.f_recordCfg_behind _ _ _ _ _ _ (by decide), State.f_withMark, State.f_raise_apart _ _ (by decide), State.f_setF_same]
  rfl

theorem State.f_markKept_evt : (s.markKept c d).f R.DR_EVT_DEV_MARKED c = 1 := by
  unfold State.markKept State.devMarked
  rw [State.f_recordCfg_behind _ _ _ _ _ _ (by decide), State.f_withMark, State.f_raise_same]
  rfl

theorem State.marks_markKept : (s.markKept c d).per.marks.get c = d + 1 := by
  unfold State.markKept
  rw [State.marks_recordCfg, State.marks_withMark]

theorem State.f_markCleared_valid : (s.markCleared c).f R.DR_STS_MARK_VALID c = 0 := by
  unfold State.markCleared
  rw [State.f_recordCfg_behind _ _ _ _ _ _ (by decide), State.f_withMark, State.f_setF_apart _ _ (by decide), State.f_setF_same]
  rfl

theorem State.f_markCleared_dev : (s.markCleared c).f R.DR_STS_MARK_DEV c = 0 := by
  unfold State.markCleared
  rw [State.f_recordCfg_behind _ _ _ _ _ _ (by decide), State.f_withMark, State.f_setF_same]
  rfl

theorem State.marks_markCleared : (s.markCleared c).per.marks.get c = 0 := by
  unfold State.markCleared
  rw [State.marks_recordCfg, State.marks_withMark]

theorem State.dram_markCleared : (s.markCleared c).dram = s.dram := State.dram_recordCfg ..

end

section
variable (ch dev : Nat) (s : State) (hoff : s.mode ≠ .off) (hch : ch < 4)
include hoff hch

theorem exec_drMark (hdev : dev < 10) : exec (.drMark ch dev) s = .next ((s.setF R.DR_MARK_DEV dev ch).markDev ch dev true).settle := by
  have hvalue : bitsOf (dev % 16 + 16) 0 4 = dev := by simp only [bitsOf, Nat.shiftRight_zero]; omega
  have hlegal : ∀ d < 10, R.DR_MARK_DEV.ok d = true := by decide
  have hwrite : s.writeReg [R.DR_MARK_DEV] ch 0 (dev % 16 + 16) .sideband = s.setF R.DR_MARK_DEV dev ch :=
    (s.writeReg_one ch 0 .sideband rfl rfl (hvalue.symm ▸ hlegal dev hdev)).trans (congrArg (s.setF R.DR_MARK_DEV · ch) hvalue)
  have hread : (s.setF R.DR_MARK_DEV dev ch).f R.DR_MARK_DEV ch = dev :=
    (State.f_setF_same ..).trans (Nat.mod_eq_of_lt (by change dev < 16; omega))
  show execDrMark ch dev s = _
  unfold execDrMark
  rw [if_neg (by simp [State.up, hoff, hch])]
  dsimp only
  rw [hwrite, hread]
  rfl

theorem drMark_marks (hdev : dev < 10) (hfree : s.on R.DR_STS_MARK_VALID ch = false) :
    ∃ t, exec (.drMark ch dev) s = .next t ∧ t.f R.DR_STS_MARK_VALID ch = 1 ∧ t.f R.DR_STS_MARK_DEV ch = dev ∧
      t.f R.DR_EVT_DEV_MARKED ch = 1 ∧ t.per.marks.get ch = dev + 1 := by
  have hvalid : (s.setF R.DR_MARK_DEV dev ch).on R.DR_STS_MARK_VALID ch = false :=
    (congrArg (· != 0) (State.f_setF_apart _ _ (by decide))).trans hfree
  refine ⟨_, exec_drMark ch dev s hoff hch hdev, ?_⟩
  rw [State.markDev_of_free _ _ _ hvalid, State.settle_per]
  refine ⟨?_, ?_, ?_, State.marks_markKept ..⟩
  · rw [State.f_settle_behind _ _ _ (by decide), State.f_markKept_valid]
  · rw [State.f_settle_behind _ _ _ (by decide), State.f_markKept_dev, Nat.mod_eq_of_lt (by omega)]
  · rw [State.f_settle_behind _ _ _ (by decide), State.f_markKept_evt]

theorem drMark_refused (hdev : dev < 10) (hmarked : s.on R.DR_STS_MARK_VALID ch = true) :
    ∃ t, exec (.drMark ch dev) s = .next t ∧ t.f R.DR_EVT_MARK_REFUSED ch = 1 ∧
      s.Only t [R.DR_MARK_DEV.key ch 0, R.DR_EVT_MARK_REFUSED.key ch 0] := by
  have hvalid : (s.setF R.DR_MARK_DEV dev ch).on R.DR_STS_MARK_VALID ch = true :=
    (congrArg (· != 0) (State.f_setF_apart _ _ (by decide))).trans hmarked
  refine ⟨_, exec_drMark ch dev s hoff hch hdev, ?_⟩
  rw [State.markDev_of_marked _ _ _ hvalid]
  refine ⟨(State.f_settle_behind _ _ _ (by decide)).trans (State.f_raise_same ..), State.only_settle (fun F i k hk => ?_) rfl⟩
  obtain ⟨hdev, hevt⟩ := List.ne_and_not_mem_of_not_mem_cons hk
  rw [State.f_raise_other _ _ _ _ _ _ _ _ _ (List.ne_of_not_mem_cons hevt), State.f_setF_other _ _ _ _ _ _ _ _ hdev]

theorem drClear_clears (hmarked : s.on R.DR_STS_MARK_VALID ch = true) :
    ∃ t, exec (.drClear ch) s = .next t ∧ t.f R.DR_STS_MARK_VALID ch = 0 ∧ t.f R.DR_STS_MARK_DEV ch = 0 ∧ t.per.marks.get ch = 0 ∧
      t.dram = s.dram := by
  have hexec : exec (.drClear ch) s = .next (s.markCleared ch).settle := by
    show execDrClear ch s = _
    unfold execDrClear
    rw [if_neg (by simp [State.up, hoff, hch]), if_pos hmarked]
    rfl
  refine ⟨_, hexec, ?_, ?_, ?_, ?_⟩
  · rw [State.f_settle_behind _ _ _ (by decide), State.f_markCleared_valid]
  · rw [State.f_settle_behind _ _ _ (by decide), State.f_markCleared_dev]
  · rw [State.settle_per, State.marks_markCleared]
  · rw [State.settle_dram, State.dram_markCleared]

end

/-! ### The remap store (R350) -/

/-- The entry that the staging copy at place i of channel ch describes, with VALID. -/
def State.stagedEntry (s : State) (ch i : Nat) : Nat :=
  (s.chan ch).rmStage.get (2 * i) % 2 ^ 25 / 2 * 2 + 1 + (s.chan ch).rmStage.get (2 * i + 1) % 64 * 2 ^ 32

/-- Entry e is in force at place i of channel ch, and in the Logbook. -/
def State.entryKept (s : State) (ch i e : Nat) : State :=
  (((s.remapPut ch i e).setF R.DR_RMCMD_RESULT 0 ch).withEntry ch i e).recordCfg 7 (ch * 16 + i) [e % 2 ^ 32, e / 2 ^ 32]

section
variable (s : State) (ch i e : Nat)

theorem State.remap_remapPut : ((s.remapPut ch i e).chan ch).remap.get i = e := by
  unfold State.remapPut
  dsimp only
  rw [State.chan_modChan_same]
  exact Tab.getD_setD_same ..

theorem State.remapIn_free (hfree : (s.chan ch).remap.get i = 0) (hmeet : (s.chan ch).remap.any (fun (_, o) => entriesMeet o e) = false) :
    s.remapIn ch i e = s.entryKept ch i e :=
  if_neg (by rw [hmeet]; simp [hfree])

theorem State.remapIn_taken (htaken : (s.chan ch).remap.get i ≠ 0) :
    s.remapIn ch i e = (s.setF R.DR_RMCMD_RESULT 1 ch).raise R.DR_EVT_REMAP_FULL (e % 2 ^ 25) noP noP ch := if_pos (.inl htaken)

theorem State.f_entryKept_result : (s.entryKept ch i e).f R.DR_RMCMD_RESULT ch = 0 := by
  unfold State.entryKept
  rw [State.f_recordCfg_behind _ _ _ _ _ _ (by decide), State.f_withEntry, State.f_setF_same]
  rfl

theorem State.remap_entryKept : ((s.entryKept ch i e).chan ch).remap.get i = e := by
  unfold State.entryKept
  rw [State.chan, State.dram_recordCfg]
  exact State.remap_remapPut ..

theorem State.remaps_entryKept : (s.entryKept ch i e).per.remaps.get (ch * 16 + i) = e := by
  unfold State.entryKept
  rw [State.remaps_recordCfg, State.remaps_withEntry]

end

section
variable (p : Path) (ch e : Nat) (s : State) (hoff : s.mode ≠ .off) (hch : ch < 4)
include hoff hch

theorem exec_remapInstall (he : e = s.stagedEntry ch (s.idxF p R.DR_RMIDX_ENTRY ch)) : exec (.remapInstall p ch) s =
    if s.cstate ch ≠ 3 then
      .next ((s.drHold ⟨ch, 7, s.idxF p R.DR_RMIDX_ENTRY ch, e⟩).setF R.DR_RMCMD_RESULT 2 ch).settle
    else .next (s.remapIn ch (s.idxF p R.DR_RMIDX_ENTRY ch) e).settle := by
  show execRemapInstall p ch s = _
  unfold execRemapInstall
  rw [if_neg (by simp [State.up, hoff, hch]), he]
  rfl

theorem remapInstall_acts (hstate : s.cstate ch = 3) (he : e = s.stagedEntry ch (s.idxF p R.DR_RMIDX_ENTRY ch)) :
    ((s.chan ch).remap.get (s.idxF p R.DR_RMIDX_ENTRY ch) = 0 → (s.chan ch).remap.any (fun (_, o) => entriesMeet o e) = false →
      ∃ t, exec (.remapInstall p ch) s = .next t ∧ t.f R.DR_RMCMD_RESULT ch = 0 ∧
        (t.chan ch).remap.get (s.idxF p R.DR_RMIDX_ENTRY ch) = e ∧
        t.per.remaps.get (ch * 16 + s.idxF p R.DR_RMIDX_ENTRY ch) = e) ∧
    ((s.chan ch).remap.get (s.idxF p R.DR_RMIDX_ENTRY ch) ≠ 0 →
      ∃ t, exec (.remapInstall p ch) s = .next t ∧ t.f R.DR_RMCMD_RESULT ch = 1 ∧ t.f R.DR_EVT_REMAP_FULL ch = 1 ∧
        s.Only t [R.DR_RMCMD_RESULT.key ch 0, R.DR_EVT_REMAP_FULL.key ch 0]) := by
  rw [exec_remapInstall p ch e s hoff hch he, if_neg (not_not.mpr hstate)]
  generalize s.idxF p R.DR_RMIDX_ENTRY ch = i
  refine ⟨fun hfree hmeet => ⟨_, rfl, ?_⟩, fun htaken => ⟨_, rfl, ?_⟩⟩
  · rw [State.remapIn_free s ch i e hfree hmeet, State.chan_settle, State.settle_per, State.f_settle_behind _ _ _ (by decide)]
    exact ⟨State.f_entryKept_result .., State.remap_entryKept .., State.remaps_entryKept ..⟩
  · rw [State.remapIn_taken s ch i e htaken, State.f_settle_behind _ _ _ (by decide), State.f_settle_behind _ _ _ (by decide)]
    refine ⟨?_, State.f_raise_same .., State.only_settle (fun F j k hk => ?_) rfl⟩
    · rw [State.f_raise_apart _ _ (by decide), State.f_setF_same]
      rfl
    · obtain ⟨hresult, hevt⟩ := List.ne_and_not_mem_of_not_mem_cons hk
      rw [State.f_raise_other _ _ _ _ _ _ _ _ _ (List.ne_of_not_mem_cons hevt), State.f_setF_other _ _ _ _ _ _ _ _ hresult]

theorem remapInstall_waits (hstate : s.cstate ch ≠ 3) (he : e = s.stagedEntry ch (s.idxF p R.DR_RMIDX_ENTRY ch)) :
    ∃ t, exec (.remapInstall p ch) s = .next t ∧ t.f R.DR_RMCMD_RESULT ch = 2 ∧
      State.Only (s.drHold ⟨ch, 7, s.idxF p R.DR_RMIDX_ENTRY ch, e⟩) t [R.DR_RMCMD_RESULT.key ch 0] :=
  ⟨_, by rw [exec_remapInstall p ch e s hoff hch he, if_pos hstate],
   (State.f_settle_behind _ _ _ (by decide)).trans (State.f_setF_same ..), State.only_setF ..⟩

theorem exec_remapRemove (hstate : s.cstate ch = 3) :
    exec (.remapRemove p ch) s = .next (s.remapOut ch (s.idxF p R.DR_RMIDX_ENTRY ch)).settle := by
  show execRemapRemove p ch s = _
  unfold execRemapRemove
  rw [if_neg (by simp [State.up, hoff, hch])]
  exact if_neg (not_not.mpr hstate)

end

/-- The place i of channel ch is free, and so in the Logbook. -/
def State.entryFreed (s : State) (ch i : Nat) : State :=
  (((s.modChan ch fun x => { x with remap := x.remap.set i 0 }).setF R.DR_RMCMD_RESULT 0 ch).withEntry ch i 0).recordCfg 7 (ch * 16 + i)
    [0, 0]

theorem State.f_entryFreed_result (s : State) (ch i : Nat) : (s.entryFreed ch i).f R.DR_RMCMD_RESULT ch = 0 := by
  unfold State.entryFreed
  rw [State.f_recordCfg_behind _ _ _ _ _ _ (by decide), State.f_withEntry, State.f_setF_same]
  rfl

theorem State.remap_entryFreed (s : State) (ch i : Nat) : ((s.entryFreed ch i).chan ch).remap.get i = 0 := by
  unfold State.entryFreed
  rw [State.chan, State.dram_recordCfg]
  change ((s.modChan ch _).chan ch).remap.get i = 0
  rw [State.chan_modChan_same]
  exact Tab.getD_setD_same (s.chan ch).remap default i 0

/-- A removal ends with RESULT 0 and a free entry, whether or not there was one. -/
theorem State.remapOut_frees (s : State) (ch i : Nat) :
    (s.remapOut ch i).f R.DR_RMCMD_RESULT ch = 0 ∧ ((s.remapOut ch i).chan ch).remap.get i = 0 := by
  unfold State.remapOut
  extract_lets e u v
  by_cases he : e = 0
  · rw [if_pos he]
    exact ⟨State.f_setF_same .., he⟩
  · rw [if_neg he]
    exact ⟨State.f_entryFreed_result u ch i, State.remap_entryFreed u ch i⟩

theorem remapRemove_frees (p : Path) (ch : Nat) (s : State) (hoff : s.mode ≠ .off) (hch : ch < 4) (hstate : s.cstate ch = 3) :
    ∃ t, exec (.remapRemove p ch) s = .next t ∧ t.f R.DR_RMCMD_RESULT ch = 0 ∧
      (t.chan ch).remap.get (s.idxF p R.DR_RMIDX_ENTRY ch) = 0 := by
  refine ⟨_, exec_remapRemove p ch s hoff hch hstate, ?_⟩
  rw [State.chan_settle, State.f_settle_behind _ _ _ (by decide)]
  exact State.remapOut_frees ..

/-! ### TRAINING_RUN (R355) -/

theorem trainingRun_counts (ch q : Nat) (l : List Nat) (s : State) (hch : ch < 4) (hmode : s.mode = .discovery ∨ s.mode = .trial)
    (hclk : s.clk.stopped = false) (hstate : s.cstate ch ≠ 0) (hq : q < 80)
    (hseed : s.f R.DR_TRN_CTL_PATTERN ch = 2 ∨ s.f R.DR_TRN_WORD_WORD ch ≠ 0) :
    ∃ t, exec (.trainingRun ch l) s = .next t ∧ (t.chan ch).trnErr.get q = min ((l[q]?).getD 0) (2 ^ 32 - 1) ∧
      State.Only { s with dram := t.dram } t [] := by
  have hin : s.modeIn [.discovery, .trial] = true := by simpa [State.modeIn] using hmode
  have hexec : exec (.trainingRun ch l) s = .next (s.modChan ch fun x => { x with
      trnErr := (List.range 80).foldl (fun (t : Tab Nat) q => t.set q (min ((l[q]?).getD 0) (2 ^ 32 - 1))) [] }).settle := by
    show execTrainingRun ch l s = _
    unfold execTrainingRun
    rw [if_neg (by simp only [hin, hclk]; simp; omega), if_neg (by omega)]
    rfl
  refine ⟨_, hexec, ?_, State.only_dram rfl⟩
  rw [State.chan_settle, State.chan_modChan_same]
  exact Tab.get_fill (fun q => min ((l[q]?).getD 0) (2 ^ 32 - 1)) [] hq

/-! ### Training after a failure (R331) -/

/-- What each number of a repetition brings about, and no other number undoes, holds of them all at its end. -/
theorem State.each_brings {P : Nat → State → Prop} {f : State → Nat → State} {n : Nat} (hbrings : ∀ c < n, ∀ s, P c (f s c))
    (hkeeps : ∀ c d s, c ≠ d → P c s → P c (f s d)) (s : State) : ∀ c < n, P c (s.each n f) := by
  induction n with
  | zero => exact fun c hc => absurd hc c.not_lt_zero
  | succ n ih =>
    intro c hc
    have hstep : s.each (n + 1) f = f (s.each n f) n := by
      unfold State.each
      rw [List.range_succ, List.foldl_append]
      rfl
    rw [hstep]
    by_cases h : c = n
    · subst h
      exact hbrings c hc _
    · exact hkeeps c n _ h (ih (fun d hd => hbrings d (by omega)) c (by omega))

/-- The devices that failed on channel c. -/
def failedDevs (bad : List Nat) (c : Nat) : List Nat := (List.range 10).filter fun d => bit ((bad[c]?).getD 0) d

section
variable (s : State) {c d : Nat}

theorem State.nch_pos : 0 < s.nch := Nat.two_pow_pos _

theorem State.cstate_setF_same {v : Nat} (h : v < 8) : (s.setF R.DR_STS_CSTATE v c).cstate c = v :=
  (State.f_setF_same ..).trans (Nat.mod_eq_of_lt h)

theorem State.trainFail_setF_cstate (v : Nat) :
    (s.setF R.DR_STS_CSTATE v d).f R.DR_EVT_TRAIN_FAIL c = s.f R.DR_EVT_TRAIN_FAIL c := by
  refine State.f_setF_other _ _ _ _ _ _ _ _ ?_
  simp only [R.Fld.key, R.Reg.at, R.DR_STS_CSTATE, R.DR_STS, R.DR_EVT_TRAIN_FAIL, R.DR_EVT]
  omega

variable (h : c ≠ d)
include h

theorem State.cstate_setF_other (v : Nat) : (s.setF R.DR_STS_CSTATE v d).cstate c = s.cstate c := by
  refine State.f_setF_other _ _ _ _ _ _ _ _ ?_
  simp only [R.Fld.key, R.Reg.at, R.DR_STS_CSTATE, R.DR_STS]
  omega

theorem State.trainFail_raise_other (p1 p2 p3 : Nat) :
    (s.raise R.DR_EVT_TRAIN_FAIL p1 p2 p3 d).f R.DR_EVT_TRAIN_FAIL c = s.f R.DR_EVT_TRAIN_FAIL c := by
  refine State.f_raise_other _ _ _ _ _ _ _ _ _ ?_
  simp only [R.Fld.key, R.Reg.at, R.DR_EVT_TRAIN_FAIL, R.DR_EVT]
  omega

end

theorem State.cstate_raise_trainFail (s : State) (p1 p2 p3 c d : Nat) :
    (s.raise R.DR_EVT_TRAIN_FAIL p1 p2 p3 d).cstate c = s.cstate c :=
  State.f_raise_other _ _ _ _ _ _ _ _ _ (cstate_key_ne (by decide) c d)

/-- With at most one failed device in each channel, and the topology that the image names, every channel is Ready. -/
theorem State.dramTrain_ready (s : State) (bad : List Nat) {top : Bool} (htop : top = true)
    (hfew : ∀ c < s.nch, (failedDevs bad c).length < 2) :
    (s.dramTrain bad top).1 = true ∧ (s.dramTrain bad top).2.dram.patPos = 0 ∧
      ∀ c < s.nch, (s.dramTrain bad top).2.cstate c = 3 := by
  subst htop
  unfold State.dramTrain
  extract_lets count n fails ok u v w
  have hfails : ∀ c < n, fails c = false := by
    intro c hc
    have hcount : count c < 2 := hfew c hc
    simp only [fails, Bool.not_true, Bool.or_false, decide_eq_false_iff_not]
    omega
  have hok : ok = true := List.all_eq_true.mpr fun c hc => by rw [hfails c (List.mem_range.mp hc)]; rfl
  have htrained : ∀ c < n, u.cstate c = 3 := by
    refine State.each_brings (P := fun c t => t.cstate c = 3) (fun c hc t => ?_) (fun c d t hcd ht => ?_) s
    · have hset : (t.setF R.DR_STS_CSTATE 3 c).cstate c = 3 := t.cstate_setF_same (by omega)
      rw [hfails c hc, if_neg Bool.false_ne_true]
      split
      · exact State.keeps_ite (p := fun t => t.cstate c) hset (((lineFree_cstate c).markDev _ _ _ _).trans hset)
      · exact hset
    · have hset : ∀ v, (t.setF R.DR_STS_CSTATE v d).cstate c = 3 := fun v => (t.cstate_setF_other hcd v).trans ht
      refine State.keeps_ite (p := fun t => t.cstate c) ((State.cstate_raise_trainFail ..).trans (hset 6)) ?_
      split
      · exact State.keeps_ite (p := fun t => t.cstate c) (hset 3) (((lineFree_cstate c).markDev _ _ _ _).trans (hset 3))
      · exact hset 3
  have hrecorded : ∀ c, w.cstate c = v.cstate c := by
    intro c
    refine State.keeps_foldl (p := fun t => t.cstate c) (fun t d => ?_) _ v
    refine (State.keeps_foldl (p := fun t => t.cstate c) (fun a i => ?_) _ _).trans ?_
    · exact State.keeps_ite (p := fun t => t.cstate c) rfl ((lineFree_cstate c).remapPut ..)
    · exact State.keeps_ite (p := fun t => t.cstate c) rfl ((lineFree_cstate c).markDev ..)
  rw [if_neg (not_not.mpr hok)]
  refine ⟨rfl, rfl, fun c hc => ?_⟩
  change (w.setF R.DR_PATROL_LAPS 0).cstate c = 3
  have hlaps : (w.setF R.DR_PATROL_LAPS 0).cstate c = w.cstate c := State.f_setF_other _ _ _ _ _ _ _ _ (cstate_key_ne (by decide) c 0)
  rw [hlaps, hrecorded, (lineFree_cstate c).testBits u, htrained c hc]

/-- With another topology than the image names, every channel fails. -/
theorem State.dramTrain_fails (s : State) (bad : List Nat) {top : Bool} (htop : top = false) :
    (s.dramTrain bad top).1 = false ∧ (s.dramTrain bad top).2.dram = s.dram ∧
      ∀ c < s.nch, (s.dramTrain bad top).2.cstate c = 6 ∧ (s.dramTrain bad top).2.f R.DR_EVT_TRAIN_FAIL c = 1 := by
  subst htop
  unfold State.dramTrain
  extract_lets count n fails ok u v w
  have hfails : ∀ c, fails c = true := fun c => Bool.or_true _
  have hok : ok = false := List.all_eq_false.mpr ⟨0, List.mem_range.mpr s.nch_pos, by rw [hfails]; exact Bool.false_ne_true⟩
  have hfailed : ∀ c < n, u.cstate c = 6 ∧ u.f R.DR_EVT_TRAIN_FAIL c = 1 := by
    refine State.each_brings (P := fun c t => t.cstate c = 6 ∧ t.f R.DR_EVT_TRAIN_FAIL c = 1) (fun c _ t => ?_)
      (fun c d t hcd ht => ?_) s
    · rw [if_pos (hfails c)]
      exact ⟨(State.cstate_raise_trainFail ..).trans (State.cstate_setF_same _ (by omega)), State.f_raise_same ..⟩
    · rw [if_pos (hfails d), State.cstate_raise_trainFail, State.cstate_setF_other _ hcd, State.trainFail_raise_other _ hcd,
        State.trainFail_setF_cstate]
      exact ht
  have hdram : u.dram = s.dram := by
    refine State.keeps_foldl (p := State.dram) (fun t c => ?_) _ s
    rw [if_pos (hfails c)]
    rfl
  rw [if_pos (by rw [hok]; exact Bool.false_ne_true)]
  exact ⟨rfl, hdram, hfailed⟩

/-- Training has run again, and its outcome stands in the boot state. -/
def State.retrained (s : State) (f : TrainFound) : State :=
  { (s.dramTrain f.bad f.topologyOk).2 with boot.trainFail := !(s.dramTrain f.bad f.topologyOk).1 }

theorem State.trainFail_retrained (s : State) (f : TrainFound) :
    (s.retrained f).boot.trainFail = !(s.dramTrain f.bad f.topologyOk).1 := rfl

theorem State.dram_retrained (s : State) (f : TrainFound) : (s.retrained f).dram = (s.dramTrain f.bad f.topologyOk).2.dram := rfl

theorem State.f_retrained (s : State) (f : TrainFound) (F : R.Fld) (i k : Nat) :
    (s.retrained f).f F i k = (s.dramTrain f.bad f.topologyOk).2.f F i k := rfl

section
variable (f : TrainFound) (s : State) (hmode : s.mode = .discovery) (hfail : s.boot.trainFail = true) (hclk : s.clk.stopped = false)
include hmode hfail hclk

theorem exec_trainRetryTimer : exec (.trainRetryTimer f) s = .next (s.retrained f).settle :=
  if_neg (by simp [hmode, hfail, hclk])

theorem trainRetryTimer_ready (htop : f.topologyOk = true) (hfew : ∀ c, c < s.nch → (failedDevs f.bad c).length < 2) :
    ∃ t, exec (.trainRetryTimer f) s = .next t ∧ t.boot.trainFail = false ∧ t.dram.patPos = 0 ∧
      ∀ c, c < s.nch → t.cstate c = 3 := by
  obtain ⟨hok, hpatrol, hready⟩ := s.dramTrain_ready f.bad htop hfew
  refine ⟨_, exec_trainRetryTimer f s hmode hfail hclk, ?_⟩
  rw [State.settle_boot, State.settle_dram, State.trainFail_retrained, State.dram_retrained, hok]
  refine ⟨rfl, hpatrol, fun c hc => ?_⟩
  rw [State.cstate, State.f_settle_behind _ _ _ (by decide), State.f_retrained]
  exact hready c hc

theorem trainRetryTimer_fails (htop : f.topologyOk = false) :
    ∃ t, exec (.trainRetryTimer f) s = .next t ∧ t.boot.trainFail = true ∧ t.dram = s.dram ∧
      ∀ c, c < s.nch → t.cstate c = 6 ∧ t.f R.DR_EVT_TRAIN_FAIL c = 1 := by
  obtain ⟨hok, hdram, hfailed⟩ := s.dramTrain_fails f.bad htop
  refine ⟨_, exec_trainRetryTimer f s hmode hfail hclk, ?_⟩
  rw [State.settle_boot, State.settle_dram, State.trainFail_retrained, State.dram_retrained, hok]
  refine ⟨rfl, hdram, fun c hc => ?_⟩
  rw [State.cstate, State.f_settle_behind _ _ _ (by decide), State.f_settle_behind _ _ _ (by decide), State.f_retrained,
    State.f_retrained]
  exact hfailed c hc

end

/-- Settles O43: MARK that is taken and refused, CLEAR, an install and a removal of a remap entry, a training run, and training again. -/
theorem dramRepair : Obligations.DramRepair :=
  ⟨drMark_marks, drMark_refused, drClear_clears, remapInstall_acts, remapInstall_waits, remapRemove_frees, trainingRun_counts,
   fun f s hmode hfail hclk _ htop hfew => trainRetryTimer_ready f s hmode hfail hclk htop hfew,
   fun f s hmode hfail hclk _ htop => trainRetryTimer_fails f s hmode hfail hclk htop⟩

end Sys2Proof.Machine
end

section
/-! SUPPORT. A step of the block as a whole: the front command or one tick of the Time Base, and what is settled at its end (R369 to
R371, R459, R461). -/

namespace Sys2Proof.Machine

/-! ### The tick on the empty queue (R369 to R371) -/

section
variable {s : State}

theorem step_of_front {c : Instr} {r : List Instr} (h : s.pending = c :: r) : step s = exec c { s with pending := r } := by
  unfold step
  rw [h]

theorem step_of_idle (h : s.pending = []) : step s = .next s.tick := by
  unfold step
  rw [h]

/-- The advance of the Time Base on the Pacer in one transfer, with the fraction carried, in units of 2^-14 ticks. -/
def State.pacerSum (s : State) : Nat :=
  s.clk.frac + (if s.on R.CK_PACER_CALIBRATED then s.f R.CK_PACER_PACER_TPS * (64 - s.f R.CK_CFG_PACER_GUARD) else 2 * 16384 + 14336)

/-- The register fields of a tick on the Pacer. -/
def State.pacerTicked (s : State) : State :=
  ((s.setF R.CK_SEL_TB_PACER 1).setF R.CK_PACER_RUNNING 1).addF R.CK_PACER_SPAN_PACER_SPAN (s.pacerSum / 16384)

theorem State.tick_still (h : s.mode = .off ∨ s.clk.held = true) : s.tick = s := by
  unfold State.tick
  exact if_pos h

section
variable (hoff : s.mode ≠ .off) (hheld : s.clk.held = false)
include hoff hheld

theorem State.tick_pacer (h : s.on R.CK_SEL_TB_PACER = true ∨ s.f R.CK_SEL_SELECTED = 15) :
    s.tick = { s.pacerTicked with clk.tb := s.clk.tb + s.pacerSum / 16384, clk.frac := s.pacerSum % 16384 } := by
  unfold State.tick
  rw [if_neg (by simp [hoff, hheld]), if_pos h]
  rfl

variable (hpacer : s.on R.CK_SEL_TB_PACER = false) (hsel : s.f R.CK_SEL_SELECTED ≠ 15)
include hpacer hsel

theorem State.tick_lanePll (h : s.clk.stepHold = 0) : s.tick = { s with clk := { s.clk with tb := s.clk.tb + 1 } } := by
  unfold State.tick
  rw [if_neg (by simp [hoff, hheld]), if_neg (by simp [hpacer, hsel]), if_neg (by omega)]

theorem State.tick_stepHeld (h : 0 < s.clk.stepHold) :
    s.tick = { s with clk := { s.clk with stepHold := s.clk.stepHold - 1 } } := by
  unfold State.tick
  rw [if_neg (by simp [hoff, hheld]), if_neg (by simp [hpacer, hsel]), if_pos h]

end

/-- An uncalibrated Pacer advances by 2.875 ticks, which are 47,104 units of 2^-14 (R371). -/
theorem State.tick_uncalibrated (hoff : s.mode ≠ .off) (hheld : s.clk.held = false) (hsel : s.f R.CK_SEL_SELECTED = 15)
    (hcal : s.on R.CK_PACER_CALIBRATED = false) :
    s.tick.clk.tb * 16384 + s.tick.clk.frac = s.clk.tb * 16384 + s.clk.frac + 47104 ∧ s.tick.clk.frac < 16384 := by
  have hsum : s.pacerSum = s.clk.frac + 47104 := by
    unfold State.pacerSum
    rw [hcal]
    rfl
  rw [State.tick_pacer hoff hheld (.inr hsel), hsum]
  dsimp only
  omega

/-! ### What is settled stays so (R459, R461) -/

/-- No field that a tick writes is an event or an enable of one. -/
theorem State.tick_settled (h : s.Settled) : s.tick.Settled := by
  by_cases hstill : s.mode = .off ∨ s.clk.held = true
  · rwa [State.tick_still hstill]
  obtain ⟨hoff, hheld⟩ := not_or.mp hstill
  have hheld : s.clk.held = false := by simpa using hheld
  by_cases hpacer : s.on R.CK_SEL_TB_PACER = true ∨ s.f R.CK_SEL_SELECTED = 15
  · have hsum : s.pacerTicked.evtSum = s.evtSum :=
      (State.evtSum_setF _ _ _ _ _ (by decide)).trans
        ((State.evtSum_setF _ _ _ _ _ (by decide)).trans (State.evtSum_setF _ _ _ _ _ (by decide)))
    have hen : s.pacerTicked.f R.GL_EVT_EN_EN = s.f R.GL_EVT_EN_EN :=
      (State.f_addF_other _ _ _ _ _ _ _ _ (by decide)).trans
        ((State.f_setF_other _ _ _ _ _ _ _ _ (by decide)).trans (State.f_setF_other _ _ _ _ _ _ _ _ (by decide)))
    rw [State.tick_pacer hoff hheld hpacer]
    exact h.of_eq rfl rfl hsum hen
  · obtain ⟨hpll, hsel⟩ := not_or.mp hpacer
    have hpll : s.on R.CK_SEL_TB_PACER = false := by simpa using hpll
    by_cases hhold : 0 < s.clk.stepHold
    · rw [State.tick_stepHeld hoff hheld hpll hsel hhold]
      exact h.of_eq rfl rfl rfl rfl
    · rw [State.tick_lanePll hoff hheld hpll hsel (by omega)]
      exact h.of_eq rfl rfl rfl rfl

end

/-- Settles O2: a tick writes no event, and no command's answer leaves a settled state unsettled. -/
theorem stepKeepsSettled : Obligations.StepKeepsSettled := by
  intro s t hs hstep
  cases hp : s.pending with
  | nil =>
    rw [step_of_idle hp, Host.Outcome.next.injEq] at hstep
    exact hstep ▸ State.tick_settled hs
  | cons c r =>
    have hrest : State.Settled { s with pending := r } := hs.of_eq rfl rfl rfl rfl
    obtain ⟨u, hu, hkeeps⟩ := exec_answers c { s with pending := r }
    rw [step_of_front hp, hu, Host.Outcome.next.injEq] at hstep
    exact hstep ▸ hkeeps hrest

/-- Settles O1: at reset no register field is listed, so that no event bit is set, and nothing waits for the Event Log. -/
theorem resetIsSettled : Obligations.ResetIsSettled := by
  refine ⟨rfl, ?_⟩
  have hsum : State.reset.evtSum = 0 := rfl
  unfold State.alertRight
  rw [hsum, Nat.zero_and]
  rfl

/-- Settles O4: the queue's front is what a step looks at. -/
theorem stepRunsFrontCommand : Obligations.StepRunsFrontCommand := fun _ _ _ => step_of_front

/-- Settles O5: one tick on the lane PLL, one that a negative phase step holds, and one transfer of an uncalibrated Pacer. -/
theorem idleStepTicks : Obligations.IdleStepTicks := by
  refine ⟨?_, ?_, ?_⟩
  · intro s hp hoff hheld hpacer hsel hhold
    rw [step_of_idle hp, State.tick_lanePll hoff hheld hpacer hsel hhold]
  · intro s hp hoff hheld hpacer hsel hhold
    rw [step_of_idle hp, State.tick_stepHeld hoff hheld hpacer hsel hhold]
  · intro s hp hoff hheld hsel hcal
    exact ⟨_, step_of_idle hp, State.tick_uncalibrated hoff hheld hsel hcal⟩

end Sys2Proof.Machine
end

section
/-! SUPPORT. References and their switches (R362, R363, R365 to R368, R370), the Pacer's calibration and CSI (R359, R373, R377). -/

namespace Sys2Proof.Machine

/-! ### Bits and two's-complement fields -/

/-- A mask that is cut to a width keeps the bits of that width. -/
theorem bit_mod_of_lt (n : Nat) {w b : Nat} (h : b < w) : bit (n % 2 ^ w) b = bit n b := by
  simp [bit, Nat.testBit_mod_two_pow, h]

theorem toField_lt (w : Nat) (i : Int) : toField w i < 2 ^ w := by
  have hpos : (0 : Int) < 2 ^ w := by positivity
  have hlt := Int.emod_lt_of_pos i hpos
  have hnn := Int.emod_nonneg i hpos.ne'
  unfold toField
  zify
  rw [Int.toNat_of_nonneg hnn]
  exact hlt

/-- A field reads the integer that was put there at its width. -/
theorem State.f_setF_toField (s : State) (F : R.Fld) (x : Int) (i k : Nat) : (s.setF F (toField F.w x) i k).f F i k = toField F.w x :=
  (State.f_setF_same ..).trans (Nat.mod_eq_of_lt (toField_lt ..))

/-! ### CK_LIVE shows the live sources (R362) -/

/-- CK_LIVE.LIVE shows exactly the sources that are live. -/
def State.ShowsLive (s : State) : Prop := ∀ x < 10, bit (s.f R.CK_LIVE_LIVE) x = s.live x

theorem State.ShowsLive.of_eq {s t : State} (h : s.ShowsLive) (hlive : t.f R.CK_LIVE_LIVE = s.f R.CK_LIVE_LIVE)
    (hlink : ∀ l < 8, t.linkState l = s.linkState l) (hfired : t.f R.CK_LIVE_FIRED = s.f R.CK_LIVE_FIRED)
    (hsel : t.f R.CK_SEL_SELECTED = s.f R.CK_SEL_SELECTED) (hclk : t.clk = s.clk) : t.ShowsLive := fun x hx => by
  rw [hlive, State.live_congr hlink hfired hsel hclk]
  exact h x hx

theorem State.showsLive_liveUpdate (s : State) : s.liveUpdate.ShowsLive := fun x hx => by
  have hkey : ∀ l < 8, R.PT_LINK_STS_LSTATE.key (l / 4) (l % 4) ≠ R.CK_LIVE_LIVE.key 0 0 := by decide
  rw [State.bit_liveUpdate s hx]
  exact (State.live_congr (fun l hl => State.f_liveUpdate_other _ _ _ _ (hkey l hl))
    (State.f_liveUpdate_other _ _ _ _ (by decide)) (State.f_liveUpdate_other _ _ _ _ (by decide)) rfl x).symm

theorem State.ShowsLive.settle {s : State} (h : s.ShowsLive) : s.settle.ShowsLive :=
  h.of_eq (State.f_settle _ _ _ _ (by decide) (by decide)) (fun _ hl => State.linkState_settle _ hl)
    (State.f_settle _ _ _ _ (by decide) (by decide)) (State.f_settle _ _ _ _ (by decide) (by decide)) (State.settle_clk _)

/-- A change of the Discovery log is no matter of the sources. -/
theorem State.ShowsLive.discSyncOnce {s : State} (h : s.ShowsLive) (old : State) : (s.discSyncOnce old).ShowsLive := by
  have hfield : ∀ (F : R.Fld) (i k : Nat), F.key i k ≠ R.PT_DISC_CTL_LOG_GEN.key 0 0 → F.key i k ∉ bpKeys →
      (s.discSync old).f F i k = s.f F i k := fun F i k hgen hbp =>
    State.keeps_discSync (p := fun u => u.f F i k) (fun _ _ => State.f_setF_other _ _ _ _ _ _ _ _ hgen) (fun _ _ _ => rfl)
      (fun u c e => State.f_asyncEvent_other u c e F i k hbp) s old
  have hclk : (s.discSync old).clk = s.clk :=
    show (s.discSync old).bed.clk = s.bed.clk from congrArg State.clk (State.bed_discSync s old)
  unfold State.discSyncOnce
  split
  · exact h.of_eq (hfield _ _ _ (by decide) (by decide)) (fun l hl => State.f_discSync_other _ _ _ _ _ (linkState_key_free l hl))
      (hfield _ _ _ (by decide) (by decide)) (hfield _ _ _ (by decide) (by decide)) hclk
  · exact h

section
variable (s : State)

/-! ### Sentinels (R362) -/

/-- A Sentinel has fired, and its source is to qualify anew. -/
def State.sourceFired (n : Nat) : State :=
  { s.setF R.CK_LIVE_FIRED (setBit (s.f R.CK_LIVE_FIRED) n true) with clk.qual := setBit s.clk.qual n false }

/-- A fired Sentinel is cleared, and its source is to qualify anew. -/
def State.sourceCleared (n : Nat) : State :=
  { s.setF R.CK_LIVE_FIRED (setBit (s.f R.CK_LIVE_FIRED) n false) with clk.qual := setBit s.clk.qual n false }

variable {s} {n : Nat} (hoff : s.mode ≠ .off)
include hoff

theorem exec_edgeSentinelFire (hn : n < 10) :
    exec (.edgeSentinelFire n) s = .next ((s.sourceFired n).sourceStopped n).settle := by
  show execEdgeSentinelFire n s = _
  unfold execEdgeSentinelFire
  exact if_neg (by simp [hoff, hn])

theorem exec_edgeSentinelClear (hn : n < 10) : exec (.edgeSentinelClear n) s = .next (s.sourceCleared n).settle := by
  show execEdgeSentinelClear n s = _
  unfold execEdgeSentinelClear
  exact if_neg (by simp [hoff, hn])

theorem edgeSentinelFire_unselected (hn : n < 10) (hsel : s.f R.CK_SEL_SELECTED ≠ n) (hsome : s.f R.CK_SEL_SELECTED ≠ 15) :
    ∃ t, exec (.edgeSentinelFire n) s = .next t ∧ bit (t.f R.CK_LIVE_FIRED) n = true ∧ t.live n = false ∧
      State.Only { s with clk := t.clk } t [R.CK_LIVE_FIRED.key 0 0, R.CK_LIVE_LIVE.key 0 0] := by
  have hkept : (s.sourceFired n).f R.CK_SEL_SELECTED = s.f R.CK_SEL_SELECTED := State.f_setF_other _ _ _ _ _ _ _ _ (by decide)
  have hstop := State.sourceStopped_unselected (s := s.sourceFired n) (src := n) (hkept ▸ hsel) (hkept ▸ hsome)
  have hfired : bit (((s.sourceFired n).sourceStopped n).settle.f R.CK_LIVE_FIRED) n = true := by
    have hset : ((s.sourceFired n).sourceStopped n).f R.CK_LIVE_FIRED = setBit (s.f R.CK_LIVE_FIRED) n true % 2 ^ 10 := by
      rw [hstop]
      exact (State.f_liveUpdate_other _ _ _ _ (by decide)).trans (State.f_setF_same ..)
    rw [State.f_settle _ _ _ _ (by decide) (by decide), hset, bit_mod_of_lt _ hn]
    exact bit_setBit_true ..
  refine ⟨_, exec_edgeSentinelFire hoff hn, hfired, ?_, ?_⟩
  · unfold State.live
    rw [hfired]
    simp
  · rw [State.settle_clk, hstop]
    refine State.only_settle (fun F i k hk => ?_) rfl
    simp only [List.mem_cons, List.not_mem_nil, or_false, not_or] at hk
    obtain ⟨hf, hl⟩ := hk
    exact (State.f_liveUpdate_other _ _ _ _ hl).trans (State.f_setF_other _ _ _ _ _ _ _ _ hf)

theorem edgeSentinelClear_clears (hn : n < 10) :
    ∃ t, exec (.edgeSentinelClear n) s = .next t ∧
      t.f R.CK_LIVE_FIRED = setBit (s.f R.CK_LIVE_FIRED) n false % 2 ^ R.CK_LIVE_FIRED.w ∧
      State.Only { s with clk := { s.clk with qual := setBit s.clk.qual n false } } t [R.CK_LIVE_FIRED.key 0 0] := by
  refine ⟨_, exec_edgeSentinelClear hoff hn, ?_, State.only_settle (fun F i k hk => ?_) rfl⟩
  · exact (State.f_settle _ _ _ _ (by decide) (by decide)).trans (State.f_setF_same ..)
  · exact State.f_setF_other _ _ _ _ _ _ _ _ (List.ne_of_not_mem_cons hk)

/-! ### Sources that qualify, that are compared, that are ranked, and that lose the PLL (R363, R366, R368) -/

theorem sourceQualified_runs (hn : n < 10) (hfired : bit (s.f R.CK_LIVE_FIRED) n = false) :
    exec (.sourceQualified n) s =
      .next ({ s with clk.qual := setBit s.clk.qual n true } : State).liveUpdate.selectIfNone.liveUpdate.settle := by
  show execSourceQualified n s = _
  unfold execSourceQualified
  exact if_neg (by simp [hoff, hn, hfired])

theorem freqCheck_runs (l : List Int) (hsome : s.f R.CK_SEL_SELECTED ≠ 15) :
    exec (.freqCheck l) s =
      .next (((List.range 10).zip l).foldl (fun u (p : Nat × Int) => u.freqCheckOne p.1 p.2) s).liveUpdate.settle := by
  show execFreqCheck l s = _
  unfold execFreqCheck
  exact if_neg (by simp [hoff, hsome])

theorem ckPrioWrite_shows (hi : Bool) (v : Word) : ∃ t, exec (.ckPrioWrite hi v) s = .next t ∧ t.ShowsLive := by
  have h : ∃ u : State, exec (.ckPrioWrite hi v) s = .next u.liveUpdate.settle := by
    show ∃ u : State, execCkPrioWrite hi v s = _
    unfold execCkPrioWrite
    rw [if_neg hoff]
    exact ⟨_, rfl⟩
  obtain ⟨u, hu⟩ := h
  exact ⟨_, hu, u.showsLive_liveUpdate.settle⟩

theorem pllLockTimeout_shows {w : Switch} (hsw : s.clk.sw = some w) : ∃ t, exec .pllLockTimeout s = .next t ∧ t.ShowsLive := by
  have h : ∃ u : State, exec .pllLockTimeout s = .next ((u.liveUpdate.discSyncOnce s).settle) := by
    show ∃ u : State, execPllLockTimeout s = _
    unfold execPllLockTimeout
    rw [hsw]
    dsimp only
    rw [if_neg hoff]
    exact ⟨_, rfl⟩
  obtain ⟨u, hu⟩ := h
  exact ⟨_, hu, (u.showsLive_liveUpdate.discSyncOnce s).settle⟩

end

/-- Settles O11: after each event the live sources are looked at last, and a Sentinel's own mark stands with them. -/
theorem sourcesAndSentinels : Obligations.SourcesAndSentinels := by
  refine ⟨?_, ?_, ?_, ?_, ?_, ?_, ?_⟩
  · intro n s hoff hn
    exact ⟨_, exec_edgeSentinelFire hoff hn, (State.showsLive_liveUpdate _).settle⟩
  · exact fun n s hoff hn hsel hsome => edgeSentinelFire_unselected hoff hn hsel hsome
  · intro n s hoff hn hfired
    exact ⟨_, sourceQualified_runs hoff hn hfired, (State.showsLive_liveUpdate _).settle⟩
  · intro l s hoff hsome
    exact ⟨_, freqCheck_runs hoff l hsome, (State.showsLive_liveUpdate _).settle⟩
  · exact fun w s hoff hsw => pllLockTimeout_shows hoff hsw
  · exact fun hi v s hoff => ckPrioWrite_shows hoff hi v
  · exact fun n s hoff hn => edgeSentinelClear_clears hoff hn

end Sys2Proof.Machine
end

section
/-! SUPPORT. Planned switches of the reference and their end (R365 to R368, R370). -/

namespace Sys2Proof.Machine

/-! ### The best live source (R364) -/

/-- A fold that at each step keeps what it has or takes the element ends with what it began with or with an element. -/
theorem foldl_picks {α : Type} {f : Option α → α → Option α} (h : ∀ a x, f a x = a ∨ f a x = some x) (l : List α) (a : Option α)
    {b : α} (hb : l.foldl f a = some b) : a = some b ∨ b ∈ l := by
  induction l generalizing a with
  | nil => exact .inl hb
  | cons x r ih =>
    rcases ih _ hb with hx | hr
    · rcases h a x with ha | ha
      · exact .inl (ha ▸ hx)
      · rw [ha, Option.some.injEq] at hx
        exact .inr (hx ▸ List.mem_cons_self)
    · exact .inr (List.mem_cons_of_mem _ hr)

theorem State.bestSource_lt {s : State} {p : Nat → Bool} {b : Nat} (h : s.bestSource p = some b) : b < 10 := by
  unfold State.bestSource at h
  refine (foldl_picks (fun best src => ?_) _ _ h).elim (fun hnone => absurd hnone (by simp)) List.mem_range.mp
  split
  · split
    · split
      · exact .inr rfl
      · exact .inl rfl
    · exact .inr rfl
  · exact .inl rfl

/-! ### A switch begins (R367, R368) -/

section
variable {s : State} {b : Nat}

/-- What a planned switch to source b leaves at the end of its handshake. -/
theorem State.plannedSwitch_leaves (s : State) (hb : b < 10) :
    (s.plannedSwitch b).liveUpdate.settle.f R.CK_SEL_SELECTED = b ∧ (s.plannedSwitch b).liveUpdate.settle.f R.CK_SEL_HOLDOVER = 1 ∧
    (s.plannedSwitch b).liveUpdate.settle.clk =
      { s.clk with sw := some { kind := .planned, start := s.clk.tb, released := false, old := s.f R.CK_SEL_SELECTED } } ∧
    State.Only { s with clk := (s.plannedSwitch b).liveUpdate.settle.clk } (s.plannedSwitch b).liveUpdate.settle
      [R.CK_SEL_SELECTED.key 0 0, R.CK_SEL_HOLDOVER.key 0 0, R.CK_LIVE_LIVE.key 0 0] := by
  have hsel : (s.plannedSwitch b).f R.CK_SEL_SELECTED = b := by
    refine (State.f_setF_other _ _ _ _ _ _ _ _ (by decide)).trans ((State.f_setF_same ..).trans ?_)
    exact Nat.mod_eq_of_lt (hb.trans (by decide))
  have hhold : (s.plannedSwitch b).f R.CK_SEL_HOLDOVER = 1 := State.f_setF_same ..
  rw [State.f_settle _ _ _ _ (by decide) (by decide), State.f_settle _ _ _ _ (by decide) (by decide), State.settle_clk,
    State.f_liveUpdate_other _ _ _ _ (by decide), State.f_liveUpdate_other _ _ _ _ (by decide)]
  refine ⟨hsel, hhold, rfl, State.only_settle (fun F i k hk => ?_) rfl⟩
  simp only [List.mem_cons, List.not_mem_nil, or_false, not_or] at hk
  obtain ⟨hs, hh, hl⟩ := hk
  exact (State.f_liveUpdate_other _ _ _ _ hl).trans
    ((State.f_setF_other _ _ _ _ _ _ _ _ hh).trans (State.f_setF_other _ _ _ _ _ _ _ _ hs))

variable (hoff : s.mode ≠ .off) (hsome : s.f R.CK_SEL_SELECTED ≠ 15) (hsw : s.clk.sw = none)
  (hbest : s.bestSource (fun _ => true) = some b)
include hoff hsome hsw hbest

theorem exec_ckSwitch (hne : b ≠ s.f R.CK_SEL_SELECTED) : exec .ckSwitch s = .next (s.plannedSwitch b).liveUpdate.settle := by
  show execCkSwitch s = _
  unfold execCkSwitch State.ckSwitchWrite
  rw [if_neg hoff, hbest]
  dsimp only
  rw [if_neg (by simp [hsome, hsw]), if_pos hne]
  rfl

theorem exec_revertTimer (hrev : s.on R.CK_CFG_REVERT = true) (hprio : s.prio b < s.prio (s.f R.CK_SEL_SELECTED)) :
    exec .revertTimer s = .next (s.plannedSwitch b).liveUpdate.settle := by
  have hne : b ≠ s.f R.CK_SEL_SELECTED := by
    rintro rfl
    exact Nat.lt_irrefl _ hprio
  show execRevertTimer s = _
  unfold execRevertTimer
  rw [hbest]
  dsimp only
  rw [if_neg (by simp [hoff, hrev, hsome, hsw]), if_pos ⟨hne, .inl hprio⟩]
  rfl

end

theorem oldInputRelease_releases (w : Switch) (s : State) (hoff : s.mode ≠ .off) (hsw : s.clk.sw = some w) :
    ∃ t, exec .oldInputRelease s = .next t ∧
      State.Only { s with clk := { s.clk with sw := some { w with released := true } } } t [] := by
  refine ⟨_, ?_, State.only_settle (fun _ _ _ _ => rfl) rfl⟩
  show execOldInputRelease s = _
  unfold execOldInputRelease
  rw [hsw]
  exact if_neg hoff

/-! ### The end of a holdover, and the phase step (R366, R370) -/

section
variable {β : Type} {p : State → β}

/-- What the fields of a holdover leave as it is, its end leaves as it is. -/
theorem State.keeps_endHoldover
    (h : ∀ (u : State) (v : Nat), p (u.setF R.CK_SEL_HOLDOVER v) = p u ∧ p (u.setF R.CK_HOLD_LAST_HOLD v) = p u ∧
      p (u.setF R.CK_HOLD_MAX_HOLD v) = p u) (s : State) (start : Nat) : p (s.endHoldover start) = p s := by
  have hlast : p ((s.setF R.CK_SEL_HOLDOVER 0).putF R.CK_HOLD_LAST_HOLD ((s.clk.tb - start) / 150)) = p s :=
    (h _ _).2.1.trans (h _ _).1
  exact State.keeps_ite ((h _ _).2.2.trans hlast) hlast

theorem State.keeps_each {f : State → Nat → State} (h : ∀ u l, p (f u l) = p u) (n : Nat) (s : State) : p (s.each n f) = p s :=
  State.keeps_foldl h _ s

/-- What the lanes' slots and the clock leave as it is, a phase step shows with LAST_STEP set. -/
theorem State.keeps_phaseStep (hlane : ∀ (u : State) (l : Nat) (f : Lane → Lane), p (u.modLane l f) = p u)
    (hclk : ∀ (u : State) (k : Clk), p { u with clk := k } = p u) (s : State) (d : Int) :
    p (s.phaseStep d) = p (s.setF R.CK_STEP_LAST_STEP (toField 5 (max (-8) (min 8 d)))) :=
  State.keeps_ite ((hclk _ _).trans (State.keeps_each (fun u l => hlane u l _) 32 _)) (hclk _ _)

end

section
variable (s : State) (d : Int) (start : Nat)

theorem State.f_endHoldover_hold : (s.endHoldover start).f R.CK_SEL_HOLDOVER = 0 := by
  have hlast : ((s.setF R.CK_SEL_HOLDOVER 0).putF R.CK_HOLD_LAST_HOLD ((s.clk.tb - start) / 150)).f R.CK_SEL_HOLDOVER = 0 :=
    (State.f_setF_other _ _ _ _ _ _ _ _ (by decide)).trans (State.f_setF_same ..)
  exact State.keeps_ite (p := fun u => u.f R.CK_SEL_HOLDOVER) ((State.f_setF_other _ _ _ _ _ _ _ _ (by decide)).trans hlast) hlast

theorem State.f_phaseStep (F : R.Fld) (i k : Nat) :
    (s.phaseStep d).f F i k = (s.setF R.CK_STEP_LAST_STEP (toField 5 (max (-8) (min 8 d)))).f F i k :=
  State.keeps_phaseStep (p := fun u => u.f F i k) (fun _ _ _ => rfl) (fun _ _ => rfl) s d

theorem State.f_phaseStep_other (F : R.Fld) (i k : Nat) (h : F.key i k ≠ R.CK_STEP_LAST_STEP.key 0 0) :
    (s.phaseStep d).f F i k = s.f F i k := (State.f_phaseStep ..).trans (State.f_setF_other _ _ _ _ _ _ _ _ h)

theorem State.f_phaseStep_last : (s.phaseStep d).f R.CK_STEP_LAST_STEP = toField 5 (max (-8) (min 8 d)) :=
  (State.f_phaseStep ..).trans (State.f_setF_toField ..)

/-- The lanes' slots as a positive phase step to Stroke k leaves them (R301). -/
def State.lanesStepped (s : State) (st : Int) : State :=
  s.each 32 fun u l => u.modLane l fun x =>
    { x with stepStroke := if 0 < st then (s.clk.tb + st.toNat) / Config.stroke + 1 else x.stepStroke }

theorem State.lanesStepped_clk (st : Int) : (s.lanesStepped st).clk = s.clk := by
  refine State.keeps_each (p := State.clk) ?_ 32 s
  exact fun _ _ => rfl

theorem State.phaseStep_eq : s.phaseStep d =
    if 0 ≤ max (-8) (min 8 d) then
      { (s.setF R.CK_STEP_LAST_STEP (toField 5 (max (-8) (min 8 d)))).lanesStepped (max (-8) (min 8 d)) with
        clk.tb := ((s.setF R.CK_STEP_LAST_STEP (toField 5 (max (-8) (min 8 d)))).lanesStepped (max (-8) (min 8 d))).clk.tb +
          (max (-8) (min 8 d)).toNat }
    else { s.setF R.CK_STEP_LAST_STEP (toField 5 (max (-8) (min 8 d))) with
           clk.stepHold := s.clk.stepHold + (-max (-8) (min 8 d)).toNat } := rfl

/-- The count moves by the step, cut to −8 to +8 ticks: at once, or by the ticks that it is to stand. -/
theorem State.phaseStep_moves :
    ((s.phaseStep d).clk.tb : Int) - (s.phaseStep d).clk.stepHold = s.clk.tb - s.clk.stepHold + max (-8) (min 8 d) ∧
      (s.phaseStep d).clk.sw = s.clk.sw := by
  rw [State.phaseStep_eq]
  split
  · dsimp only
    rw [State.lanesStepped_clk, State.setF_clk]
    exact ⟨by omega, rfl⟩
  · dsimp only
    rw [State.setF_clk]
    exact ⟨by omega, rfl⟩

end

/-! ### A switch ends (R365) -/

/-- Every PLL is locked on the source that switch w brought. -/
def State.switched (s : State) (w : Switch) (d : Int) : State :=
  let u := ((({ s with clk.sw := none } : State).endHoldover w.start).phaseStep d).addF R.CK_STEP_SWITCHES
  u.raise R.CK_EVT_SWITCHED w.old (u.f R.CK_SEL_SELECTED) (u.f R.CK_STEP_LAST_STEP)

theorem exec_pllLocked {d : Int} {w : Switch} {s : State} (hoff : s.mode ≠ .off) (hsw : s.clk.sw = some w) (hrel : w.released = true)
    (hkind : w.kind = .planned ∨ w.kind = .unplanned) : exec (.pllLocked d) s = .next (s.switched w d).settle := by
  show execPllLocked d s = _
  unfold execPllLocked
  rw [hsw]
  dsimp only
  rw [if_neg (by simp [hoff, hrel])]
  rcases hkind with h | h <;> rw [h] <;> rfl

theorem pllLocked_ends (d : Int) (w : Switch) (s : State) (hoff : s.mode ≠ .off) (hsw : s.clk.sw = some w) (hrel : w.released = true)
    (hkind : w.kind = .planned ∨ w.kind = .unplanned) :
    ∃ t, exec (.pllLocked d) s = .next t ∧ t.clk.sw = none ∧ t.f R.CK_SEL_HOLDOVER = 0 ∧ t.f R.CK_EVT_SWITCHED = 1 ∧
      t.f R.CK_STEP_SWITCHES = satAdd R.CK_STEP_SWITCHES.w (s.f R.CK_STEP_SWITCHES) 1 ∧
      t.f R.CK_STEP_LAST_STEP = toField 5 (max (-8) (min 8 d)) ∧
      (t.clk.tb : Int) - t.clk.stepHold = s.clk.tb - s.clk.stepHold + max (-8) (min 8 d) ∧ t.media = s.media ∧ t.cmds = s.cmds := by
  set u := ({ s with clk.sw := none } : State).endHoldover w.start
  have hclk : u.clk = { s.clk with sw := none } := State.keeps_endHoldover (p := State.clk) (fun _ _ => ⟨rfl, rfl, rfl⟩) _ _
  have hcount : u.f R.CK_STEP_SWITCHES = s.f R.CK_STEP_SWITCHES :=
    State.keeps_endHoldover (p := fun v => v.f R.CK_STEP_SWITCHES) (fun _ _ =>
      ⟨State.f_setF_other _ _ _ _ _ _ _ _ (by decide), State.f_setF_other _ _ _ _ _ _ _ _ (by decide),
        State.f_setF_other _ _ _ _ _ _ _ _ (by decide)⟩) _ _
  obtain ⟨hmoves, hsame⟩ := u.phaseStep_moves d
  rw [hclk] at hmoves hsame
  have hside : ((u.phaseStep d).media, (u.phaseStep d).cmds) = (s.media, s.cmds) :=
    (State.keeps_phaseStep (p := fun v => (v.media, v.cmds)) (fun _ _ _ => rfl) (fun _ _ => rfl) u d).trans
      (State.keeps_endHoldover (p := fun v => (v.media, v.cmds)) (fun _ _ => ⟨rfl, rfl, rfl⟩) _ _)
  obtain ⟨hmedia, hcmds⟩ := Prod.mk.inj hside
  refine ⟨_, exec_pllLocked hoff hsw hrel hkind, ?_⟩
  rw [State.settle_clk, State.settle_media, State.settle_cmds]
  have hfield : ∀ F : R.Fld, R.GL_EVT_LOG_WRAP.key 0 0 < F.key 0 0 ∧ R.GL_SB_STS_ALERTS.key 0 0 < F.key 0 0 →
      F.key 0 0 ≠ R.CK_EVT_SWITCHED.key 0 0 → (s.switched w d).settle.f F = ((u.phaseStep d).addF R.CK_STEP_SWITCHES).f F :=
    fun F hb he => (State.f_settle_behind _ 0 0 hb).trans (State.f_raise_other _ _ _ _ _ _ _ _ _ he)
  refine ⟨hsame, ?_, ?_, ?_, ?_, hmoves, hmedia, hcmds⟩
  · rw [hfield _ (by decide) (by decide), State.f_addF_other _ _ _ _ _ _ _ _ (by decide), State.f_phaseStep_other _ _ _ _ _ (by decide)]
    exact State.f_endHoldover_hold ..
  · exact (State.f_settle_behind _ 0 0 (by decide)).trans (State.f_raise_same ..)
  · rw [hfield _ (by decide) (by decide), State.f_addF_same, State.f_phaseStep_other _ _ _ _ _ (by decide), hcount]
    exact Nat.mod_eq_of_lt (satAdd_lt ..)
  · rw [hfield _ (by decide) (by decide), State.f_addF_other _ _ _ _ _ _ _ _ (by decide)]
    exact State.f_phaseStep_last ..

/-- Settles O12: SWITCH, the revert timer, the release of the old input, and the end of a switch. -/
theorem referenceSwitch : Obligations.ReferenceSwitch := by
  refine ⟨?_, ?_, oldInputRelease_releases, pllLocked_ends⟩
  · intro b s hoff hsome hsw hbest hne
    exact ⟨_, exec_ckSwitch hoff hsome hsw hbest hne, s.plannedSwitch_leaves (State.bestSource_lt hbest)⟩
  · intro b s hoff hrev hsome hsw hbest hprio
    exact ⟨_, exec_revertTimer hoff hsome hsw hbest hrev hprio, s.plannedSwitch_leaves (State.bestSource_lt hbest)⟩

end Sys2Proof.Machine
end

section
/-! SUPPORT. The Pacer's calibration, CSI, and the end of the Becalmed flush (R359, R373, R377). -/

namespace Sys2Proof.Machine

/-- Calibration is over with n transfers in 16,384 ticks, and CSI and the hottest sensor are kept with it. -/
def State.tpsSet (s : State) (n : Nat) : State :=
  let u : State := { s with clk.calActive := false, clk.calCsi := s.f R.CK_CSI_CSI, clk.calHot := ofField 16 (s.f R.TH_SUM_HOT) }
  (u.putF R.CK_PACER_PACER_TPS (16384 * 256 / n)).setF R.CK_PACER_CALIBRATED 1

/-- After its calibration the Pacer stops. -/
def State.calibrated (s : State) (n : Nat) : State := (s.tpsSet n).setF R.CK_PACER_RUNNING 0

/-- CSI is measured. -/
def State.csiShown (s : State) (c : Nat) : State := (s.putF R.CK_CSI_CSI c).setF R.CK_CSI_CSI_STALE 0

/-- CSI is measured, and its fall below CSI_WARN is an event. -/
def State.csiMeasured (s : State) (c : Nat) : State :=
  let u := s.csiShown c
  if u.f R.CK_CSI_CSI < u.f R.CK_CSI_CSI_WARN ∧ u.f R.CK_CSI_CSI_WARN ≤ s.f R.CK_CSI_CSI then u.raiseLimited 1 R.CK_EVT_CSI_LOW else u

section
variable {s : State} (hoff : s.mode ≠ .off)
include hoff

section
variable (hsome : s.f R.CK_SEL_SELECTED ≠ 15)
include hsome

theorem pacerCalStart_runs (hcal : s.clk.calActive = false) :
    ∃ t, exec .pacerCalStart s = .next t ∧ t.f R.CK_PACER_RUNNING = 1 ∧
      State.Only { s with clk := { s.clk with calActive := true } } t [R.CK_PACER_RUNNING.key 0 0] := by
  refine ⟨s.calStart.settle, ?_, ?_, State.only_setF { s with clk := { s.clk with calActive := true } } _ 1 0 0⟩
  · show execPacerCalStart s = _
    unfold execPacerCalStart
    exact if_neg (by simp [hoff, hsome, hcal])
  · exact (State.f_settle_behind _ 0 0 (by decide)).trans (State.f_setF_same ..)

theorem exec_pacerCalDone {n : Nat} (hcal : s.clk.calActive = true) (hn : 0 < n) (hres : s.clk.resuming = false) :
    exec (.pacerCalDone n) s = .next (s.calibrated n).settle := by
  have hkept : (s.tpsSet n).f R.CK_SEL_SELECTED = s.f R.CK_SEL_SELECTED :=
    (State.f_setF_other _ _ _ _ _ _ _ _ (by decide)).trans (State.f_setF_other _ _ _ _ _ _ _ _ (by decide))
  have hend : (if (s.tpsSet n).f R.CK_SEL_SELECTED = 15 then s.tpsSet n else s.calibrated n) = s.calibrated n :=
    if_neg (hkept ▸ hsome)
  have hrun : ∀ u : State, (if (s.tpsSet n).f R.CK_SEL_SELECTED = 15 then s.tpsSet n else s.calibrated n) = u →
      execPacerCalDone n s = done (if u.clk.resuming then u.becalmedLeave else u) := by
    rintro _ rfl
    exact if_neg (by simp [hoff, hcal, Nat.ne_of_gt hn])
  refine (hrun _ hend).trans (congrArg done (if_neg ?_))
  show ¬ s.clk.resuming = true
  simp [hres]

theorem pacerCalDone_sets {n : Nat} (hcal : s.clk.calActive = true) (hn : 0 < n) (hres : s.clk.resuming = false) :
    ∃ t, exec (.pacerCalDone n) s = .next t ∧
      t.f R.CK_PACER_PACER_TPS = min (16384 * 256 / n) (2 ^ R.CK_PACER_PACER_TPS.w - 1) ∧ t.f R.CK_PACER_CALIBRATED = 1 ∧
      t.f R.CK_PACER_RUNNING = 0 ∧ t.clk.calActive = false ∧
      State.Only { s with clk := t.clk } t
        [R.CK_PACER_PACER_TPS.key 0 0, R.CK_PACER_CALIBRATED.key 0 0, R.CK_PACER_RUNNING.key 0 0] := by
  refine ⟨_, exec_pacerCalDone hoff hsome hcal hn hres, ?_, ?_, ?_, ?_, ?_⟩
  · rw [State.f_settle_behind _ 0 0 (by decide)]
    refine (State.f_setF_other _ _ _ _ _ _ _ _ (by decide)).trans ((State.f_setF_other _ _ _ _ _ _ _ _ (by decide)).trans ?_)
    exact State.f_putF_same ..
  · rw [State.f_settle_behind _ 0 0 (by decide)]
    exact (State.f_setF_other _ _ _ _ _ _ _ _ (by decide)).trans (State.f_setF_same ..)
  · rw [State.f_settle_behind _ 0 0 (by decide)]
    exact State.f_setF_same ..
  · rw [State.settle_clk]
    rfl
  · rw [State.settle_clk]
    refine State.only_settle (fun F i k hk => ?_) rfl
    simp only [List.mem_cons, List.not_mem_nil, or_false, not_or] at hk
    obtain ⟨htps, hdone, hrun⟩ := hk
    exact (State.f_setF_other _ _ _ _ _ _ _ _ hrun).trans
      ((State.f_setF_other _ _ _ _ _ _ _ _ hdone).trans (State.f_setF_other _ _ _ _ _ _ _ _ htps))

theorem exec_csiMeasure (c : Nat) : exec (.csiMeasure c) s = .next (s.csiMeasured c).settle := by
  show execCsiMeasure c s = _
  unfold execCsiMeasure
  exact if_neg (by simp [hoff, hsome])

end

end

section
variable (s : State) (c : Nat)

theorem State.f_csiMeasured_other (F : R.Fld) (i k : Nat) (h : F.key i k ≠ R.CK_EVT_CSI_LOW.key 0 0) :
    (s.csiMeasured c).f F i k = (s.csiShown c).f F i k :=
  State.keeps_ite (p := fun u => u.f F i k) (State.f_raiseLimited_other _ _ _ _ _ _ _ _ _ _ h) rfl

/-- A rate-limited event changes its field, its mark of time, and what waits for the Event Log. -/
theorem State.raiseLimited_eq (key : Nat) (F : R.Fld) (p1 p2 p3 i : Nat) : s.raiseLimited key F p1 p2 p3 i =
    { s with
      fields := (s.raiseLimited key F p1 p2 p3 i).fields,
      ctl := { s.ctl with evq := (s.raiseLimited key F p1 p2 p3 i).ctl.evq, rate := (s.raiseLimited key F p1 p2 p3 i).ctl.rate } } := by
  unfold State.raiseLimited
  dsimp only
  split <;> rfl

theorem State.csiMeasured_eq : s.csiMeasured c =
    { s with
      fields := (s.csiMeasured c).fields,
      ctl := { s.ctl with evq := (s.csiMeasured c).ctl.evq, rate := (s.csiMeasured c).ctl.rate } } := by
  unfold State.csiMeasured
  dsimp only
  split
  · exact State.raiseLimited_eq (s.csiShown c) ..
  · rfl

end

theorem csiMeasure_shows (c : Nat) (s : State) (hoff : s.mode ≠ .off) (hsome : s.f R.CK_SEL_SELECTED ≠ 15) :
    ∃ t, exec (.csiMeasure c) s = .next t ∧ t.f R.CK_CSI_CSI = min c (2 ^ R.CK_CSI_CSI.w - 1) ∧ t.f R.CK_CSI_CSI_STALE = 0 ∧
      State.Only { s with ctl := { s.ctl with rate := t.ctl.rate } } t
        [R.CK_CSI_CSI.key 0 0, R.CK_CSI_CSI_STALE.key 0 0, R.CK_EVT_CSI_LOW.key 0 0] := by
  refine ⟨_, exec_csiMeasure hoff hsome c, ?_, ?_, ?_⟩
  · rw [State.f_settle_behind _ 0 0 (by decide), State.f_csiMeasured_other _ _ _ _ _ (by decide)]
    exact (State.f_setF_other _ _ _ _ _ _ _ _ (by decide)).trans (State.f_putF_same ..)
  · rw [State.f_settle_behind _ 0 0 (by decide), State.f_csiMeasured_other _ _ _ _ _ (by decide)]
    exact State.f_setF_same ..
  · rw [State.settle_rate]
    refine State.only_settle (fun F i k hk => ?_) (State.csiMeasured_eq s c)
    simp only [List.mem_cons, List.not_mem_nil, or_false, not_or] at hk
    obtain ⟨hcsi, hstale, hlow⟩ := hk
    rw [State.f_csiMeasured_other _ _ _ _ _ hlow]
    exact (State.f_setF_other _ _ _ _ _ _ _ _ hstale).trans (State.f_setF_other _ _ _ _ _ _ _ _ hcsi)

theorem becalmedFlushDone_ends (us : Nat) (s : State) (hbec : s.mode = .becalmed) (hdone : s.clk.becDone = false) :
    ∃ u : State, exec (.becalmedFlushDone us) s = .next u.selectIfNone.settle ∧ u.clk.becDone = true ∧ u.f R.CK_PACER_LANES = 0 := by
  refine ⟨({ s.flushRows 8 with clk.becDone := true } : State).setF R.CK_PACER_LANES 0, ?_, rfl, State.f_setF_same ..⟩
  show execBecalmedFlushDone us s = _
  unfold execBecalmedFlushDone
  exact if_neg (by simp [hbec, hdone])

/-- Settles O13: a calibration that starts, one that ends, a measurement of CSI, and the end of the Becalmed flush. -/
theorem pacerCalibration : Obligations.PacerCalibration :=
  ⟨fun _ hoff hsome hcal => pacerCalStart_runs hoff hsome hcal,
   fun _ _ hoff hcal hn hres hsome => pacerCalDone_sets hoff hsome hcal hn hres, csiMeasure_shows, becalmedFlushDone_ends⟩

end Sys2Proof.Machine
end

section
/-! SUPPORT. Firmware commands under the recovery monitor while no reference is selected (R376, R425). -/

namespace Sys2Proof.Machine

/-- With the work of the monitor stopped for lack of a reference, a firmware command to it waits (R376). -/
theorem State.monFw_stopped {s : State} (h : s.clk.stopped = true) (r : Nat × State) : s.monFw r = .next s :=
  if_neg fun ⟨_, _, hrun⟩ => hrun h

/-- Sealed under the recovery monitor, with its work stopped for lack of a reference. -/
def monitorStopped : State := { ctl := { mode := .sealed }, boot := { monitor := true }, clk := { stopped := true } }

/-- Refutes O33: in Sealed under the monitor, with no reference selected (`monitorStopped`), a first piece of four bytes at offset 0
meets every hypothesis of the third clause; its NOR access waits (R376), so that the piece is not taken and FWLEN stays 0, where the
statement has it at 4. -/
theorem not_firmwareSecuritySanitize : ¬ Obligations.FirmwareSecuritySanitize := by
  rintro ⟨-, -, hpiece, -⟩
  obtain ⟨t, hexec, hlen, -⟩ := hpiece 0 {} monitorStopped rfl rfl rfl rfl (by decide)
  have hwaits : exec (.firmwareImageDownload 0 (some {})) monitorStopped = .next monitorStopped :=
    State.monFw_stopped (s := monitorStopped) rfl (monitorStopped.fwPiece 4 0)
  have hsame : monitorStopped = t := Host.Outcome.next.inj (hwaits.symm.trans hexec)
  rw [← hsame] at hlen
  exact absurd hlen (by decide)

end Sys2Proof.Machine
end

section
/-! SUPPORT. The SPDM responder (R429): requests that the negotiation has reached and those too early, their answers, and what one
transport leaves of the others. -/

namespace Sys2Proof.Machine

section
variable {s : State} {v : SpdmVia} {m : Nat} {k : State → State}

/-! ### When a request acts -/

theorem State.spdmAt_unserved (h : s.spdmServed v = false) : s.spdmAt v m k = .next s := if_pos (by simp [h])

theorem State.spdmAt_early (hv : s.spdmServed v = true) (hm : (s.boot.spdm.get (viaKey v)).phase < m) :
    s.spdmAt v m k = done (s.spdmError v 4) := by
  unfold State.spdmAt
  rw [if_neg (by simp [hv]), if_pos hm]

theorem State.spdmAt_reached (hv : s.spdmServed v = true) (hm : m ≤ (s.boot.spdm.get (viaKey v)).phase) :
    s.spdmAt v m k = done (k s) := by
  unfold State.spdmAt
  rw [if_neg (by simp [hv]), if_neg (by omega)]

end

/-! ### What an answer sends and stores -/

section
variable (s : State) (v : SpdmVia) (args data : List Nat) (upd : Spdm → Spdm)

theorem State.spdmAnswer_spdm : (s.spdmAnswer v args data upd).boot.spdm = s.boot.spdm.mod (viaKey v) upd := by
  cases v <;> rfl

theorem State.spdmAnswer_same : (s.spdmAnswer v args data upd).boot.spdm.get (viaKey v) = upd (s.boot.spdm.get (viaKey v)) := by
  rw [State.spdmAnswer_spdm]
  exact Tab.getD_setD_same ..

/-- An answer changes the responder state of its own transport only. -/
theorem State.spdmAnswer_other {j : Nat} (h : j ≠ viaKey v) : (s.spdmAnswer v args data upd).boot.spdm.get j = s.boot.spdm.get j := by
  rw [State.spdmAnswer_spdm]
  exact Tab.getD_setD_other _ _ _ _ _ _ h

theorem State.sent_spdmAnswer : (s.spdmAnswer v args data upd).Sent .spdmResp (viaKey v) args data := State.sent_send ..

theorem State.msgs_spdmAnswer : s.msgs ⊆ (s.spdmAnswer v args data upd).msgs := by
  have hsend : ∀ u : State, u.msgs ⊆ (u.send .spdmResp (viaKey v) args data).msgs := fun u => State.msgs_send ..
  cases v with
  | mctp => exact hsend { s with boot.spdm := s.boot.spdm.mod 0 upd }
  | ctrl c => exact hsend (State.modCtrl { s with boot.spdm := s.boot.spdm.mod (c + 1) upd } c _)

/-- A request that ends in an answer: its response goes out, and the responder state is as `upd` makes it. -/
theorem State.spdm_answered {o : Host.Outcome State Fault Refusal} (h : o = done (s.spdmAnswer v args data upd)) :
    ∃ t, o = .next t ∧ t.Sent .spdmResp (viaKey v) args data ∧ t.boot.spdm.get (viaKey v) = upd (s.boot.spdm.get (viaKey v)) := by
  refine ⟨_, h, (State.sent_spdmAnswer ..).settle, ?_⟩
  rw [State.settle_boot]
  exact State.spdmAnswer_same ..

theorem State.spdm_refused {o : Host.Outcome State Fault Refusal} {code : Nat} (h : o = done (s.spdmError v code)) :
    ∃ t, o = .next t ∧ t.Sent .spdmResp (viaKey v) [0x7F, code] [] :=
  ⟨_, h, (State.sent_spdmAnswer ..).settle⟩

end

/-! ### Version, capabilities and algorithms -/

section
variable {s : State} {v : SpdmVia} (hv : s.spdmServed v = true)
include hv

theorem spdmGetVersion_answers : ∃ t, execSpdmGetVersion v s = .next t ∧ t.Sent .spdmResp (viaKey v) [4] [0x1300] ∧
    t.boot.spdm.get (viaKey v) = { phase := 1 } :=
  State.spdm_answered s v _ _ (fun _ => { phase := 1 }) (State.spdmAt_reached hv (Nat.zero_le _))

theorem spdmGetCapabilities_answers (hp : 1 ≤ (s.boot.spdm.get (viaKey v)).phase) :
    ∃ t, execSpdmGetCapabilities v s = .next t ∧ t.Sent .spdmResp (viaKey v) [0x61] [0x20016] ∧
      2 ≤ (t.boot.spdm.get (viaKey v)).phase := by
  obtain ⟨t, ht, hsent, hst⟩ := State.spdm_answered s v _ _ (fun p => { p with phase := max p.phase 2, signed := false })
    (State.spdmAt_reached hv hp : execSpdmGetCapabilities v s = _)
  refine ⟨t, ht, hsent, ?_⟩
  rw [hst]
  exact Nat.le_max_right _ _

end

section
variable {s : State} {v : SpdmVia} (hv : s.spdmServed v = true) (hp : 2 ≤ (s.boot.spdm.get (viaKey v)).phase)
include hv hp

theorem spdmNegotiateAlgorithms_agrees {a h : Nat} (ha : bit a 3 = true) (hh : bit h 1 = true) :
    ∃ t, execSpdmNegotiateAlgorithms v a h s = .next t ∧ t.Sent .spdmResp (viaKey v) [0x63] [8, 2] ∧
      (t.boot.spdm.get (viaKey v)).phase = 3 := by
  have hexec : execSpdmNegotiateAlgorithms v a h s =
      done (s.spdmAnswer v [0x63] [8, 2] fun p => { p with phase := 3, signed := false }) :=
    (State.spdmAt_reached hv hp).trans (congrArg done (if_pos ⟨ha, hh⟩))
  obtain ⟨t, ht, hsent, hst⟩ := State.spdm_answered _ _ _ _ _ hexec
  exact ⟨t, ht, hsent, by rw [hst]⟩

theorem spdmNegotiateAlgorithms_refuses {a h : Nat} (hah : bit a 3 = false ∨ bit h 1 = false) :
    ∃ t, execSpdmNegotiateAlgorithms v a h s = .next t ∧ t.Sent .spdmResp (viaKey v) [0x7F, 1] [] := by
  refine State.spdm_refused s v ((State.spdmAt_reached hv hp).trans (congrArg done (if_neg ?_)))
  rcases hah with h | h <;> simp [h]

/-! ### Chunks of large requests and responses -/

theorem spdmChunkSend_next (d : List Nat) {n : Nat} (hn : n = (s.boot.spdm.get (viaKey v)).chunkSeq) :
    ∃ t, execSpdmChunkSend v n false d s = .next t ∧ t.Sent .spdmResp (viaKey v) [5, n] [] ∧
      (t.boot.spdm.get (viaKey v)).chunkSeq = n + 1 ∧
      (t.boot.spdm.get (viaKey v)).chunkIn = (s.boot.spdm.get (viaKey v)).chunkIn ++ d := by
  have hexec : execSpdmChunkSend v n false d s =
      done (s.spdmAnswer v [5, n] [] fun p => { p with chunkSeq := n + 1, chunkIn := p.chunkIn ++ d, signed := false }) :=
    (State.spdmAt_reached hv hp).trans (congrArg done ((if_neg (by simp [hn])).trans (if_neg (by simp))))
  obtain ⟨t, ht, hsent, hst⟩ := State.spdm_answered _ _ _ _ _ hexec
  exact ⟨t, ht, hsent, by rw [hst], by rw [hst]⟩

theorem spdmChunkSend_last (d : List Nat) {n : Nat} (hn : n = (s.boot.spdm.get (viaKey v)).chunkSeq) :
    ∃ t, execSpdmChunkSend v n true d s = .next t ∧ t.Sent .spdmResp (viaKey v) [5, n] [] ∧
      (t.boot.spdm.get (viaKey v)).chunkSeq = 0 ∧ (t.boot.spdm.get (viaKey v)).chunkIn = [] := by
  have hexec : execSpdmChunkSend v n true d s =
      done (s.spdmAnswer v [5, n] [] fun p => { p with chunkSeq := 0, chunkIn := [], signed := false }) :=
    (State.spdmAt_reached hv hp).trans (congrArg done ((if_neg (by simp [hn])).trans (if_pos rfl)))
  obtain ⟨t, ht, hsent, hst⟩ := State.spdm_answered _ _ _ _ _ hexec
  exact ⟨t, ht, hsent, by rw [hst], by rw [hst]⟩

/-- A chunk out of order is an error, and the request is dropped. -/
theorem spdmChunkSend_misplaced (x : Bool) (d : List Nat) {n : Nat} (hn : n ≠ (s.boot.spdm.get (viaKey v)).chunkSeq) :
    ∃ t, execSpdmChunkSend v n x d s = .next t ∧ t.Sent .spdmResp (viaKey v) [0x7F, 1] [] ∧
      (t.boot.spdm.get (viaKey v)).chunkSeq = 0 ∧ (t.boot.spdm.get (viaKey v)).chunkIn = [] := by
  have hexec : execSpdmChunkSend v n x d s =
      done ((s.spdmError v 1).spdmAnswer v [5, n] [] fun p => { p with chunkSeq := 0, chunkIn := [] }) :=
    (State.spdmAt_reached hv hp).trans (congrArg done (if_pos hn))
  have herr : (s.spdmError v 1).Sent .spdmResp (viaKey v) [0x7F, 1] [] := State.sent_spdmAnswer ..
  refine ⟨_, hexec, (herr.mono (State.msgs_spdmAnswer ..)).settle, ?_⟩
  rw [State.settle_boot, State.spdmAnswer_same]
  exact ⟨rfl, rfl⟩

theorem spdmChunkGet_none (n : Nat) (hout : (s.boot.spdm.get (viaKey v)).chunkOut = []) :
    ∃ t, execSpdmChunkGet v n s = .next t ∧ t.Sent .spdmResp (viaKey v) [0x7F, 4] [] := by
  refine State.spdm_refused s v ((State.spdmAt_reached hv hp).trans ?_)
  rw [hout]

theorem spdmChunkGet_next (n : Nat) {d : Nat} {r : List Nat} (hout : (s.boot.spdm.get (viaKey v)).chunkOut = d :: r) :
    ∃ t, execSpdmChunkGet v n s = .next t ∧ t.Sent .spdmResp (viaKey v) [6, n, b2n r.isEmpty] [d] ∧
      (t.boot.spdm.get (viaKey v)).chunkOut = r := by
  have hexec : execSpdmChunkGet v n s =
      done (s.spdmAnswer v [6, n, b2n r.isEmpty] [d] fun p => { p with chunkOut := r, signed := false }) := by
    refine (State.spdmAt_reached hv hp).trans ?_
    rw [hout]
  obtain ⟨t, ht, hsent, hst⟩ := State.spdm_answered _ _ _ _ _ hexec
  exact ⟨t, ht, hsent, by rw [hst]⟩

end

/-! ### Certificates, challenges and measurements -/

section
variable {s : State} {v : SpdmVia} (hv : s.spdmServed v = true) (hp : 3 ≤ (s.boot.spdm.get (viaKey v)).phase)
include hv hp

theorem spdmGetDigests_answers :
    ∃ t, execSpdmGetDigests v s = .next t ∧ t.Sent .spdmResp (viaKey v) [1, 1] [s.chainDigest] := by
  obtain ⟨t, ht, hsent, -⟩ := State.spdm_answered s v _ _ (fun p => { p with signed := false })
    (State.spdmAt_reached hv hp : execSpdmGetDigests v s = _)
  exact ⟨t, ht, hsent⟩

theorem spdmGetCertificate_answers :
    ∃ t, execSpdmGetCertificate v 0 s = .next t ∧
      t.Sent .spdmResp (viaKey v) [2, 0] [Config.digest (s.boot.identity * 4 + 2)] := by
  obtain ⟨t, ht, hsent, -⟩ := State.spdm_answered s v _ _ (fun p => { p with signed := false })
    (State.spdmAt_reached hv hp : execSpdmGetCertificate v 0 s = _)
  exact ⟨t, ht, hsent⟩

theorem spdmGetCertificate_refuses {k : Nat} (hk : k ≠ 0) :
    ∃ t, execSpdmGetCertificate v k s = .next t ∧ t.Sent .spdmResp (viaKey v) [0x7F, 1] [] :=
  State.spdm_refused s v ((State.spdmAt_reached hv hp).trans (congrArg done (if_neg hk)))

theorem spdmChallenge_refuses (n : Nat) {k : Nat} (hk : k ≠ 0) :
    ∃ t, execSpdmChallenge v k n s = .next t ∧ t.Sent .spdmResp (viaKey v) [0x7F, 1] [] :=
  State.spdm_refused s v ((State.spdmAt_reached hv hp).trans (congrArg done (if_neg hk)))

theorem spdmChallenge_answers (n : Nat) :
    ∃ t, execSpdmChallenge v 0 n s = .next t ∧ t.Sent .spdmResp (viaKey v) [3, 0]
      [s.chainDigest, Config.random s.ctl.freeCtr, Config.digest (n + Config.random s.ctl.freeCtr)] ∧
      (t.boot.spdm.get (viaKey v)).signed = true := by
  obtain ⟨t, ht, hsent, hst⟩ := State.spdm_answered s.drawRandom.2 v [3, 0]
    [s.chainDigest, Config.random s.ctl.freeCtr, Config.digest (n + Config.random s.ctl.freeCtr)]
    (fun p => { p with signed := true, covered := n + Config.random s.ctl.freeCtr })
    (State.spdmAt_reached hv hp : execSpdmChallenge v 0 n s = _)
  exact ⟨t, ht, hsent, by rw [hst]⟩

/-- The measurements that an index names (Table 15-12); none: the index is invalid. -/
def State.measured (s : State) (i : Nat) : Option (List Nat) :=
  if i = 0 then some [9]
  else if i = 0xFF then some ((List.range 9).map fun j => s.measurement (j + 1))
  else if i ≤ 9 then some [s.measurement i]
  else none

omit hv hp in
theorem State.measured_count (s : State) : s.measured 0 = some [9] := rfl

omit hv hp in
theorem State.measured_all (s : State) : s.measured 255 = some ((List.range 9).map fun i => s.measurement (i + 1)) := rfl

omit hv hp in
theorem State.measured_one (s : State) {i : Nat} (h0 : 0 < i) (h9 : i ≤ 9) : s.measured i = some [s.measurement i] := by
  unfold State.measured
  rw [if_neg (by omega), if_neg (by omega), if_pos h9]

theorem spdmGetMeasurements_answers (n : Nat) {i : Nat} {d : List Nat} (hd : s.measured i = some d) :
    ∃ t, execSpdmGetMeasurements v i false n s = .next t ∧ t.Sent .spdmResp (viaKey v) [0x60, i] d := by
  have hexec : execSpdmGetMeasurements v i false n s =
      done (s.spdmAnswer v [0x60, i] d fun p => { p with signed := false }) := by
    refine (State.spdmAt_reached hv hp).trans ?_
    dsimp only
    rw [show (if i = 0 then _ else _) = some d from hd]
    rfl
  obtain ⟨t, ht, hsent, -⟩ := State.spdm_answered _ _ _ _ _ hexec
  exact ⟨t, ht, hsent⟩

theorem spdmGetMeasurements_signs (n : Nat) {i : Nat} {d : List Nat} (hd : s.measured i = some d) :
    ∃ t, execSpdmGetMeasurements v i true n s = .next t ∧ (t.boot.spdm.get (viaKey v)).signed = true ∧
      t.Sent .spdmResp (viaKey v) [0x60, i]
        (d ++ [Config.random s.ctl.freeCtr] ++ [Config.digest (n + Config.random s.ctl.freeCtr)]) := by
  have hexec : execSpdmGetMeasurements v i true n s =
      done (s.drawRandom.2.spdmAnswer v [0x60, i]
        (d ++ [Config.random s.ctl.freeCtr] ++ [Config.digest (n + Config.random s.ctl.freeCtr)])
        fun p => { p with signed := true, covered := n + Config.random s.ctl.freeCtr }) := by
    refine (State.spdmAt_reached hv hp).trans ?_
    dsimp only
    rw [show (if i = 0 then _ else _) = some d from hd]
    rfl
  obtain ⟨t, ht, hsent, hst⟩ := State.spdm_answered _ _ _ _ _ hexec
  exact ⟨t, ht, by rw [hst], hsent⟩

theorem spdmGetMeasurements_refuses (n : Nat) (x : Bool) {i : Nat} (h9 : 9 < i) (hall : i ≠ 255) :
    ∃ t, execSpdmGetMeasurements v i x n s = .next t ∧ t.Sent .spdmResp (viaKey v) [0x7F, 1] [] := by
  have hnone : s.measured i = none := by
    unfold State.measured
    rw [if_neg (by omega), if_neg hall, if_neg (by omega)]
  refine State.spdm_refused s v ((State.spdmAt_reached hv hp).trans ?_)
  dsimp only
  rw [show (if i = 0 then _ else _) = none from hnone]

/-! ### The vendor sub-commands -/

theorem spdmVendorSlhChain_answers :
    ∃ t, execSpdmVendorSlhChain v s = .next t ∧
      (t.boot.spdm.get (viaKey v)).chunkOut = [Config.digest (s.boot.identity * 4 + 3)] ∧
      t.Sent .spdmResp (viaKey v) [0x7E, 1] [Config.digest (s.boot.identity * 4 + 3)] := by
  obtain ⟨t, ht, hsent, hst⟩ := State.spdm_answered s v [0x7E, 1] [Config.digest (s.boot.identity * 4 + 3)]
    (fun p => { p with signed := false, chunkOut := [Config.digest (s.boot.identity * 4 + 3)] })
    (State.spdmAt_reached hv hp : execSpdmVendorSlhChain v s = _)
  exact ⟨t, ht, by rw [hst], hsent⟩

theorem spdmVendorSlhSignature_answers (hsigned : (s.boot.spdm.get (viaKey v)).signed = true) :
    ∃ t, execSpdmVendorSlhSignature v s = .next t ∧
      t.Sent .spdmResp (viaKey v) [0x7E, 2] [Config.digest ((s.boot.spdm.get (viaKey v)).covered * 2 + 1)] := by
  obtain ⟨t, ht, hsent, -⟩ := State.spdm_answered s v _ _ (fun p => { p with signed := false })
    ((State.spdmAt_reached hv hp).trans (congrArg done (if_pos hsigned)) : execSpdmVendorSlhSignature v s = _)
  exact ⟨t, ht, hsent⟩

theorem spdmVendorSlhSignature_refuses (hsigned : (s.boot.spdm.get (viaKey v)).signed = false) :
    ∃ t, execSpdmVendorSlhSignature v s = .next t ∧ t.Sent .spdmResp (viaKey v) [0x7F, 4] [] :=
  State.spdm_refused s v ((State.spdmAt_reached hv hp).trans (congrArg done (if_neg (by simp [hsigned]))))

end

/-! ### Requests that come too early, and the other transports -/

theorem spdm_early (v : SpdmVia) (i : Instr) (m : Nat) (s : State) (hv : s.spdmServed v = true)
    (hm : (s.boot.spdm.get (viaKey v)).phase < m)
    (hi : (i, m) ∈ [(Instr.spdmGetCapabilities v, 1), (.spdmNegotiateAlgorithms v 8 2, 2), (.spdmGetDigests v, 3),
      (.spdmGetCertificate v 0, 3), (.spdmChallenge v 0 0, 3), (.spdmGetMeasurements v 0 true 0, 3), (.spdmVendorSlhChain v, 3),
      (.spdmVendorSlhSignature v, 3), (.spdmChunkGet v 0, 2)]) :
    ∃ t, exec i s = .next t ∧ t.Sent .spdmResp (viaKey v) [0x7F, 4] [] := by
  have hat : ∃ k, exec i s = s.spdmAt v m k := by
    simp only [List.mem_cons, List.not_mem_nil, or_false, Prod.mk.injEq] at hi
    rcases hi with ⟨rfl, rfl⟩ | ⟨rfl, rfl⟩ | ⟨rfl, rfl⟩ | ⟨rfl, rfl⟩ | ⟨rfl, rfl⟩ | ⟨rfl, rfl⟩ | ⟨rfl, rfl⟩ | ⟨rfl, rfl⟩ | ⟨rfl, rfl⟩
    · exact ⟨_, show execSpdmGetCapabilities v s = _ from rfl⟩
    · exact ⟨_, show execSpdmNegotiateAlgorithms v 8 2 s = _ from rfl⟩
    · exact ⟨_, show execSpdmGetDigests v s = _ from rfl⟩
    · exact ⟨_, show execSpdmGetCertificate v 0 s = _ from rfl⟩
    · exact ⟨_, show execSpdmChallenge v 0 0 s = _ from rfl⟩
    · exact ⟨_, show execSpdmGetMeasurements v 0 true 0 s = _ from rfl⟩
    · exact ⟨_, show execSpdmVendorSlhChain v s = _ from rfl⟩
    · exact ⟨_, show execSpdmVendorSlhSignature v s = _ from rfl⟩
    · exact ⟨_, show execSpdmChunkGet v 0 s = _ from rfl⟩
  obtain ⟨k, hk⟩ := hat
  exact State.spdm_refused s v (hk.trans (State.spdmAt_early hv hm))

section
variable (s : State) (v : SpdmVia)

/-- From s to u no responder state changes but that of transport v. -/
def State.SpdmApart (u : State) : Prop := ∀ j, j ≠ viaKey v → u.boot.spdm.get j = s.boot.spdm.get j

variable {s v}

theorem State.SpdmApart.answer {u : State} (h : s.SpdmApart v u) {args data : List Nat} {upd : Spdm → Spdm} :
    s.SpdmApart v (u.spdmAnswer v args data upd) := fun j hj => (State.spdmAnswer_other u v args data upd hj).trans (h j hj)

theorem State.SpdmApart.refl : s.SpdmApart v s := fun _ _ => rfl

theorem State.SpdmApart.ite {c : Prop} [Decidable c] {a b : State} (ha : s.SpdmApart v a) (hb : s.SpdmApart v b) :
    s.SpdmApart v (if c then a else b) := by
  split
  · exact ha
  · exact hb

variable (s v) in
/-- The outcome o of a request leaves every responder state but that of transport v. -/
def State.LeavesApart (o : Host.Outcome State Fault Refusal) : Prop :=
  ∃ t, o = .next t ∧ ∀ j, j ≠ viaKey v → t.boot.spdm.get j = s.boot.spdm.get j

theorem State.SpdmApart.ends {u : State} (h : s.SpdmApart v u) : s.LeavesApart v (done u) :=
  ⟨_, rfl, fun j hj => by rw [State.settle_boot]; exact h j hj⟩

/-- A request whose work stays on its transport leaves the others, whether it is not served, too early, or reached. -/
theorem State.LeavesApart.at {m : Nat} {k : State → State} (h : s.SpdmApart v (k s)) : s.LeavesApart v (s.spdmAt v m k) := by
  cases hv : s.spdmServed v with
  | false => exact ⟨s, State.spdmAt_unserved hv, fun _ _ => rfl⟩
  | true =>
    rcases Nat.lt_or_ge (s.boot.spdm.get (viaKey v)).phase m with hm | hm
    · rw [State.spdmAt_early hv hm]
      exact State.SpdmApart.refl.answer.ends
    · rw [State.spdmAt_reached hv hm]
      exact h.ends

end

theorem spdm_apart (v : SpdmVia) (a b : Nat) (x : Bool) (d : List Nat) (i : Instr) (s : State)
    (hi : i ∈ [Instr.spdmGetVersion v, .spdmGetCapabilities v, .spdmNegotiateAlgorithms v a b, .spdmGetDigests v,
      .spdmGetCertificate v a, .spdmChallenge v a b, .spdmGetMeasurements v a x b, .spdmChunkSend v a x d, .spdmChunkGet v a,
      .spdmVendorSlhChain v, .spdmVendorSlhSignature v]) : s.LeavesApart v (exec i s) := by
  have hself : s.SpdmApart v s := .refl
  have hdrawn : s.SpdmApart v s.drawRandom.2 := fun _ _ => rfl
  simp only [List.mem_cons, List.not_mem_nil, or_false] at hi
  rcases hi with rfl | rfl | rfl | rfl | rfl | rfl | rfl | rfl | rfl | rfl | rfl
  · show s.LeavesApart v (execSpdmGetVersion v s)
    exact .at hself.answer
  · show s.LeavesApart v (execSpdmGetCapabilities v s)
    exact .at hself.answer
  · show s.LeavesApart v (execSpdmNegotiateAlgorithms v a b s)
    exact .at (.ite hself.answer hself.answer)
  · show s.LeavesApart v (execSpdmGetDigests v s)
    exact .at hself.answer
  · show s.LeavesApart v (execSpdmGetCertificate v a s)
    exact .at (.ite hself.answer hself.answer)
  · show s.LeavesApart v (execSpdmChallenge v a b s)
    exact .at (.ite hdrawn.answer hself.answer)
  · show s.LeavesApart v (execSpdmGetMeasurements v a x b s)
    refine State.LeavesApart.at ?_
    dsimp only
    split
    · exact hself.answer
    · exact .ite hdrawn.answer hself.answer
  · show s.LeavesApart v (execSpdmChunkSend v a x d s)
    exact .at (.ite hself.answer.answer (.ite hself.answer hself.answer))
  · show s.LeavesApart v (execSpdmChunkGet v a s)
    refine State.LeavesApart.at ?_
    split
    · exact hself.answer
    · exact hself.answer
  · show s.LeavesApart v (execSpdmVendorSlhChain v s)
    exact .at hself.answer
  · show s.LeavesApart v (execSpdmVendorSlhSignature v s)
    exact .at (.ite hself.answer hself.answer)

/-- Settles O58: request by request in the order of the negotiation, those that come too early, and the other transports. -/
theorem spdmAnswers : Obligations.SpdmAnswers := by
  refine ⟨fun v s hv => spdmGetVersion_answers hv, fun v s hv hp => spdmGetCapabilities_answers hv hp, ?_, ?_, spdm_early, spdm_apart⟩
  · intro v a h s hv hp
    exact ⟨fun ha hh => spdmNegotiateAlgorithms_agrees hv hp ha hh, fun hah => spdmNegotiateAlgorithms_refuses hv hp hah,
      fun n d hn => spdmChunkSend_next hv hp d hn, fun n d hn => spdmChunkSend_last hv hp d hn,
      fun n x d hn => spdmChunkSend_misplaced hv hp x d hn, fun n hout => spdmChunkGet_none hv hp n hout,
      fun n d r hout => spdmChunkGet_next hv hp n hout⟩
  · intro v s hv hp
    refine ⟨spdmGetDigests_answers hv hp, spdmGetCertificate_answers hv hp, fun n => spdmChallenge_answers hv hp n, ?_, ?_, ?_, ?_, ?_, ?_,
      spdmVendorSlhChain_answers hv hp, spdmVendorSlhSignature_answers hv hp, spdmVendorSlhSignature_refuses hv hp⟩
    · exact fun k n hk => ⟨spdmGetCertificate_refuses hv hp hk, spdmChallenge_refuses hv hp n hk⟩
    · exact fun n => spdmGetMeasurements_answers (i := 0) hv hp n s.measured_count
    · exact fun i n h0 h9 => spdmGetMeasurements_answers hv hp n (s.measured_one h0 h9)
    · exact fun n => spdmGetMeasurements_answers (i := 255) hv hp n s.measured_all
    · exact fun i n h0 h9 => spdmGetMeasurements_signs hv hp n (s.measured_one h0 h9)
    · exact fun i n x h9 hall => spdmGetMeasurements_refuses hv hp n x h9 hall

end Sys2Proof.Machine
end

section
/-! SUPPORT. Key Per I/O (R151, R432). -/

namespace Sys2Proof.Machine

section
variable (s : State) (k : Nat) (resp : List Nat)

theorem State.sent_tcg : (s.tcg k resp).Sent .tcgResp k resp [] := State.sent_send ..

/-- A method that ends in a TCG response. -/
theorem State.tcg_ends {o : Host.Outcome State Fault Refusal} (h : o = done (s.tcg k resp)) :
    ∃ t, o = .next t ∧ t.Sent .tcgResp k resp [] ∧ t.keys = s.keys :=
  ⟨_, h, (State.sent_tcg ..).settle, State.settle_keys _⟩

end

/-- The slot of a key that a method injects. -/
def State.injected (s : State) (n tag key : Nat) : KeySlot :=
  { valid := true, inj := true, slice := (s.per.ns.get n).owner, ns := n, tag := tag, key := key }

section
variable {k nsid tag n : Nat} {s : State} (halive : (s.ctrl k).alive = true) (hmode : s.modeIn adminModes = true)
include halive hmode

theorem tcgLevel0Discovery_answers : ∃ t, exec (.tcgLevel0Discovery k) s = .next t ∧
    t.Sent .tcgResp k (s.nsList 0 fun n x => x.kpio && (s.ctrl k).attached.contains n) [] := by
  have hexec : execTcgLevel0Discovery k s = done (s.tcg k (s.nsList 0 fun n x => x.kpio && (s.ctrl k).attached.contains n)) :=
    if_neg (by simp [halive, hmode])
  obtain ⟨t, ht, hsent, -⟩ := State.tcg_ends _ _ _ hexec
  exact ⟨t, ht, hsent⟩

variable (hns : s.nsOf k nsid = some n) (hkpio : (s.per.ns.get n).kpio = true) (htag : tag ≤ 255)
include hns hkpio htag

/-- A method on an attached namespace that has Key Per I/O on acts. -/
theorem State.kpio_acts (f : State → Nat → State) : s.kpio k nsid tag f = done (f s n) := by
  unfold State.kpio
  rw [if_neg (by simp [halive, hmode]), hns]
  exact if_neg (by simp [hkpio, htag])

theorem kpioInjectKey_replaces (key : Nat) {i : Nat} (hat : s.keyAt n tag = some i) :
    ∃ t, exec (.kpioInjectKey k nsid tag key) s = .next t ∧ t.Sent .tcgResp k [0] [] ∧ t.keys.get i = s.injected n tag key := by
  have hexec : execKpioInjectKey k nsid tag key s =
      done (({ s with keys := s.keys.set i (s.injected n tag key) } : State).tcg k [0]) := by
    refine (State.kpio_acts halive hmode hns hkpio htag _).trans ?_
    rw [hat]
    rfl
  obtain ⟨t, ht, hsent, hkeys⟩ := State.tcg_ends _ _ _ hexec
  exact ⟨t, ht, hsent, (congrArg (Tab.get · i) hkeys).trans (Tab.getD_setD_same s.keys default i (s.injected n tag key))⟩

theorem kpioInjectKey_loads (key : Nat) (hat : s.keyAt n tag = none)
    (hroom : s.keysUsed (s.per.ns.get n).owner < (s.cfg (s.per.ns.get n).owner).keyQuota) :
    ∃ t i, exec (.kpioInjectKey k nsid tag key) s = .next t ∧ t.Sent .tcgResp k [0] [] ∧ t.keys.get i = s.injected n tag key := by
  have hexec : execKpioInjectKey k nsid tag key s = done ((s.keyLoad (s.injected n tag key)).tcg k [0]) := by
    refine (State.kpio_acts halive hmode hns hkpio htag _).trans ?_
    rw [hat]
    exact congrArg done (if_neg (by omega))
  obtain ⟨t, ht, hsent, hkeys⟩ := State.tcg_ends _ _ _ hexec
  exact ⟨t, _, ht, hsent, (congrArg (Tab.get · _) hkeys).trans (Tab.getD_setD_same s.keys default _ (s.injected n tag key))⟩

theorem kpioInjectKey_full (key : Nat) (hat : s.keyAt n tag = none)
    (hfull : (s.cfg (s.per.ns.get n).owner).keyQuota ≤ s.keysUsed (s.per.ns.get n).owner) :
    ∃ t, exec (.kpioInjectKey k nsid tag key) s = .next t ∧ t.Sent .tcgResp k [7] [] ∧ t.keys = s.keys := by
  have hexec : execKpioInjectKey k nsid tag key s = done (s.tcg k [7]) := by
    refine (State.kpio_acts halive hmode hns hkpio htag _).trans ?_
    rw [hat]
    exact congrArg done (if_pos hfull)
  exact State.tcg_ends _ _ _ hexec

theorem kpioClearKey_clears {i : Nat} (hat : s.keyAt n tag = some i) :
    ∃ t, exec (.kpioClearKey k nsid tag) s = .next t ∧ t.Sent .tcgResp k [0] [] ∧ t.keys.get i = {} := by
  have hexec : execKpioClearKey k nsid tag s = done (({ s with keys := s.keys.set i {} } : State).tcg k [0]) := by
    refine (State.kpio_acts halive hmode hns hkpio htag _).trans ?_
    rw [hat]
  obtain ⟨t, ht, hsent, hkeys⟩ := State.tcg_ends _ _ _ hexec
  exact ⟨t, ht, hsent, (congrArg (Tab.get · i) hkeys).trans (Tab.getD_setD_same s.keys default i {})⟩

end

/-- Settles O34: a key injected at a loaded tag, at a new one, and without room; a tag that is cleared; and Level 0 Discovery. -/
theorem keyPerIo : Obligations.KeyPerIo := by
  refine ⟨?_, ?_, ?_, ?_, fun k s halive hmode => tcgLevel0Discovery_answers halive hmode⟩
  · exact fun k nsid tag key n i s halive hmode hns hkpio htag hat => kpioInjectKey_replaces halive hmode hns hkpio htag key hat
  · exact fun k nsid tag key n s halive hmode hns hkpio htag hat hroom => kpioInjectKey_loads halive hmode hns hkpio htag key hat hroom
  · exact fun k nsid tag key n s halive hmode hns hkpio htag hat hfull => kpioInjectKey_full halive hmode hns hkpio htag key hat hfull
  · exact fun k nsid tag n i s halive hmode hns hkpio htag hat => kpioClearKey_clears halive hmode hns hkpio htag hat

end Sys2Proof.Machine
end

section
/-! SUPPORT. Tokens (R416, R430, R435): the checks of a submission, its RESULT and its new nonce, and the effect of an accepted one. -/

namespace Sys2Proof.Machine

/-! ### The checks (R416) -/

/-- A token for this part and its present nonce, signed under the keys that govern it. -/
def State.TokenFits (s : State) (tok : TokenFacts) : Prop :=
  s.rootVerifies tok.sig 0x53465705 = true ∧ tok.uid = s.boot.fuses.uid ∧ tok.nonce = s.nonceValue

section
variable {s : State} {tok : TokenFacts} {lifeOk modeOk argOk : Bool}

theorem State.tokenResult_accepted (h : s.TokenFits tok) (hlife : lifeOk = true) (hmode : modeOk = true) (harg : argOk = true) :
    s.tokenResult tok lifeOk modeOk argOk = 0 := by
  obtain ⟨hver, huid, hnonce⟩ := h
  unfold State.tokenResult
  simp [hver, huid, hnonce, hlife, hmode, harg]

theorem State.tokenResult_unverified (h : s.rootVerifies tok.sig 0x53465705 = false) : s.tokenResult tok lifeOk modeOk argOk = 1 :=
  if_pos (by simp [h])

theorem State.tokenResult_misdirected (hver : s.rootVerifies tok.sig 0x53465705 = true)
    (h : tok.uid ≠ s.boot.fuses.uid ∨ tok.nonce ≠ s.nonceValue) : s.tokenResult tok lifeOk modeOk argOk = 2 :=
  (if_neg (by simp [hver])).trans (if_pos h)

/-! ### The end of a submission (R416, R435) -/

variable {op : Nat} {eff : State → State}

theorem State.token_accepted {u : State} (h : s.tokenResult tok lifeOk modeOk argOk = 0) (heff : eff (s.setF R.BT_TCMD_RESULT 0) = u) :
    s.token op tok lifeOk modeOk argOk eff = (u.raise R.BT_EVT_TOKEN_OK op 0).newNonce := by
  unfold State.token
  dsimp only
  rw [h, if_pos rfl, heff]

theorem State.token_refused {r : Nat} (h : s.tokenResult tok lifeOk modeOk argOk = r) (hr : r ≠ 0) :
    s.token op tok lifeOk modeOk argOk eff = ((s.setF R.BT_TCMD_RESULT r).raise R.BT_EVT_TOKEN_REFUSED op r).newNonce := by
  unfold State.token
  dsimp only
  rw [h, if_neg hr]

end

/-- An accepted token: RESULT is 0, TOKEN_OK is set, and of its effect u nothing but the nonce changes. -/
theorem State.token_acts {u : State} {op : Nat} {o : Host.Outcome State Fault Refusal}
    (h : o = done (u.raise R.BT_EVT_TOKEN_OK op 0).newNonce) (hu : u.f R.BT_TCMD_RESULT = 0) :
    ∃ t, o = .next t ∧ t.f R.BT_TCMD_RESULT = 0 ∧ t.f R.BT_EVT_TOKEN_OK = 1 ∧ t.boot = { u.boot with nonce := u.ctl.freeCtr } ∧
      t.keys = u.keys ∧ t.f R.BT_STS_SEAL_CAUSE = u.f R.BT_STS_SEAL_CAUSE ∧ t.f R.BT_EVT_DEBUG_OPEN = u.f R.BT_EVT_DEBUG_OPEN := by
  have hkept : ∀ F : R.Fld, R.GL_EVT_LOG_WRAP.key 0 0 < F.key 0 0 ∧ R.GL_SB_STS_ALERTS.key 0 0 < F.key 0 0 →
      F.key 0 0 ≠ R.BT_EVT_TOKEN_OK.key 0 0 → (u.raise R.BT_EVT_TOKEN_OK op 0).newNonce.settle.f F = u.f F := fun F hb hne =>
    (State.f_settle_behind _ 0 0 hb).trans (State.f_raise_other u R.BT_EVT_TOKEN_OK F op 0 noP 0 0 0 hne)
  refine ⟨_, h, ?_, ?_, State.settle_boot _, State.settle_keys _, ?_, ?_⟩
  · exact (hkept _ (by decide) (by decide)).trans hu
  · exact (State.f_settle_behind _ 0 0 (by decide)).trans (State.f_raise_same u R.BT_EVT_TOKEN_OK op 0 noP 0)
  · exact hkept _ (by decide) (by decide)
  · exact hkept _ (by decide) (by decide)

/-- A refused token: RESULT and TOKEN_REFUSED show it, its nonce is used up, and all else of the boot state, keys and mode stands. -/
theorem State.token_fails {s : State} {op r : Nat} {o : Host.Outcome State Fault Refusal}
    (h : o = done ((s.setF R.BT_TCMD_RESULT r).raise R.BT_EVT_TOKEN_REFUSED op r).newNonce) (hr : r < 8) :
    ∃ t, o = .next t ∧ t.f R.BT_TCMD_RESULT = r ∧ t.f R.BT_EVT_TOKEN_REFUSED = 1 ∧ t.boot = { s.boot with nonce := s.ctl.freeCtr } ∧
      t.keys = s.keys ∧ t.mode = s.mode := by
  have hresult : ((s.setF R.BT_TCMD_RESULT r).raise R.BT_EVT_TOKEN_REFUSED op r).f R.BT_TCMD_RESULT = r :=
    (State.f_raise_other _ _ _ _ _ _ _ _ _ (by decide)).trans ((State.f_setF_same ..).trans (Nat.mod_eq_of_lt hr))
  refine ⟨_, h, ?_, ?_, State.settle_boot _, State.settle_keys _, State.settle_mode _⟩
  · exact (State.f_settle_behind _ 0 0 (by decide)).trans hresult
  · exact (State.f_settle_behind _ 0 0 (by decide)).trans
      (State.f_raise_same (s.setF R.BT_TCMD_RESULT r) R.BT_EVT_TOKEN_REFUSED op r noP 0)

/-! ### Accepted tokens (Table 15-6) -/

theorem State.result_cleared (s : State) : (s.setF R.BT_TCMD_RESULT 0).f R.BT_TCMD_RESULT = 0 :=
  State.f_setF_same s R.BT_TCMD_RESULT 0 0 0

/-- After keys are zeroised no slot is valid (R436). -/
theorem State.keys_zeroised (s : State) (n : Nat) : (s.zeroiseKeys.keys.get n).valid = false :=
  Tab.getD_mapAll (f := fun _ k => { k with valid := false, key := 0 }) (P := fun k : KeySlot => k.valid = false) rfl
    (fun _ _ => rfl) s.keys n

/-- What RETURN does outside Service. -/
def State.returned (s : State) : State := { s.zeroiseKeys with boot.fuses.lifecycle := s.boot.fuses.lifecycle ||| 7 }

/-- What REVOKE does in every mode. -/
def State.revoked (s : State) : State := { s with boot.fuses.lifecycle := s.boot.fuses.lifecycle ||| 15, boot.trialPend := false }

/-- What REVOKE does in Sealed: the cause is 6 and the recovery monitor stops. -/
def State.revokedSealed (s : State) : State :=
  ({ s.revoked with boot.monitor := false }.setF R.BT_STS_FETCH_ACTIVE 0).setF R.BT_STS_SEAL_CAUSE 6

theorem State.revokedSealed_result (s : State) : s.revokedSealed.f R.BT_TCMD_RESULT = s.f R.BT_TCMD_RESULT :=
  (State.f_setF_other _ _ _ _ _ _ _ _ (by decide)).trans
    (State.f_setF_other { s.revoked with boot.monitor := false } R.BT_STS_FETCH_ACTIVE R.BT_TCMD_RESULT 0 0 0 0 0 (by decide))

/-- What FUSE_SET does with the words a, b and c of its argument and no new COUNT. -/
def State.fusesSet (s : State) (a b c : Nat) : State :=
  let fu := s.boot.fuses
  let u := { s with boot.fuses := { fu with
    fmtForbid := fu.fmtForbid ||| a, jtag := fu.jtag ||| (b % 4), debugLock := fu.debugLock || bit b 2,
    sbLock := fu.sbLock || bit b 3, sbAddr := fu.sbAddr ||| c } }
  if c = 0 then u else u.setF R.FU_SBADDR_SB_ADDR c

theorem State.fusesSet_result (s : State) (a b c : Nat) : (s.fusesSet a b c).f R.BT_TCMD_RESULT = s.f R.BT_TCMD_RESULT :=
  State.keeps_ite (p := fun u : State => u.f R.BT_TCMD_RESULT) rfl
    (State.f_setF_other _ R.FU_SBADDR_SB_ADDR R.BT_TCMD_RESULT c 0 0 0 0 (by decide))

theorem State.fusesSet_fuses (s : State) (a b c : Nat) : (s.fusesSet a b c).boot.fuses =
    { s.boot.fuses with
      fmtForbid := s.boot.fuses.fmtForbid ||| a, jtag := s.boot.fuses.jtag ||| (b % 4)
      debugLock := s.boot.fuses.debugLock || bit b 2, sbLock := s.boot.fuses.sbLock || bit b 3
      sbAddr := s.boot.fuses.sbAddr ||| c } :=
  State.keeps_ite (p := fun u : State => u.boot.fuses) rfl rfl

section
variable {k : TokenFacts} {s : State} (hpath : s.tokenPath = true) (hfits : s.TokenFits k)
include hpath hfits

theorem tokenProvision_acts (hlife : s.life = 0) (hmode : s.mode = .sealed) :
    ∃ t, exec (.tokenProvision k) s = .next t ∧ t.f R.BT_TCMD_RESULT = 0 ∧ t.f R.BT_EVT_TOKEN_OK = 1 ∧
      t.boot.fuses.khRsa = s.boot.fuses.khRsa ||| k.sig.rsaHash ∧ t.boot.fuses.lifecycle = s.boot.fuses.lifecycle ||| 1 := by
  have hres := State.tokenResult_accepted hfits (lifeOk := s.life == 0) (modeOk := s.modeIn [.sealed, .trial]) (argOk := true)
    (by simp [hlife]) (by simp [State.modeIn, hmode]) rfl
  have hexec : execTokenProvision k s = done _ := (if_neg (by simp [hpath])).trans (congrArg done (State.token_accepted hres rfl))
  obtain ⟨t, ht, hresult, hok, hboot, -, -, -⟩ := State.token_acts hexec s.result_cleared
  exact ⟨t, ht, hresult, hok, by rw [hboot]; rfl, by rw [hboot]; rfl⟩

theorem tokenDeploy_acts (hlife : s.life = 1) :
    ∃ t, exec (.tokenDeploy k) s = .next t ∧ t.f R.BT_TCMD_RESULT = 0 ∧ t.f R.BT_EVT_TOKEN_OK = 1 ∧
      t.boot.fuses.lifecycle = s.boot.fuses.lifecycle ||| 3 ∧ t.boot.trialPend = false ∧ t.boot.nonce = s.ctl.freeCtr := by
  have hres := State.tokenResult_accepted hfits (lifeOk := s.life == 1) (modeOk := true) (argOk := true) (by simp [hlife]) rfl rfl
  have hexec : execTokenDeploy k s = done _ := (if_neg (by simp [hpath])).trans (congrArg done (State.token_accepted hres rfl))
  obtain ⟨t, ht, hresult, hok, hboot, -, -, -⟩ := State.token_acts hexec s.result_cleared
  exact ⟨t, ht, hresult, hok, by rw [hboot]; rfl, by rw [hboot], by rw [hboot]; rfl⟩

theorem tokenReturn_acts (hlife : s.life = 1 ∨ s.life = 2) (hmode : s.mode = .sealed) :
    ∃ t, exec (.tokenReturn k) s = .next t ∧ t.f R.BT_TCMD_RESULT = 0 ∧
      t.boot.fuses.lifecycle = s.boot.fuses.lifecycle ||| 7 ∧ ∀ n, (t.keys.get n).valid = false := by
  have hres := State.tokenResult_accepted hfits (lifeOk := s.life == 1 || s.life == 2) (modeOk := s.modeIn [.service, .sealed])
    (argOk := true) (by simpa using hlife) (by simp [State.modeIn, hmode]) rfl
  have hnot : ¬ s.mode = .service := by simp [hmode]
  have hexec : execTokenReturn k s = done (((s.setF R.BT_TCMD_RESULT 0).returned.raise R.BT_EVT_TOKEN_OK 3 0).newNonce) :=
    (if_neg (by simp [hpath])).trans (congrArg done (State.token_accepted hres (if_neg hnot)))
  obtain ⟨t, ht, hresult, -, hboot, hkeys, -, -⟩ := State.token_acts hexec s.result_cleared
  exact ⟨t, ht, hresult, by rw [hboot]; rfl, fun n => by rw [hkeys]; exact s.keys_zeroised n⟩

theorem tokenRevoke_acts_bootstrap (hlife : s.life ≠ 4) (hmode : s.mode = .bootstrap) :
    ∃ t, exec (.tokenRevoke k) s = .next t ∧ t.f R.BT_TCMD_RESULT = 0 ∧
      t.boot.fuses.lifecycle = s.boot.fuses.lifecycle ||| 15 ∧ t.boot.revokePend = true ∧ t.boot.trialPend = false := by
  have hres := State.tokenResult_accepted hfits (lifeOk := s.life != 4) (modeOk := true) (argOk := true) (by simpa using hlife) rfl rfl
  have hstay : ¬ canMove s.mode 0x11 .sealed = true := by rw [hmode]; decide
  have hexec : execTokenRevoke k s =
      done (({ (s.setF R.BT_TCMD_RESULT 0).revoked with boot.revokePend := true }.raise R.BT_EVT_TOKEN_OK 4 0).newNonce) :=
    (if_neg (by simp [hpath])).trans (congrArg done (State.token_accepted hres ((if_neg hstay).trans (if_pos hmode))))
  obtain ⟨t, ht, hresult, -, hboot, -, -, -⟩ := State.token_acts hexec s.result_cleared
  exact ⟨t, ht, hresult, by rw [hboot]; rfl, by rw [hboot], by rw [hboot]; rfl⟩

theorem tokenRevoke_acts_sealed (hlife : s.life ≠ 4) (hmode : s.mode = .sealed) :
    ∃ t, exec (.tokenRevoke k) s = .next t ∧ t.f R.BT_TCMD_RESULT = 0 ∧
      t.boot.fuses.lifecycle = s.boot.fuses.lifecycle ||| 15 ∧ t.f R.BT_STS_SEAL_CAUSE = 6 ∧ t.boot.monitor = false := by
  have hres := State.tokenResult_accepted hfits (lifeOk := s.life != 4) (modeOk := true) (argOk := true) (by simpa using hlife) rfl rfl
  have hstay : ¬ canMove s.mode 0x11 .sealed = true := by rw [hmode]; decide
  have hnot : ¬ s.mode = .bootstrap := by simp [hmode]
  have hexec : execTokenRevoke k s = done (((s.setF R.BT_TCMD_RESULT 0).revokedSealed.raise R.BT_EVT_TOKEN_OK 4 0).newNonce) :=
    (if_neg (by simp [hpath])).trans
      (congrArg done (State.token_accepted hres ((if_neg hstay).trans ((if_neg hnot).trans (if_pos hmode)))))
  obtain ⟨t, ht, hresult, -, hboot, -, hcause, -⟩ := State.token_acts hexec ((State.revokedSealed_result _).trans s.result_cleared)
  exact ⟨t, ht, hresult, by rw [hboot]; rfl, hcause.trans (State.f_setF_same _ R.BT_STS_SEAL_CAUSE 6 0 0), by rw [hboot]; rfl⟩

theorem tokenTrial_acts (hlife : s.life ∈ [0, 1, 3]) (hmode : s.mode = .sealed ∨ s.mode = .service ∨ s.mode = .trial) :
    ∃ t, exec (.tokenTrial k) s = .next t ∧ t.f R.BT_TCMD_RESULT = 0 ∧ t.boot.trialPend = true ∧ t.boot.fuses = s.boot.fuses := by
  have hres := State.tokenResult_accepted hfits (lifeOk := [0, 1, 3].contains s.life) (modeOk := s.modeIn [.sealed, .service, .trial])
    (argOk := true) (List.contains_iff_mem.mpr hlife) (by simpa [State.modeIn] using hmode) rfl
  have hexec : execTokenTrial k s = done _ := (if_neg (by simp [hpath])).trans (congrArg done (State.token_accepted hres rfl))
  obtain ⟨t, ht, hresult, -, hboot, -, -, -⟩ := State.token_acts hexec s.result_cleared
  exact ⟨t, ht, hresult, by rw [hboot], by rw [hboot]; rfl⟩

theorem tokenDebugUnlock_acts (hlife : s.life ≠ 4) (hlock : s.boot.fuses.debugLock = false) (hmode : s.mode = .sealed ∨ s.mode = .trial) :
    ∃ t, exec (.tokenDebugUnlock k) s = .next t ∧ t.f R.BT_TCMD_RESULT = 0 ∧ t.boot.debugOpen = true ∧ t.boot.deriveBlocked = true ∧
      (∀ n, (t.keys.get n).valid = false) ∧ t.f R.BT_EVT_DEBUG_OPEN = 1 := by
  have hres := State.tokenResult_accepted hfits (lifeOk := s.life != 4 && !s.boot.fuses.debugLock)
    (modeOk := s.modeIn [.sealed, .trial]) (argOk := true) (by simpa [hlock] using hlife) (by simpa [State.modeIn] using hmode) rfl
  have hexec : execTokenDebugUnlock k s = done _ := (if_neg (by simp [hpath])).trans (congrArg done (State.token_accepted hres rfl))
  obtain ⟨t, ht, hresult, -, hboot, hkeys, -, hevt⟩ := State.token_acts hexec
    ((State.f_raise_other _ R.BT_EVT_DEBUG_OPEN R.BT_TCMD_RESULT noP noP noP 0 0 0 (by decide)).trans s.result_cleared)
  exact ⟨t, ht, hresult, by rw [hboot]; rfl, by rw [hboot]; rfl, fun n => by rw [hkeys]; exact s.keys_zeroised n,
    hevt.trans (State.f_raise_same _ R.BT_EVT_DEBUG_OPEN noP noP noP 0)⟩

theorem tokenFuseSet_acts (hlife : s.life ∈ [1, 2, 3]) {a b c : Nat} (hargs : k.arg = [a, b, c, 0]) (ha : a < 8) (hb : b < 16)
    (hc : c < 128) (haddr : c = 0 ∨ s.boot.fuses.sbAddr = 0) :
    ∃ t, exec (.tokenFuseSet k) s = .next t ∧ t.f R.BT_TCMD_RESULT = 0 ∧
      t.boot.fuses.fmtForbid = s.boot.fuses.fmtForbid ||| a ∧ t.boot.fuses.jtag = s.boot.fuses.jtag ||| (b % 4) ∧
      t.boot.fuses.debugLock = (s.boot.fuses.debugLock || bit b 2) ∧ t.boot.fuses.sbAddr = s.boot.fuses.sbAddr ||| c := by
  have harg : s.fuseArgOk k.arg = true := by rcases haddr with h | h <;> simp [State.fuseArgOk, hargs, ha, hb, hc, h]
  have hres := State.tokenResult_accepted hfits (lifeOk := [1, 2, 3].contains s.life) (modeOk := true)
    (List.contains_iff_mem.mpr hlife) rfl harg
  have hexec : execTokenFuseSet k s = done ((((s.setF R.BT_TCMD_RESULT 0).fusesSet a b c).raise R.BT_EVT_TOKEN_OK 7 0).newNonce) :=
    (if_neg (by simp [hpath])).trans (congrArg done (State.token_accepted hres (by rw [hargs]; rfl)))
  obtain ⟨t, ht, hresult, -, hboot, -, -, -⟩ := State.token_acts hexec ((State.fusesSet_result ..).trans s.result_cleared)
  have hfuses := (congrArg Boot.fuses hboot).trans (State.fusesSet_fuses (s.setF R.BT_TCMD_RESULT 0) a b c)
  exact ⟨t, ht, hresult, by rw [hfuses]; rfl, by rw [hfuses]; rfl, by rw [hfuses]; rfl, by rw [hfuses]; rfl⟩

end

/-! ### Refused tokens (R416) -/

/-- Every operation goes through the same checks. -/
theorem exec_token {k : TokenFacts} {i : Instr} {s : State} (hpath : s.tokenPath = true)
    (hi : i ∈ [Instr.tokenProvision k, .tokenDeploy k, .tokenReturn k, .tokenRevoke k, .tokenTrial k, .tokenDebugUnlock k,
      .tokenFuseSet k]) :
    ∃ op lifeOk modeOk argOk eff, exec i s = done (s.token op k lifeOk modeOk argOk eff) := by
  have hgo : ¬ ¬ s.tokenPath = true := by simp [hpath]
  simp only [List.mem_cons, List.not_mem_nil, or_false] at hi
  rcases hi with rfl | rfl | rfl | rfl | rfl | rfl | rfl
  · exact ⟨_, _, _, _, _, show execTokenProvision k s = _ from if_neg hgo⟩
  · exact ⟨_, _, _, _, _, show execTokenDeploy k s = _ from if_neg hgo⟩
  · exact ⟨_, _, _, _, _, show execTokenReturn k s = _ from if_neg hgo⟩
  · exact ⟨_, _, _, _, _, show execTokenRevoke k s = _ from if_neg hgo⟩
  · exact ⟨_, _, _, _, _, show execTokenTrial k s = _ from if_neg hgo⟩
  · exact ⟨_, _, _, _, _, show execTokenDebugUnlock k s = _ from if_neg hgo⟩
  · exact ⟨_, _, _, _, _, show execTokenFuseSet k s = _ from if_neg hgo⟩

/-- Settles O55: each operation's token where it is accepted, and all of them where they are refused. -/
theorem tokensTakeEffect : Obligations.TokensTakeEffect := by
  constructor
  · intro k s hpath hver huid hnonce
    have hfits : s.TokenFits k := ⟨hver, huid, hnonce⟩
    refine ⟨tokenProvision_acts hpath hfits, tokenDeploy_acts hpath hfits, tokenReturn_acts hpath hfits,
      tokenRevoke_acts_bootstrap hpath hfits, tokenRevoke_acts_sealed hpath hfits, tokenTrial_acts hpath hfits,
      tokenDebugUnlock_acts hpath hfits, ?_⟩
    exact fun hlife a b c hargs ha hb hc haddr => tokenFuseSet_acts hpath hfits hlife hargs ha hb hc haddr
  · intro k i s hi hpath
    obtain ⟨op, lifeOk, modeOk, argOk, eff, hexec⟩ := exec_token hpath hi
    constructor
    · intro hver
      rw [State.token_refused (State.tokenResult_unverified hver) (by decide)] at hexec
      exact State.token_fails hexec (by decide)
    · intro hver hmis
      rw [State.token_refused (State.tokenResult_misdirected hver hmis) (by decide)] at hexec
      exact State.token_fails hexec (by decide)

end Sys2Proof.Machine
end

section
/-! SUPPORT. Pre-shared keys, the random generator, JTAG, I3C and NVMe-MI (R430, R431, R437, R472). -/

namespace Sys2Proof.Machine

/-! ### Pre-shared keys (R431) -/

/-- A table's entry is written, RESULT is 0 and the Logbook's record of the entry is on its way: the record changes neither. -/
theorem State.recordPsk_written (s : State) (e : Nat) (x : Psk) :
    let t := (({ s with per.psk := s.per.psk.set e x }.setF R.BT_PSKCMD_RESULT 0).recordPsk e).settle
    t.f R.BT_PSKCMD_RESULT = 0 ∧ t.per.psk.get e = x := by
  constructor
  · exact (State.f_settle_behind _ 0 0 (by decide)).trans
      ((State.f_recordB_other _ _ _ _ R.BT_PSKCMD_RESULT 0 0 (by decide)).trans (State.f_setF_same _ R.BT_PSKCMD_RESULT 0 0 0))
  · have hbook := State.book_recordCfg ({ s with per.psk := s.per.psk.set e x }.setF R.BT_PSKCMD_RESULT 0) 3 e
    rw [State.settle_per]
    exact (congrArg (fun b : Persist => b.psk.get e) (hbook _)).trans (Tab.getD_setD_same s.per.psk default e x)

section
variable {p : Path} {s : State} {e : Nat} (hmode : s.regMode p = true) (he : e = s.idxF p R.BT_PSKIDX_ENTRY)
include hmode he

theorem pskCommit_writes (hfree : (s.per.psk.keysWhere fun j x => x.valid && x.identity == s.pskStaged.identity && j != e) = [])
    (hhash : s.pskStaged.hash = 1 ∨ s.pskStaged.hash = 2) (hident : s.pskStaged.identity ≠ 0) :
    ∃ t, exec (.pskCommit p) s = .next t ∧ t.f R.BT_PSKCMD_RESULT = 0 ∧ t.per.psk.get e = s.pskStaged := by
  subst he
  have hvalid : ¬ (¬ (s.pskStaged.hash = 1 ∨ s.pskStaged.hash = 2) ∨ s.pskStaged.identity = 0) := not_or.mpr ⟨not_not_intro hhash, hident⟩
  have hexec : execPskCommit p s = done _ :=
    (if_pos hmode).trans (congrArg done ((if_neg (not_not_intro hfree)).trans (if_neg hvalid)))
  exact ⟨_, hexec, State.recordPsk_written s _ _⟩

theorem pskCommit_refuses (hdup : (s.per.psk.keysWhere fun j x => x.valid && x.identity == s.pskStaged.identity && j != e) ≠ []) :
    ∃ t, exec (.pskCommit p) s = .next t ∧ t.f R.BT_PSKCMD_RESULT = 1 ∧ s.Only t [R.BT_PSKCMD_RESULT.key 0 0] := by
  subst he
  have hexec : execPskCommit p s = done (s.setF R.BT_PSKCMD_RESULT 1) := (if_pos hmode).trans (congrArg done (if_pos hdup))
  exact ⟨_, hexec, (State.f_settle_behind _ 0 0 (by decide)).trans (State.f_setF_same s R.BT_PSKCMD_RESULT 1 0 0), State.only_setF ..⟩

theorem pskInvalidate_clears :
    ∃ t, exec (.pskInvalidate p) s = .next t ∧ t.f R.BT_PSKCMD_RESULT = 0 ∧ (t.per.psk.get e).valid = false := by
  subst he
  have hexec : execPskInvalidate p s = done _ := if_pos hmode
  obtain ⟨hresult, hentry⟩ := State.recordPsk_written s (s.idxF p R.BT_PSKIDX_ENTRY) {}
  exact ⟨_, hexec, hresult, congrArg Psk.valid hentry⟩

end

/-- An address that the bus assigns: the part keeps it, BUS shows I3C, and the assignment is acknowledged. -/
theorem State.i3c_assigned {s : State} {a : Nat} (ha : a < 128) {o : Host.Outcome State Fault Refusal}
    (ho : o = done (({ s with boot.i3cAddr := some (a % 128) }.setF R.GL_SB_STS_BUS 1).send .i3cAck 0 [a % 128])) :
    ∃ t, o = .next t ∧ t.boot.i3cAddr = some a ∧ t.f R.GL_SB_STS_BUS = 1 ∧ t.Sent .i3cAck 0 [a] [] := by
  rw [Nat.mod_eq_of_lt ha] at ho
  refine ⟨_, ho, congrArg Boot.i3cAddr (State.settle_boot _), ?_, (State.sent_send ..).settle⟩
  exact (State.f_settle _ R.GL_SB_STS_BUS 0 0 (by decide) (by decide)).trans (State.f_setF_same _ R.GL_SB_STS_BUS 1 0 0)

section
variable {s : State} (hmode : s.mode ≠ .off)
include hmode

/-! ### The random generator (R430) -/

theorem rngHealthFail_shows :
    ∃ t, exec .rngHealthFail s = .next t ∧ t.f R.CR_RNG_READY = 0 ∧ t.f R.CR_RNG_TEST_FAIL = 1 ∧
      t.f R.CR_RNG_RESEEDS = satAdd R.CR_RNG_RESEEDS.w (s.f R.CR_RNG_RESEEDS) 1 ∧
      s.Only t [R.CR_RNG_READY.key 0 0, R.CR_RNG_TEST_FAIL.key 0 0, R.CR_RNG_RESEEDS.key 0 0] := by
  have hexec : execRngHealthFail s = done _ := if_neg hmode
  refine ⟨_, hexec, ?_, ?_, ?_, ?_⟩
  · exact (State.f_settle_behind _ 0 0 (by decide)).trans ((State.f_addF_other _ R.CR_RNG_RESEEDS R.CR_RNG_READY 1 0 0 0 0 (by decide)).trans
      ((State.f_setF_other _ R.CR_RNG_TEST_FAIL R.CR_RNG_READY 1 0 0 0 0 (by decide)).trans (State.f_setF_same s R.CR_RNG_READY 0 0 0)))
  · exact (State.f_settle_behind _ 0 0 (by decide)).trans ((State.f_addF_other _ R.CR_RNG_RESEEDS R.CR_RNG_TEST_FAIL 1 0 0 0 0 (by decide)).trans
      (State.f_setF_same (s.setF R.CR_RNG_READY 0) R.CR_RNG_TEST_FAIL 1 0 0))
  · have hkept : ((s.setF R.CR_RNG_READY 0).setF R.CR_RNG_TEST_FAIL 1).f R.CR_RNG_RESEEDS = s.f R.CR_RNG_RESEEDS :=
      (State.f_setF_other _ R.CR_RNG_TEST_FAIL R.CR_RNG_RESEEDS 1 0 0 0 0 (by decide)).trans
        (State.f_setF_other s R.CR_RNG_READY R.CR_RNG_RESEEDS 0 0 0 0 0 (by decide))
    refine (State.f_settle_behind _ 0 0 (by decide)).trans ((State.f_addF_same _ R.CR_RNG_RESEEDS 1 0 0).trans ?_)
    rw [hkept, Nat.mod_eq_of_lt (satAdd_lt ..)]
  · refine State.only_settle (fun F i k hk => ?_) rfl
    obtain ⟨hready, hfail, hreseeds⟩ : F.key i k ≠ R.CR_RNG_READY.key 0 0 ∧ F.key i k ≠ R.CR_RNG_TEST_FAIL.key 0 0 ∧
      F.key i k ≠ R.CR_RNG_RESEEDS.key 0 0 := by simpa using hk
    exact (State.f_addF_other _ _ F _ _ _ i k hreseeds).trans ((State.f_setF_other _ _ F _ _ _ i k hfail).trans
      (State.f_setF_other s _ F _ _ _ i k hready))

theorem rngReseedDone_shows :
    ∃ t, exec .rngReseedDone s = .next t ∧ t.f R.CR_RNG_READY = 1 ∧ s.Only t [R.CR_RNG_READY.key 0 0, R.CR_RNG_TEST_FAIL.key 0 0] := by
  have hexec : execRngReseedDone s = done _ := if_neg hmode
  refine ⟨_, hexec, ?_, ?_⟩
  · exact (State.f_settle_behind _ 0 0 (by decide)).trans ((State.f_setF_other _ R.CR_RNG_TEST_FAIL R.CR_RNG_READY 0 0 0 0 0 (by decide)).trans
      (State.f_setF_same s R.CR_RNG_READY 1 0 0))
  · refine State.only_settle (fun F i k hk => ?_) rfl
    obtain ⟨hready, hfail⟩ : F.key i k ≠ R.CR_RNG_READY.key 0 0 ∧ F.key i k ≠ R.CR_RNG_TEST_FAIL.key 0 0 := by simpa using hk
    exact (State.f_setF_other _ _ F _ _ _ i k hfail).trans (State.f_setF_other s _ F _ _ _ i k hready)

/-! ### JTAG (R430) -/

/-- The chain that an instruction selects: a closed one selects BYPASS. -/
def State.tapOf (s : State) : JtagInstr → Nat
  | .bypass => 0
  | .idcode => 1
  | .boundary => if s.boot.debugOpen = false ∧ bit s.boot.fuses.jtag 1 = true then 0 else 2
  | .debug => if s.boot.debugOpen = true then 3 else 0

theorem execJtagInstruction_eq (i : JtagInstr) :
    execJtagInstruction i s = done ({ s with boot.tap := s.tapOf i }.send .jtagOut 0 [s.tapOf i]
      (if s.tapOf i = 1 then [Config.unstated 0 % 2 ^ 32] else [])) := by
  unfold execJtagInstruction
  rw [if_neg hmode]
  cases i with
  | bypass => rfl
  | idcode => rfl
  | debug => rfl
  | boundary =>
    cases hopen : s.boot.debugOpen with
    | false => simp [State.tapOf, hopen]
    | true => simp [State.tapOf, hopen, bit]

theorem jtagInstruction_selects (i : JtagInstr) :
    ∃ t, exec (.jtagInstruction i) s = .next t ∧ t.boot.tap = s.tapOf i ∧
      t.Sent .jtagOut 0 [s.tapOf i] (if s.tapOf i = 1 then [Config.unstated 0 % 2 ^ 32] else []) :=
  ⟨_, execJtagInstruction_eq hmode i, congrArg Boot.tap (State.settle_boot _), (State.sent_send ..).settle⟩

/-! ### I3C (R437) -/

theorem i3cEntdaa_assigns {a : Nat} (ha : a < 128) :
    ∃ t, exec (.i3cEntdaa a) s = .next t ∧ t.boot.i3cAddr = some a ∧ t.f R.GL_SB_STS_BUS = 1 ∧ t.Sent .i3cAck 0 [a] [] :=
  State.i3c_assigned ha (o := execI3cEntdaa a s) (if_neg hmode)

theorem i3cSetdasa_assigns {a : Nat} (ha : a < 128) :
    ∃ t, exec (.i3cSetdasa (s.f R.FU_SBADDR_SB_ADDR) a) s = .next t ∧ t.boot.i3cAddr = some a ∧ t.f R.GL_SB_STS_BUS = 1 ∧
      t.Sent .i3cAck 0 [a] [] :=
  State.i3c_assigned ha (o := execI3cSetdasa _ a s) ((if_neg hmode).trans (if_neg (not_not_intro rfl)))

theorem i3cSetdasa_ignores {a b : Nat} (hb : b ≠ s.f R.FU_SBADDR_SB_ADDR) : exec (.i3cSetdasa b a) s = .next s :=
  show execI3cSetdasa b a s = _ from (if_neg hmode).trans (if_pos hb)

end

/-! ### NVMe-MI (R472) -/

theorem nvmeMiMessage_answers (tag opc : Nat) (d : List Nat) {s : State}
    (hmode : s.mode = .discovery ∨ s.mode = .service ∨ s.mode = .becalmed) :
    ∃ t, exec (.nvmeMiMessage tag opc d) s = .next t ∧ t.Sent .miResp 0 [tag, opc] [Config.garbage s.ctl.freeCtr] ∧ t.media = s.media := by
  have hserved : s.modeIn [.discovery, .rebuild, .service, .readOnly, .feathered, .becalmed, .sanitize, .trial] = true := by
    rcases hmode with h | h | h <;> simp [State.modeIn, h]
  have hexec : execNvmeMiMessage tag opc d s = done (s.drawGarbage.2.send .miResp 0 [tag, opc] [s.drawGarbage.1]) :=
    if_neg (not_not_intro hserved)
  exact ⟨_, hexec, (State.sent_send ..).settle, State.settle_media _⟩

/-- Settles O57: the key table, the generator, the test port, the I3C address and NVMe-MI, command by command. -/
theorem keysAndTestPins : Obligations.KeysAndTestPins := by
  refine ⟨fun p e s hmode he => ⟨pskCommit_writes hmode he, pskCommit_refuses hmode he, pskInvalidate_clears hmode he⟩,
    fun s hmode => ⟨rngHealthFail_shows hmode, rngReseedDone_shows hmode⟩, fun s hmode => ⟨?_, ?_, ?_, ?_⟩,
    fun a s hmode ha => ⟨i3cEntdaa_assigns hmode ha, i3cSetdasa_assigns hmode ha, fun b hb => i3cSetdasa_ignores hmode hb⟩,
    fun tag opc d s => nvmeMiMessage_answers tag opc d⟩
  · exact jtagInstruction_selects hmode .bypass
  · exact jtagInstruction_selects hmode .idcode
  · obtain ⟨t, ht, htap, -⟩ := jtagInstruction_selects hmode .boundary
    exact ⟨t, ht, htap⟩
  · obtain ⟨t, ht, htap, -⟩ := jtagInstruction_selects hmode .debug
    exact ⟨t, ht, htap⟩

end Sys2Proof.Machine
end

section
/-! SUPPORT. The arming of hold-up and its loss (R391, R392, R393). -/

namespace Sys2Proof.Machine

theorem State.f_of_off {s : State} {F : R.Fld} (h : s.on F = false) : s.f F = 0 := bne_eq_false_iff_eq.mp h

/-- The reservation writes RESERVED_OK and nothing else among the fields. -/
theorem State.f_reserve_other (s : State) (F : R.Fld) (h : F.key 0 0 ≠ R.PW_STS_RESERVED_OK.key 0 0) : s.reserve.f F = s.f F :=
  State.f_setF_other s R.PW_STS_RESERVED_OK F _ 0 0 0 0 h

theorem State.reserve_cmds (s : State) : s.reserve.cmds = s.cmds := by
  unfold State.reserve
  generalize s.resRows _ _ = r
  rfl

theorem State.reserve_media (s : State) : s.reserve.media = s.media := by
  unfold State.reserve
  generalize s.resRows _ _ = r
  rfl

/-- Hold-up armed by a state that has its reservation (R392). -/
def State.armHoldup (s : State) : State :=
  ((((s.setF R.PW_STS_ARMED 1).setF R.RC_ACK_STS_ACK_RULE 1).addF R.RC_ACK_STS_RULE_CHANGES).raise R.PW_EVT_ARMED).raise
    R.RC_EVT_ACK_RULE_CHG 1

section
variable (s : State)

theorem State.f_armHoldup_armed : s.armHoldup.f R.PW_STS_ARMED = 1 :=
  (State.f_raise_other _ R.RC_EVT_ACK_RULE_CHG R.PW_STS_ARMED 1 noP noP 0 0 0 (by decide)).trans
    ((State.f_raise_other _ R.PW_EVT_ARMED R.PW_STS_ARMED noP noP noP 0 0 0 (by decide)).trans
      ((State.f_addF_other _ R.RC_ACK_STS_RULE_CHANGES R.PW_STS_ARMED 1 0 0 0 0 (by decide)).trans
        ((State.f_setF_other _ R.RC_ACK_STS_ACK_RULE R.PW_STS_ARMED 1 0 0 0 0 (by decide)).trans
          (State.f_setF_same s R.PW_STS_ARMED 1 0 0))))

theorem State.f_armHoldup_rule : s.armHoldup.f R.RC_ACK_STS_ACK_RULE = 1 :=
  (State.f_raise_other _ R.RC_EVT_ACK_RULE_CHG R.RC_ACK_STS_ACK_RULE 1 noP noP 0 0 0 (by decide)).trans
    ((State.f_raise_other _ R.PW_EVT_ARMED R.RC_ACK_STS_ACK_RULE noP noP noP 0 0 0 (by decide)).trans
      ((State.f_addF_other _ R.RC_ACK_STS_RULE_CHANGES R.RC_ACK_STS_ACK_RULE 1 0 0 0 0 (by decide)).trans
        (State.f_setF_same (s.setF R.PW_STS_ARMED 1) R.RC_ACK_STS_ACK_RULE 1 0 0)))

theorem State.f_armHoldup_event : s.armHoldup.f R.PW_EVT_ARMED = 1 :=
  (State.f_raise_other _ R.RC_EVT_ACK_RULE_CHG R.PW_EVT_ARMED 1 noP noP 0 0 0 (by decide)).trans
    (State.f_raise_same _ R.PW_EVT_ARMED noP noP noP 0)

theorem State.armHoldup_cmds : s.armHoldup.cmds = s.cmds := rfl

theorem State.armHoldup_media : s.armHoldup.media = s.media := rfl

/-- Hold-up that was armed is disarmed: rule 0, and DISARMED tells (R393). -/
theorem State.disarm_of_armed {s : State} (h : s.on R.PW_STS_ARMED = true) :
    s.disarm = ((((s.setF R.PW_STS_ARMED 0).setF R.RC_ACK_STS_ACK_RULE 0).addF R.RC_ACK_STS_RULE_CHANGES).raise R.PW_EVT_DISARMED).raise
      R.RC_EVT_ACK_RULE_CHG 0 := if_pos h

theorem State.disarm_of_unarmed {s : State} (h : s.on R.PW_STS_ARMED = false) : s.disarm = s := if_neg (by simp [h])

theorem State.f_disarm_armed : s.disarm.f R.PW_STS_ARMED = 0 := by
  cases harmed : s.on R.PW_STS_ARMED with
  | false => rw [State.disarm_of_unarmed harmed]; exact State.f_of_off harmed
  | true =>
    rw [State.disarm_of_armed harmed]
    exact (State.f_raise_other _ R.RC_EVT_ACK_RULE_CHG R.PW_STS_ARMED 0 noP noP 0 0 0 (by decide)).trans
      ((State.f_raise_other _ R.PW_EVT_DISARMED R.PW_STS_ARMED noP noP noP 0 0 0 (by decide)).trans
        ((State.f_addF_other _ R.RC_ACK_STS_RULE_CHANGES R.PW_STS_ARMED 1 0 0 0 0 (by decide)).trans
          ((State.f_setF_other _ R.RC_ACK_STS_ACK_RULE R.PW_STS_ARMED 0 0 0 0 0 (by decide)).trans
            (State.f_setF_same s R.PW_STS_ARMED 0 0 0))))

theorem State.f_disarm_rule {s : State} (h : s.on R.PW_STS_ARMED = true) : s.disarm.f R.RC_ACK_STS_ACK_RULE = 0 := by
  rw [State.disarm_of_armed h]
  exact (State.f_raise_other _ R.RC_EVT_ACK_RULE_CHG R.RC_ACK_STS_ACK_RULE 0 noP noP 0 0 0 (by decide)).trans
    ((State.f_raise_other _ R.PW_EVT_DISARMED R.RC_ACK_STS_ACK_RULE noP noP noP 0 0 0 (by decide)).trans
      ((State.f_addF_other _ R.RC_ACK_STS_RULE_CHANGES R.RC_ACK_STS_ACK_RULE 1 0 0 0 0 (by decide)).trans
        (State.f_setF_same (s.setF R.PW_STS_ARMED 0) R.RC_ACK_STS_ACK_RULE 0 0 0)))

theorem State.f_disarm_event {s : State} (h : s.on R.PW_STS_ARMED = true) : s.disarm.f R.PW_EVT_DISARMED = 1 := by
  rw [State.disarm_of_armed h]
  exact (State.f_raise_other _ R.RC_EVT_ACK_RULE_CHG R.PW_EVT_DISARMED 0 noP noP 0 0 0 (by decide)).trans
    (State.f_raise_same _ R.PW_EVT_DISARMED noP noP noP 0)

theorem State.disarm_media : s.disarm.media = s.media := State.keeps_ite (p := State.media) rfl rfl

end

/-! ### The pin -/

section
variable {s : State} (hmode : s.mode ≠ .off)
include hmode

theorem holdupOkRise_shows :
    ∃ t, exec .holdupOkRise s = .next t ∧ t.f R.PW_STS_HOLDUP_OK = 1 ∧ s.Only t [R.PW_STS_HOLDUP_OK.key 0 0] := by
  have hexec : execHoldupOkRise s = done (s.setF R.PW_STS_HOLDUP_OK 1) := if_neg hmode
  exact ⟨_, hexec, (State.f_settle_behind _ 0 0 (by decide)).trans (State.f_setF_same s R.PW_STS_HOLDUP_OK 1 0 0), State.only_setF ..⟩

theorem holdupOkFall_unarmed (harmed : s.on R.PW_STS_ARMED = false) :
    ∃ u : State, exec .holdupOkFall s = .next u.afterRows.settle ∧ u = s.setF R.PW_STS_HOLDUP_OK 0 := by
  have hoff : (s.setF R.PW_STS_HOLDUP_OK 0).f R.PW_STS_ARMED = 0 :=
    (State.f_setF_other s R.PW_STS_HOLDUP_OK R.PW_STS_ARMED 0 0 0 0 0 (by decide)).trans (State.f_of_off harmed)
  have hspill : (s.setF R.PW_STS_HOLDUP_OK 0).disarmSpill = s.setF R.PW_STS_HOLDUP_OK 0 := if_neg (by simp [State.on, hoff])
  have hexec : execHoldupOkFall s = done (s.setF R.PW_STS_HOLDUP_OK 0).afterRows :=
    (if_neg hmode).trans (congrArg (fun u : State => done u.afterRows) hspill)
  exact ⟨_, hexec, rfl⟩

theorem holdupOkFall_armed (harmed : s.on R.PW_STS_ARMED = true) :
    ∃ u : State, exec .holdupOkFall s = .next u.exposeStaging.spillAllPartial.afterRows.settle ∧ u.f R.PW_STS_HOLDUP_OK = 0 ∧
      u.f R.PW_STS_ARMED = 0 ∧ u.f R.RC_ACK_STS_ACK_RULE = 0 ∧ u.f R.PW_EVT_DISARMED = 1 ∧ u.media = s.media := by
  have hon : (s.setF R.PW_STS_HOLDUP_OK 0).on R.PW_STS_ARMED = true :=
    (congrArg (· != 0) (State.f_setF_other s R.PW_STS_HOLDUP_OK R.PW_STS_ARMED 0 0 0 0 0 (by decide))).trans harmed
  have hexec : execHoldupOkFall s = done (s.setF R.PW_STS_HOLDUP_OK 0).disarm.exposeStaging.spillAllPartial.afterRows :=
    (if_neg hmode).trans (congrArg (fun u : State => done u.afterRows) (if_pos hon))
  refine ⟨_, hexec, ?_, State.f_disarm_armed _, State.f_disarm_rule hon, State.f_disarm_event hon, State.disarm_media _⟩
  exact (State.f_disarm_other _ R.PW_STS_HOLDUP_OK 0 0 (by decide)).trans (State.f_setF_same s R.PW_STS_HOLDUP_OK 0 0 0)

/-! ### The arming timer -/

section
variable (hen : s.holdupEn = true) (hok : s.on R.PW_STS_HOLDUP_OK = true) (harmed : s.on R.PW_STS_ARMED = false)
include hen hok harmed

theorem holdupArmTimer_arms (hres : s.reserve.on R.PW_STS_RESERVED_OK = true) :
    ∃ u : State, exec .holdupArmTimer s = .next u.postReady.settle ∧ u.f R.PW_STS_ARMED = 1 ∧ u.f R.RC_ACK_STS_ACK_RULE = 1 ∧
      u.f R.PW_EVT_ARMED = 1 ∧ u.cmds = s.cmds ∧ u.media = s.media := by
  have hexec : execHoldupArmTimer s = done s.reserve.armHoldup.postReady :=
    (if_neg (by simp [hmode, hen, hok, harmed])).trans (if_neg (not_not_intro hres))
  exact ⟨s.reserve.armHoldup, hexec, State.f_armHoldup_armed _, State.f_armHoldup_rule _, State.f_armHoldup_event _,
    s.reserve.armHoldup_cmds.trans s.reserve_cmds, s.reserve.armHoldup_media.trans s.reserve_media⟩

theorem holdupArmTimer_waits (hres : s.reserve.on R.PW_STS_RESERVED_OK = false) :
    ∃ t, exec .holdupArmTimer s = .next t ∧ t.f R.PW_STS_ARMED = 0 ∧ t.f R.PW_STS_RESERVED_OK = 0 := by
  have hexec : execHoldupArmTimer s = done s.reserve :=
    (if_neg (by simp [hmode, hen, hok, harmed])).trans (if_pos (by simp [hres]))
  refine ⟨_, hexec, (State.f_settle_behind _ 0 0 (by decide)).trans ?_, (State.f_settle_behind _ 0 0 (by decide)).trans (State.f_of_off hres)⟩
  exact (s.f_reserve_other R.PW_STS_ARMED (by decide)).trans (State.f_of_off harmed)

end

end

/-- Settles O8: a rise and a fall of HOLDUP_OK and both ends of the arming timer. -/
theorem holdupArming : Obligations.HoldupArming :=
  ⟨fun _ => holdupOkRise_shows, fun _ => holdupArmTimer_arms, fun _ => holdupArmTimer_waits, fun _ => holdupOkFall_unarmed,
    fun _ => holdupOkFall_armed⟩

end Sys2Proof.Machine
end

section
/-! SUPPORT. Changes of mode and the start of Bootstrap (R32, R34, R37): what a change of mode leaves, and the state that Bootstrap finds. -/

namespace Sys2Proof.Machine

section
variable {α : Type} {p : State → α} (h : ∀ (s : State) f c b, p { s with fields := f, ctl := c, boot := b } = p s)
include h

theorem State.keeps_disarm (s : State) : p s.disarm = p s := State.keeps_ite (p := p) (h s _ _ s.boot) rfl

theorem State.keeps_serviceEntry (s : State) : p s.serviceEntry = p s := by
  unfold State.serviceEntry State.raiseCount
  split
  · exact State.keeps_ite (p := p) (State.keeps_ite (p := p) (h s _ _ _) rfl) rfl
  · rfl

/-- A change of mode reaches the fields, the modes and the fuses, and nothing else. -/
theorem State.keeps_move (s : State) (t : Nat) (m : Mode) : p (s.move t m) = p s := by
  refine State.keeps_ite (p := p) ?_ (h s _ _ s.boot)
  have hset (u : State) (v : Nat) : p (u.setF R.PW_STS_HOLDUP_EN v) = p u := h u _ u.ctl u.boot
  have hraise : p (State.raise { s with ctl := { s.ctl with mode := m, prev := s.mode.num, trigger := t, changes := satInc 16 s.ctl.changes } }
    R.GL_EVT_MODE_CHG s.mode.num m.num t) = p s := h s _ _ s.boot
  have hdisarm (u : State) (c : Prop) [Decidable c] : p (if c then u else u.disarm) = p u :=
    State.keeps_ite (p := p) rfl (State.keeps_disarm h u)
  unfold State.chmode
  dsimp only
  exact State.keeps_ite (p := p) ((State.keeps_serviceEntry h _).trans ((hdisarm _ _).trans ((hset _ _).trans hraise)))
    ((hdisarm _ _).trans ((hset _ _).trans hraise))

end

theorem State.move_pending (s : State) (t : Nat) (m : Mode) : (s.move t m).pending = s.pending :=
  State.keeps_move (p := State.pending) (fun _ _ _ _ => rfl) s t m

theorem State.move_pwr (s : State) (t : Nat) (m : Mode) : (s.move t m).pwr = s.pwr :=
  State.keeps_move (p := State.pwr) (fun _ _ _ _ => rfl) s t m

theorem State.move_disk (s : State) (t : Nat) (m : Mode) : (s.move t m).disk = s.disk :=
  State.keeps_move (p := State.disk) (fun _ _ _ _ => rfl) s t m

/-! ### Bootstrap (R409) -/

/-- A lifecycle that does not seal: Bootstrap stands at step 3 with a new nonce. -/
theorem State.bootStart_of_life {s : State} (h4 : s.life ≠ 4) (h5 : s.life ≠ 5) : s.bootStart = s.newNonce.setF R.BT_STS_STEP 3 :=
  (if_neg (show ¬ s.life = 4 from h4)).trans (if_neg (show ¬ s.life = 5 from h5))

theorem State.f_bootStart_step {s : State} (h4 : s.life ≠ 4) (h5 : s.life ≠ 5) : s.bootStart.settle.f R.BT_STS_STEP = 3 := by
  rw [State.bootStart_of_life h4 h5]
  exact (State.f_settle_behind _ 0 0 (by decide)).trans (State.f_setF_same s.newNonce R.BT_STS_STEP 3 0 0)

/-- With no link Up, a change of mode leads to Bootstrap, with PORST_N low or high, and every command goes. -/
theorem State.bootstrapEnter_begins {s : State} {t : Nat} (hmove : canMove s.mode t .bootstrap = true) (h4 : s.life ≠ 4)
    (h5 : s.life ≠ 5) (hlinks : ∀ l, s.linkUp l = false) (porst : Bool) :
    let u := (s.move t .bootstrap).bootstrapEnter porst
    u.mode = .bootstrap ∧ u.ctl.trigger = t ∧ u.ctl.prev = s.mode.num ∧ u.cmds = [] ∧ u.pwr.shdn = false ∧ u.clk.held = false := by
  intro u
  obtain ⟨hmode, hprev, htrig, hboot, -⟩ := State.change_of_standing (State.move_standing hmove (by decide))
  have hlife : (s.move t .bootstrap).life = s.life := by rw [State.life, hboot]
  have hlinks' : ∀ l, (s.move t .bootstrap).linkUp l = false := fun l => (State.linkUp_move ..).trans (hlinks l)
  cases porst with
  | false =>
    have henter : u = ((s.move t .bootstrap).cleared false).newNonce.setF R.BT_STS_STEP 3 :=
      State.bootstrapEnter_of_down hlinks' (by rwa [hlife]) (by rwa [hlife])
    rw [henter]
    exact ⟨hmode, htrig, hprev, rfl, rfl, rfl⟩
  | true =>
    have henter : u = ((s.move t .bootstrap).cleared true).sbReset :=
      (if_pos rfl).trans (congrArg (fun u : State => (u.cleared true).sbReset) (State.linksEnd_of_down hlinks'))
    rw [henter]
    exact ⟨hmode, htrig, hprev, rfl, rfl, rfl⟩

end Sys2Proof.Machine
end

section
/-! SUPPORT. PORST_N and the supply (R34, R35, R369, R394): the commands of a reset, of a loss of power and of its return. -/

namespace Sys2Proof.Machine

/-! ### PORST_N (R35, R369) -/

section
variable {s : State}

theorem porstNRelease_powers (hmode : s.mode = .off) (h4 : s.life ≠ 4) (h5 : s.life ≠ 5) :
    ∃ t, exec .porstNRelease s = .next t ∧ t.mode = .bootstrap ∧ t.clk.tb = 0 ∧ t.ctl.prev = 0 ∧ t.ctl.trigger = 1 ∧
      t.f R.BT_STS_STEP = 3 := by
  have hexec : execPorstNRelease s = done s.powerOn := if_pos hmode
  have hstart : s.powerOn = _ := State.bootStart_of_life (s := State.sbReset
    { s with clk.tb := 0, log := {}, ctl.evq := [], ctl.mode := .bootstrap, ctl.prev := 0, ctl.trigger := 1 }) h4 h5
  refine ⟨_, hexec, ?_, ?_, ?_, ?_, State.f_bootStart_step h4 h5⟩ <;> rw [hstart]
  · exact State.settle_mode _
  · exact congrArg Clk.tb (State.settle_clk _)
  · exact State.settle_prev _
  · exact State.settle_trigger _

theorem porstNRelease_restarts (hmode : s.mode = .bootstrap) (h4 : s.life ≠ 4) (h5 : s.life ≠ 5) :
    ∃ t, exec .porstNRelease s = .next t ∧ t.mode = .bootstrap ∧ t.clk.tb = 0 ∧ t.pwr.porst = false ∧ t.f R.BT_STS_STEP = 3 := by
  have hexec : execPorstNRelease s = done s.porstRestart := (if_neg (by simp [hmode])).trans (if_pos hmode)
  have hstart : s.porstRestart = _ := State.bootStart_of_life
    (s := { (s.cleared true).sbReset with clk.tb := 0, log := {}, ctl.evq := [], pwr.porst := false }) h4 h5
  refine ⟨_, hexec, ?_, ?_, ?_, State.f_bootStart_step h4 h5⟩ <;> rw [hstart]
  · exact (State.settle_mode _).trans hmode
  · exact congrArg Clk.tb (State.settle_clk _)
  · exact congrArg Pwr.porst (State.settle_pwr _)

/-- The modes without a flush and without the rest have a row for each of the two triggers (Table 01-8). -/
theorem bare_rows {m : Mode} (h : m ∈ [Mode.bootstrap, .discovery, .trial, .sealed]) :
    m ≠ .off ∧ m ≠ .holdupFlush ∧ m ≠ .thermalRest ∧ ¬ flushModes.contains m = true ∧ canMove m 0x12 .off = true ∧ canMove m 0x13 .bootstrap = true := by
  have hall : ∀ m ∈ [Mode.bootstrap, .discovery, .trial, .sealed], m ≠ .off ∧ m ≠ .holdupFlush ∧ m ≠ .thermalRest ∧ ¬ flushModes.contains m = true ∧
    canMove m 0x12 .off = true ∧ canMove m 0x13 .bootstrap = true := by decide
  exact hall m h

theorem porstNAssert_bootstrap (hmode : s.mode ∈ [Mode.bootstrap, .discovery, .trial, .sealed]) (hlinks : ∀ l, s.linkUp l = false) :
    ∃ t, exec .porstNAssert s = .next t ∧ t.mode = .bootstrap ∧ t.ctl.trigger = 0x13 ∧ t.ctl.prev = s.mode.num ∧
      t.pwr.porst = true ∧ t.conns = [] ∧ t.cmds = [] ∧ t.disk = s.disk := by
  obtain ⟨hoff, hflush, hrest, hno, -, hmove⟩ := bare_rows hmode
  have hexec : execPorstNAssert s = done ((State.move { s with pwr.porst := true } 0x13 .bootstrap).bootstrapEnter true) :=
    (if_neg hoff).trans ((if_neg hflush).trans ((if_neg hno).trans (if_neg fun hr => hrest hr.1)))
  have hlinks' : ∀ l, (State.move { s with pwr.porst := true } 0x13 .bootstrap).linkUp l = false :=
    fun l => (State.linkUp_move { s with pwr.porst := true } 0x13 .bootstrap l).trans (hlinks l)
  have henter : (State.move { s with pwr.porst := true } 0x13 .bootstrap).bootstrapEnter true =
      ((State.move { s with pwr.porst := true } 0x13 .bootstrap).cleared true).sbReset :=
    (if_pos rfl).trans (congrArg (fun u : State => (u.cleared true).sbReset) (State.linksEnd_of_down hlinks'))
  obtain ⟨hm, hp, ht, -, hd⟩ := State.change_of_standing
    (State.move_standing (s := { s with pwr.porst := true }) (t := 0x13) (m := .bootstrap) hmove (by decide))
  refine ⟨_, hexec, ?_⟩
  rw [henter, State.settle_eq]
  exact ⟨hm, ht, hp, rfl, rfl, rfl, hd⟩

/-! ### Loss of the supply -/

/-- The state in which the supply is known to be lost. -/
def State.unpowered (s : State) : State := State.setF { s with pwr.supplyLost := true } R.PW_STS_PWRGD 0

theorem powerLoss_off (hmode : s.mode ∈ [Mode.bootstrap, .discovery, .trial, .sealed]) :
    ∃ t, exec .powerLoss s = .next t ∧ t.mode = .off ∧ t.ctl.trigger = 0x12 ∧ t.ctl.prev = s.mode.num ∧ t.fields = [] ∧
      t.cmds = [] ∧ t.disk = s.disk ∧ t.boot.fuses = s.boot.fuses ∧ t.pending = s.pending := by
  obtain ⟨hoff, hflush, hrest, hno, hmove, -⟩ := bare_rows hmode
  have hexec : execPowerLoss s = .next (s.unpowered.move 0x12 .off).powerOff :=
    (if_neg hoff).trans ((if_neg hflush).trans ((if_neg fun hr => hrest hr.1).trans ((if_neg hno).trans
      (if_neg fun hr => hrest hr.1))))
  obtain ⟨-, hp, ht, hb, hd⟩ := State.change_of_standing (State.move_standing (s := s.unpowered) (t := 0x12) (m := .off) hmove (by decide))
  have hfuses : (s.unpowered.move 0x12 .off).boot.fuses = s.boot.fuses := congrArg Boot.fuses hb
  exact ⟨_, hexec, rfl, ht, hp, rfl, rfl, hd, hfuses, State.move_pending s.unpowered 0x12 .off⟩

/-- The entry to Hold-up Flush cuts Easy on every lane (R394). -/
theorem State.easy_each (s : State) : ∀ l < 32, (s.each 32 fun s l => s.setF R.LN_EASY_EASY 0 l).f R.LN_EASY_EASY l = 0 := by
  refine State.each_brings (P := fun l u => u.f R.LN_EASY_EASY l = 0) (fun l _ u => State.f_setF_same u R.LN_EASY_EASY 0 l 0)
    (fun c d u hne h => ?_) s
  have hkey : R.LN_EASY_EASY.key c 0 ≠ R.LN_EASY_EASY.key d 0 := by
    simp only [R.Fld.key, R.Reg.at, R.LN_EASY_EASY, R.LN_EASY]
    omega
  exact (State.f_setF_other u R.LN_EASY_EASY R.LN_EASY_EASY 0 d 0 c 0 hkey).trans h

theorem State.f_flushEntry_easy (s : State) (t : Nat) {l : Nat} (hl : l < 32) : (s.flushEntry t).f R.LN_EASY_EASY l = 0 :=
  (State.f_setF_other _ R.PW_DIE_DIE_BUDGET R.LN_EASY_EASY _ 0 0 l 0 (key_ne_of_lt l 0 (by decide))).trans (State.easy_each _ l hl)

theorem powerLoss_flushes (hmode : s.mode ∈ flushModes) :
    ∃ t, exec .powerLoss s = .next t ∧ ∀ l, l < 32 → t.f R.LN_EASY_EASY l = 0 := by
  have hall : ∀ m ∈ flushModes, m ≠ .off ∧ m ≠ .holdupFlush ∧ m ≠ .thermalRest := by decide
  obtain ⟨hoff, hflush, hrest⟩ := hall s.mode hmode
  have hexec : execPowerLoss s = done (s.unpowered.flushEntry 0x12) :=
    (if_neg hoff).trans ((if_neg hflush).trans ((if_neg fun hr => hrest hr.1).trans (if_pos (List.contains_iff_mem.mpr hmode))))
  exact ⟨_, hexec, fun l hl => (State.f_settle_behind _ l 0 (by decide)).trans (State.f_flushEntry_easy _ _ hl)⟩

end

/-- The state in which the supply is known to be good. -/
def State.powered (s : State) : State := State.setF { s with pwr.supplyLost := false } R.PW_STS_PWRGD 1

theorem State.f_powered_other (s : State) {F : R.Fld} {i k : Nat} (h : F.key i k ≠ R.PW_STS_PWRGD.key 0 0) :
    s.powered.f F i k = s.f F i k := State.f_setF_other { s with pwr.supplyLost := false } R.PW_STS_PWRGD F 1 0 0 i k h

theorem State.linkUp_powered (s : State) (l : Nat) : s.powered.linkUp l = s.linkUp l := by
  unfold State.linkUp State.linkState
  rw [State.f_powered_other s (key_ne_of_lt _ _ (by decide))]

/-! ### The end of Hold-up Flush (R394) -/

section
variable {s : State} (hmode : s.mode = .holdupFlush)
include hmode

section
variable (us : Nat) (hended : s.pwr.flushEnded = false)
include hended

theorem flushDone_disarms (hlost : s.pwr.supplyLost = false) :
    ∃ t, exec (.flushDone { us }) s = .next t ∧ t.pwr.flushEnded = true ∧ t.f R.PW_STS_HOLDUP_EN = 0 ∧ t.f R.PW_STS_ARMED = 0 := by
  have hexec : execFlushDone { us } s = done ((s.flushFinish 1 us).setF R.PW_STS_HOLDUP_EN 0).disarm :=
    (if_pos ⟨hmode, by simp [hended]⟩).trans ((if_neg (not_not_intro rfl)).trans (if_neg (by simp [hlost])))
  refine ⟨_, hexec, ?_, ?_, ?_⟩
  · rw [State.settle_pwr]
    exact congrArg Pwr.flushEnded (State.keeps_disarm (p := State.pwr) (fun _ _ _ _ => rfl) _)
  · exact (State.f_settle_behind _ 0 0 (by decide)).trans ((State.f_disarm_other _ R.PW_STS_HOLDUP_EN 0 0 (by decide)).trans
      (State.f_setF_same _ R.PW_STS_HOLDUP_EN 0 0 0))
  · exact (State.f_settle_behind _ 0 0 (by decide)).trans (State.f_disarm_armed _)

theorem flushDone_off (hlost : s.pwr.supplyLost = true) :
    ∃ t, exec (.flushDone { us }) s = .next t ∧ t.mode = .off ∧ t.fields = [] ∧ t.cmds = [] := by
  have hexec : execFlushDone { us } s = .next _ :=
    (if_pos ⟨hmode, by simp [hended]⟩).trans ((if_neg (not_not_intro rfl)).trans (if_pos hlost))
  exact ⟨_, hexec, rfl, rfl, rfl⟩

theorem flushDone_cut : ∃ t, exec (.flushDone ⟨us, false⟩) s = .next t ∧ t.mode = .off ∧ t.fields = [] ∧ t.disk = s.disk := by
  have hexec : execFlushDone ⟨us, false⟩ s = .next (s.move 0x14 .off).powerOff :=
    (if_pos ⟨hmode, by simp [hended]⟩).trans (if_pos Bool.false_ne_true)
  exact ⟨_, hexec, rfl, rfl, State.move_disk s 0x14 .off⟩

end

/-! ### The return of power (R34, R37) -/

section
variable (hended : s.pwr.flushEnded = true)
include hended

theorem powerGoodTimer_rests (hlatch : s.on R.TH_TRIP_LATCH = true) :
    ∃ t, exec .powerGoodTimer s = .next t ∧ t.mode = .thermalRest ∧ t.ctl.trigger = 0x14 ∧ t.ctl.prev = 8 ∧
      t.pwr.supplyLost = false ∧ t.clk.held = (s.on R.CK_SEL_TB_PACER || s.f R.CK_SEL_SELECTED == 15) := by
  have hlatch' : s.powered.on R.TH_TRIP_LATCH = true := (congrArg (· != 0) (s.f_powered_other (by decide))).trans hlatch
  have hexec : execPowerGoodTimer s =
      done (State.restHold { s.powered.move 0x14 .thermalRest with pwr.tripFlush := false, pwr.flushEnded := true }) :=
    (if_neg (by simp [hmode])).trans ((if_pos hmode).trans ((if_neg (not_not_intro hended)).trans (if_pos hlatch')))
  have hfield : ∀ F : R.Fld, F.key 0 0 ∉ modeKeys → F.key 0 0 ≠ R.PW_STS_PWRGD.key 0 0 → (s.powered.move 0x14 .thermalRest).f F = s.f F :=
    fun F hk hp => (State.f_move_other s.powered 0x14 .thermalRest F 0 0 hk).trans (s.f_powered_other hp)
  have hpacer := hfield R.CK_SEL_TB_PACER (by decide) (by decide)
  have hsel := hfield R.CK_SEL_SELECTED (by decide) (by decide)
  have hmove : canMove s.powered.mode 0x14 .thermalRest = true := by
    rw [show s.powered.mode = .holdupFlush from hmode]
    decide
  obtain ⟨hm, hp, ht, -, -⟩ := State.change_of_standing (State.move_standing hmove (by decide))
  refine ⟨_, hexec, ?_⟩
  rw [State.settle_eq]
  refine ⟨hm, ht, hp.trans (congrArg Mode.num hmode), ?_, ?_⟩
  · exact congrArg Pwr.supplyLost (State.move_pwr s.powered 0x14 .thermalRest)
  · exact congrArg₂ (fun a b : Nat => (a != 0) || b == 15) hpacer hsel

theorem powerGoodTimer_boots (hlatch : s.on R.TH_TRIP_LATCH = false) (h4 : s.life ≠ 4) (h5 : s.life ≠ 5)
    (hlinks : ∀ l, s.linkUp l = false) :
    ∃ t, exec .powerGoodTimer s = .next t ∧ t.mode = .bootstrap ∧ t.ctl.trigger = 0x14 ∧ t.ctl.prev = 8 ∧ t.cmds = [] := by
  have hlatch' : s.powered.on R.TH_TRIP_LATCH = false := (congrArg (· != 0) (s.f_powered_other (by decide))).trans hlatch
  have hexec : execPowerGoodTimer s = done ((s.powered.move 0x14 .bootstrap).bootstrapEnter s.powered.pwr.porst) :=
    (if_neg (by simp [hmode])).trans ((if_pos hmode).trans ((if_neg (not_not_intro hended)).trans (if_neg (Bool.eq_false_iff.mp hlatch'))))
  have hmove : canMove s.powered.mode 0x14 .bootstrap = true := by
    rw [show s.powered.mode = .holdupFlush from hmode]
    decide
  have hlinks' : ∀ l, s.powered.linkUp l = false := fun l => (s.linkUp_powered l).trans (hlinks l)
  obtain ⟨hm, ht, hp, hc, -, -⟩ := State.bootstrapEnter_begins hmove h4 h5 hlinks' s.powered.pwr.porst
  exact ⟨_, hexec, (State.settle_mode _).trans hm, (State.settle_trigger _).trans ht,
    (State.settle_prev _).trans (hp.trans (congrArg Mode.num hmode)), (State.settle_cmds _).trans hc⟩

end

end

/-- Settles O7: PORST_N, the loss of the supply, the ends of Hold-up Flush and the return of power, clause by clause. -/
theorem powerLossAndReturn : Obligations.PowerLossAndReturn :=
  ⟨fun _ => porstNRelease_powers, fun _ => porstNRelease_restarts, fun _ => porstNAssert_bootstrap, fun _ => powerLoss_off,
    fun _ => powerLoss_flushes, fun us _ hm => flushDone_disarms hm us, fun us _ hm => flushDone_off hm us,
    fun us _ hm => flushDone_cut hm us, fun _ => powerGoodTimer_rests, fun _ => powerGoodTimer_boots⟩

end Sys2Proof.Machine
end

section
/-! SUPPORT. The thermal trip and Thermal Rest (R37, R403 to R406). -/

namespace Sys2Proof.Machine

/-! ### What the end of host traffic and the loss of DRAM leave -/

section
variable {α : Type} {p : State → α} (s : State)

/-- The end of host traffic writes the two fields of each link, and what serves the hosts. -/
theorem State.keeps_hostStop (hlink : ∀ (u : State) (l st : Nat), p (u.setLink l st) = p u)
    (hheld : ∀ (u : State) links held, p { u with links := links, ctl := { u.ctl with held := held } } = p u)
    (hclk : ∀ (u : State) k, p { u with clk := k } = p u)
    (hhost : ∀ (u : State) gov flash hop, p { u with
      gov := gov, flash := flash, hop := hop, conns := [], ctrls := [], queues := [], cmds := [] } = p u) : p s.hostStop = p s :=
  (hhost _ _ _ _).trans ((hclk _ _).trans
    (State.keeps_each (p := p) (fun u l => (hheld (u.setLink l 0) _ _).trans (hlink u l 0)) 8 s))

/-- DRAM that goes writes the states of its channels and VALID_REGIONS. -/
theorem State.keeps_dramOff (hstate : ∀ (u : State) (c : Nat), p (u.setF R.DR_STS_CSTATE 1 c) = p u)
    (hdram : ∀ (u : State) d, p { u with dram := d } = p u)
    (hvalid : ∀ (u : State) (v : Nat), p (u.setF R.DR_VRCNT_VALID_REGIONS v) = p u) : p s.dramOff = p s :=
  (hvalid _ _).trans ((hdram _ _).trans
    (State.keeps_each (p := p) (fun u c => State.keeps_ite (p := p) rfl (hstate u c)) 4 s))

theorem State.standing_hostStop : s.hostStop.standing = s.standing :=
  State.keeps_hostStop (p := State.standing) s (fun _ _ _ => rfl) (fun _ _ _ => rfl) (fun _ _ => rfl) (fun _ _ _ _ => rfl)

theorem State.pwr_hostStop : s.hostStop.pwr = s.pwr :=
  State.keeps_hostStop (p := State.pwr) s (fun _ _ _ => rfl) (fun _ _ _ => rfl) (fun _ _ => rfl) (fun _ _ _ _ => rfl)

theorem State.f_hostStop_other {F : R.Fld} (hstate : F.key 0 0 < R.PT_LINK_STS_LSTATE.key 0 0)
    (hspeed : F.key 0 0 < R.PT_LINK_STS_SPEED.key 0 0) : s.hostStop.f F = s.f F :=
  State.keeps_hostStop (p := fun u => u.f F) s
    (fun _ _ _ => (State.f_setF_other _ _ _ _ _ _ _ _ (key_ne_of_lt _ _ hspeed).symm).trans
      (State.f_setF_other _ _ _ _ _ _ _ _ (key_ne_of_lt _ _ hstate).symm))
    (fun _ _ _ => rfl) (fun _ _ => rfl) (fun _ _ _ _ => rfl)

theorem State.standing_dramOff : s.dramOff.standing = s.standing :=
  State.keeps_dramOff (p := State.standing) s (fun _ _ => rfl) (fun _ _ => rfl) (fun _ _ => rfl)

theorem State.pwr_dramOff : s.dramOff.pwr = s.pwr :=
  State.keeps_dramOff (p := State.pwr) s (fun _ _ => rfl) (fun _ _ => rfl) (fun _ _ => rfl)

theorem State.cmds_dramOff : s.dramOff.cmds = s.cmds :=
  State.keeps_dramOff (p := State.cmds) s (fun _ _ => rfl) (fun _ _ => rfl) (fun _ _ => rfl)

theorem State.conns_dramOff : s.dramOff.conns = s.conns :=
  State.keeps_dramOff (p := State.conns) s (fun _ _ => rfl) (fun _ _ => rfl) (fun _ _ => rfl)

theorem State.f_dramOff_other {F : R.Fld} (hstate : F.key 0 0 < R.DR_STS_CSTATE.key 0 0)
    (hvalid : F.key 0 0 ≠ R.DR_VRCNT_VALID_REGIONS.key 0 0) : s.dramOff.f F = s.f F :=
  State.keeps_dramOff (p := fun u => u.f F) s
    (fun u c => State.f_setF_other u R.DR_STS_CSTATE F 1 c 0 0 0 (key_ne_of_lt c 0 hstate).symm) (fun _ _ => rfl)
    (fun u v => State.f_setF_other u R.DR_VRCNT_VALID_REGIONS F v 0 0 0 0 hvalid)

end

/-! ### The trip (R403, R404) -/

/-- The triplets whose comparators have voted. -/
def votedMask (cmp : Nat) : Nat := (List.range 8).foldl (fun m t => setBit m t (voted cmp t)) 0

/-- A comparator has read above its threshold. -/
def State.reads (s : State) (c : Nat) : State := { s with pwr.cmp := setBit s.pwr.cmp c true }

/-- A trip latched, with THERM_N low. -/
def State.tripped (s : State) (c : Nat) : State :=
  let u := (((s.reads c).setF R.TH_TRIP_FIRED (votedMask (setBit s.pwr.cmp c true))).setF R.TH_TRIP_LATCH 1).setF R.TH_EVT_TRIP 1
  { u with pwr.thermLow := true }

section
variable (s : State) (c : Nat)

theorem State.f_tripped_latch : (s.tripped c).f R.TH_TRIP_LATCH = 1 :=
  (State.f_setF_other _ R.TH_EVT_TRIP R.TH_TRIP_LATCH 1 0 0 0 0 (by decide)).trans (State.f_setF_same _ R.TH_TRIP_LATCH 1 0 0)

theorem State.f_tripped_event : (s.tripped c).f R.TH_EVT_TRIP = 1 := State.f_setF_same _ R.TH_EVT_TRIP 1 0 0

theorem State.f_tripped_fired {c : Nat} (hc : c < 24) (hvote : voted (setBit s.pwr.cmp c true) (c / 3) = true) :
    bit ((s.tripped c).f R.TH_TRIP_FIRED) (c / 3) = true := by
  have hfired : (s.tripped c).f R.TH_TRIP_FIRED = votedMask (setBit s.pwr.cmp c true) % 2 ^ 8 :=
    (State.f_setF_other _ R.TH_EVT_TRIP R.TH_TRIP_FIRED 1 0 0 0 0 (by decide)).trans
      ((State.f_setF_other _ R.TH_TRIP_LATCH R.TH_TRIP_FIRED 1 0 0 0 0 (by decide)).trans
        (State.f_setF_same (s.reads c) R.TH_TRIP_FIRED (votedMask (setBit s.pwr.cmp c true)) 0 0))
  have hin : c / 3 < 8 := by omega
  rw [hfired, bit_mod_of_lt _ hin, votedMask, bit_maskOf, hvote, decide_eq_true hin]
  rfl

end

/-- A trip on the way to Thermal Rest, where a flush begins in the modes that have one. -/
def State.restBound (s : State) (c : Nat) : State :=
  { s.tripped c with
    ctl.flushFrom := s.mode, pwr.tripFlush := [Mode.service, .readOnly, .feathered, .becalmed, .sanitize].contains s.mode
    pwr.flushEnded := false
    pwr.flushOnPacer := (s.tripped c).on R.CK_SEL_TB_PACER, pwr.restMet := false, pwr.coolReads := 0, pwr.restReads := 0 }

section
variable {c : Nat} {s : State} (hc : c < 24)
include hc

section
variable (hvote : voted (setBit s.pwr.cmp c true) (c / 3) = true) (hlatch : s.on R.TH_TRIP_LATCH = false)
include hvote hlatch

theorem thermalTrip_rests (hmode : s.mode ∈ [Mode.bootstrap, .discovery, .rebuild, .trial, .sealed]) :
    ∃ t, exec (.thermalTrip c) s = .next t ∧ t.mode = .thermalRest ∧ t.ctl.trigger = 0x15 ∧ t.ctl.prev = s.mode.num ∧
      t.f R.TH_TRIP_LATCH = 1 ∧ t.pwr.thermLow = true ∧ t.cmds = [] ∧ t.conns = [] := by
  have hall : ∀ m ∈ [Mode.bootstrap, .discovery, .rebuild, .trial, .sealed], m ≠ .off ∧ m ≠ .holdupFlush ∧ m ≠ .thermalRest ∧
    [Mode.service, .readOnly, .feathered, .becalmed, .sanitize].contains m = false ∧ canMove m 0x15 .thermalRest = true := by decide
  obtain ⟨hoff, hflush, hrest, hno, hmove⟩ := hall s.mode hmode
  have hnew : ¬ (¬ voted (setBit s.pwr.cmp c true) (c / 3) = true ∨ s.on R.TH_TRIP_LATCH = true) :=
    not_or.mpr ⟨not_not_intro hvote, Bool.eq_false_iff.mp hlatch⟩
  have hexec : execThermalTrip c s = done ((s.restBound c).move 0x15 .thermalRest).hostStop.dramOff := by
    refine (if_neg (not_or.mpr ⟨hoff, hc.not_ge⟩)).trans ((if_neg hnew).trans ((if_neg hflush).trans ((if_neg hrest).trans ?_)))
    exact congrArg (fun u : State => done u.dramOff) (if_neg (Bool.eq_false_iff.mp hno))
  obtain ⟨hm, hp, ht, -, -⟩ := State.change_of_standing
    ((State.standing_dramOff _).trans ((State.standing_hostStop _).trans (State.move_standing (s := s.restBound c) hmove (by decide))))
  refine ⟨_, hexec, (State.settle_mode _).trans hm, (State.settle_trigger _).trans ht, (State.settle_prev _).trans hp, ?_, ?_, ?_, ?_⟩
  · refine (State.f_settle_behind _ 0 0 (by decide)).trans ((State.f_dramOff_other _ (by decide) (by decide)).trans ?_)
    refine (State.f_hostStop_other _ (by decide) (by decide)).trans ((State.f_move_other _ _ _ R.TH_TRIP_LATCH 0 0 (by decide)).trans ?_)
    exact s.f_tripped_latch c
  · rw [State.settle_pwr, State.pwr_dramOff, State.pwr_hostStop, State.move_pwr]
    rfl
  · exact (State.settle_cmds _).trans (State.cmds_dramOff _)
  · exact (State.settle_conns _).trans (State.conns_dramOff _)

/-- During Hold-up Flush a trip is latched and SHDN_N is driven; the flush goes on (R37). -/
theorem thermalTrip_holdup (hmode : s.mode = .holdupFlush) :
    ∃ t, exec (.thermalTrip c) s = .next t ∧ t.mode = .holdupFlush ∧ t.pwr.shdn = true ∧ t.f R.TH_TRIP_LATCH = 1 ∧
      t.f R.TH_EVT_TRIP = 1 ∧ bit (t.f R.TH_TRIP_FIRED) (c / 3) = true ∧ t.media = s.media := by
  have hnew : ¬ (¬ voted (setBit s.pwr.cmp c true) (c / 3) = true ∨ s.on R.TH_TRIP_LATCH = true) :=
    not_or.mpr ⟨not_not_intro hvote, Bool.eq_false_iff.mp hlatch⟩
  have hexec : execThermalTrip c s = done { s.tripped c with pwr.shdn := true } :=
    (if_neg (not_or.mpr ⟨by simp [hmode], hc.not_ge⟩)).trans ((if_neg hnew).trans (if_pos hmode))
  have hfield : ∀ F : R.Fld, R.GL_EVT_LOG_WRAP.key 0 0 < F.key 0 0 ∧ R.GL_SB_STS_ALERTS.key 0 0 < F.key 0 0 →
      (State.settle { s.tripped c with pwr.shdn := true }).f F = (s.tripped c).f F := fun F hF => State.f_settle_behind _ 0 0 hF
  refine ⟨_, hexec, (State.settle_mode _).trans hmode, congrArg Pwr.shdn (State.settle_pwr _), ?_, ?_, ?_, State.settle_media _⟩
  · exact (hfield _ (by decide)).trans (s.f_tripped_latch c)
  · exact (hfield _ (by decide)).trans (s.f_tripped_event c)
  · rw [hfield _ (by decide)]
    exact s.f_tripped_fired hc hvote

end

theorem thermalTrip_unvoted (hmode : s.mode ≠ .off) (hvote : voted (setBit s.pwr.cmp c true) (c / 3) = false) :
    ∃ t, exec (.thermalTrip c) s = .next t ∧ State.Only { s with pwr := { s.pwr with cmp := setBit s.pwr.cmp c true } } t [] := by
  have hexec : execThermalTrip c s = done (s.reads c) :=
    (if_neg (not_or.mpr ⟨hmode, hc.not_ge⟩)).trans (if_pos (.inl (Bool.eq_false_iff.mp hvote)))
  exact ⟨_, hexec, State.only_settle_same ..⟩

end

/-! ### The trip flush ends (R404, R405) -/

/-- What the trip flush, where there is one, leaves at its end. -/
def State.tripFlushed (s : State) (us : Nat) : State :=
  if s.pwr.tripFlush then s.flushFinish 2 us else { s with pwr.flushEnded := true }

theorem State.tripFlushed_ended (s : State) (us : Nat) : (s.tripFlushed us).pwr.flushEnded = true :=
  State.keeps_ite (p := fun u : State => u.pwr.flushEnded) rfl rfl

/-- Thermal Rest at its end, before the change of mode. -/
def State.rested (s : State) : State :=
  { (s.setF R.TH_TRIP_LATCH 0).raise R.TH_EVT_REST_END with
    pwr.shdn := false, pwr.thermLow := false, clk.held := false, pwr.restMet := false }

theorem State.linkUp_rested (s : State) (l : Nat) : s.rested.linkUp l = s.linkUp l := by
  have hfield : ∀ i k, s.rested.f R.PT_LINK_STS_LSTATE i k = s.f R.PT_LINK_STS_LSTATE i k := fun i k =>
    (State.f_raise_other _ R.TH_EVT_REST_END _ noP noP noP 0 i k (key_ne_of_lt i k (by decide))).trans
      (State.f_setF_other s R.TH_TRIP_LATCH _ 0 0 0 i k (key_ne_of_lt i k (by decide)))
  unfold State.linkUp State.linkState
  rw [hfield]

/-- With no link Up, a rest that ends leads to Bootstrap with SHDN_N high and the clock released. -/
theorem State.restLeave_boots {s : State} (hmode : s.mode = .thermalRest) (h4 : s.life ≠ 4) (h5 : s.life ≠ 5)
    (hlinks : ∀ l, s.linkUp l = false) :
    s.restLeave.mode = .bootstrap ∧ s.restLeave.ctl.trigger = 0x16 ∧ s.restLeave.ctl.prev = 9 ∧ s.restLeave.pwr.shdn = false ∧
      s.restLeave.clk.held = false := by
  have hrest : s.rested.mode = .thermalRest := hmode
  have hmove : canMove s.rested.mode 0x16 .bootstrap = true := by
    rw [hrest]
    decide
  obtain ⟨hm, ht, hp, -, hshdn, hheld⟩ := State.bootstrapEnter_begins hmove h4 h5 (fun l => (s.linkUp_rested l).trans (hlinks l)) false
  have hleave : s.restLeave = (s.rested.move 0x16 .bootstrap).bootstrapEnter false := rfl
  rw [hleave]
  exact ⟨hm, ht, hp.trans (congrArg Mode.num hrest), hshdn, hheld⟩

section
variable {s : State} (hmode : s.mode = .thermalRest)
include hmode

theorem tripFlushDone_rests (us : Nat) (hended : s.pwr.flushEnded = false) (hlost : s.pwr.supplyLost = false)
    (hporst : s.pwr.porst = false) :
    ∃ t, exec (.tripFlushDone { us }) s = .next t ∧ t.pwr.shdn = true ∧ t.pwr.flushEnded = true ∧ t.f R.PW_STS_HOLDUP_EN = 0 ∧
      t.f R.PW_STS_ARMED = 0 := by
  have hexec : execTripFlushDone { us } s =
      done (State.restHold { ((s.tripFlushed us).setF R.PW_STS_HOLDUP_EN 0).disarm with pwr.shdn := true }) :=
    (if_neg (by simp [hmode, hended])).trans ((if_neg fun h => h.1 rfl).trans
      ((if_neg (Bool.eq_false_iff.mp hlost)).trans (if_neg (Bool.eq_false_iff.mp hporst))))
  refine ⟨_, hexec, ?_, ?_, ?_, ?_⟩
  · exact congrArg Pwr.shdn (State.settle_pwr _)
  · rw [State.settle_pwr]
    exact (congrArg Pwr.flushEnded (State.keeps_disarm (p := State.pwr) (fun _ _ _ _ => rfl) _)).trans (s.tripFlushed_ended us)
  · exact (State.f_settle_behind _ 0 0 (by decide)).trans ((State.f_disarm_other _ R.PW_STS_HOLDUP_EN 0 0 (by decide)).trans
      (State.f_setF_same _ R.PW_STS_HOLDUP_EN 0 0 0))
  · exact (State.f_settle_behind _ 0 0 (by decide)).trans (State.f_disarm_armed _)

theorem tripFlushDone_cut (us : Nat) (hended : s.pwr.flushEnded = false) (hlost : s.pwr.supplyLost = true) :
    ∃ t, exec (.tripFlushDone ⟨us, false⟩) s = .next t ∧ t.mode = .off ∧ t.fields = [] ∧ t.disk = s.disk := by
  have hexec : execTripFlushDone ⟨us, false⟩ s = .next (s.move 0x12 .off).powerOff :=
    (if_neg (by simp [hmode, hended])).trans (if_pos ⟨Bool.false_ne_true, hlost⟩)
  exact ⟨_, hexec, rfl, rfl, State.move_disk s 0x12 .off⟩

/-! ### The end of Thermal Rest (R406) -/

section
variable (hended : s.pwr.flushEnded = true) (hcool : s.coolNow = true) (hcmp : s.pwr.cmp = 0)
include hended hcool hcmp

theorem thermalRestExitTimer_boots (hgood : s.on R.PW_STS_PWRGD = true) (h4 : s.life ≠ 4) (h5 : s.life ≠ 5)
    (hlinks : ∀ l, s.linkUp l = false) :
    ∃ t, exec .thermalRestExitTimer s = .next t ∧ t.mode = .bootstrap ∧ t.ctl.trigger = 0x16 ∧ t.ctl.prev = 9 ∧
      t.pwr.shdn = false ∧ t.clk.held = false := by
  have hexec : execThermalRestExitTimer s = done s.restLeave :=
    (if_neg (by simp [hmode])).trans ((if_pos hmode).trans ((if_neg (by simp [hended, hcool, hcmp])).trans (if_pos hgood)))
  obtain ⟨hm, ht, hp, hshdn, hheld⟩ := State.restLeave_boots hmode h4 h5 hlinks
  exact ⟨_, hexec, (State.settle_mode _).trans hm, (State.settle_trigger _).trans ht, (State.settle_prev _).trans hp,
    (congrArg Pwr.shdn (State.settle_pwr _)).trans hshdn, (congrArg Clk.held (State.settle_clk _)).trans hheld⟩

theorem thermalRestExitTimer_waits (hbad : s.on R.PW_STS_PWRGD = false) :
    ∃ t, exec .thermalRestExitTimer s = .next t ∧ t.f R.TH_TRIP_LATCH = 0 ∧
      State.Only { s with pwr := { s.pwr with restMet := true, shdn := false, thermLow := false } } t [R.TH_TRIP_LATCH.key 0 0] := by
  have hexec : execThermalRestExitTimer s =
      done (State.setF { s with pwr.restMet := true, pwr.shdn := false, pwr.thermLow := false } R.TH_TRIP_LATCH 0) :=
    (if_neg (by simp [hmode])).trans ((if_pos hmode).trans
      ((if_neg (by simp [hended, hcool, hcmp])).trans (if_neg (Bool.eq_false_iff.mp hbad))))
  exact ⟨_, hexec, (State.f_settle_behind _ 0 0 (by decide)).trans (State.f_setF_same _ R.TH_TRIP_LATCH 0 0 0), State.only_setF ..⟩

end

theorem pwrgdInRise_boots (hmet : s.pwr.restMet = true) (h4 : s.life ≠ 4) (h5 : s.life ≠ 5) (hlinks : ∀ l, s.linkUp l = false) :
    ∃ t, exec .pwrgdInRise s = .next t ∧ t.mode = .bootstrap ∧ t.ctl.trigger = 0x16 := by
  have hexec : execPwrgdInRise s = done s.powered.restLeave := (if_neg (by simp [hmode])).trans (if_pos ⟨hmode, hmet⟩)
  obtain ⟨hm, ht, -, -, -⟩ := State.restLeave_boots (s := s.powered) hmode h4 h5 fun l => (s.linkUp_powered l).trans (hlinks l)
  exact ⟨_, hexec, (State.settle_mode _).trans hm, (State.settle_trigger _).trans ht⟩

end

theorem pwrgdInRise_shows {s : State} (hmode : s.mode ≠ .off) (hstays : ¬ (s.mode = .thermalRest ∧ s.pwr.restMet = true)) :
    ∃ t, exec .pwrgdInRise s = .next t ∧ t.f R.PW_STS_PWRGD = 1 ∧
      State.Only { s with pwr := { s.pwr with supplyLost := false } } t [R.PW_STS_PWRGD.key 0 0] := by
  have hexec : execPwrgdInRise s = done s.powered := (if_neg hmode).trans (if_neg hstays)
  exact ⟨_, hexec, (State.f_settle_behind _ 0 0 (by decide)).trans (State.f_setF_same { s with pwr.supplyLost := false } R.PW_STS_PWRGD 1 0 0),
    State.only_setF { s with pwr.supplyLost := false } R.PW_STS_PWRGD 1 0 0⟩

/-- Settles O9: the trip, the trip flush, the exit timer and PWRGD_IN, clause by clause. -/
theorem thermalTripAndRest : Obligations.ThermalTripAndRest :=
  ⟨fun _ _ hm hc hv hl => thermalTrip_rests hc hv hl hm, fun _ _ hm hc hv hl => thermalTrip_holdup hc hv hl hm,
    fun _ _ hm hc hv => thermalTrip_unvoted hc hm hv, fun us _ hm => tripFlushDone_rests hm us, fun us _ hm => tripFlushDone_cut hm us,
    fun _ => thermalRestExitTimer_boots, fun _ => thermalRestExitTimer_waits, fun _ => pwrgdInRise_shows, fun _ => pwrgdInRise_boots⟩

end Sys2Proof.Machine
end

section
/-! SUPPORT. Envelope requests, the sensors and the comparators (R390, R399, R400, R403, R406). -/

namespace Sys2Proof.Machine

/-! ### Requests for an envelope (R390) -/

/-- The core voltage of the envelope in force. -/
def State.coreNow (s : State) : Nat := (s.envelope (s.f R.PW_ENV_ENV_ACTIVE)).vcoreMv

/-- A request shown, with PENDING. -/
def State.envAsked (s : State) (e p : Nat) : State := (s.setF R.PW_ENV_ENV_REQ e).setF R.PW_ENV_PENDING p

theorem State.envReq_eq (s : State) (e : Nat) :
    let v := (s.envelope (e % 4)).vcoreMv
    let u := s.envAsked e (b2n (decide (s.coreNow < v)))
    s.envReq e = if v > s.coreNow then (u.putF R.PW_ENV_VREQ_MV v).raise R.PW_EVT_VREQ_CHG v else u := by
  have hactive : (s.setF R.PW_ENV_ENV_REQ e).f R.PW_ENV_ENV_ACTIVE = s.f R.PW_ENV_ENV_ACTIVE :=
    State.f_setF_other s R.PW_ENV_ENV_REQ R.PW_ENV_ENV_ACTIVE e 0 0 0 0 (by decide)
  unfold State.envReq
  dsimp only
  rw [hactive]
  rfl

section
variable (s : State) (e : Nat)

theorem State.f_envAsked_request (p : Nat) : (s.envAsked e p).f R.PW_ENV_ENV_REQ = e % 4 :=
  (State.f_setF_other _ R.PW_ENV_PENDING R.PW_ENV_ENV_REQ p 0 0 0 0 (by decide)).trans (State.f_setF_same s R.PW_ENV_ENV_REQ e 0 0)

theorem State.f_envAsked_pending (p : Nat) : (s.envAsked e p).f R.PW_ENV_PENDING = p % 2 := State.f_setF_same _ R.PW_ENV_PENDING p 0 0

theorem State.f_envAsked_other (p : Nat) {F : R.Fld} {i k : Nat} (hreq : F.key i k ≠ R.PW_ENV_ENV_REQ.key 0 0)
    (hpend : F.key i k ≠ R.PW_ENV_PENDING.key 0 0) : (s.envAsked e p).f F i k = s.f F i k :=
  (State.f_setF_other _ _ F _ _ _ i k hpend).trans (State.f_setF_other s _ F _ _ _ i k hreq)

variable {s e} (hmode : s.mode ≠ .off)
include hmode

theorem envReqWrite_raises (h : s.coreNow < (s.envelope (e % 4)).vcoreMv) :
    ∃ t, exec (.envReqWrite e) s = .next t ∧ t.f R.PW_ENV_ENV_REQ = e % 4 ∧ t.f R.PW_ENV_PENDING = 1 ∧
      t.f R.PW_ENV_VREQ_MV = min (s.envelope (e % 4)).vcoreMv (2 ^ R.PW_ENV_VREQ_MV.w - 1) ∧ t.f R.PW_EVT_VREQ_CHG = 1 ∧
      s.Only t [R.PW_ENV_ENV_REQ.key 0 0, R.PW_ENV_PENDING.key 0 0, R.PW_ENV_VREQ_MV.key 0 0, R.PW_EVT_VREQ_CHG.key 0 0] := by
  have hreq : s.envReq e = ((s.envAsked e 1).putF R.PW_ENV_VREQ_MV (s.envelope (e % 4)).vcoreMv).raise R.PW_EVT_VREQ_CHG
      (s.envelope (e % 4)).vcoreMv := by
    rw [State.envReq_eq, if_pos h, decide_eq_true h]
    rfl
  have hexec : execEnvReqWrite e s = done (s.envReq e) := if_neg hmode
  rw [hreq] at hexec
  refine ⟨_, hexec, ?_, ?_, ?_, ?_, ?_⟩
  · exact (State.f_settle_behind _ 0 0 (by decide)).trans ((State.f_raise_other _ R.PW_EVT_VREQ_CHG R.PW_ENV_ENV_REQ _ noP noP 0 0 0 (by decide)).trans
      ((State.f_setF_other _ R.PW_ENV_VREQ_MV R.PW_ENV_ENV_REQ _ 0 0 0 0 (by decide)).trans (s.f_envAsked_request e 1)))
  · exact (State.f_settle_behind _ 0 0 (by decide)).trans ((State.f_raise_other _ R.PW_EVT_VREQ_CHG R.PW_ENV_PENDING _ noP noP 0 0 0 (by decide)).trans
      ((State.f_setF_other _ R.PW_ENV_VREQ_MV R.PW_ENV_PENDING _ 0 0 0 0 (by decide)).trans (s.f_envAsked_pending e 1)))
  · exact (State.f_settle_behind _ 0 0 (by decide)).trans ((State.f_raise_other _ R.PW_EVT_VREQ_CHG R.PW_ENV_VREQ_MV _ noP noP 0 0 0 (by decide)).trans
      (State.f_putF_same _ R.PW_ENV_VREQ_MV _ 0 0))
  · exact (State.f_settle_behind _ 0 0 (by decide)).trans (State.f_raise_same _ R.PW_EVT_VREQ_CHG _ noP noP 0)
  · refine State.only_settle (fun F i k hk => ?_) rfl
    obtain ⟨hr, hp, hv, hc⟩ : F.key i k ≠ R.PW_ENV_ENV_REQ.key 0 0 ∧ F.key i k ≠ R.PW_ENV_PENDING.key 0 0 ∧
      F.key i k ≠ R.PW_ENV_VREQ_MV.key 0 0 ∧ F.key i k ≠ R.PW_EVT_VREQ_CHG.key 0 0 := by simpa using hk
    exact (State.f_raise_other _ _ F _ _ _ _ i k hc).trans ((State.f_setF_other _ _ F _ _ _ i k hv).trans (s.f_envAsked_other e 1 hr hp))

theorem envReqWrite_waits (h : (s.envelope (e % 4)).vcoreMv ≤ s.coreNow) :
    ∃ t, exec (.envReqWrite e) s = .next t ∧ t.f R.PW_ENV_ENV_REQ = e % 4 ∧ t.f R.PW_ENV_PENDING = 0 ∧
      s.Only t [R.PW_ENV_ENV_REQ.key 0 0, R.PW_ENV_PENDING.key 0 0] := by
  have hreq : s.envReq e = s.envAsked e 0 := by
    rw [State.envReq_eq, if_neg h.not_gt, decide_eq_false h.not_gt]
    rfl
  have hexec : execEnvReqWrite e s = done (s.envReq e) := if_neg hmode
  rw [hreq] at hexec
  refine ⟨_, hexec, (State.f_settle_behind _ 0 0 (by decide)).trans (s.f_envAsked_request e 0),
    (State.f_settle_behind _ 0 0 (by decide)).trans (s.f_envAsked_pending e 0), State.only_settle (fun F i k hk => ?_) rfl⟩
  obtain ⟨hr, hp⟩ : F.key i k ≠ R.PW_ENV_ENV_REQ.key 0 0 ∧ F.key i k ≠ R.PW_ENV_PENDING.key 0 0 := by simpa using hk
  exact s.f_envAsked_other e 0 hr hp

end

/-! ### One sensor (R400) -/

/-- What a sensor shows. -/
structure Reading where
  temp : Nat
  suspect : Nat
  noValue : Nat
  run : Nat

def State.sensor (s : State) (i : Nat) : Reading :=
  { temp := s.f R.TH_SNS_TEMP 0 i, suspect := s.f R.TH_SNS_SUSPECT 0 i, noValue := s.f R.TH_SNS_NOVALUE 0 i, run := s.f R.TH_SNS_DEV_RUN 0 i }

def snsFields : List R.Fld := [R.TH_SNS_TEMP, R.TH_SNS_SUSPECT, R.TH_SNS_NOVALUE, R.TH_SNS_DEV_RUN]

theorem snsKey_eq {F : R.Fld} (hF : F ∈ snsFields) (i : Nat) : F.key 0 i = F.key 0 0 + 128 * i := by
  have hall : ∀ F ∈ snsFields, F.reg.s2 = 4 := by decide
  simp only [R.Fld.key, R.Reg.at, hall F hF]
  omega

theorem snsKey_ne_far {F G : R.Fld} (hF : F ∈ snsFields) (hG : G ∈ snsFields) {i j : Nat} (h : i ≠ j) : F.key 0 i ≠ G.key 0 j := by
  have hall : ∀ F ∈ snsFields, 8388608 ≤ F.key 0 0 ∧ F.key 0 0 < 8388608 + 32 := by decide
  have hf := hall F hF
  have hg := hall G hG
  rw [snsKey_eq hF, snsKey_eq hG]
  omega

theorem snsKey_ne {F G : R.Fld} (hF : F ∈ snsFields) (hG : G ∈ snsFields) (h : F.key 0 0 ≠ G.key 0 0) (i : Nat) : F.key 0 i ≠ G.key 0 i := by
  rw [snsKey_eq hF, snsKey_eq hG]
  omega

/-- The fields behind the grid are apart from the 24 sensors' own. -/
theorem snsKey_lt {F : R.Fld} (hF : F ∈ snsFields) {i : Nat} (hi : i < 24) : F.key 0 i < R.TH_SUM_HOT.key 0 0 := by
  have hall : ∀ F ∈ snsFields, F.key 0 0 + 3072 ≤ R.TH_SUM_HOT.key 0 0 := by decide
  have hf := hall F hF
  rw [snsKey_eq hF]
  omega

theorem le_snsKey {F : R.Fld} (hF : F ∈ snsFields) (i : Nat) : R.TH_SNS_TEMP.key 0 0 ≤ F.key 0 i := by
  have hall : ∀ F ∈ snsFields, R.TH_SNS_TEMP.key 0 0 ≤ F.key 0 0 := by decide
  have hf := hall F hF
  rw [snsKey_eq hF]
  omega

section
variable (u : State) (v i : Nat)

theorem State.f_setF_sns {F G : R.Fld} (hF : F ∈ snsFields) (hG : G ∈ snsFields) (h : G.key 0 0 ≠ F.key 0 0) :
    (u.setF F v 0 i).f G 0 i = u.f G 0 i := State.f_setF_other _ _ _ _ _ _ _ _ (snsKey_ne hG hF h i)

theorem State.sensor_setTemp : (u.setF R.TH_SNS_TEMP v 0 i).sensor i = { u.sensor i with temp := v % 2 ^ 16 } := by
  simp (disch := decide) only [State.sensor, State.f_setF_same, State.f_setF_sns]
  rfl

theorem State.sensor_setSuspect : (u.setF R.TH_SNS_SUSPECT v 0 i).sensor i = { u.sensor i with suspect := v % 2 } := by
  simp (disch := decide) only [State.sensor, State.f_setF_same, State.f_setF_sns]
  rfl

theorem State.sensor_setNoValue : (u.setF R.TH_SNS_NOVALUE v 0 i).sensor i = { u.sensor i with noValue := v % 2 } := by
  simp (disch := decide) only [State.sensor, State.f_setF_same, State.f_setF_sns]
  rfl

theorem State.sensor_setRun : (u.setF R.TH_SNS_DEV_RUN v 0 i).sensor i = { u.sensor i with run := v % 2 ^ 8 } := by
  simp (disch := decide) only [State.sensor, State.f_setF_same, State.f_setF_sns]
  rfl

/-- What writes none of a sensor's own fields leaves what it shows. -/
theorem State.sensor_of_fields {s t : State} {i : Nat} (h : ∀ F ∈ snsFields, t.f F 0 i = s.f F 0 i) : t.sensor i = s.sensor i := by
  simp (disch := decide) only [State.sensor, h]

theorem State.sensor_setF_far {F : R.Fld} (hF : F ∈ snsFields) {j : Nat} (h : i ≠ j) : (u.setF F v 0 j).sensor i = u.sensor i :=
  State.sensor_of_fields fun _ hG => State.f_setF_other _ _ _ _ _ _ _ _ (snsKey_ne_far hG hF h)

theorem State.sensor_raiseSuspect {i : Nat} (hi : i < 24) : (u.raise R.TH_EVT_SUSPECT v).sensor i = u.sensor i :=
  State.sensor_of_fields fun _ hG => State.f_raise_other _ _ _ _ _ _ _ _ _ ((snsKey_lt hG hi).trans (by decide)).ne

end

/-! ### One reading of one sensor (R400) -/

section
variable (s : State) (ts : List Int)

/-- The valid neighbours of a sensor. -/
def State.validAround (i : Nat) : List Nat := (neighbours i).filter fun j => !s.on R.TH_SNS_SUSPECT 0 j

/-- The median of their readings. -/
def State.medianAround (i : Nat) : Option Int := median ((s.validAround i).map fun j => (ts[j]?).getD 0)

/-- What the writes of one sensor's fields and the event maintain, its reading maintains. -/
theorem State.sensorOne_maintains {P : State → Prop} {i : Nat}
    (hset : ∀ (u : State) F v, F ∈ snsFields → P u → P (u.setF F v 0 i)) (hraise : ∀ u : State, P u → P (u.raise R.TH_EVT_SUSPECT i))
    {u : State} (h : P u) : P (State.sensorOne s ts u i) := by
  have htemp (w : State) (v : Nat) (hw : P w) : P (w.setF R.TH_SNS_TEMP v 0 i) := hset w _ v (by decide) hw
  have hsus (w : State) (v : Nat) (hw : P w) : P (w.setF R.TH_SNS_SUSPECT v 0 i) := hset w _ v (by decide) hw
  have hnov (w : State) (v : Nat) (hw : P w) : P (w.setF R.TH_SNS_NOVALUE v 0 i) := hset w _ v (by decide) hw
  have hrun (w : State) (v : Nat) (hw : P w) : P (w.setF R.TH_SNS_DEV_RUN v 0 i) := hset w _ v (by decide) hw
  unfold State.sensorOne
  dsimp only
  split
  · split
    · exact hnov _ _ (htemp _ _ h)
    · exact hnov _ _ h
  · split
    · refine iteInduction (motive := P) (fun _ => iteInduction (motive := P) (fun _ => ?_) fun _ => ?_) fun _ => htemp _ _ h
      · exact htemp _ _ (hraise _ (hsus _ _ (hrun _ _ (htemp _ _ h))))
      · exact hrun _ _ (htemp _ _ h)
    · exact htemp _ _ h

variable {s ts} {i : Nat} (hi : i < 24) (u : State)

theorem State.sensorOne_suspect {m : Int} (hsus : s.on R.TH_SNS_SUSPECT 0 i = true) (hmed : s.medianAround ts i = some m) :
    (State.sensorOne s ts u i).sensor i = { u.sensor i with temp := toField 16 m, noValue := 0 } := by
  have hone : State.sensorOne s ts u i = (u.setF R.TH_SNS_TEMP (toField 16 m) 0 i).setF R.TH_SNS_NOVALUE 0 0 i := by
    unfold State.medianAround State.validAround at hmed
    unfold State.sensorOne
    dsimp only
    rw [if_pos hsus, hmed]
  rw [hone, State.sensor_setNoValue, State.sensor_setTemp, Nat.mod_eq_of_lt (toField_lt 16 m)]

theorem State.sensorOne_novalue (hsus : s.on R.TH_SNS_SUSPECT 0 i = true) (hmed : s.medianAround ts i = none) :
    (State.sensorOne s ts u i).sensor i = { u.sensor i with noValue := 1 } := by
  have hone : State.sensorOne s ts u i = u.setF R.TH_SNS_NOVALUE 1 0 i := by
    unfold State.medianAround State.validAround at hmed
    unfold State.sensorOne
    dsimp only
    rw [if_pos hsus, hmed]
  rw [hone, State.sensor_setNoValue]

section
variable (hval : s.on R.TH_SNS_SUSPECT 0 i = false)
include hval

theorem State.sensorOne_alone (hfew : (s.validAround i).length < 2) :
    (State.sensorOne s ts u i).sensor i = { u.sensor i with temp := toField 16 ((ts[i]?).getD 0) } := by
  have hone : State.sensorOne s ts u i = u.setF R.TH_SNS_TEMP (toField 16 ((ts[i]?).getD 0)) 0 i := by
    unfold State.validAround at hfew
    unfold State.sensorOne
    dsimp only
    rw [if_neg (by simp [hval])]
    split
    · exact if_neg hfew.not_ge
    · rfl
  rw [hone, State.sensor_setTemp, Nat.mod_eq_of_lt (toField_lt 16 _)]

variable {m : Int} (hmany : 2 ≤ (s.validAround i).length) (hmed : s.medianAround ts i = some m)
include hmany hmed

/-- A valid sensor among enough neighbours: its reading and its run are shown, and a run of 16 makes it suspect. -/
theorem State.sensorOne_judged {run : Nat} (hrun : (if (((ts[i]?).getD 0) - m).natAbs > 128 then satInc 8 (u.f R.TH_SNS_DEV_RUN 0 i) else 0) = run) :
    State.sensorOne s ts u i =
      let w := (u.setF R.TH_SNS_TEMP (toField 16 ((ts[i]?).getD 0)) 0 i).setF R.TH_SNS_DEV_RUN run 0 i
      if 16 ≤ run then ((w.setF R.TH_SNS_SUSPECT 1 0 i).raise R.TH_EVT_SUSPECT i).setF R.TH_SNS_TEMP (toField 16 m) 0 i else w := by
  have hkept : (u.setF R.TH_SNS_TEMP (toField 16 ((ts[i]?).getD 0)) 0 i).f R.TH_SNS_DEV_RUN 0 i = u.f R.TH_SNS_DEV_RUN 0 i :=
    State.f_setF_sns _ _ _ (by decide) (by decide) (by decide)
  unfold State.medianAround State.validAround at hmed
  unfold State.validAround at hmany
  unfold State.sensorOne
  dsimp only
  rw [if_neg (by simp [hval]), hmed]
  dsimp only
  rw [if_pos hmany, hkept, hrun]

theorem State.sensorOne_within (hnear : (((ts[i]?).getD 0) - m).natAbs ≤ 128) :
    (State.sensorOne s ts u i).sensor i = { u.sensor i with temp := toField 16 ((ts[i]?).getD 0), run := 0 } := by
  rw [State.sensorOne_judged u hval hmany hmed (if_neg hnear.not_gt)]
  dsimp only
  rw [if_neg (by decide), State.sensor_setRun, State.sensor_setTemp, Nat.mod_eq_of_lt (toField_lt 16 _), Nat.zero_mod]

theorem State.sensorOne_strays (hfar : 128 < (((ts[i]?).getD 0) - m).natAbs) (hrun : satInc 8 (u.f R.TH_SNS_DEV_RUN 0 i) < 16) :
    (State.sensorOne s ts u i).sensor i =
      { u.sensor i with temp := toField 16 ((ts[i]?).getD 0), run := satInc 8 (u.f R.TH_SNS_DEV_RUN 0 i) } := by
  rw [State.sensorOne_judged u hval hmany hmed (if_pos hfar)]
  dsimp only
  rw [if_neg hrun.not_ge, State.sensor_setRun, State.sensor_setTemp, Nat.mod_eq_of_lt (toField_lt 16 _), Nat.mod_eq_of_lt (by omega)]

include hi in
theorem State.sensorOne_falls (hfar : 128 < (((ts[i]?).getD 0) - m).natAbs) (hrun : 16 ≤ satInc 8 (u.f R.TH_SNS_DEV_RUN 0 i)) :
    (State.sensorOne s ts u i).sensor i =
      { u.sensor i with temp := toField 16 m, suspect := 1, run := satInc 8 (u.f R.TH_SNS_DEV_RUN 0 i) } := by
  have hlt : satInc 8 (u.f R.TH_SNS_DEV_RUN 0 i) < 2 ^ 8 := by
    unfold satInc
    split <;> omega
  rw [State.sensorOne_judged u hval hmany hmed (if_pos hfar)]
  dsimp only
  rw [if_pos hrun, State.sensor_setTemp, State.sensor_raiseSuspect _ _ hi, State.sensor_setSuspect, State.sensor_setRun,
    State.sensor_setTemp, Nat.mod_eq_of_lt hlt, Nat.mod_eq_of_lt (toField_lt 16 m)]

include hi in
theorem State.sensorOne_tells (hfar : 128 < (((ts[i]?).getD 0) - m).natAbs) (hrun : 16 ≤ satInc 8 (u.f R.TH_SNS_DEV_RUN 0 i)) :
    (State.sensorOne s ts u i).f R.TH_EVT_SUSPECT = 1 := by
  have hkey : R.TH_EVT_SUSPECT.key 0 0 ≠ R.TH_SNS_TEMP.key 0 i := ((snsKey_lt (by decide) hi).trans (by decide)).ne'
  rw [State.sensorOne_judged u hval hmany hmed (if_pos hfar)]
  dsimp only
  rw [if_pos hrun]
  exact (State.f_setF_other _ R.TH_SNS_TEMP R.TH_EVT_SUSPECT _ 0 i 0 0 hkey).trans (State.f_raise_same _ R.TH_EVT_SUSPECT _ noP noP 0)

end

end

/-! ### The grid (R399) -/

/-- What number i brings about where its precondition stands, and no other number undoes, holds at the end of a repetition. -/
theorem State.foldl_range_brings {P Q : State → Prop} {g : State → Nat → State} {i n : Nat} (hi : i < n)
    (hQ : ∀ j < n, j ≠ i → ∀ u, Q u → Q (g u j)) (hgo : ∀ u, Q u → P (g u i)) (hP : ∀ j < n, j ≠ i → ∀ u, P u → P (g u j))
    {s : State} (h : Q s) : P ((List.range n).foldl g s) := by
  have hbefore : ∀ k ≤ i, Q ((List.range k).foldl g s) := by
    intro k hk
    induction k with
    | zero => exact h
    | succ k ih =>
      rw [List.range_succ, List.foldl_append]
      exact hQ k (by omega) (by omega) _ (ih (by omega))
  induction n with
  | zero => exact absurd hi i.not_lt_zero
  | succ n ih =>
    rw [List.range_succ, List.foldl_append]
    by_cases hin : i = n
    · subst hin
      exact hgo _ (hbefore i le_rfl)
    · exact hP n (by omega) (Ne.symm hin) _
        (ih (by omega) (fun j hj => hQ j (by omega)) (fun j hj => hP j (by omega)))

/-- The grid after a reading. -/
def State.sensed (s : State) (ts : List Int) : State := (List.range 24).foldl (fun a i => State.sensorOne s ts a i) s

section
variable {s : State} {ts : List Int}

theorem State.sensorOne_far {i j : Nat} (hi : i < 24) (h : j ≠ i) (u : State) : (State.sensorOne s ts u j).sensor i = u.sensor i :=
  State.sensorOne_maintains (P := fun v => v.sensor i = u.sensor i) s ts
    (fun w _ v hF hw => (State.sensor_setF_far w v i hF h.symm).trans hw) (fun w hw => (State.sensor_raiseSuspect w _ hi).trans hw) rfl

/-- A sensor shows what its own reading makes of what it showed. -/
theorem State.sensor_sensed {i : Nat} (hi : i < 24) {r : Reading}
    (hgo : ∀ u : State, u.sensor i = s.sensor i → (State.sensorOne s ts u i).sensor i = r) : (s.sensed ts).sensor i = r :=
  State.foldl_range_brings (P := fun u => u.sensor i = r) (Q := fun u => u.sensor i = s.sensor i) hi
    (fun _ _ hj u h => (State.sensorOne_far hi hj u).trans h) hgo (fun _ _ hj u h => (State.sensorOne_far hi hj u).trans h) rfl

/-- What the fields of the grid and the event leave as it is, a reading leaves as it is. -/
theorem State.keeps_sensed {β : Type} {p : State → β} (hset : ∀ (u : State) F v, F ∈ snsFields → ∀ i < 24, p (u.setF F v 0 i) = p u)
    (hraise : ∀ (u : State) i, p (u.raise R.TH_EVT_SUSPECT i) = p u) : p (s.sensed ts) = p s :=
  State.keeps_foldl_mem (p := p) (fun i hi u => State.sensorOne_maintains (P := fun v => p v = p u) s ts
    (fun w F v hF hw => (hset w F v hF i (List.mem_range.mp hi)).trans hw) (fun w hw => (hraise w i).trans hw) rfl) s

theorem State.f_sensed_behind {F : R.Fld} (hF : R.TH_SUM_HOT.key 0 0 ≤ F.key 0 0) (hevt : F.key 0 0 ≠ R.TH_EVT_SUSPECT.key 0 0) :
    (s.sensed ts).f F = s.f F :=
  State.keeps_sensed (p := fun u => u.f F)
    (fun _ _ _ hG _ hi => State.f_setF_other _ _ _ _ _ _ _ _ ((snsKey_lt hG hi).trans_le hF).ne')
    (fun _ _ => State.f_raise_other _ _ _ _ _ _ _ _ _ hevt)

theorem State.event_sensed {i : Nat} (hi : i < 24)
    (hgo : ∀ u : State, u.sensor i = s.sensor i → (State.sensorOne s ts u i).f R.TH_EVT_SUSPECT = 1) :
    (s.sensed ts).f R.TH_EVT_SUSPECT = 1 := by
  have hkeep : ∀ (j : Nat), j < 24 → ∀ u : State, u.f R.TH_EVT_SUSPECT = 1 → (State.sensorOne s ts u j).f R.TH_EVT_SUSPECT = 1 := by
    intro j hj u hu
    refine State.sensorOne_maintains (P := fun v => v.f R.TH_EVT_SUSPECT = 1) s ts (fun w F v hF hw => ?_)
      (fun w _ => State.f_raise_same w R.TH_EVT_SUSPECT j noP noP 0) hu
    exact (State.f_setF_other w F R.TH_EVT_SUSPECT v 0 j 0 0 ((snsKey_lt hF hj).trans (by decide)).ne').trans hw
  exact State.foldl_range_brings (P := fun u => u.f R.TH_EVT_SUSPECT = 1) (Q := fun u => u.sensor i = s.sensor i) hi
    (fun _ _ hj u h => (State.sensorOne_far hi hj u).trans h) hgo (fun j hj _ => hkeep j hj) rfl

end

end Sys2Proof.Machine
end

section
/-! SUPPORT. What follows a reading of the grid (R399 to R403, R406): HOT and MEAN, THERM_N, the thresholds, and Thermal Rest's counts. -/

namespace Sys2Proof.Machine

/-! ### The mode through a completion -/

section
variable (s : State) (c : Nat)

theorem State.mode_send (kind : MK) (dst : Nat) (args data : List Nat) (slot : Option SlotTx) (link : Option Nat) :
    (s.send kind dst args data slot link).mode = s.mode := by
  unfold State.send Ctl.post State.mode
  dsimp only
  split
  · rfl
  · rfl

theorem State.mode_advertise : (s.advertise c).mode = s.mode :=
  State.keeps_ite (p := State.mode) (State.mode_send ..) (State.mode_send ..)

theorem State.mode_bpConn : (s.bpConn c).mode = s.mode :=
  State.keeps_ite (p := State.mode) rfl (State.keeps_ite (p := State.mode) (State.mode_advertise ..) rfl)

theorem State.mode_freeCmd : (s.freeCmd c).mode = s.mode :=
  (State.keeps_foldl (p := State.mode) State.mode_bpConn _ _).trans
    (State.keeps_bpThresholds (p := State.mode) (fun _ _ _ _ => rfl) (fun _ _ _ _ => rfl) (s.entryEnd c))

theorem State.mode_answered (status dw0 dw1 loc : Nat) : (s.answered c status dw0 dw1 loc).mode = s.mode :=
  (State.mode_send (slot := none) (link := none) ..).trans
    (State.keeps_logged s status loc (p := State.mode) (fun _ _ => rfl) (fun _ _ => rfl) (s.cmd c))

theorem State.mode_complete (status dw0 dw1 loc : Nat) : (s.complete c status dw0 dw1 loc).mode = s.mode := by
  rcases s.complete_cases c status dw0 dw1 loc with h | h | h <;> rw [h]
  · exact State.mode_freeCmd ..
  · exact (State.mode_freeCmd ..).trans (State.mode_answered ..)

theorem State.mode_asyncEvent (e : Nat × Nat × Nat) : (s.asyncEvent c e).mode = s.mode := by
  unfold State.asyncEvent
  split
  · exact State.mode_complete ..
  · rfl

theorem State.pwr_asyncEvent (e : Nat × Nat × Nat) : (s.asyncEvent c e).pwr = s.pwr :=
  show (s.asyncEvent c e).bed.pwr = s.bed.pwr from congrArg State.pwr (State.bed_asyncEvent ..)

end

/-! ### The tail of a reading -/

/-- All that a reading brings about in every mode but Off, after the grid. -/
def State.sensorTail (s : State) : State :=
  let u := s.sensorSum.thermN.tempCheck
  if u.coolNow then { u with pwr.cmp := 0 } else u

section
variable {β : Type} {p : State → β} (s : State)

theorem State.keeps_sensorSum (hset : ∀ (u : State) F v, F ∈ [R.TH_SUM_HOT, R.TH_SUM_MEAN] → p (u.setF F v) = p u) :
    p s.sensorSum = p s := by
  unfold State.sensorSum
  split
  · rfl
  · exact (hset _ _ _ (by decide)).trans (hset _ _ _ (by decide))

theorem State.keeps_thermN (hlow : ∀ (u : State) b, p { u with pwr.thermLow := b } = p u)
    (hraise : ∀ u : State, p (u.raise R.TH_EVT_THERM_LOW) = p u) : p s.thermN = p s :=
  State.keeps_ite (p := p) ((hraise _).trans (hlow _ _)) (State.keeps_ite (p := p) (hlow _ _) rfl)

theorem State.keeps_tempCheck (hctrls : ∀ (u : State) x, p { u with ctrls := x } = p u)
    (hraise : ∀ u : State, p (u.raise R.TH_EVT_OVER_TEMP) = p u) (hevent : ∀ (u : State) k e, p (u.asyncEvent k e) = p u) :
    p s.tempCheck = p s := by
  refine State.keeps_ite (p := p) (hctrls _ _) ((State.keeps_foldl (p := p) (fun u k => ?_) _ _).trans ((hraise _).trans (hctrls _ _)))
  exact State.keeps_ite (p := p) (hevent _ _ _) rfl

/-- After HOT and MEAN nothing but THERM_N, the comparators, the controllers and two events follows. -/
theorem State.keeps_sensorTail (hlow : ∀ (u : State) b, p { u with pwr.thermLow := b } = p u)
    (hcmp : ∀ u : State, p { u with pwr.cmp := 0 } = p u) (hctrls : ∀ (u : State) x, p { u with ctrls := x } = p u)
    (hraise : ∀ (u : State) F, F ∈ [R.TH_EVT_THERM_LOW, R.TH_EVT_OVER_TEMP] → p (u.raise F) = p u)
    (hevent : ∀ (u : State) k e, p (u.asyncEvent k e) = p u) : p s.sensorTail = p s.sensorSum := by
  have hcheck : p s.sensorSum.thermN.tempCheck = p s.sensorSum :=
    (State.keeps_tempCheck _ hctrls (fun u => hraise u _ (by decide)) hevent).trans
      (State.keeps_thermN _ hlow fun u => hraise u _ (by decide))
  exact State.keeps_ite (p := p) ((hcmp _).trans hcheck) hcheck

end

section
variable (s : State)

theorem State.f_sensorTail {F : R.Fld} {i k : Nat} (hbp : F.key i k ∉ bpKeys) (hlow : F.key i k ≠ R.TH_EVT_THERM_LOW.key 0 0)
    (hover : F.key i k ≠ R.TH_EVT_OVER_TEMP.key 0 0) : s.sensorTail.f F i k = s.sensorSum.f F i k := by
  refine State.keeps_sensorTail (p := fun u => u.f F i k) s (fun _ _ => rfl) (fun _ => rfl) (fun _ _ => rfl) (fun u G hG => ?_)
    (fun u c e => State.f_asyncEvent_other u c e F i k hbp)
  refine State.f_raise_other u G F noP noP noP 0 i k ?_
  simp only [List.mem_cons, List.not_mem_nil, or_false] at hG
  rcases hG with rfl | rfl
  · exact hlow
  · exact hover

theorem State.f_sensorSum_other {F : R.Fld} {i k : Nat} (hhot : F.key i k ≠ R.TH_SUM_HOT.key 0 0)
    (hmean : F.key i k ≠ R.TH_SUM_MEAN.key 0 0) : s.sensorSum.f F i k = s.f F i k := by
  refine State.keeps_sensorSum (p := fun u => u.f F i k) s fun u G v hG => State.f_setF_other u G F v 0 0 i k ?_
  simp only [List.mem_cons, List.not_mem_nil, or_false] at hG
  rcases hG with rfl | rfl
  · exact hhot
  · exact hmean

theorem State.mode_sensorTail : s.sensorTail.mode = s.mode :=
  (State.keeps_sensorTail (p := State.mode) s (fun _ _ => rfl) (fun _ => rfl) (fun _ _ => rfl) (fun _ _ _ => rfl) State.mode_asyncEvent).trans
    (State.keeps_sensorSum (p := State.mode) s fun _ _ _ _ => rfl)

/-- The counts of readings, which the tail leaves to the mode's own step. -/
def State.counts (s : State) : Nat × Nat × Nat := (s.pwr.readings, s.pwr.coolReads, s.pwr.restReads)

theorem State.counts_sensorTail : s.sensorTail.counts = s.counts :=
  (State.keeps_sensorTail (p := State.counts) s (fun _ _ => rfl) (fun _ => rfl) (fun _ _ => rfl) (fun _ _ _ => rfl)
    (fun u c e => by simp only [State.counts, State.pwr_asyncEvent])).trans
    (State.keeps_sensorSum (p := State.counts) s fun _ _ _ _ => rfl)

/-- Nothing of the tail is in front of HOT: the grid stands. -/
theorem State.sensor_sensorTail {i : Nat} (hi : i < 24) : s.sensorTail.sensor i = s.sensor i := by
  have hbehind : ∀ k ∈ R.TH_SUM_HOT.key 0 0 :: R.TH_SUM_MEAN.key 0 0 :: R.TH_EVT_THERM_LOW.key 0 0 :: R.TH_EVT_OVER_TEMP.key 0 0 :: bpKeys,
    R.TH_SUM_HOT.key 0 0 ≤ k := by decide
  simp only [List.forall_mem_cons] at hbehind
  obtain ⟨hhot, hmean, hlow, hover, hbp⟩ := hbehind
  refine State.sensor_of_fields fun F hF => ?_
  have hlt := snsKey_lt hF hi
  exact (s.f_sensorTail (fun h => (hbp _ h).not_gt hlt) (hlt.trans_le hlow).ne (hlt.trans_le hover).ne).trans
    (s.f_sensorSum_other (hlt.trans_le hhot).ne (hlt.trans_le hmean).ne)

variable {s}

theorem State.validTemps_of_sensors {t : State} (h : ∀ i < 24, t.sensor i = s.sensor i) : t.validTemps = s.validTemps := by
  have hsus : ∀ i < 24, t.f R.TH_SNS_SUSPECT 0 i = s.f R.TH_SNS_SUSPECT 0 i := fun i hi => congrArg Reading.suspect (h i hi)
  have htemp : ∀ i < 24, t.f R.TH_SNS_TEMP 0 i = s.f R.TH_SNS_TEMP 0 i := fun i hi => congrArg Reading.temp (h i hi)
  unfold State.validTemps State.on
  rw [List.filter_congr fun i hi => by rw [hsus i (List.mem_range.mp hi)]]
  exact List.map_congr_left fun i hi => by rw [htemp i (List.mem_range.mp (List.mem_of_mem_filter hi))]

theorem State.coolNow_of_sensors {t : State} (h : ∀ i < 24, t.sensor i = s.sensor i) : t.coolNow = s.coolNow := by
  rw [State.coolNow, State.coolNow, State.validTemps_of_sensors h]

theorem State.sensorSum_hot {h : Int} {r : List Int} (htemps : s.validTemps = h :: r) :
    s.sensorSum.f R.TH_SUM_HOT = toField 16 (r.foldl max h) := by
  unfold State.sensorSum
  rw [htemps]
  exact (State.f_setF_other _ R.TH_SUM_MEAN R.TH_SUM_HOT _ 0 0 0 0 (by decide)).trans (State.f_setF_toField s R.TH_SUM_HOT _ 0 0)

theorem State.sensorSum_mean {h : Int} {r : List Int} (htemps : s.validTemps = h :: r) :
    s.sensorSum.f R.TH_SUM_MEAN = toField 16 ((h + r.foldl (· + ·) 0) / ((r.length + 1 : Nat) : Int)) := by
  unfold State.sensorSum
  rw [htemps]
  exact State.f_setF_toField _ R.TH_SUM_MEAN _ 0 0

theorem State.sensorSum_without (htemps : s.validTemps = []) : s.sensorSum = s := by
  unfold State.sensorSum
  rw [htemps]

end

/-! ### The mode's own step (R406, Table 01-8) -/

/-- One more of the 32 readings that Bootstrap counts. -/
def State.counted (s : State) : State := { s with pwr.readings := min 32 (s.pwr.readings + 1) }

/-- Thermal Rest out of Bootstrap, without a flush. -/
def State.bootRest (s : State) : State :=
  State.restHold { s.move 0x1A .thermalRest with pwr.tripFlush := false, pwr.flushEnded := true }

/-- The reading that Bootstrap counts, which ends it where the last of 32 finds a sensor too hot. -/
def State.bootReading (s : State) : State :=
  if s.counted.pwr.readings = 32 ∧ s.counted.validTemps.any (· > 95 * 16) then s.counted.bootRest
  else if s.counted.pwr.readings = 32 ∧ s.counted.f R.BT_STS_STEP ≤ 3 then s.counted.setF R.BT_STS_STEP 4 else s.counted

/-- Thermal Rest counts its readings, and the cool ones without a break. -/
def State.restCounted (s : State) : State :=
  let cool := if s.coolNow then s.pwr.coolReads + 1 else 0
  let u := { s with pwr.coolReads := cool, pwr.restReads := s.pwr.restReads + 1 }
  (u.setF R.TH_REST_COOL_MS (min 1024 (cool / 10))).putF R.TH_REST_REST_S ((s.pwr.restReads + 1) / 10000)

def State.restStep (s : State) : State := if s.mode = .thermalRest then s.restCounted else s

/-- How the handshake ends after the tail, by the mode. -/
def State.readingEnd (s : State) : Host.Outcome State Fault Refusal :=
  if s.mode = .bootstrap then
    if s.counted.pwr.readings = 32 ∧ s.counted.validTemps.any (· > 95 * 16) then done s.counted.bootRest
    else done (if s.counted.pwr.readings = 32 ∧ s.counted.f R.BT_STS_STEP ≤ 3 then s.counted.setF R.BT_STS_STEP 4 else s.counted)
  else if s.mode = .thermalRest then done s.restCounted
  else done s

theorem State.readingEnd_bootstrap {s : State} (h : s.mode = .bootstrap) : s.readingEnd = done s.bootReading := by
  unfold State.readingEnd State.bootReading
  rw [if_pos h]
  split
  · rfl
  · rfl

theorem State.readingEnd_other {s : State} (h : s.mode ≠ .bootstrap) : s.readingEnd = done s.restStep := by
  unfold State.readingEnd State.restStep
  rw [if_neg h]
  split
  · rfl
  · rfl

theorem State.f_restStep_other (s : State) {F : R.Fld} {i k : Nat} (hcool : F.key i k ≠ R.TH_REST_COOL_MS.key 0 0)
    (hrest : F.key i k ≠ R.TH_REST_REST_S.key 0 0) : s.restStep.f F i k = s.f F i k :=
  State.keeps_ite (p := fun u => u.f F i k)
    ((State.f_setF_other _ _ F _ _ _ i k hrest).trans (State.f_setF_other _ _ F _ _ _ i k hcool)) rfl

/-- A reading outside Off and Bootstrap. -/
def State.reading (s : State) (ts : List Int) : State := (s.sensed ts).sensorTail.restStep.settle

section
variable {s : State} {ts : List Int}

theorem State.mode_tailed : (s.sensed ts).sensorTail.mode = s.mode :=
  (State.mode_sensorTail _).trans (State.keeps_sensed (p := State.mode) (fun _ _ _ _ _ _ => rfl) fun _ _ => rfl)

theorem State.counts_tailed : (s.sensed ts).sensorTail.counts = s.counts :=
  (State.counts_sensorTail _).trans (State.keeps_sensed (p := State.counts) (fun _ _ _ _ _ _ => rfl) fun _ _ => rfl)

theorem exec_sensorReading (hoff : s.mode ≠ .off) : exec (.sensorReading ts) s = (s.sensed ts).sensorTail.readingEnd := by
  show execSensorReading ts s = _
  unfold execSensorReading State.sensorTail State.sensed
  rw [if_neg hoff]
  generalize (List.range 24).foldl (fun a i => State.sensorOne s ts a i) s = v
  dsimp only
  generalize v.sensorSum.thermN.tempCheck = w
  generalize (if w.coolNow = true then { w with pwr.cmp := 0 } else w) = x
  rfl

theorem exec_sensorReading_other (hoff : s.mode ≠ .off) (hboot : s.mode ≠ .bootstrap) :
    exec (.sensorReading ts) s = .next (s.reading ts) :=
  (exec_sensorReading hoff).trans (State.readingEnd_other fun h => hboot (State.mode_tailed.symm.trans h))

theorem State.f_reading {F : R.Fld} {i k : Nat} (hgl : R.GL_EVT_LOG_WRAP.key 0 0 < F.key 0 0 ∧ R.GL_SB_STS_ALERTS.key 0 0 < F.key 0 0)
    (hcool : F.key i k ≠ R.TH_REST_COOL_MS.key 0 0) (hrest : F.key i k ≠ R.TH_REST_REST_S.key 0 0) :
    (s.reading ts).f F i k = (s.sensed ts).sensorTail.f F i k :=
  (State.f_settle_behind _ i k hgl).trans (State.f_restStep_other _ hcool hrest)

theorem State.sensor_reading {i : Nat} (hi : i < 24) : (s.reading ts).sensor i = (s.sensed ts).sensor i := by
  have hall : ∀ F ∈ snsFields, R.GL_EVT_LOG_WRAP.key 0 0 < F.key 0 0 ∧ R.GL_SB_STS_ALERTS.key 0 0 < F.key 0 0 := by decide
  refine (State.sensor_of_fields fun F hF => ?_).trans (State.sensor_sensorTail _ hi)
  have hlt := snsKey_lt hF hi
  exact State.f_reading (hall F hF) (hlt.trans (by decide)).ne (hlt.trans (by decide)).ne

theorem State.validTemps_reading : (s.reading ts).validTemps = (s.sensed ts).validTemps :=
  State.validTemps_of_sensors fun _ hi => State.sensor_reading hi

/-! ### The clauses of a reading -/

theorem State.reading_keeps (h : (s.reading ts).validTemps = []) :
    (s.reading ts).f R.TH_SUM_HOT = s.f R.TH_SUM_HOT ∧ (s.reading ts).f R.TH_SUM_MEAN = s.f R.TH_SUM_MEAN := by
  rw [State.validTemps_reading] at h
  have hsum : ∀ F ∈ [R.TH_SUM_HOT, R.TH_SUM_MEAN], (s.reading ts).f F = s.f F := by
    intro F hF
    have hkeys : ∀ F ∈ [R.TH_SUM_HOT, R.TH_SUM_MEAN],
      (R.GL_EVT_LOG_WRAP.key 0 0 < F.key 0 0 ∧ R.GL_SB_STS_ALERTS.key 0 0 < F.key 0 0) ∧ F.key 0 0 ≠ R.TH_REST_COOL_MS.key 0 0 ∧
        F.key 0 0 ≠ R.TH_REST_REST_S.key 0 0 ∧ F.key 0 0 ∉ bpKeys ∧ F.key 0 0 ≠ R.TH_EVT_THERM_LOW.key 0 0 ∧
        F.key 0 0 ≠ R.TH_EVT_OVER_TEMP.key 0 0 ∧ R.TH_SUM_HOT.key 0 0 ≤ F.key 0 0 ∧ F.key 0 0 ≠ R.TH_EVT_SUSPECT.key 0 0 := by decide
    obtain ⟨hgl, hcool, hrest, hbp, hlow, hover, hhot, hsus⟩ := hkeys F hF
    exact (State.f_reading hgl hcool hrest).trans ((State.f_sensorTail _ hbp hlow hover).trans
      ((congrArg (State.f · F) (State.sensorSum_without h)).trans (State.f_sensed_behind hhot hsus)))
  exact ⟨hsum _ (by decide), hsum _ (by decide)⟩

theorem State.reading_sums {h : Int} {r : List Int} (htemps : (s.reading ts).validTemps = h :: r) :
    (s.reading ts).f R.TH_SUM_HOT = toField 16 (r.foldl max h) ∧
      (s.reading ts).f R.TH_SUM_MEAN = toField 16 ((h + r.foldl (· + ·) 0) / ((r.length + 1 : Nat) : Int)) := by
  rw [State.validTemps_reading] at htemps
  constructor
  · exact (State.f_reading (by decide) (by decide) (by decide)).trans
      ((State.f_sensorTail _ (by decide) (by decide) (by decide)).trans (State.sensorSum_hot htemps))
  · exact (State.f_reading (by decide) (by decide) (by decide)).trans
      ((State.f_sensorTail _ (by decide) (by decide) (by decide)).trans (State.sensorSum_mean htemps))

theorem State.reading_rests (hrest : s.mode = .thermalRest) :
    (s.reading ts).pwr.restReads = s.pwr.restReads + 1 ∧
      (s.reading ts).f R.TH_REST_REST_S = min ((s.pwr.restReads + 1) / 10000) (2 ^ R.TH_REST_REST_S.w - 1) ∧
      (s.reading ts).pwr.coolReads = if (s.reading ts).coolNow then s.pwr.coolReads + 1 else 0 := by
  have hcool : (s.reading ts).coolNow = (s.sensed ts).sensorTail.coolNow :=
    State.coolNow_of_sensors fun i hi => (State.sensor_reading hi).trans (State.sensor_sensorTail _ hi).symm
  have hcounts := State.counts_tailed (s := s) (ts := ts)
  simp only [State.counts, Prod.mk.injEq] at hcounts
  obtain ⟨-, hcoolReads, hrestReads⟩ := hcounts
  have hread : s.reading ts = (s.sensed ts).sensorTail.restCounted.settle :=
    congrArg State.settle (if_pos (State.mode_tailed.trans hrest))
  rw [hcool, hread, ← hcoolReads, ← hrestReads]
  generalize (s.sensed ts).sensorTail = w
  exact ⟨congrArg Pwr.restReads (State.settle_pwr _), (State.f_settle_behind _ 0 0 (by decide)).trans (State.f_putF_same _ R.TH_REST_REST_S _ 0 0),
    congrArg Pwr.coolReads (State.settle_pwr _)⟩

/-! ### A sensor's reading, for the state after it -/

variable {i : Nat} (hi : i < 24)
include hi

section
variable (hval : s.on R.TH_SNS_SUSPECT 0 i = false)
include hval

theorem State.reading_alone (hfew : (s.validAround i).length < 2) :
    (s.reading ts).sensor i = { s.sensor i with temp := toField 16 ((ts[i]?).getD 0) } :=
  (State.sensor_reading hi).trans (State.sensor_sensed hi fun u hu => hu ▸ State.sensorOne_alone u hval hfew)

variable {m : Int} (hmany : 2 ≤ (s.validAround i).length) (hmed : s.medianAround ts i = some m)
include hmany hmed

theorem State.reading_within (hnear : (((ts[i]?).getD 0) - m).natAbs ≤ 128) :
    (s.reading ts).sensor i = { s.sensor i with temp := toField 16 ((ts[i]?).getD 0), run := 0 } :=
  (State.sensor_reading hi).trans (State.sensor_sensed hi fun u hu => hu ▸ State.sensorOne_within u hval hmany hmed hnear)

variable (hfar : 128 < (((ts[i]?).getD 0) - m).natAbs)
include hfar

theorem State.reading_strays (hrun : satInc 8 (s.f R.TH_SNS_DEV_RUN 0 i) < 16) :
    (s.reading ts).sensor i =
      { s.sensor i with temp := toField 16 ((ts[i]?).getD 0), run := satInc 8 (s.f R.TH_SNS_DEV_RUN 0 i) } := by
  refine (State.sensor_reading hi).trans (State.sensor_sensed hi fun u hu => ?_)
  have hkept : u.f R.TH_SNS_DEV_RUN 0 i = s.f R.TH_SNS_DEV_RUN 0 i := congrArg Reading.run hu
  rw [State.sensorOne_strays u hval hmany hmed hfar (by rwa [hkept]), hu, hkept]

theorem State.reading_falls (hrun : 16 ≤ satInc 8 (s.f R.TH_SNS_DEV_RUN 0 i)) :
    (s.reading ts).sensor i =
      { s.sensor i with temp := toField 16 m, suspect := 1, run := satInc 8 (s.f R.TH_SNS_DEV_RUN 0 i) } := by
  refine (State.sensor_reading hi).trans (State.sensor_sensed hi fun u hu => ?_)
  have hkept : u.f R.TH_SNS_DEV_RUN 0 i = s.f R.TH_SNS_DEV_RUN 0 i := congrArg Reading.run hu
  rw [State.sensorOne_falls hi u hval hmany hmed hfar (by rwa [hkept]), hu, hkept]

theorem State.reading_tells (hrun : 16 ≤ satInc 8 (s.f R.TH_SNS_DEV_RUN 0 i)) : (s.reading ts).f R.TH_EVT_SUSPECT = 1 := by
  refine (State.f_reading (by decide) (by decide) (by decide)).trans ((State.f_sensorTail _ (by decide) (by decide) (by decide)).trans
    ((State.f_sensorSum_other _ (by decide) (by decide)).trans (State.event_sensed hi fun u hu => ?_)))
  have hkept : u.f R.TH_SNS_DEV_RUN 0 i = s.f R.TH_SNS_DEV_RUN 0 i := congrArg Reading.run hu
  exact State.sensorOne_tells hi u hval hmany hmed hfar (by rwa [hkept])

end

variable (hsus : s.on R.TH_SNS_SUSPECT 0 i = true)
include hsus

theorem State.reading_suspect {m : Int} (hmed : s.medianAround ts i = some m) :
    (s.reading ts).sensor i = { s.sensor i with temp := toField 16 m, noValue := 0 } :=
  (State.sensor_reading hi).trans (State.sensor_sensed hi fun u hu => hu ▸ State.sensorOne_suspect u hsus hmed)

theorem State.reading_novalue (hmed : s.medianAround ts i = none) : (s.reading ts).sensor i = { s.sensor i with noValue := 1 } :=
  (State.sensor_reading hi).trans (State.sensor_sensed hi fun u hu => hu ▸ State.sensorOne_novalue u hsus hmed)

end

/-! ### The clauses of the grid -/

section
variable {s : State} {ts : List Int} {i : Nat} (hi : i < 24)
include hi

/-- A valid sensor: alone, near the median, or far from it for fewer or more than 16 readings. -/
theorem State.reading_valid (hval : s.f R.TH_SNS_SUSPECT 0 i = 0) :
    ((s.validAround i).length < 2 → (s.reading ts).f R.TH_SNS_TEMP 0 i = toField 16 ((ts[i]?).getD 0) ∧
      (s.reading ts).f R.TH_SNS_SUSPECT 0 i = 0 ∧ (s.reading ts).f R.TH_SNS_DEV_RUN 0 i = s.f R.TH_SNS_DEV_RUN 0 i) ∧
    (∀ m, 2 ≤ (s.validAround i).length → s.medianAround ts i = some m → (((ts[i]?).getD 0) - m).natAbs ≤ 128 →
      (s.reading ts).f R.TH_SNS_TEMP 0 i = toField 16 ((ts[i]?).getD 0) ∧ (s.reading ts).f R.TH_SNS_SUSPECT 0 i = 0 ∧
        (s.reading ts).f R.TH_SNS_DEV_RUN 0 i = 0) ∧
    (∀ m, 2 ≤ (s.validAround i).length → s.medianAround ts i = some m → 128 < (((ts[i]?).getD 0) - m).natAbs →
      (s.reading ts).f R.TH_SNS_DEV_RUN 0 i = satInc 8 (s.f R.TH_SNS_DEV_RUN 0 i) ∧
      (satInc 8 (s.f R.TH_SNS_DEV_RUN 0 i) < 16 → (s.reading ts).f R.TH_SNS_TEMP 0 i = toField 16 ((ts[i]?).getD 0) ∧
        (s.reading ts).f R.TH_SNS_SUSPECT 0 i = 0) ∧
      (16 ≤ satInc 8 (s.f R.TH_SNS_DEV_RUN 0 i) → (s.reading ts).f R.TH_SNS_TEMP 0 i = toField 16 m ∧
        (s.reading ts).f R.TH_SNS_SUSPECT 0 i = 1 ∧ (s.reading ts).f R.TH_EVT_SUSPECT = 1)) := by
  have hon : s.on R.TH_SNS_SUSPECT 0 i = false := congrArg (· != 0) hval
  refine ⟨fun hfew => ?_, fun m hmany hmed hnear => ?_, fun m hmany hmed hfar => ⟨?_, fun hrun => ?_, fun hrun => ?_⟩⟩
  · have h := State.reading_alone (ts := ts) hi hon hfew
    exact ⟨congrArg Reading.temp h, (congrArg Reading.suspect h).trans hval, congrArg Reading.run h⟩
  · have h := State.reading_within hi hon hmany hmed hnear
    exact ⟨congrArg Reading.temp h, (congrArg Reading.suspect h).trans hval, congrArg Reading.run h⟩
  · rcases Nat.lt_or_ge (satInc 8 (s.f R.TH_SNS_DEV_RUN 0 i)) 16 with hrun | hrun
    · exact congrArg Reading.run (State.reading_strays hi hon hmany hmed hfar hrun)
    · exact congrArg Reading.run (State.reading_falls hi hon hmany hmed hfar hrun)
  · have h := State.reading_strays hi hon hmany hmed hfar hrun
    exact ⟨congrArg Reading.temp h, (congrArg Reading.suspect h).trans hval⟩
  · have h := State.reading_falls hi hon hmany hmed hfar hrun
    exact ⟨congrArg Reading.temp h, congrArg Reading.suspect h, State.reading_tells hi hon hmany hmed hfar hrun⟩

/-- A suspect sensor stays suspect, and shows the median or has no value. -/
theorem State.reading_suspects (hsus : s.f R.TH_SNS_SUSPECT 0 i ≠ 0) :
    (s.reading ts).f R.TH_SNS_SUSPECT 0 i = s.f R.TH_SNS_SUSPECT 0 i ∧
      (∀ m, s.medianAround ts i = some m →
        (s.reading ts).f R.TH_SNS_TEMP 0 i = toField 16 m ∧ (s.reading ts).f R.TH_SNS_NOVALUE 0 i = 0) ∧
      (s.validAround i = [] → (s.reading ts).f R.TH_SNS_NOVALUE 0 i = 1) := by
  have hon : s.on R.TH_SNS_SUSPECT 0 i = true := bne_iff_ne.mpr hsus
  refine ⟨?_, fun m hmed => ?_, fun hnone => ?_⟩
  · cases hmed : s.medianAround ts i with
    | some m => exact congrArg Reading.suspect (State.reading_suspect hi hon hmed)
    | none => exact congrArg Reading.suspect (State.reading_novalue hi hon hmed)
  · have h := State.reading_suspect hi hon hmed
    exact ⟨congrArg Reading.temp h, congrArg Reading.noValue h⟩
  · have hmed : s.medianAround ts i = none := by
      unfold State.medianAround
      rw [hnone]
      rfl
    exact congrArg Reading.noValue (State.reading_novalue hi hon hmed)

end

/-! ### Bootstrap (Table 01-8) -/

/-- The end of the handshake and the change of mode leave the grid. -/
theorem State.sensor_settle (s : State) (i : Nat) : s.settle.sensor i = s.sensor i := by
  have hall : ∀ F ∈ snsFields, R.GL_EVT_LOG_WRAP.key 0 0 < F.key 0 0 ∧ R.GL_SB_STS_ALERTS.key 0 0 < F.key 0 0 := by decide
  exact State.sensor_of_fields fun F hF => State.f_settle_behind s 0 i (hall F hF)

theorem State.sensor_move (s : State) (t : Nat) (m : Mode) {i : Nat} (hi : i < 24) : (s.move t m).sensor i = s.sensor i := by
  have hmode : ∀ k ∈ modeKeys, k < R.TH_SNS_TEMP.key 0 0 ∨ R.TH_SUM_HOT.key 0 0 ≤ k := by decide
  refine State.sensor_of_fields fun F hF => State.f_move_other s t m F 0 i fun hk => ?_
  have hlow := le_snsKey hF i
  have hhigh := snsKey_lt hF hi
  rcases hmode _ hk with h | h <;> omega

/-- The last of 32 readings finds a sensor too hot. -/
def State.bootHot (s : State) : Prop := s.counted.pwr.readings = 32 ∧ s.counted.validTemps.any (· > 95 * 16) = true

section
variable {s : State}

/-- Bootstrap's own step leaves the grid and counts, whichever way it goes. -/
theorem State.bootReading_keeps (s : State) :
    s.bootReading.pwr.readings = min 32 (s.pwr.readings + 1) ∧ s.bootReading.validTemps = s.counted.validTemps := by
  unfold State.bootReading
  split
  · exact ⟨congrArg Pwr.readings (State.move_pwr s.counted 0x1A .thermalRest),
      State.validTemps_of_sensors fun _ hi => State.sensor_move s.counted 0x1A .thermalRest hi⟩
  · split
    · exact ⟨rfl, State.validTemps_of_sensors fun _ hi => State.sensor_of_fields fun F hF =>
        State.f_setF_other _ _ _ _ _ _ _ _ ((by decide : R.BT_STS_STEP.key 0 0 < R.TH_SNS_TEMP.key 0 0).trans_le (le_snsKey hF _)).ne'⟩
    · exact ⟨rfl, rfl⟩

theorem State.bootReading_mode (hmode : s.mode = .bootstrap) :
    (s.bootHot → s.bootReading.mode = .thermalRest) ∧ (¬ s.bootHot → s.bootReading.mode = .bootstrap) := by
  have hmove : canMove s.counted.mode 0x1A .thermalRest = true := by
    rw [show s.counted.mode = .bootstrap from hmode]
    decide
  obtain ⟨hrest, -⟩ := State.change_of_standing (State.move_standing hmove (by decide))
  constructor
  · intro hhot
    have hread : s.bootReading = s.counted.bootRest := if_pos hhot
    rw [hread]
    exact hrest
  · intro hhot
    unfold State.bootReading
    rw [if_neg (show ¬ (s.counted.pwr.readings = 32 ∧ s.counted.validTemps.any (· > 95 * 16) = true) from hhot)]
    split
    · exact hmode
    · exact hmode

end

theorem sensorReading_boots (ts : List Int) {s : State} (hmode : s.mode = .bootstrap) :
    ∃ t, exec (.sensorReading ts) s = .next t ∧ t.pwr.readings = min 32 (s.pwr.readings + 1) ∧
      (t.mode = .thermalRest ↔ t.pwr.readings = 32 ∧ ∃ x ∈ t.validTemps, 95 * 16 < x) ∧
      (t.mode ≠ .thermalRest → t.mode = .bootstrap) := by
  have htail : (s.sensed ts).sensorTail.mode = .bootstrap := State.mode_tailed.trans hmode
  have hcount : (s.sensed ts).sensorTail.pwr.readings = s.pwr.readings := congrArg Prod.fst State.counts_tailed
  have hexec := (exec_sensorReading (ts := ts) (by simp [hmode])).trans (State.readingEnd_bootstrap htail)
  rw [← hcount]
  generalize (s.sensed ts).sensorTail = w at htail hexec
  obtain ⟨hreadings, htemps⟩ := w.bootReading_keeps
  obtain ⟨hrests, hstays⟩ := State.bootReading_mode htail
  have hends : w.bootReading.settle.mode = w.bootReading.mode := State.settle_mode _
  have hread : w.bootReading.settle.pwr.readings = min 32 (w.pwr.readings + 1) := (congrArg Pwr.readings (State.settle_pwr _)).trans hreadings
  have hgrid : w.bootReading.settle.validTemps = w.counted.validTemps :=
    (State.validTemps_of_sensors fun i _ => State.sensor_settle w.bootReading i).trans htemps
  have hiff : (min 32 (w.pwr.readings + 1) = 32 ∧ ∃ x ∈ w.counted.validTemps, 95 * 16 < x) ↔ w.bootHot := by
    simp only [State.bootHot, State.counted, List.any_eq_true, decide_eq_true_eq, gt_iff_lt]
  refine ⟨_, hexec, hread, ?_⟩
  rw [hread, hgrid, hends, hiff]
  by_cases hhot : w.bootHot
  · exact ⟨iff_of_true (hrests hhot) hhot, fun h => absurd (hrests hhot) h⟩
  · have hmode' := hstays hhot
    exact ⟨iff_of_false (by simp [hmode']) hhot, fun _ => hmode'⟩

/-! ### Comparators (R403) -/

theorem comparatorDisagreeTimer_shows {n : Nat} (hn : n < 8) {s : State} (hmode : s.mode ≠ .off) :
    ∃ t, exec (.comparatorDisagreeTimer n) s = .next t ∧
      t.f R.TH_TRIP_DISAGREE = setBit (s.f R.TH_TRIP_DISAGREE) n true % 2 ^ R.TH_TRIP_DISAGREE.w ∧ t.f R.TH_EVT_DISAGREE = 1 ∧
      s.Only t [R.TH_TRIP_DISAGREE.key 0 0, R.TH_EVT_DISAGREE.key 0 0] := by
  have hexec : execComparatorDisagreeTimer n s =
      done ((s.setF R.TH_TRIP_DISAGREE (setBit (s.f R.TH_TRIP_DISAGREE) n true)).raise R.TH_EVT_DISAGREE n) :=
    if_neg (not_or.mpr ⟨hmode, hn.not_ge⟩)
  refine ⟨_, hexec, ?_, ?_, State.only_settle (fun F i k hk => ?_) rfl⟩
  · exact (State.f_settle_behind _ 0 0 (by decide)).trans ((State.f_raise_other _ R.TH_EVT_DISAGREE R.TH_TRIP_DISAGREE n noP noP 0 0 0 (by decide)).trans
      (State.f_setF_same s R.TH_TRIP_DISAGREE _ 0 0))
  · exact (State.f_settle_behind _ 0 0 (by decide)).trans (State.f_raise_same _ R.TH_EVT_DISAGREE n noP noP 0)
  · obtain ⟨htrip, hevt⟩ : F.key i k ≠ R.TH_TRIP_DISAGREE.key 0 0 ∧ F.key i k ≠ R.TH_EVT_DISAGREE.key 0 0 := by simpa using hk
    exact (State.f_raise_other _ _ F _ _ _ _ i k hevt).trans (State.f_setF_other s _ F _ _ _ i k htrip)

/-- Settles O10: the two requests for an envelope, a reading outside Bootstrap and in it, and a comparator that disagrees. -/
theorem envelopeAndSensors : Obligations.EnvelopeAndSensors :=
  ⟨fun _ _ => envReqWrite_raises, fun _ _ => envReqWrite_waits,
    fun _ _ hoff hboot => ⟨_, exec_sensorReading_other hoff hboot, State.reading_keeps, fun _ _ => State.reading_sums,
      fun _ hi => State.reading_valid hi, fun _ hi => State.reading_suspects hi, State.reading_rests⟩,
    fun ts _ => sensorReading_boots ts, fun _ _ hmode hn => comparatorDisagreeTimer_shows hn hmode⟩

end Sys2Proof.Machine
end
